-- ==== Sys2Proof/Word.lean ====
section
/-! DEFINITION. The word types of the model. Everything a test could mend (bit fields, byte order, saturation) stands in
Machine/Bits.lean, not here. -/

namespace Sys2Proof

/-- A register of the BAR0 map: 64 bits (R110, R377 and every register table). -/
abbrev Word := BitVec 64

/-- One byte of a frame, an image or a descriptor. -/
abbrev Byte := BitVec 8

/-- A berth ID: 20 bits, so every value names a berth (R38, R312). -/
abbrev BerthId := BitVec 20

end Sys2Proof
end

