-- ==== Sys2Proof/Syntax.lean ====
section
/-! DEFINITION. The commands of the CW256 as syntax: one constructor of Instr per row of opcode_table.json, in the table's
order. A row is one whole, indivisible step of the part: an access from outside, an event on a pin or link, or the end of
something the part itself had running. Its operands are the facts the step brings with it that the state does not hold. -/

namespace Sys2Proof

/-- The eight 64-bit words of a descriptor as read from adapter memory (R52). -/
structure Desc where
  w0 : Word
  w1 : Word
  w2 : Word
  w3 : Word
  w4 : Word
  w5 : Word
  w6 : Word
  w7 : Word
  deriving DecidableEq, Repr

/-- How a read of adapter memory failed (R354). -/
inductive ReadFail where
  | timeout | unsupported | aborted | poisoned | ecrc | linkDown
  deriving DecidableEq, Repr

/-- A comparator of the supervisor die (R320): 16 fast, 8 always-on. -/
inductive Cmp where
  | fast (k : Fin 16)
  | aon (k : Fin 8)
  deriving DecidableEq, Repr

/-- The streams that fill superblocks (R153). control carries checkpoints, chain pages and manifests in running. -/
inductive Stream where
  | spill | collect | wear | sluice | control
  deriving DecidableEq, Repr

/-- How a codeword of a basin read came out (R146): a hard-decision decode of the first read, with the bits it corrected; of the re-read
at a read offset of the retry table; a soft-decision decode; or no step decodes it. -/
inductive CwRead where
  | bits (n : BitVec 12)
  | retry (k : Fin 8)
  | soft
  | lost
  deriving DecidableEq, Repr

/-- What a basin read was for (R146): a FETCH of a berth, or collection in a quadrant. -/
inductive ReadFor where
  | fetch (b : BerthId)
  | collect (q : Fin 4)
  deriving DecidableEq, Repr

/-- One string's samples over the 100 us of a gauge update (R231, R238): voltage in mV, current in mA (positive charges). -/
structure StringSample where
  v : Nat
  i : Int
  deriving DecidableEq, Repr

/-- What the monitoring ADC gives an update: a sample per string (index 0 first) and the reserve bank's voltage in mV. -/
structure GaugeSample where
  strings : List StringSample
  bank : Nat
  deriving DecidableEq, Repr

/-- A battery module's 192-byte identity block (R243). -/
structure Identity where
  serial : BitVec 128
  nameplate : BitVec 32
  cells : BitVec 8
  issuer : BitVec 8
  rsv : BitVec 336
  pubX : BitVec 256
  pubY : BitVec 256
  sigR : BitVec 256
  sigS : BitVec 256
  deriving DecidableEq, Repr

/-- A rail's PMBus readings (R282): STATUS_WORD and READ_VOUT in mV. -/
structure RailReading where
  rail : Fin 64
  status : BitVec 16
  vout : BitVec 16
  deriving DecidableEq, Repr

/-- What resets the management port's function (R368). -/
inductive MgmtReset where
  | linkLoss | hotReset | flr | d3hot
  deriving DecidableEq, Repr

/-- What a feeder port's adapter unmasks or enables (R352). -/
inductive Unmask where
  | vector (v : Fin 2048)
  | function
  | enable
  deriving DecidableEq, Repr

/-- The commands, one per row of the table, each under its rule. -/
inductive Instr where
  | doorbellWrite (port : Fin 256) (off : BitVec 32) (data : Word) (be : BitVec 8)
  | descriptorFetch (b : BerthId)
  | descriptorReadFail (b : BerthId) (why : ReadFail) (tag : BitVec 16)
  | nop (b : BerthId) (d : Desc)
  | put (b : BerthId) (d : Desc)
  | retire (b : BerthId) (d : Desc)
  | fetch (b : BerthId) (d : Desc)
  | query (b : BerthId) (d : Desc)
  | shaperRelease (b : BerthId)
  | putCommit (b : BerthId) (payload : Nat)
  | payloadReadFail (b : BerthId) (idx : BitVec 12) (why : ReadFail)
  | holdLimitExpiry (b : BerthId)
  | refusalPost (b : BerthId)
  | quantumPost (b : BerthId)
  | completionWriteFail (b : BerthId)
  | berthMove (b : BerthId) (engine : Fin 64)
  | berthSel (value : Word)
  | charter
  | modify
  | fence
  | fenceDone
  | recharter
  | release
  | budgetRecompute
  | budgetRise
  | weirShutWrite (shut : Bool)
  | comparatorTrip (c : Cmp)
  | comparatorRelease (c : Cmp)
  | residenceLimitExpiry (b : BerthId) (seq : BitVec 48)
  | bargeWaitExpiry (stream : Stream)
  | chunkProgramDone (die : Fin 1536) (block : Fin 4096) (row : Fin 1024)
  | programFail (die : Fin 1536) (block : Fin 4096)
  | verifyReadbackDone (sb : BitVec 20) (cws : List (Fin 1024 × Fin 17 × Fin 16 × CwRead))
  | basinReadDone (who : ReadFor) (cws : List CwRead)
  | checkpointTimer
  | chartReadDone (cpn : BitVec 32) (ok crcOk : Bool) (pageBerth : BerthId) (pageCpn : BitVec 32) (pageSeq : Word)
  | blankCheckDone (die : Fin 1536) (block : Fin 4096) (pass : Bool)
  | eraseDone (die : Fin 1536) (block : Fin 4096) (pass : Bool)
  | collectionMove (q : Fin 4)
  | wearLevelMove (q : Fin 4)
  | throttleWindow
  | lifeDaily
  | sanitizeStart (key : Byte) (start : Bool)
  | sanitizeMarkerUpdate
  | caParityAlert (ch : Fin 12) (failed : Fin 9)
  | phyFault (ch : Fin 12)
  | probeTimer (mismatch : BitVec 12)
  | drcRetire (key : Byte) (retire : Bool) (ch : BitVec 4)
  | controlRemirrorDone
  | compactionSwitch (b : BerthId) (seq : BitVec 48)
  | refreshDue (ch : Fin 12) (rank : Fin 8 := 0) (bank : Option (Fin 4) := none)
  | zqCalDue (ch : Fin 12)
  | urgencyStep (ch : Fin 12) (req : Nat)
  | sluiceCommand (key : Byte) (start : Bool)
  | sluiceDrainLimit
  | sluiceDrainEnd
  | sluicePoundDrained
  | sluiceSeal
  | sluiceEnergyExhausted
  | restartHoldExpiry
  | refloatScanDone (heads : List (BitVec 20 × Fin 1024 × Fin 17 × Fin 4) := []) (dirs : List (BitVec 20 × Fin 1024) := [])
      (marks : List (Fin 1536 × Fin 4096) := [])
  | refloatVerifyDone (cws : List (BitVec 20 × Fin 1024 × Fin 17 × Fin 16 × CwRead))
  | refloatReady
  | gaugeUpdate (sample : GaugeSample)
  | endOfCharge (i : Fin 8)
  | endOfDischarge (i : Fin 8)
  | smbusPoll (answers : List (Option (BitVec 128 × BitVec 8)))
  | authRetryTimer (i : Fin 8)
  | authVerdict (i : Fin 8) (id : Identity) (r s : BitVec 256)
  | learnSchedule (i : Fin 8) (ack : Bool)
  | acLostSet (report : Bool)
  | acLostClear
  | hibernate
  | hibernateHour
  | gaugeWake
  | capTestPeriod
  | capTestEnd (charge : Nat) (fall : Nat)
  | capTestTimeout
  | learnStart (key : Byte) (i : Fin 8) (ack : Bool)
  | learnAbort (key : Byte)
  | auth (key : Byte) (i : Fin 8)
  | capTest (key : Byte)
  | forget (key : Byte) (i : Fin 8)
  | gaugeStringCapture (i : Fin 8)
  | gaugeStatusCapture
  | windlassStart
  | legTestDone (shorted : Option (Fin 6))
  | syncLock
  | syncTimeout
  | flyRestartWaitEnd
  | flySpeedUpdate (enc bemf link peak : BitVec 16)
  | brakeEnd
  | brakeFail
  | flyTempShutdown (ps0 ps1 w0 w1 : BitVec 16)
  | speedDisagree
  | overcurrentTrip (phase : Fin 6)
  | desatFault (set : Fin 2)
  | phaseImbalance (phase : Fin 6)
  | trimLimit (phase : Fin 6)
  | loadRelease
  | loadReleaseEnd
  | linkOvervoltage
  | linkTarget (target : BitVec 16)
  | flyHold (key : Byte) (hold : Bool)
  | flyClear (key : Byte)
  | program0Start
  | enable
  | wait
  | waitExpiry
  | check
  | checkTimeout
  | jump
  | itemPowerGood
  | enableTimeout
  | railFault (r : Fin 64)
  | timedGraceExpiry
  | railTransEnd (r : Fin 64) (good : Bool)
  | pmbusPoll (readings : List RailReading)
  | smbalert (readings : List RailReading)
  | resetStretchEnd (n : Fin 16)
  | clear (key : Byte)
  | runService (key : Byte)
  | railCmd (key : Byte) (ack : Bool)
  | resetN (ns : Nat)
  | aonStart (towAddr : BitVec 3) (testEn : Bool)
  | logRecordWrite
  | logRead (seq : BitVec 32)
  | logReadDone
  | beaconSend
  | beacon (frame : List Byte)
  | reply (slot : Fin 8) (frame : List Byte)
  | towStaggerStart (a : Fin 8)
  | towSendStart (key mask : Byte)
  | towSendSluice (key mask : Byte)
  | towSendClear (key mask : Byte)
  | towpathLost
  | memberAbsent (a : Fin 8)
  | joinWaitExpiry
  | keeperEvent (src : BitVec 12) (severe : Bool) (detail : BitVec 48)
  | lineFault (src : BitVec 12)
  | shutdownGraceExpiry
  | aliveHoldEnd
  | ackAlive (key : Byte)
  | restore (key : Byte) (src : BitVec 12)
  | restoreAll (key : Byte)
  | ackWarn (key : Byte)
  | keepInject (data : Word)
  | pushWaitExpiry
  | push (key : Byte)
  | loadSlot (key : Byte) (slot : Bool)
  | writeSlot (key : Byte) (slot : Bool)
  | setTrial (key : Byte) (slot : Bool)
  | imageReadDone (ok : Bool) (host : List Byte)
  | selfTestDone (channels : BitVec 12) (id : BitVec 48) (odd : List (Fin 1536 × BitVec 48)) (readings : List RailReading := [])
  | confirmWindowExpiry
  | fuseBlowDone
  | linkUp (port : Fin 256) (speed : BitVec 3) (width : BitVec 3)
  | linkDown (port : Fin 256)
  | hotReset (port : Fin 256)
  | flr (port : Fin 256)
  | flrComplete (port : Fin 256)
  | d3hotEntry (port : Fin 256)
  | d0Return (port : Fin 256)
  | retryTimerExpiry (port : Fin 256)
  | tokenPresentation (port : Fin 256) (token : Word) (be : BitVec 8)
  | portRetire (key : Byte) (port : Fin 256)
  | lockCycle (key : Byte) (mode : BitVec 2) (epoch : BitVec 16)
  | portModeApply (port : Fin 256)
  | glbReset (key : Byte)
  | irqDueSend (vector : Fin 8)
  | flagAccess (n : Fin 256) (write : Bool) (size : BitVec 4) (high : Bool) (data : Word)
  | chartEnable (key : Byte)
  | chartDisable (key : Byte)
  | mgmtLinkReset (what : MgmtReset)
  | rcRead (off : BitVec 26) (size : BitVec 4)
  | registerWrite (off : BitVec 26) (size : BitVec 4) (data : Word)
  | mul (key : Byte) (gen : Bool)
  | verify (key : Byte)
  | attest (key : Byte)
  | random (key : Byte)
  | pkeOpDone
  | rootLoss
  | rootBack
  | pllALoss
  | pllBLoss
  | standbySupplyCollapse
  | pwmPeriod (link : BitVec 16)
  | maximumOpenTime (ch : Fin 12) (bank : Nat)
  | busMasterEnable (port : Fin 256) (on : Bool)
  | msixVectorUnmask (port : Fin 256) (what : Unmask)
  | slotWriteDone (ok : Bool)
  | setTrialDone (ok : Bool)
  | entropyTestFail
  | entropyTestPass
  deriving DecidableEq, Repr

end Sys2Proof
end

