-- ==== Sys2Proof/Machine/Bits.lean ====
section
/-! DEFINITION. Bit fields of words, saturation, byte order and the sparse table in its one canonical form. Everything the
register file and the control tables are read and written with. -/

namespace Sys2Proof.Machine

/-- Bits [hi:lo] of a word, as a number. -/
def fld (w : Word) (hi lo : Nat) : Nat := w.toNat / 2 ^ lo % 2 ^ (hi + 1 - lo)

/-- The word with v placed at bits from lo upward (v's own width is the caller's). -/
def at' (v lo : Nat) : Word := BitVec.ofNat 64 (v * 2 ^ lo)

/-- One bit placed at position lo. -/
def bitAt (b : Bool) (lo : Nat) : Word := if b then at' 1 lo else 0

/-- The mask of bits [hi:lo]. -/
def maskOf (hi lo : Nat) : Word := BitVec.ofNat 64 ((2 ^ (hi + 1 - lo) - 1) * 2 ^ lo)

/-- w with bits [hi:lo] replaced by v, cut to the field's width. -/
def setFld (w : Word) (hi lo v : Nat) : Word :=
  (w &&& ~~~ (maskOf hi lo)) ||| at' (v % 2 ^ (hi + 1 - lo)) lo

/-- v, held at the largest value of a field of n bits (R9: counters saturate at all ones and never wrap; R69). -/
def sat (n v : Nat) : Nat := min v (2 ^ n - 1)

/-- Add k to the counter in bits [hi:lo], saturating (R9). -/
def bumpFld (w : Word) (hi lo k : Nat) : Word := setFld w hi lo (sat (hi + 1 - lo) (fld w hi lo + k))

/-- A number's quotient rounded up. -/
def ceilDiv (a b : Nat) : Nat := (a + b - 1) / b

/-- A signed number in a field of n bits, two's complement. -/
def toTwos (n : Nat) (i : Int) : Nat := (i % (2 ^ n : Nat)).toNat

/-- The signed number in a field of n bits. -/
def ofTwos (n v : Nat) : Int := if v < 2 ^ (n - 1) then (v : Int) else (v : Int) - (2 ^ n : Nat)

/-- The n low bytes of v, least significant first (R44). -/
def leBytes : Nat → Nat → List Byte
  | 0, _ => []
  | n + 1, v => BitVec.ofNat 8 v :: leBytes n (v / 256)

/-- Bytes, least significant first, as a number (R44). -/
def ofLe : List Byte → Nat
  | [] => 0
  | b :: bs => b.toNat + 256 * ofLe bs

/-- Bytes, most significant first, as a number (the big-endian strings of R243, R327 and the key engine). -/
def ofBe (bs : List Byte) : Nat := bs.foldl (fun a b => 256 * a + b.toNat) 0

/-- The n low bytes of v, most significant first. -/
def beBytes (n v : Nat) : List Byte := (leBytes n v).reverse

/-- Four 64-bit words of a 32-byte big-endian operand, word 0 holding bytes 0 to 7 (Operand encoding, R386). -/
def wordsBe (v : Nat) : List Word :=
  [BitVec.ofNat 64 (v / 2 ^ 192), BitVec.ofNat 64 (v / 2 ^ 128), BitVec.ofNat 64 (v / 2 ^ 64), BitVec.ofNat 64 v]

/-- A sparse table: keys strictly rising, no entry at its default value. -/
abbrev Tbl (α : Type) := List (Nat × α)

/-- The entry at key i, or the default d where none is listed. -/
def tget {α : Type} (d : α) : Tbl α → Nat → α
  | [], _ => d
  | (k, v) :: t, i => if k = i then v else tget d t i

/-- The table without key i. -/
def tdel {α : Type} : Tbl α → Nat → Tbl α
  | [], _ => []
  | (k, v) :: t, i => if k = i then t else (k, v) :: tdel t i

/-- The table with v at key i, keys kept rising. -/
def tins {α : Type} : Tbl α → Nat → α → Tbl α
  | [], i, v => [(i, v)]
  | (k, w) :: t, i, v =>
    if i < k then (i, v) :: (k, w) :: t else if k = i then (i, v) :: t else (k, w) :: tins t i v

/-- Write v at key i; writing the default removes the entry, so that equal contents are equal tables. -/
def tset {α : Type} [DecidableEq α] (d : α) (t : Tbl α) (i : Nat) (v : α) : Tbl α :=
  if v = d then tdel t i else tins t i v

/-- Every listed key is above lo, and the keys rise. -/
def tsorted {α : Type} : Option Nat → Tbl α → Bool
  | _, [] => true
  | none, (k, _) :: t => tsorted (some k) t
  | some l, (k, _) :: t => decide (l < k) && tsorted (some k) t

/-- The canonical form: keys strictly rising, no entry at the default. -/
def twf {α : Type} [DecidableEq α] (d : α) (t : Tbl α) : Bool :=
  tsorted none t && t.all (fun p => decide (p.2 ≠ d))

/-- Change every listed entry, dropping those that become the default. -/
def tmap {α : Type} [DecidableEq α] (d : α) (f : Nat → α → α) (t : Tbl α) : Tbl α :=
  t.foldr (fun p acc => let v := f p.1 p.2; if v = d then acc else (p.1, v) :: acc) []

/-- The sum of f over the listed entries. -/
def tsum {α : Type} (f : Nat → α → Nat) (t : Tbl α) : Nat := t.foldl (fun a p => a + f p.1 p.2) 0

/-- The element of a list with the least key; the first of several. -/
def minBy {α : Type} (key : α → Nat) : List α → Option α
  | [] => none
  | x :: xs =>
    match minBy key xs with
    | none => some x
    | some y => if key y < key x then some y else some x

/-- Insertion by a rising key, before an equal key. -/
def insertBy {α : Type} (key : α → Nat) (x : α) : List α → List α
  | [] => [x]
  | y :: ys => if key x ≤ key y then x :: y :: ys else y :: insertBy key x ys

/-- The list in rising order of the key; equal keys keep their order. -/
def sortBy {α : Type} (key : α → Nat) (l : List α) : List α := l.foldr (insertBy key) []

end Sys2Proof.Machine
end

