-- ==== Sys2Proof/Machine/Crypto.lean ====
section
/-! DEFINITION. The arithmetic of the key engine as its standards give it: SHA-256 (FIPS 180-4), P-256 and ECDSA (FIPS 186-5), HMAC
and RFC 6979, and Hash_DRBG (SP 800-90A), over plain numbers (R386, R390, R394, R396, R397). -/

namespace Sys2Proof.Machine

/-! SHA-256. FIPS 180-4 gives its constants as the fractional bits of roots of primes; they are computed here from that definition, and
the eight working values are the four newest terms of two sequences. -/

def word32 : Nat := 4294967296

/-- The first 64 primes. -/
def shaPrimes : List Nat :=
  (List.range 312).filter (fun n => Nat.ble 2 n && [2, 3, 5, 7, 11, 13, 17].all (fun d => n == d || n % d != 0))

/-- The first 32 bits of the fractional part of the d-th root of a number below 8^d, found bit by bit. -/
def fracRoot (d p : Nat) : Nat :=
  (List.range 35).foldl (fun r i => let t := r + 2 ^ (34 - i); if Nat.ble (t ^ d) (p * word32 ^ d) then t else r) 0 % word32

/-- The round constants: cube roots. -/
def shaRounds : List Nat := shaPrimes.map (fracRoot 3)

/-- The initial hash value: square roots. -/
def shaStart : List Nat := (shaPrimes.take 8).map (fracRoot 2)

/-- The exclusive or of numbers. -/
def xorAll (l : List Nat) : Nat := l.foldl Nat.xor 0

/-- A 32-bit word turned right by each of some distances, and the turns combined with a last term. -/
def turned (x last : Nat) (ns : List Nat) : Nat := xorAll (last :: ns.map (fun n => (x / 2 ^ n + x * 2 ^ (32 - n)) % word32))

/-- The k-th newest term. -/
def term (l : List Nat) (k : Nat) : Nat := l.getD (k - 1) 0

/-- The message schedule, newest word first, n words longer. -/
def schedule (w : List Nat) : Nat → List Nat
  | 0 => w
  | n + 1 =>
    let w := schedule w n
    (turned (term w 2) (term w 2 / 1024) [17, 19] + term w 7 + turned (term w 15) (term w 15 / 8) [7, 18] + term w 16) % word32 :: w

/-- One round on the two sequences, each its four newest terms: the constant and the schedule word are one sum. -/
def shaRound (v : List Nat × List Nat) (kw : Nat) : List Nat × List Nat :=
  let x := v.1
  let y := v.2
  let choose := Nat.lor (Nat.land (term y 1) (term y 2)) (Nat.land (word32 - 1 - term y 1) (term y 3))
  let most := xorAll [Nat.land (term x 1) (term x 2), Nat.land (term x 2) (term x 3), Nat.land (term x 3) (term x 1)]
  let t := term y 4 + turned (term y 1) 0 [6, 11, 25] + choose + kw
  ((t + turned (term x 1) 0 [2, 13, 22] + most) % word32 :: x.take 3, (term x 4 + t) % word32 :: y.take 3)

/-- A block's 16 words into the hash value. -/
def shaAbsorb (hash block : List Nat) : List Nat :=
  let sums := List.zipWith (· + ·) shaRounds (schedule block.reverse 48).reverse
  let v := sums.foldl shaRound (hash.take 4, hash.drop 4)
  List.zipWith (fun a b => (a + b) % word32) hash (v.1 ++ v.2)

/-- Bytes with the padding: a one bit, zeros, and the length in bits, up to a multiple of 64 bytes. -/
def shaPad (m : List Byte) : List Byte :=
  m ++ 0x80 :: List.replicate ((119 - m.length % 64) % 64) 0 ++ beBytes 8 (8 * m.length)

/-- SHA-256 as a 256-bit number: the padded bytes taken 64 at a time, each block as 16 big-endian words. -/
def sha256 (m : List Byte) : Nat :=
  let p := shaPad m
  let block := fun i => (List.range 16).map (fun k => ofBe ((p.drop (64 * i + 4 * k)).take 4))
  ((List.range (p.length / 64)).foldl (fun hash i => shaAbsorb hash (block i)) shaStart).foldl (fun a x => a * word32 + x) 0

/-- SHA-256 as bytes. -/
def sha256Bytes (m : List Byte) : List Byte := beBytes 32 (sha256 m)

/-! P-256 -/

def p256p : Nat := 0xffffffff00000001000000000000000000000000ffffffffffffffffffffffff
def p256n : Nat := 0xffffffff00000000ffffffffffffffffbce6faada7179e84f3b9cac2fc632551
def p256b : Nat := 0x5ac635d8aa3a93e7b3ebbd55769886bc651d06b0cc53b0f63bce3c3e27d2604b
def p256gx : Nat := 0x6b17d1f2e12c4247f8bce6e563a440f277037d812deb33a0f4a13945d898c296
def p256gy : Nat := 0x4fe342e2fe1a7f9b8ee7eb4a7c0f9e162bce33576b315ececbb6406837bf51f5

/-- a^e mod m, over the n low bits of e. -/
def powMod (m a : Nat) : Nat → Nat → Nat
  | 0, _ => 1
  | n + 1, e =>
    let h := powMod m a n (e / 2)
    let q := h * h % m
    if e % 2 = 1 then q * a % m else q

/-- The inverse modulo a prime. -/
def invMod (m a : Nat) : Nat := powMod m a 256 (m - 2)

/-- a - b modulo p. -/
def subP (a b : Nat) : Nat := (a + p256p - b) % p256p

/-- A point in Jacobian coordinates; z = 0 is the point at infinity. -/
structure JPoint where
  x : Nat
  y : Nat
  z : Nat
  deriving DecidableEq, Repr

def jInf : JPoint := ⟨1, 1, 0⟩

def jDouble (q : JPoint) : JPoint :=
  if q.z = 0 ∨ q.y = 0 then jInf else
  let zz := q.z * q.z % p256p
  let m := 3 * (subP q.x zz) * ((q.x + zz) % p256p) % p256p
  let yy := q.y * q.y % p256p
  let t := 4 * q.x * yy % p256p
  let x := subP (m * m % p256p) (2 * t % p256p)
  ⟨x, subP (m * subP t x % p256p) (8 * yy * yy % p256p), 2 * q.y * q.z % p256p⟩

def jAdd (p q : JPoint) : JPoint :=
  if p.z = 0 then q else if q.z = 0 then p else
  let z1 := p.z * p.z % p256p
  let z2 := q.z * q.z % p256p
  let u1 := p.x * z2 % p256p
  let u2 := q.x * z1 % p256p
  let s1 := p.y * z2 * q.z % p256p
  let s2 := q.y * z1 * p.z % p256p
  if u1 = u2 then (if s1 = s2 then jDouble p else jInf) else
  let h := subP u2 u1
  let r := subP s2 s1
  let hh := h * h % p256p
  let hhh := hh * h % p256p
  let v := u1 * hh % p256p
  let x := subP (r * r % p256p) ((hhh + 2 * v) % p256p)
  ⟨x, subP (r * subP v x % p256p) (s1 * hhh % p256p), h * p.z * q.z % p256p⟩

/-- k times a point, over the n low bits of k. -/
def jMul (q : JPoint) : Nat → Nat → JPoint
  | 0, _ => jInf
  | n + 1, k =>
    let d := jDouble (jMul q n (k / 2))
    if k % 2 = 1 then jAdd d q else d

/-- Affine coordinates; none for the point at infinity. -/
def jAffine (q : JPoint) : Option (Nat × Nat) :=
  if q.z = 0 then none else
  let i := invMod p256p q.z
  let ii := i * i % p256p
  some (q.x * ii % p256p, q.y * ii * i % p256p)

def curveMul (k x y : Nat) : Option (Nat × Nat) := jAffine (jMul ⟨x, y, 1⟩ 256 k)

/-- y^2 = x^3 - 3x + b mod p (R389). -/
def onCurve (x y : Nat) : Bool := y * y % p256p == (x * x * x + p256b + (p256p - 3) * x) % p256p

/-- The ECDSA verification of R390, for operands in range. -/
def ecdsaOk (e qx qy r s : Nat) : Bool :=
  let w := invMod p256n s
  let a := jMul ⟨p256gx, p256gy, 1⟩ 256 (e % p256n * w % p256n)
  let b := jMul ⟨qx, qy, 1⟩ 256 (r * w % p256n)
  match jAffine (jAdd a b) with
  | some (x, _) => x % p256n == r
  | none => false

/-- A signature verifies under a key, with every input check of R389. -/
def sigVerifies (e qx qy r s : Nat) : Bool :=
  decide (qx < p256p) && decide (qy < p256p) && onCurve qx qy && decide (0 < r ∧ r < p256n) && decide (0 < s ∧ s < p256n) &&
    ecdsaOk e qx qy r s

/-! HMAC and RFC 6979 -/

def xorByte (c : Byte) (l : List Byte) : List Byte := l.map (fun b => b ^^^ c)

/-- HMAC-SHA-256 under a 32-byte key. -/
def hmac (k m : List Byte) : List Byte :=
  let k := k ++ List.replicate (64 - k.length) 0
  sha256Bytes (xorByte 0x5C k ++ sha256Bytes (xorByte 0x36 k ++ m))

/-- The signature for a per-signature value, where r and s are not 0. -/
def signWith (d z k : Nat) : Option (Nat × Nat) :=
  if k = 0 ∨ p256n ≤ k then none else
  match curveMul k p256gx p256gy with
  | none => none
  | some (x, _) =>
    let r := x % p256n
    let s := invMod p256n k * ((z + r * d) % p256n) % p256n
    if r = 0 ∨ s = 0 then none else some (r, s)

/-- The candidates of RFC 6979 in turn. -/
def rfcLoop (d z : Nat) : Nat → List Byte → List Byte → Nat × Nat
  | 0, _, _ => (0, 0)
  | n + 1, k, v =>
    let v := hmac k v
    match signWith d z (ofBe v) with
    | some x => x
    | none =>
      let k := hmac k (v ++ [0])
      rfcLoop d z n k (hmac k v)

/-- The ECDSA signature of a digest under RFC 6979 with SHA-256 (R396). -/
def attestSign (d digest : Nat) : Nat × Nat :=
  let z := digest % p256n
  let x := beBytes 32 d ++ beBytes 32 z
  let v := List.replicate 32 (1 : Byte)
  let k := hmac (List.replicate 32 0) (v ++ 0 :: x)
  let v := hmac k v
  let k := hmac k (v ++ 1 :: x)
  rfcLoop d digest 64 k (hmac k v)

/-! Hash_DRBG with SHA-256: seed length 440 bits -/

/-- Hash_df to 55 bytes. -/
def hashDf (m : List Byte) : List Byte :=
  let f := fun (c : Byte) => sha256Bytes (c :: beBytes 4 440 ++ m)
  (f 1 ++ f 2).take 55

/-- V and C from a seed. -/
def drbgSeed (m : List Byte) : BitVec 440 × BitVec 440 :=
  let v := hashDf m
  (BitVec.ofNat 440 (ofBe v), BitVec.ofNat 440 (ofBe (hashDf (0 :: v))))

/-- 32 bytes and the next V (SP 800-90A, 10.1.1.4). -/
def drbgNext (v c : BitVec 440) (count : Nat) : Nat × BitVec 440 :=
  let vb := beBytes 55 v.toNat
  (sha256 vb, v + BitVec.ofNat 440 (sha256 (3 :: vb)) + c + BitVec.ofNat 440 count)

end Sys2Proof.Machine
end

