-- ==== Sys2Proof/Config.lean ====
section
/-! DEFINITION. What each device fixes and the spec leaves open: values blown in fuses or fixed in mask ROM, and the free
values. Every constant here is opaque: no proof can see what it is (notes/assumptions/2.md and 3.md). -/

namespace Sys2Proof.Config

/-- DESIGN CHOICE (log 2). The n-th free value: what the spec leaves undefined each time it is drawn. -/
opaque freeValue : Nat → BitVec 64

/-- Device serial number, from fuses (R377). -/
opaque serial : BitVec 64

/-- Idselon's vendor ID, which the manual does not give (R347). -/
opaque vendorId : BitVec 16

/-- Grade, main-die and supervisor-die revision, from fuses and mask (R377). -/
opaque grade : BitVec 8
opaque mainRev : BitVec 8
opaque supRev : BitVec 8

/-- The image key, x and y, in mask ROM (R397). -/
opaque imageKeyX : Nat
opaque imageKeyY : Nat

/-- The attestation private key, in fuses (R395). -/
opaque attestKey : Nat

/-- Entropy of the n-th seeding of the random bit generator (R394). -/
opaque entropy : Nat → List (BitVec 8)

/-- Timeouts, in ms, of the two ENABLE steps of the mask-ROM power-up program and of the two of its power-down and sluice-order
programs (R290). -/
opaque romUpMs : BitVec 16
opaque romDownMs : BitVec 16

/-- RESTART_HOLD, in 10 ms units, and every reset stretch, in ms, of the mask-ROM section (R290, R291). -/
opaque romHold : BitVec 16
opaque romStretch : BitVec 10

/-- The rollback fuses that are blown at delivery (R340). -/
opaque fusesAtDelivery : BitVec 64

/-- The bank and row that the DRAM controller's mapping gives a place, a channel's own choice (R5, R116). -/
opaque dramBank : Nat → Nat
opaque dramRow : Nat → Nat

/-- The number of activates of a bank after which a channel's modules require refresh management, 0 where their mode registers declare
none (R125). -/
opaque refreshMark : Nat → Nat

/-- The fixed pattern of a probe line, by its byte (R138). -/
opaque probePattern : Nat → BitVec 8

/-- The LDPC parity of a codeword, 480 bytes: the code is fixed in hardware (R144, R146). -/
opaque ldpc : List (BitVec 8) → List (BitVec 8)

/-- A berth's context of 64 bytes in the CW256's internal format, as a manifest's body holds it (R221). -/
opaque contextByte : Nat → Nat → BitVec 8

/-- The berth engine that the device picks for a berth (R75, R5). -/
opaque engineOf : Nat → BitVec 6

/-- What the sensors measure at a time of CK_AON: ROOT's deviation and the junction temperatures (R412, R413). -/
opaque rootDev : Nat → BitVec 32
opaque mainTemp : Nat → BitVec 16
opaque supTemp : Nat → BitVec 16

/-- Read and write bandwidth of the DRAM channels over the 10 ms before a time, as DRC_BW gives them (R140). -/
opaque dramBw : Nat → BitVec 64

/-- What the windlass measures at a time: power, phase currents, the size of the trims its regulation asks for, and the encoder's angle
(R264, R267, R278). -/
opaque flyPower : Nat → BitVec 16
opaque flyCurrents : Nat → BitVec 60
opaque flyTrims : Nat → BitVec 48
opaque flyAngle : Nat → BitVec 16

end Sys2Proof.Config
end

