-- ==== Sys2Proof/Machine/Crc.lean ====
section
/-! DEFINITION. CRC-32C as R53 gives it: the one CRC of every record, frame, header and image of the device. -/

namespace Sys2Proof.Machine

/-- One bit of the reflected division by the Castagnoli polynomial 0x1EDC6F41 (R53). -/
def crcBit (c : Nat) : Nat := if c % 2 = 1 then Nat.xor (c / 2) 0x82F63B78 else c / 2

/-- One byte of the reflected division. -/
def crcByte (c : Nat) (b : Byte) : Nat :=
  crcBit (crcBit (crcBit (crcBit (crcBit (crcBit (crcBit (crcBit (Nat.xor c b.toNat))))))))

/-- CRC-32C: initial value and final exclusive-OR all ones (R53). -/
def crc32c (bs : List Byte) : Nat := Nat.xor (bs.foldl crcByte 0xFFFFFFFF) 0xFFFFFFFF

/-- The bytes of 64-bit words, word 0 first, least significant byte first (R44). -/
def wordBytes (ws : List Word) : List Byte := ws.flatMap (fun w => leBytes 8 w.toNat)

/-- Eight words whose last holds the CRC over bytes 0 to 59 in [63:32] (R52, R68, R69, R295). -/
def sealWords (ws : List Word) : List Word :=
  let w := ws.take 7 ++ [0]
  ws.take 7 ++ [at' (crc32c ((wordBytes w).take 60)) 32]

end Sys2Proof.Machine
end

