-- ==== Sys2Proof/Machine/RegMap.lean ====
section
/-! DEFINITION. The BAR0 register map as the spec's register tables give it (R110, R140, R206, R230, R255, R278, R303, R323,
R344, R364, R365, R377, R381, R382, R399, R413 and R76): where each register stands and which of its bits have which access
type (R9). A register array is one row with its stride and count. -/

namespace Sys2Proof.Machine

/-- A register, or an array of count registers stride bytes apart, and its bits of each access type of R9. Bits of no mask are
RO or RSV. -/
structure RegInfo where
  base : Nat
  stride : Nat
  count : Nat
  rw : Word
  rw1c : Word
  rc : Word
  rwl : Word
  wo : Word
  deriving DecidableEq, Repr

def offGLB_ID : Nat := 0x0
def offGLB_SERIAL : Nat := 0x8
def offGLB_STATUS : Nat := 0x10
def offGLB_CTRL : Nat := 0x18
def offGLB_CMD_STATUS : Nat := 0x20
def offGLB_TIME : Nat := 0x28
def offGLB_IRQ_STATUS : Nat := 0x30
def offGLB_IRQ_ENABLE : Nat := 0x38
def offCFG_STATUS : Nat := 0x10000
def offCFG_CTRL : Nat := 0x10008
def offCFG_CMD_STATUS : Nat := 0x10010
def offCFG_HOST_ADDR : Nat := 0x10018
def offCFG_HOST_LEN : Nat := 0x10020
def offCFG_IMAGE : Nat := 0x10028
def offCFG_BUILD : Nat := 0x10030
def offCFG_SLED : Nat := 0x10038
def offCFG_DIGEST : Nat := 0x10040
def offCFG_FUSE : Nat := 0x10060
def offCFG_SLOT_A : Nat := 0x10068
def offCFG_SLOT_B : Nat := 0x10070
def offCFG_SELFTEST : Nat := 0x10078
def offCFG_ST_CFG : Nat := 0x10080
def offCFG_DIE_ID : Nat := 0x10088
def offCLK_STATUS : Nat := 0x20000
def offCLK_FREQ : Nat := 0x20008
def offCLK_TEMP : Nat := 0x20010
def offCLK_RESET_CAUSE : Nat := 0x20018
def offCLK_CNT : Nat := 0x20020
def offSEQ_STATUS : Nat := 0x30000
def offSEQ_CTRL : Nat := 0x30008
def offSEQ_CMD_STATUS : Nat := 0x30010
def offSEQ_FIRST_FAIL : Nat := 0x30018
def offSEQ_FIRST_TIME : Nat := 0x30020
def offSEQ_DOMAINS : Nat := 0x30028
def offSEQ_RESETS : Nat := 0x30030
def offSEQ_RAIL_SEL : Nat := 0x30038
def offSEQ_RAIL : Nat := 0x30040
def offSEQ_RAIL_CMD : Nat := 0x30048
def offSEQ_STEP_SEL : Nat := 0x30050
def offSEQ_STEP : Nat := 0x30058
def offSEQ_CNT : Nat := 0x30060
def offKEEP_STATUS : Nat := 0x40000
def offKEEP_CTRL : Nat := 0x40008
def offKEEP_CMD_STATUS : Nat := 0x40010
def offKEEP_FIRST : Nat := 0x40018
def offKEEP_FIRST_TIME : Nat := 0x40020
def offKEEP_SRC_SEL : Nat := 0x40028
def offKEEP_SRC_CFG : Nat := 0x40030
def offKEEP_SRC_STATE : Nat := 0x40038
def offKEEP_SRC_CNT : Nat := 0x40040
def offKEEP_CMP_TRIP : Nat := 0x40048
def offKEEP_CFG : Nat := 0x40050
def offKEEP_INJECT : Nat := 0x40058
def offKEEP_CNT : Nat := 0x40060
def offKEEP_FCMP : Nat := 0x40100
def offKEEP_ACMP : Nat := 0x40180
def offWEIR_STATUS : Nat := 0x50000
def offWEIR_CTRL : Nat := 0x50008
def offWEIR_E_CAP : Nat := 0x50010
def offWEIR_E_FLY : Nat := 0x50018
def offWEIR_E_BATT : Nat := 0x50020
def offWEIR_E_SUM : Nat := 0x50028
def offWEIR_B_ENERGY : Nat := 0x50030
def offWEIR_B_EFF : Nat := 0x50038
def offWEIR_UNPERSISTED : Nat := 0x50040
def offWEIR_HELD : Nat := 0x50048
def offWEIR_POOL_USED : Nat := 0x50050
def offWEIR_FLOOR_SUM : Nat := 0x50058
def offWEIR_WAITING : Nat := 0x50060
def offWEIR_CNT_DELAYED : Nat := 0x50068
def offWEIR_CNT_REFUSED : Nat := 0x50070
def offWEIR_CNT_OVER : Nat := 0x50078
def offWEIR_CNT_TRIP : Nat := 0x50080
def offWEIR_MODEL0 : Nat := 0x50100
def offWEIR_MODEL1 : Nat := 0x50108
def offWEIR_MODEL2 : Nat := 0x50110
def offWEIR_DERATE : Nat := 0x50118
def offWEIR_BATT : Nat := 0x50120
def offWEIR_POUND_CAP : Nat := 0x50128
def offWEIR_FLOOR_MAX : Nat := 0x50130
def offWEIR_LEVELS : Nat := 0x50138
def offWEIR_TIMING : Nat := 0x50140
def offWEIR_RESIDENCE : Nat := 0x50148
def offWEIR_INGRESS : Nat := 0x50150
def offWEIR_SLUICE_CTRL : Nat := 0x50200
def offWEIR_SLUICE_STATUS : Nat := 0x50208
def offWEIR_SLUICE_TIME : Nat := 0x50210
def offWEIR_SLUICE_CFG : Nat := 0x50218
def offWEIR_REFLOAT_STATUS : Nat := 0x50220
def offWEIR_REFLOAT_CNT : Nat := 0x50228
def offWEIR_REFLOAT_TIME : Nat := 0x50230
def offWEIR_REFLOAT_LOST : Nat := 0x50238
def offGAUGE_STATUS : Nat := 0x60000
def offGAUGE_CTRL : Nat := 0x60008
def offGAUGE_CMD_STATUS : Nat := 0x60010
def offGAUGE_BATT_SUM : Nat := 0x60018
def offGAUGE_CAP : Nat := 0x60020
def offGAUGE_CAP_CNT : Nat := 0x60028
def offGAUGE_CFG_CELL : Nat := 0x60040
def offGAUGE_CFG_CURR : Nat := 0x60048
def offGAUGE_CFG_UNC : Nat := 0x60050
def offGAUGE_CFG_RINT : Nat := 0x60058
def offGAUGE_CFG_LEARN : Nat := 0x60060
def offGAUGE_CFG_CAP0 : Nat := 0x60068
def offGAUGE_CFG_CAP1 : Nat := 0x60070
def offGAUGE_CFG_RIDE : Nat := 0x60078
def offGAUGE_S_STATE : Nat := 0x60100
def offGAUGE_S_VI : Nat := 0x60108
def offGAUGE_S_CHARGE : Nat := 0x60110
def offGAUGE_S_ENERGY : Nat := 0x60118
def offGAUGE_S_UNC : Nat := 0x60120
def offGAUGE_S_ANCHOR : Nat := 0x60128
def offGAUGE_S_ID : Nat := 0x60130
def offGAUGE_S_CNT : Nat := 0x60138
def offFLY_STATUS : Nat := 0x70000
def offFLY_CTRL : Nat := 0x70008
def offFLY_FAULT : Nat := 0x70010
def offFLY_SPEED : Nat := 0x70018
def offFLY_LINK : Nat := 0x70020
def offFLY_POWER : Nat := 0x70028
def offFLY_PHASE_I : Nat := 0x70030
def offFLY_TRIM : Nat := 0x70038
def offFLY_TEMP : Nat := 0x70040
def offFLY_CNT : Nat := 0x70048
def offFLY_CFG0 : Nat := 0x70100
def offFLY_CFG1 : Nat := 0x70108
def offFLY_CFG2 : Nat := 0x70110
def offFLY_CFG3 : Nat := 0x70118
def offFLY_CFG4 : Nat := 0x70120
def offFLY_CFG5 : Nat := 0x70128
def offDRC_STATUS : Nat := 0x80000
def offDRC_CTRL : Nat := 0x80008
def offDRC_CH_STATE : Nat := 0x80010
def offDRC_RETIRE_CAUSE : Nat := 0x80018
def offDRC_LAYOUT0 : Nat := 0x80020
def offDRC_LAYOUT1 : Nat := 0x80028
def offDRC_POUND : Nat := 0x80030
def offDRC_SINGLE : Nat := 0x80038
def offDRC_LAT0 : Nat := 0x80040
def offDRC_LAT1 : Nat := 0x80048
def offDRC_URGENCY : Nat := 0x80050
def offDRC_PROBE : Nat := 0x80058
def offDRC_DLY_SEL : Nat := 0x80060
def offDRC_DLY : Nat := 0x80068
def offDRC_BW : Nat := 0x80070
def offDRC_CTL_ERR : Nat := 0x80078
def offDRC_CH_CNT : Nat := 0x80200
def offDRC_SHARE : Nat := 0x81000
def offDRC_PORT_HELD : Nat := 0x81800
def offFMM_STATUS : Nat := 0x90000
def offFMM_CTRL : Nat := 0x90008
def offFMM_GEOM0 : Nat := 0x90010
def offFMM_GEOM1 : Nat := 0x90018
def offFMM_JOURNAL : Nat := 0x90020
def offFMM_RESERVE : Nat := 0x90028
def offFMM_GC : Nat := 0x90030
def offFMM_WEAR : Nat := 0x90038
def offFMM_LIFE_CFG : Nat := 0x90040
def offFMM_RETRY0 : Nat := 0x90048
def offFMM_RETRY1 : Nat := 0x90050
def offFMM_PSLC : Nat := 0x90058
def offFMM_FREE : Nat := 0x90080
def offFMM_BLOCKS : Nat := 0x90088
def offFMM_EC : Nat := 0x90090
def offFMM_LIFE : Nat := 0x90098
def offFMM_WEAR_RATE : Nat := 0x900a0
def offFMM_BYTES_SPILL : Nat := 0x900a8
def offFMM_BYTES_FLASH : Nat := 0x900b0
def offFMM_CNT_FAIL : Nat := 0x900b8
def offFMM_CNT_REFUSE : Nat := 0x900c0
def offFMM_CNT_GC : Nat := 0x900c8
def offFMM_CH_STATE : Nat := 0x900d0
def offFMM_SAN_CTRL : Nat := 0x90100
def offFMM_SAN_STATUS : Nat := 0x90108
def offFMM_SAN_PROG : Nat := 0x90110
def offFMM_BLK_SEL : Nat := 0x90118
def offFMM_BLK : Nat := 0x90120
def offPKE_CTRL : Nat := 0xa0000
def offPKE_ISSUE : Nat := 0xa0008
def offPKE_RESULT : Nat := 0xa0010
def offPKE_RES_TIME : Nat := 0xa0018
def offPKE_STATUS : Nat := 0xa0020
def offPKE_CNT : Nat := 0xa0028
def offPKE_OP : Nat := 0xa0100
def offPKE_RX : Nat := 0xa0200
def offPKE_RY : Nat := 0xa0220
def offPKE_IMG_PUB : Nat := 0xa0300
def offPKE_ATT_PUB : Nat := 0xa0340
def offTOW_STATUS : Nat := 0xb0000
def offTOW_CTRL : Nat := 0xb0008
def offTOW_CFG : Nat := 0xb0010
def offTOW_CNT : Nat := 0xb0018
def offLOG_STATUS : Nat := 0xc0000
def offLOG_CNT : Nat := 0xc0008
def offLOG_RD_SEL : Nat := 0xc0010
def offLOG_RD_STATUS : Nat := 0xc0018
def offLOG_RD_DATA : Nat := 0xc0020
def offLOCK_CTRL : Nat := 0xd0000
def offLOCK_CMD_STATUS : Nat := 0xd0008
def offLOCK_STATUS : Nat := 0xd0010
def offLOCK_APPLIED : Nat := 0xd0020
def offLOCK_PENDING : Nat := 0xd0040
def offLOCK_FLAG : Nat := 0xd1000
def offCHART_STATUS : Nat := 0xe0000
def offCHART_CTRL : Nat := 0xe0008
def offCHART_CMD_STATUS : Nat := 0xe0010
def offCHART_BASE : Nat := 0xe0018
def offCHART_SIZE : Nat := 0xe0020
def offCHART_CNT : Nat := 0xe0028
def offPORT_STATUS : Nat := 0x100000
def offPORT_CTRL : Nat := 0x100008
def offPORT_CMD_STATUS : Nat := 0x100010
def offPORT_CFG : Nat := 0x100018
def offPORT_TOKEN : Nat := 0x100020
def offPORT_CNT : Nat := 0x100028
def offPORT_ERR : Nat := 0x100030
def offBERTH_SEL : Nat := 0x200000
def offBERTH_CMD : Nat := 0x200008
def offBERTH_STATUS : Nat := 0x200010
def offBERTH_PORT : Nat := 0x200018
def offBERTH_SQ_BASE : Nat := 0x200020
def offBERTH_CQ_BASE : Nat := 0x200028
def offBERTH_RING : Nat := 0x200030
def offBERTH_OWNER : Nat := 0x200038
def offBERTH_FLOOR : Nat := 0x200040
def offBERTH_CEIL : Nat := 0x200048
def offBERTH_RETAIN : Nat := 0x200050
def offBERTH_POLICY : Nat := 0x200058
def offBERTH_SEQ : Nat := 0x200060
def offBERTH_RETIRED : Nat := 0x200068
def offBERTH_HELD : Nat := 0x200070
def offBERTH_SURVIVOR : Nat := 0x200078

def regsGLB : List RegInfo :=
  [⟨0x0, 0x0, 1, 0x0, 0x0, 0x0, 0x0, 0x0⟩,
   ⟨0x8, 0x0, 1, 0x0, 0x0, 0x0, 0x0, 0x0⟩,
   ⟨0x10, 0x0, 1, 0x0, 0x0, 0x0, 0x0, 0x0⟩,
   ⟨0x18, 0x0, 1, 0x0, 0x0, 0x0, 0x0, 0xff0f⟩,
   ⟨0x20, 0x0, 1, 0x0, 0x0, 0x0, 0x0, 0x0⟩,
   ⟨0x28, 0x0, 1, 0x0, 0x0, 0x0, 0x0, 0x0⟩,
   ⟨0x30, 0x0, 1, 0x0, 0xff, 0x0, 0x0, 0x0⟩,
   ⟨0x38, 0x0, 1, 0xff, 0x0, 0x0, 0x0, 0x0⟩]

def regsCFG : List RegInfo :=
  [⟨0x10000, 0x0, 1, 0x0, 0x0, 0x0, 0x0, 0x0⟩,
   ⟨0x10008, 0x0, 1, 0x0, 0x0, 0x0, 0x0, 0xff1f⟩,
   ⟨0x10010, 0x0, 1, 0x0, 0x0, 0x0, 0x0, 0x0⟩,
   ⟨0x10018, 0x0, 1, 0xfffffffffffff000, 0x0, 0x0, 0x0, 0x0⟩,
   ⟨0x10020, 0x0, 1, 0x1ffffff, 0x0, 0x0, 0x0, 0x0⟩,
   ⟨0x10028, 0x0, 1, 0x0, 0x0, 0x0, 0x0, 0x0⟩,
   ⟨0x10030, 0x0, 1, 0x0, 0x0, 0x0, 0x0, 0x0⟩,
   ⟨0x10038, 0x0, 1, 0x0, 0x0, 0x0, 0x0, 0x0⟩,
   ⟨0x10040, 0x8, 4, 0x0, 0x0, 0x0, 0x0, 0x0⟩,
   ⟨0x10060, 0x0, 1, 0x0, 0x0, 0x0, 0x0, 0x0⟩,
   ⟨0x10068, 0x0, 1, 0x0, 0x0, 0x0, 0x0, 0x0⟩,
   ⟨0x10070, 0x0, 1, 0x0, 0x0, 0x0, 0x0, 0x0⟩,
   ⟨0x10078, 0x0, 1, 0x0, 0x0, 0x0, 0x0, 0x0⟩,
   ⟨0x10080, 0x0, 1, 0x0, 0x0, 0x0, 0xffffffffffff0000, 0x0⟩,
   ⟨0x10088, 0x0, 1, 0x0, 0x0, 0x0, 0xffffffffffff, 0x0⟩]

def regsCLK : List RegInfo :=
  [⟨0x20000, 0x0, 1, 0x0, 0x80, 0x0, 0x0, 0x0⟩,
   ⟨0x20008, 0x0, 1, 0x0, 0x0, 0x0, 0x0, 0x0⟩,
   ⟨0x20010, 0x0, 1, 0x0, 0x0, 0x0, 0x0, 0x0⟩,
   ⟨0x20018, 0x0, 1, 0x0, 0x0, 0x0, 0x0, 0x0⟩,
   ⟨0x20020, 0x0, 1, 0x0, 0x0, 0xffffffffffffffff, 0x0, 0x0⟩]

def regsSEQ : List RegInfo :=
  [⟨0x30000, 0x0, 1, 0x0, 0x40, 0x0, 0x0, 0x0⟩,
   ⟨0x30008, 0x0, 1, 0x0, 0x0, 0x0, 0x0, 0xff0f⟩,
   ⟨0x30010, 0x0, 1, 0x0, 0x0, 0x0, 0x0, 0x0⟩,
   ⟨0x30018, 0x0, 1, 0x0, 0x0, 0x0, 0x0, 0x0⟩,
   ⟨0x30020, 0x0, 1, 0x0, 0x0, 0x0, 0x0, 0x0⟩,
   ⟨0x30028, 0x0, 1, 0x0, 0x0, 0x0, 0x0, 0x0⟩,
   ⟨0x30030, 0x0, 1, 0x0, 0x0, 0x0, 0x0, 0x0⟩,
   ⟨0x30038, 0x0, 1, 0x3f, 0x0, 0x0, 0x0, 0x0⟩,
   ⟨0x30040, 0x0, 1, 0x0, 0x0, 0x0, 0x0, 0x0⟩,
   ⟨0x30048, 0x0, 1, 0xffff, 0x0, 0x0, 0x0, 0x0⟩,
   ⟨0x30050, 0x0, 1, 0x3ff, 0x0, 0x0, 0x0, 0x0⟩,
   ⟨0x30058, 0x0, 1, 0x0, 0x0, 0x0, 0x0, 0x0⟩,
   ⟨0x30060, 0x0, 1, 0x0, 0x0, 0xffffffffffffffff, 0x0, 0x0⟩]

def regsKEEP : List RegInfo :=
  [⟨0x40000, 0x0, 1, 0x0, 0x0, 0x0, 0x0, 0x0⟩,
   ⟨0x40008, 0x0, 1, 0x0, 0x0, 0x0, 0x0, 0xfffff0f⟩,
   ⟨0x40010, 0x0, 1, 0x0, 0x0, 0x0, 0x0, 0x0⟩,
   ⟨0x40018, 0x0, 1, 0x0, 0x0, 0x0, 0x0, 0x0⟩,
   ⟨0x40020, 0x0, 1, 0x0, 0x0, 0x0, 0x0, 0x0⟩,
   ⟨0x40028, 0x0, 1, 0xfff, 0x0, 0x0, 0x0, 0x0⟩,
   ⟨0x40030, 0x0, 1, 0x0, 0x0, 0x0, 0x0, 0x0⟩,
   ⟨0x40038, 0x0, 1, 0x0, 0x0, 0x0, 0x0, 0x0⟩,
   ⟨0x40040, 0x0, 1, 0x0, 0x0, 0xffffffffffffffff, 0x0, 0x0⟩,
   ⟨0x40048, 0x0, 1, 0x0, 0x0, 0x0, 0x0, 0x0⟩,
   ⟨0x40050, 0x0, 1, 0x0, 0x0, 0x0, 0xffff000000000000, 0x0⟩,
   ⟨0x40058, 0x0, 1, 0x0, 0x0, 0x0, 0x0, 0xe000000000000fff⟩,
   ⟨0x40060, 0x0, 1, 0x0, 0x0, 0xffffffffffffffff, 0x0, 0x0⟩,
   ⟨0x40100, 0x8, 16, 0x0, 0x0, 0x0, 0xffe000ffffffffff, 0x0⟩,
   ⟨0x40180, 0x8, 8, 0x0, 0x0, 0x0, 0xffe000ffffffffff, 0x0⟩]

def regsWEIR0 : List RegInfo :=
  [⟨0x50000, 0x0, 1, 0x0, 0x0, 0x0, 0x0, 0x0⟩,
   ⟨0x50008, 0x0, 1, 0x1, 0x0, 0x0, 0x0, 0x0⟩,
   ⟨0x50010, 0x0, 1, 0x0, 0x0, 0x0, 0x0, 0x0⟩,
   ⟨0x50018, 0x0, 1, 0x0, 0x0, 0x0, 0x0, 0x0⟩,
   ⟨0x50020, 0x0, 1, 0x0, 0x0, 0x0, 0x0, 0x0⟩,
   ⟨0x50028, 0x0, 1, 0x0, 0x0, 0x0, 0x0, 0x0⟩,
   ⟨0x50030, 0x0, 1, 0x0, 0x0, 0x0, 0x0, 0x0⟩,
   ⟨0x50038, 0x0, 1, 0x0, 0x0, 0x0, 0x0, 0x0⟩,
   ⟨0x50040, 0x0, 1, 0x0, 0x0, 0x0, 0x0, 0x0⟩,
   ⟨0x50048, 0x0, 1, 0x0, 0x0, 0x0, 0x0, 0x0⟩,
   ⟨0x50050, 0x0, 1, 0x0, 0x0, 0x0, 0x0, 0x0⟩,
   ⟨0x50058, 0x0, 1, 0x0, 0x0, 0x0, 0x0, 0x0⟩,
   ⟨0x50060, 0x0, 1, 0x0, 0x0, 0x0, 0x0, 0x0⟩,
   ⟨0x50068, 0x0, 1, 0x0, 0x0, 0xffffffffffffffff, 0x0, 0x0⟩,
   ⟨0x50070, 0x0, 1, 0x0, 0x0, 0xffffffffffffffff, 0x0, 0x0⟩,
   ⟨0x50078, 0x0, 1, 0x0, 0x0, 0xffffffffffffffff, 0x0, 0x0⟩,
   ⟨0x50080, 0x0, 1, 0x0, 0x0, 0xffffffffffffffff, 0x0, 0x0⟩,
   ⟨0x50100, 0x0, 1, 0x0, 0x0, 0x0, 0xffffffff0000ffff, 0x0⟩,
   ⟨0x50108, 0x0, 1, 0x0, 0x0, 0x0, 0xffffffffffffffff, 0x0⟩,
   ⟨0x50110, 0x0, 1, 0x0, 0x0, 0x0, 0xffffffff, 0x0⟩,
   ⟨0x50118, 0x0, 1, 0x0, 0x0, 0x0, 0xffffffffffffffff, 0x0⟩,
   ⟨0x50120, 0x0, 1, 0x0, 0x0, 0x0, 0xffffffffffff1f00, 0x0⟩,
   ⟨0x50128, 0x0, 1, 0x0, 0x0, 0x0, 0x0, 0x0⟩,
   ⟨0x50130, 0x0, 1, 0x0, 0x0, 0x0, 0xffffffffff, 0x0⟩]

def regsWEIR1 : List RegInfo :=
  [⟨0x50138, 0x0, 1, 0x0, 0x0, 0x0, 0xffffffffffffffff, 0x0⟩,
   ⟨0x50140, 0x0, 1, 0x0, 0x0, 0x0, 0xffffffffffffffff, 0x0⟩,
   ⟨0x50148, 0x0, 1, 0x0, 0x0, 0x0, 0xffffffffffffffff, 0x0⟩,
   ⟨0x50150, 0x0, 1, 0x0, 0x0, 0x0, 0xffffffffffff, 0x0⟩,
   ⟨0x50200, 0x0, 1, 0x0, 0x0, 0x0, 0x0, 0xff01⟩,
   ⟨0x50208, 0x0, 1, 0x0, 0x0, 0x0, 0x0, 0x0⟩,
   ⟨0x50210, 0x0, 1, 0x0, 0x0, 0x0, 0x0, 0x0⟩,
   ⟨0x50218, 0x0, 1, 0x0, 0x0, 0x0, 0xffffffff00000000, 0x0⟩,
   ⟨0x50220, 0x0, 1, 0x0, 0x0, 0x0, 0x0, 0x0⟩,
   ⟨0x50228, 0x0, 1, 0x0, 0x0, 0x0, 0x0, 0x0⟩,
   ⟨0x50230, 0x0, 1, 0x0, 0x0, 0x0, 0x0, 0x0⟩,
   ⟨0x50238, 0x0, 1, 0x0, 0x0, 0x0, 0x0, 0x0⟩]

def regsGAUGE : List RegInfo :=
  [⟨0x60000, 0x0, 1, 0x0, 0x0, 0x0, 0x0, 0x0⟩,
   ⟨0x60008, 0x0, 1, 0x0, 0x0, 0x0, 0x0, 0xfff7⟩,
   ⟨0x60010, 0x0, 1, 0x0, 0x0, 0x0, 0x0, 0x0⟩,
   ⟨0x60018, 0x0, 1, 0x0, 0x0, 0x0, 0x0, 0x0⟩,
   ⟨0x60020, 0x0, 1, 0x0, 0x0, 0x0, 0x0, 0x0⟩,
   ⟨0x60028, 0x0, 1, 0x0, 0x0, 0xffffffffffffffff, 0x0, 0x0⟩,
   ⟨0x60040, 0x0, 1, 0x0, 0x0, 0x0, 0xff00ffffffffffff, 0x0⟩,
   ⟨0x60048, 0x0, 1, 0x0, 0x0, 0x0, 0xffffffffffffffff, 0x0⟩,
   ⟨0x60050, 0x0, 1, 0x0, 0x0, 0x0, 0xffffffffffffffff, 0x0⟩,
   ⟨0x60058, 0x0, 1, 0x0, 0x0, 0x0, 0xffffffffffffffff, 0x0⟩,
   ⟨0x60060, 0x0, 1, 0x0, 0x0, 0x0, 0xffffffffffffff01, 0x0⟩,
   ⟨0x60068, 0x0, 1, 0x0, 0x0, 0x0, 0xffffffffffffffff, 0x0⟩,
   ⟨0x60070, 0x0, 1, 0x0, 0x0, 0x0, 0xffffffffffffffff, 0x0⟩,
   ⟨0x60078, 0x0, 1, 0x0, 0x0, 0x0, 0xffffffffffffffff, 0x0⟩,
   ⟨0x60100, 0x40, 8, 0x0, 0x0, 0x0, 0x0, 0x0⟩,
   ⟨0x60108, 0x40, 8, 0x0, 0x0, 0x0, 0x0, 0x0⟩,
   ⟨0x60110, 0x40, 8, 0x0, 0x0, 0x0, 0x0, 0x0⟩,
   ⟨0x60118, 0x40, 8, 0x0, 0x0, 0x0, 0x0, 0x0⟩,
   ⟨0x60120, 0x40, 8, 0x0, 0x0, 0x0, 0x0, 0x0⟩,
   ⟨0x60128, 0x40, 8, 0x0, 0x0, 0x0, 0x0, 0x0⟩,
   ⟨0x60130, 0x40, 8, 0x0, 0x0, 0x0, 0x0, 0x0⟩,
   ⟨0x60138, 0x40, 8, 0x0, 0x0, 0xffffffffffffffff, 0x0, 0x0⟩]

def regsFLY : List RegInfo :=
  [⟨0x70000, 0x0, 1, 0x0, 0x0, 0x0, 0x0, 0x0⟩,
   ⟨0x70008, 0x0, 1, 0x1, 0x0, 0x0, 0x0, 0xff02⟩,
   ⟨0x70010, 0x0, 1, 0x0, 0x0, 0x0, 0x0, 0x0⟩,
   ⟨0x70018, 0x0, 1, 0x0, 0x0, 0x0, 0x0, 0x0⟩,
   ⟨0x70020, 0x0, 1, 0xffff000000000000, 0x0, 0x0, 0x0, 0x0⟩,
   ⟨0x70028, 0x0, 1, 0x0, 0x0, 0x0, 0x0, 0x0⟩,
   ⟨0x70030, 0x0, 1, 0x0, 0x0, 0x0, 0x0, 0x0⟩,
   ⟨0x70038, 0x0, 1, 0x0, 0x0, 0x0, 0x0, 0x0⟩,
   ⟨0x70040, 0x0, 1, 0x0, 0x0, 0x0, 0x0, 0x0⟩,
   ⟨0x70048, 0x0, 1, 0x0, 0x0, 0xffffffffffffffff, 0x0, 0x0⟩,
   ⟨0x70100, 0x0, 1, 0x0, 0x0, 0x0, 0xfffffff0ffffffff, 0x0⟩,
   ⟨0x70108, 0x0, 1, 0x0, 0x0, 0x0, 0xffffffffffffffff, 0x0⟩,
   ⟨0x70110, 0x0, 1, 0x0, 0x0, 0x0, 0xffffffffffffffff, 0x0⟩,
   ⟨0x70118, 0x0, 1, 0x0, 0x0, 0x0, 0xffffffffffffffff, 0x0⟩,
   ⟨0x70120, 0x0, 1, 0x0, 0x0, 0x0, 0xffffffffffffffff, 0x0⟩,
   ⟨0x70128, 0x0, 1, 0x0, 0x0, 0x0, 0xffffff00ffffffff, 0x0⟩]

def regsDRC : List RegInfo :=
  [⟨0x80000, 0x0, 1, 0x0, 0x0, 0x0, 0x0, 0x0⟩,
   ⟨0x80008, 0x0, 1, 0x0, 0x0, 0x0, 0x0, 0xff1f⟩,
   ⟨0x80010, 0x0, 1, 0x0, 0x0, 0x0, 0x0, 0x0⟩,
   ⟨0x80018, 0x0, 1, 0x0, 0x0, 0x0, 0x0, 0x0⟩,
   ⟨0x80020, 0x0, 1, 0x0, 0x0, 0x0, 0xffff0000ffffffff, 0x0⟩,
   ⟨0x80028, 0x0, 1, 0x0, 0x0, 0x0, 0xffffffffffff0000, 0x0⟩,
   ⟨0x80030, 0x0, 1, 0x0, 0x0, 0x0, 0xffffffffff, 0x0⟩,
   ⟨0x80038, 0x0, 1, 0x0, 0x0, 0x0, 0x0, 0x0⟩,
   ⟨0x80040, 0x0, 1, 0x0, 0x0, 0x0, 0xffffffffffffffff, 0x0⟩,
   ⟨0x80048, 0x0, 1, 0x0, 0x0, 0x0, 0xffffffffffff, 0x0⟩,
   ⟨0x80050, 0x0, 1, 0x0, 0x0, 0x0, 0xffffff, 0x0⟩,
   ⟨0x80058, 0x0, 1, 0x0, 0x0, 0x0, 0xffff, 0x0⟩,
   ⟨0x80060, 0x0, 1, 0xffff, 0x0, 0x0, 0x0, 0x0⟩,
   ⟨0x80068, 0x0, 1, 0x0, 0x0, 0x0, 0x0, 0x0⟩,
   ⟨0x80070, 0x0, 1, 0x0, 0x0, 0x0, 0x0, 0x0⟩,
   ⟨0x80078, 0x0, 1, 0x0, 0x0, 0xffffffffffffffff, 0x0, 0x0⟩,
   ⟨0x80200, 0x8, 12, 0x0, 0x0, 0xffffffff00000000, 0x0, 0x0⟩,
   ⟨0x81000, 0x8, 256, 0x0, 0x0, 0x0, 0xffffffffff, 0x0⟩,
   ⟨0x81800, 0x8, 256, 0x0, 0x0, 0x0, 0x0, 0x0⟩]

def regsFMM0 : List RegInfo :=
  [⟨0x90000, 0x0, 1, 0x0, 0x0, 0x0, 0x0, 0x0⟩,
   ⟨0x90008, 0x0, 1, 0x3, 0x0, 0x0, 0x0, 0x0⟩,
   ⟨0x90010, 0x0, 1, 0x0, 0x0, 0x0, 0xfffffffff00fffff, 0x0⟩,
   ⟨0x90018, 0x0, 1, 0x0, 0x0, 0x0, 0xffffffffffffffff, 0x0⟩,
   ⟨0x90020, 0x0, 1, 0x0, 0x0, 0x0, 0xffffffffffffffff, 0x0⟩,
   ⟨0x90028, 0x0, 1, 0x0, 0x0, 0x0, 0xffffffffffffffff, 0x0⟩,
   ⟨0x90030, 0x0, 1, 0x0, 0x0, 0x0, 0xffffffffffffffff, 0x0⟩,
   ⟨0x90038, 0x0, 1, 0x0, 0x0, 0x0, 0xfffff000ffffffff, 0x0⟩,
   ⟨0x90040, 0x0, 1, 0x0, 0x0, 0x0, 0xffffffff00000000, 0x0⟩,
   ⟨0x90048, 0x0, 1, 0x0, 0x0, 0x0, 0xffffffffffffffff, 0x0⟩,
   ⟨0x90050, 0x0, 1, 0x0, 0x0, 0x0, 0xffffff, 0x0⟩,
   ⟨0x90058, 0x0, 1, 0x0, 0x0, 0x0, 0xffffffff00000000, 0x0⟩,
   ⟨0x90080, 0x0, 1, 0x0, 0x0, 0x0, 0x0, 0x0⟩,
   ⟨0x90088, 0x0, 1, 0x0, 0x0, 0x0, 0x0, 0x0⟩,
   ⟨0x90090, 0x0, 1, 0x0, 0x0, 0x0, 0x0, 0x0⟩,
   ⟨0x90098, 0x0, 1, 0x0, 0x0, 0x0, 0x0, 0x0⟩,
   ⟨0x900a0, 0x0, 1, 0x0, 0x0, 0x0, 0x0, 0x0⟩,
   ⟨0x900a8, 0x0, 1, 0x0, 0x0, 0x0, 0x0, 0x0⟩,
   ⟨0x900b0, 0x0, 1, 0x0, 0x0, 0x0, 0x0, 0x0⟩,
   ⟨0x900b8, 0x0, 1, 0x0, 0x0, 0xffffffffffffffff, 0x0, 0x0⟩,
   ⟨0x900c0, 0x0, 1, 0x0, 0x0, 0xffffffffffffffff, 0x0, 0x0⟩,
   ⟨0x900c8, 0x0, 1, 0x0, 0x0, 0xffffffffffffffff, 0x0, 0x0⟩,
   ⟨0x900d0, 0x8, 3, 0x0, 0x0, 0x0, 0x0, 0x0⟩,
   ⟨0x90100, 0x0, 1, 0x0, 0x0, 0x0, 0x0, 0xff01⟩]

def regsFMM1 : List RegInfo :=
  [⟨0x90108, 0x0, 1, 0x0, 0x0, 0x0, 0x0, 0x0⟩,
   ⟨0x90110, 0x0, 1, 0x0, 0x0, 0x0, 0x0, 0x0⟩,
   ⟨0x90118, 0x0, 1, 0x7fffff, 0x0, 0x0, 0x0, 0x0⟩,
   ⟨0x90120, 0x0, 1, 0x0, 0x0, 0x0, 0x0, 0x0⟩]

def regsPKE : List RegInfo :=
  [⟨0xa0000, 0x0, 1, 0x0, 0x0, 0x0, 0x0, 0xff1f⟩,
   ⟨0xa0008, 0x0, 1, 0x0, 0x0, 0x0, 0x0, 0x0⟩,
   ⟨0xa0010, 0x0, 1, 0x0, 0x0, 0x0, 0x0, 0x0⟩,
   ⟨0xa0018, 0x0, 1, 0x0, 0x0, 0x0, 0x0, 0x0⟩,
   ⟨0xa0020, 0x0, 1, 0x0, 0x0, 0x0, 0x0, 0x0⟩,
   ⟨0xa0028, 0x0, 1, 0x0, 0x0, 0xffffffffffffffff, 0x0, 0x0⟩,
   ⟨0xa0100, 0x8, 20, 0xffffffffffffffff, 0x0, 0x0, 0x0, 0x0⟩,
   ⟨0xa0200, 0x8, 4, 0x0, 0x0, 0x0, 0x0, 0x0⟩,
   ⟨0xa0220, 0x8, 4, 0x0, 0x0, 0x0, 0x0, 0x0⟩,
   ⟨0xa0300, 0x8, 8, 0x0, 0x0, 0x0, 0x0, 0x0⟩,
   ⟨0xa0340, 0x8, 8, 0x0, 0x0, 0x0, 0x0, 0x0⟩]

def regsTOW : List RegInfo :=
  [⟨0xb0000, 0x0, 1, 0x0, 0x0, 0x0, 0x0, 0x0⟩,
   ⟨0xb0008, 0x0, 1, 0x0, 0x0, 0x0, 0x0, 0xffff0f⟩,
   ⟨0xb0010, 0x0, 1, 0x0, 0x0, 0x0, 0xffffffff00000003, 0x0⟩,
   ⟨0xb0018, 0x0, 1, 0x0, 0x0, 0xffffffffffffffff, 0x0, 0x0⟩]

def regsLOG : List RegInfo :=
  [⟨0xc0000, 0x0, 1, 0x0, 0x0, 0x0, 0x0, 0x0⟩,
   ⟨0xc0008, 0x0, 1, 0x0, 0x0, 0xffffffffffffffff, 0x0, 0x0⟩,
   ⟨0xc0010, 0x0, 1, 0xffffffff, 0x0, 0x0, 0x0, 0x0⟩,
   ⟨0xc0018, 0x0, 1, 0x0, 0x0, 0x0, 0x0, 0x0⟩,
   ⟨0xc0020, 0x8, 8, 0x0, 0x0, 0x0, 0x0, 0x0⟩]

def regsLOCK : List RegInfo :=
  [⟨0xd0000, 0x0, 1, 0x0, 0x0, 0x0, 0x0, 0xffff00000000ff03⟩,
   ⟨0xd0008, 0x0, 1, 0x0, 0x0, 0x0, 0x0, 0x0⟩,
   ⟨0xd0010, 0x0, 1, 0x0, 0x0, 0x0, 0x0, 0x0⟩,
   ⟨0xd0020, 0x8, 4, 0x0, 0x0, 0x0, 0x0, 0x0⟩,
   ⟨0xd0040, 0x8, 4, 0x0, 0x0, 0x0, 0x0, 0x0⟩,
   ⟨0xd1000, 0x8, 256, 0xffffffffffffffff, 0x0, 0x0, 0x0, 0x0⟩]

def regsCHART : List RegInfo :=
  [⟨0xe0000, 0x0, 1, 0x0, 0x0, 0x0, 0x0, 0x0⟩,
   ⟨0xe0008, 0x0, 1, 0x0, 0x0, 0x0, 0x0, 0xff0f⟩,
   ⟨0xe0010, 0x0, 1, 0x0, 0x0, 0x0, 0x0, 0x0⟩,
   ⟨0xe0018, 0x0, 1, 0xfffffffffffff000, 0x0, 0x0, 0x0, 0x0⟩,
   ⟨0xe0020, 0x0, 1, 0x1ffffff, 0x0, 0x0, 0x0, 0x0⟩,
   ⟨0xe0028, 0x0, 1, 0x0, 0x0, 0xffffffffffffffff, 0x0, 0x0⟩]

def regsPORT : List RegInfo :=
  [⟨0x100000, 0x1000, 256, 0x0, 0x0, 0x0, 0x0, 0x0⟩,
   ⟨0x100008, 0x1000, 256, 0x0, 0x0, 0x0, 0x0, 0xff0f⟩,
   ⟨0x100010, 0x1000, 256, 0x0, 0x0, 0x0, 0x0, 0x0⟩,
   ⟨0x100018, 0x1000, 256, 0x0, 0x0, 0x0, 0xffe0ffff0fffffff, 0x0⟩,
   ⟨0x100020, 0x1000, 256, 0x0, 0x0, 0x0, 0x0, 0x0⟩,
   ⟨0x100028, 0x1000, 256, 0x0, 0x0, 0xffffffffffffffff, 0x0, 0x0⟩,
   ⟨0x100030, 0x1000, 256, 0x0, 0x0, 0xffffffffffffffff, 0x0, 0x0⟩]

def regsBERTH : List RegInfo :=
  [⟨0x200000, 0x0, 1, 0xfffff, 0x0, 0x0, 0x0, 0x0⟩,
   ⟨0x200008, 0x0, 1, 0x0, 0x0, 0x0, 0x0, 0xf⟩,
   ⟨0x200010, 0x0, 1, 0x0, 0x0, 0x0, 0x0, 0x0⟩,
   ⟨0x200018, 0x0, 1, 0xffffff, 0x0, 0x0, 0x0, 0x0⟩,
   ⟨0x200020, 0x0, 1, 0xfffffffffffff000, 0x0, 0x0, 0x0, 0x0⟩,
   ⟨0x200028, 0x0, 1, 0xfffffffffffff000, 0x0, 0x0, 0x0, 0x0⟩,
   ⟨0x200030, 0x0, 1, 0xf, 0x0, 0x0, 0x0, 0x0⟩,
   ⟨0x200038, 0x0, 1, 0xffffffffffffffff, 0x0, 0x0, 0x0, 0x0⟩,
   ⟨0x200040, 0x0, 1, 0xffffffff, 0x0, 0x0, 0x0, 0x0⟩,
   ⟨0x200048, 0x0, 1, 0xffffffff, 0x0, 0x0, 0x0, 0x0⟩,
   ⟨0x200050, 0x0, 1, 0xffffffff, 0x0, 0x0, 0x0, 0x0⟩,
   ⟨0x200058, 0x0, 1, 0x1ffff00003fff, 0x0, 0x0, 0x0, 0x0⟩,
   ⟨0x200060, 0x0, 1, 0x0, 0x0, 0x0, 0x0, 0x0⟩,
   ⟨0x200068, 0x0, 1, 0x0, 0x0, 0x0, 0x0, 0x0⟩,
   ⟨0x200070, 0x0, 1, 0x0, 0x0, 0x0, 0x0, 0x0⟩,
   ⟨0x200078, 0x0, 1, 0x0, 0x0, 0x0, 0x0, 0x0⟩]

/-- Every register of the map. -/
def regMap : List RegInfo :=
  regsGLB ++
  regsCFG ++
  regsCLK ++
  regsSEQ ++
  regsKEEP ++
  regsWEIR0 ++
  regsWEIR1 ++
  regsGAUGE ++
  regsFLY ++
  regsDRC ++
  regsFMM0 ++
  regsFMM1 ++
  regsPKE ++
  regsTOW ++
  regsLOG ++
  regsLOCK ++
  regsCHART ++
  regsPORT ++
  regsBERTH

/-- Whether a register (array) covers the 8-byte-aligned offset. -/
def RegInfo.covers (r : RegInfo) (off : Nat) : Bool :=
  if r.stride = 0 then off == r.base
  else r.base ≤ off && off < r.base + r.stride * r.count && (off - r.base) % r.stride == 0

/-- The register at an 8-byte-aligned offset; none where no block defines one (R369). -/
def regAt (off : Nat) : Option RegInfo := regMap.find? (·.covers off)

end Sys2Proof.Machine
end

