-- ==== Sys2Proof/Machine/State.lean ====
section
/-! DEFINITION. The state of the CW256 as plain data, block by block, and its value after the supervisor die's power-on reset.
Sparse tables list only what differs from the stated default. Times are CK_AON microseconds (R110, R377 GLB_TIME). -/

namespace Sys2Proof.Machine

/-- A berth's life-cycle state (R40). -/
inductive BSt where
  | free | chartered | opened | fenced | exhausted | refloating
  deriving DecidableEq, Repr

/-- Where a copy pair of a record stands: the channels that hold a copy, and the granule offset, equal in each (R116). -/
structure Place where
  chs : List Nat
  off : Nat
  deriving DecidableEq, Repr

/-- When a finished descriptor's completion may be posted: as soon as it is known, at the fixed refusal time (R100), or at a
quantum boundary (R101). -/
inductive Post where
  | soon | refusal | quantum
  deriving DecidableEq, Repr

/-- A completion that is decided and not yet written (R56, R57). -/
structure Cpl where
  status : Nat
  seq : Nat
  delayed : Bool
  post : Post
  postAt : Nat
  deriving DecidableEq, Repr

/-- How far a fetched descriptor has come. -/
inductive Stage where
  | fetching
  | returned
  | held
  | shaped
  | reading
  | basin (seq : Nat)
  | done (c : Cpl)
  deriving DecidableEq, Repr

/-- A descriptor the CW256 has fetched and not yet completed: its ring index, its fetch time and the port mode, class, floor
and hold limit it had then (R103, R359), the SPILL_OK and the vector it completes under (R79), the words read, and its progress. -/
structure Flight where
  idx : Nat
  tFetch : Nat
  mode : Nat
  qos : Nat
  floor : Nat
  hold : Nat
  spillOk : Bool
  vector : Nat
  desc : Option Desc
  tag : Nat
  len : Nat
  place : Option Place
  wasHeld : Bool
  wasShaped : Bool
  stage : Stage
  deriving DecidableEq, Repr

/-- A record of a berth's chain (R163): its sequence, length in granules, TAG, payload (the LENGTH x 512 bytes as one
little-endian number), commitment time, its pound copies if any, and its flash copy (barge ID and first granule) if any.
front marks SPILL_NOW (R63). -/
structure Rec where
  seq : Nat
  len : Nat
  tag : Nat
  payload : Nat
  tCommit : Nat
  place : Option Place
  basin : Option (Nat × Nat)
  front : Bool
  deriving DecidableEq, Repr

/-- A berth: its charter, its context and its chain (R38 to R82, R163). held, unret and unpers are HELD, UNRETIRED and the
berth's part of U (R93), in 512-B units, reservations included. -/
structure Berth where
  st : BSt
  gen : BitVec 12
  reason : Nat
  port : Nat
  slot : Nat
  sqBase : Word
  cqBase : Word
  log2 : Nat
  owner : Word
  floor : Nat
  ceil : Nat
  retain : Nat
  hold : Nat
  qos : Nat
  spillOk : Bool
  vector : Nat
  nextSeq : Nat
  retirePoint : Nat
  lastSurvivor : Nat
  sqHead : Nat
  sqTail : Nat
  cqTail : Nat
  cqHead : Nat
  phase : Bool
  held : Nat
  unret : Nat
  unpers : Nat
  flights : List Flight
  chain : List Rec
  quar : Bool
  engine : Nat
  firstCpn : Nat
  lastCpn : Nat
  fetchCpn : Nat
  deriving DecidableEq, Repr

/-- A FREE berth of generation 0 that holds nothing (R40, R76). -/
def Berth.none : Berth :=
  { st := .free, gen := 0, reason := 0, port := 0, slot := 0, sqBase := 0, cqBase := 0, log2 := 0, owner := 0, floor := 0,
    ceil := 0, retain := 0, hold := 0, qos := 0, spillOk := false, vector := 0, nextSeq := 0, retirePoint := 0,
    lastSurvivor := 0, sqHead := 0, sqTail := 0, cqTail := 0, cqHead := 0, phase := true, held := 0, unret := 0, unpers := 0,
    flights := [], chain := [], quar := false, engine := 0, firstCpn := 0xFFFFFFFF, lastCpn := 0xFFFFFFFF,
    fetchCpn := 0xFFFFFFFF }

/-- A command-status register (R372 to R374): DONE, TICKET, RESULT; refused holds that a write was refused while the command
ran, so that its end shows BUSY. -/
structure CmdSt where
  done : Bool
  ticket : BitVec 16
  result : Nat
  refused : Bool
  deriving DecidableEq, Repr

/-- A status register from the reset of its block's domain (R372). -/
def CmdSt.idle : CmdSt := ⟨true, 0, 0, false⟩

/-- A flash command (R142, R146): program a chunk row; read it, at a read offset where one is given; read back every programmed row; read
the factory bad-block mark; erase. -/
inductive FlashOp where
  | program
  | read (offset : Option Byte)
  | readBack
  | erase
  deriving DecidableEq, Repr

/-- What the device sends out, in the order it issues it. flash carries the pSLC prefix, feature address and feature value with its
command (R142). -/
inductive Out where
  | cpl (port : Nat) (addr : Word) (w0 w1 : Word)
  | payload (port : Nat) (addr : Word) (len : Nat) (data : Nat)
  | block (port : Nat) (addr : Word) (ws : List Word)
  | msix (port vector : Nat)
  | readReq (port : Nat) (addr : Word) (bytes : Nat)
  | mgmtMsix (vector : Nat)
  | mgmtData (w : Word)
  | unsupported
  | frame (bytes : List Byte)
  | pmbus (rail cmd data : Nat)
  | shelf (cmd : Nat) (string : Nat) (deciAmp : Nat)
  | moduleNonce (string : Nat) (nonce : Nat)
  | chart (slot : Nat) (write : Bool)
  | flash (pslc : Nat × Nat × Nat) (op : FlashOp) (die block row : Nat)
  | linkTrain (port : Nat)
  deriving DecidableEq, Repr

/-- A weir state (R107). -/
inductive WSt where
  | shut | opened | over | sluice
  deriving DecidableEq, Repr

/-- A guarded energy term (R92): free, held at 0 by its comparator, or released and waiting for a recomputation to pass the
rise hold (with the time of release). -/
inductive Trip where
  | clear
  | held
  | released (t : Nat)
  deriving DecidableEq, Repr

/-- The three figures a recomputation gives (R91): mJ, and bytes in 512-B units. -/
structure Budget where
  eAvail : Nat
  bEnergy : Nat
  bEff : Nat
  deriving DecidableEq, Repr

/-- The weir (R83 to R110): its state, the terms last computed (mJ), R_s (MB/s), B_pound and Q (granules) as the last recomputation
took them (R90, R133), the budget in force, the window of recomputations of the rise hold, the trips, the spill engine's flags and
the ingress bucket of R109, below 0 by what a read above BURST has taken in advance. spillLatch is the first case of R104, spillOn
the engine running; spilled are the times and units of what it took under the ceiling in the last 10 ms (R106). -/
structure Weir where
  st : WSt
  capRaw : Nat
  capDer : Nat
  flyRaw : Nat
  flyDer : Nat
  shares : List Nat
  battRaw : Nat
  rs : Nat
  bPound : Nat
  qSingle : Nat
  budget : Budget
  window : List (Nat × Budget)
  tripCap : Trip
  tripFly : Trip
  tripStr : Tbl Trip
  floorShort : Bool
  spillOn : Bool
  spillLatch : Bool
  spillFull : Bool
  spilled : List (Nat × Nat)
  tokens : Int
  tokensAt : Nat
  deriving DecidableEq, Repr

/-- The sluice (R207 to R222): the phase code, FIRST, MASK, the trigger's time, how far its control flush has come (0 rows end, 1 the segment is
formed, 2 SEALED is formed), whether the trigger came before refloat ready (R220), the cause of the first reset held (R217), whether the early warning has been sent, and since when the restart hold
counts once program 2 has ended (R219). -/
structure Sluice where
  phase : Nat
  flush : Nat
  first : Nat
  mask : BitVec 6
  tTrigger : Nat
  early : Bool
  heldReset : Option Nat
  warned : Bool
  torn : Bool
  programDone : Bool
  openWritten : Bool
  deriving DecidableEq, Repr

/-- Refloat (R223 to R230). opened: the new run's checkpoint segment and RUN_OPEN have been formed; loaded is the CKPT_SEQ of the checkpoint
whose map was loaded (R225). -/
structure Refloat where
  stage : Nat
  kase : Nat
  lastFirst : Nat
  runId : Nat
  survivors : Nat
  truncated : Nat
  tStart : Nat
  readyMs : Nat
  verifiedSb : Nat
  lost : Nat
  opened : Bool
  loaded : Option Nat
  deriving DecidableEq, Repr

/-- A DRAM channel (R140): state code and retirement cause. -/
structure Chan where
  st : Nat
  cause : Nat
  deriving DecidableEq, Repr

/-- The DRAM requesters of R130. -/
inductive Requester where
  | berth | control | sluice | refloat | spill | barge | compact
  deriving DecidableEq, Repr

/-- A request's page hint (R130): open; close; or open within a record and close on its last burst. -/
inductive Hint where
  | stay | close | last
  deriving DecidableEq, Repr

/-- A request to a channel (R128 to R130): a run of 64-byte bursts in one row, with those still to issue. -/
structure DramReq where
  id : Nat
  who : Requester
  bank : Nat
  row : Nat
  write : Bool
  arrival : Nat
  urgency : Nat
  hint : Hint
  bursts : Nat
  deriving DecidableEq, Repr

/-- A channel's scheduler: the requests in order of arrival, those that a full queue still holds off included, the open row of each bank,
the bank last activated, the bank last served by a column command, the activates of each bank that refresh management counts, and counts
of REFab, REFsb, RFM and ZQ calibration commands issued (R125). -/
structure Sched where
  reqs : List DramReq
  openRows : Tbl (Option Nat)
  lastAct : Nat
  lastCol : Nat
  acts : Tbl Nat
  refAll : Nat
  refBank : Nat
  rfms : Nat
  zqCals : Nat
  deriving DecidableEq, Repr

def Sched.idle : Sched := ⟨[], [], 0, 0, [], 0, 0, 0, 0⟩

/-- A compaction copy in progress (R118): the record's berth and sequence, its new place, and the writes that bring it there, as
(channel, request). -/
structure Move where
  berth : Nat
  seq : Nat
  place : Place
  reqs : List (Nat × Nat)
  deriving DecidableEq, Repr

/-- The DRAM controller beyond its register file (R111 to R140). coupled is the surviving half's code (R136); heads holds the log head
of each pair by its first channel, and moving the compaction copies in progress (R116, R118). evac lists the pairs whose control lines are
on the move, homes where those of a pair went to, oldest move first (R124); turn tells which copy of a control line is read next, and
flips holds the copies that differ from what was written, by line and channel, as (what was written, what stands there) (R122, R123).
probedAt is the time of the last probe and probeLines what stands in the probe lines, by channel and rank (R138). delays is the delay
table of the image, keyed by DRC_DLY_SEL (R329). -/
structure Drc where
  chans : Tbl Chan
  remirror : Bool
  singleCtl : Bool
  coupled : Nat
  rotor : Nat
  heads : Tbl Nat
  moving : List Move
  evac : List (List Nat)
  homes : List (List Nat × List (List Nat))
  turn : Bool
  flips : Tbl (List Byte × List Byte)
  nextReq : Nat
  sched : Tbl Sched
  probedAt : Nat
  probeLines : Tbl (List Byte)
  delays : Tbl Nat
  deriving DecidableEq, Repr

/-- A block table entry (R175): state code, erase count, next row, cause, BLANK_CHK. gate is the CKPT_SEQ recorded when the
block became GARBAGE (R194). -/
structure Blk where
  st : Nat
  ec : Nat
  nextRow : Nat
  cause : Nat
  blank : Bool
  gate : Nat
  deriving DecidableEq, Repr

/-- The default entry: ERASED, EC 0. -/
def Blk.erased : Blk := ⟨0, 0, 0, 0, false, 0⟩

/-- A superblock (R155): slots 0 to 15 hold the data blocks (die, block), slot 16 the parity block. rows are programmed, started have had
their programs issued, issued have a barge; leave lists the rows whose barges wait to be moved elsewhere (R159, R177, R180). -/
structure Sb where
  slots : List (Nat × Nat)
  st : Nat
  rows : Nat
  started : Nat
  issued : Nat
  quadrant : Nat
  stream : Stream
  leave : List Nat
  deriving DecidableEq, Repr

def Sb.free : Sb := ⟨[], 0, 0, 0, 0, 0, .spill, []⟩

/-- A directory entry of a barge (R148), with the record's payload and, for a collection copy, the barge and offset copied
from (R192). -/
structure DirEnt where
  berth : Nat
  seq : Nat
  tag : Nat
  off : Nat
  len : Nat
  payload : Nat
  src : Option (Nat × Nat)
  deriving DecidableEq, Repr

/-- A barge table entry (R162): state code, superblock, row, live granules, BSEQ. -/
structure Barge where
  st : Nat
  sb : Nat
  row : Nat
  live : Nat
  bseq : Nat
  deriving DecidableEq, Repr

def Barge.free : Barge := ⟨0, 0, 0, 0, 0⟩

/-- What a chunk row of a superblock holds on the medium (R147 to R149, R156): the header words common to its chunks, the
directory, and which chunks (bits 0 to 15) and parity (bit 16) are programmed and readable. moved: the barge has been moved here
(R180). -/
structure Row where
  kind : Nat
  bseq : Nat
  barge : Nat
  runId : Nat
  sluice : Bool
  ckptSeq : Nat
  dir : List DirEnt
  chunks : BitVec 17
  moved : Bool
  deriving DecidableEq, Repr

/-- A barge being assembled (R147, R151): when its first record was placed, its next free granule and its directory. -/
structure Asm where
  since : Nat
  next : Nat
  dir : List DirEnt
  deriving DecidableEq, Repr

def Asm.empty : Asm := ⟨0, 0, []⟩

/-- A chain page table entry (R166) with the page's own header (R164). -/
structure Cpt where
  st : Nat
  barge : Nat
  slot : Nat
  loc : Nat
  pageSeq : Nat
  berth : Nat
  firstSeq : Nat
  count : Nat
  next : Nat
  deriving DecidableEq, Repr

def Cpt.free : Cpt := ⟨0, 0, 0, 0, 0, 0, 0, 0, 0xFFFFFFFF⟩

/-- The map as a checkpoint segment leaves it on flash (R168, R169): chains, barge, superblock, block and chain page tables,
and the lifetime counters of R198. It carries the lines changed since the segment before it, by number, and the part-th 1/64 of all lines;
the newest copy of every line, over it and the 63 before it, is the map below (log 24). -/
structure Seg where
  ckptSeq : Nat
  part : Nat
  changed : List Nat
  sb : Nat
  verified : Bool
  chains : Tbl (List Rec)
  barges : Tbl Barge
  sbs : Tbl Sb
  blocks : Tbl Blk
  pages : Tbl Cpt
  spillBytes : Nat
  flashBytes : Nat
  deriving DecidableEq, Repr

/-- A manifest on flash (R221): type, its PARTS barges, run, header fields, body. Each barge is told by the BSEQs under which it has been
written, more than one where it has been moved. ctxs holds the berth contexts, registered tokens beside them (R357); sbs and fails are the
SEALED body. -/
structure Manifest where
  kind : Nat
  parts : List (List Nat)
  runId : Nat
  first : Nat
  mask : BitVec 6
  bseqHw : Nat
  ckptSeq : Nat
  pageHw : Nat
  tEvent : Nat
  sbs : List Nat
  fails : List (Nat × Nat)
  ctxs : Tbl Berth
  tokens : Tbl Word
  deriving DecidableEq, Repr

/-- A quadrant's collection or wear-levelling move (R189, R192): the victim and the records still to read. A wear move may pause. -/
structure Coll where
  victim : Option Nat
  toRead : List (Nat × Nat)
  wear : Bool
  deriving DecidableEq, Repr

def Coll.none : Coll := ⟨Option.none, [], false⟩

/-- A copy of the sanitize marker in the SPI NOR (R201, R202): its number in the alternation, the state, the step of R201, the start time,
each channel's progress, the high-water values, the wear record's superblocks, the blocks whose erase failed, and its CRC-32C. -/
structure SanMark where
  n : Nat
  state : Nat
  step : Nat
  start : Nat
  progress : Tbl Nat
  bseq : Nat
  ckpt : Nat
  page : Nat
  run : Nat
  wearSbs : List Nat
  failed : List Nat
  crc : Nat
  deriving DecidableEq, Repr

/-- The sanitize status, and the marker in the SPI NOR with the wear record that it leads to (R200 to R204). marker is its state
(0 none, 1 RUNNING, 2 DONE), mStep the step of R201, mProgress each channel's recorded progress, failed the blocks whose erase failed; wear
to gens is the wear record; turn is each channel's progress now; copy0 and copy1 are the marker's two copies (R202). -/
structure San where
  st : Nat
  result : Nat
  unerased : Nat
  doneBlocks : Nat
  total : Nat
  marker : Nat
  mStart : Nat
  mStep : Nat
  mProgress : Tbl Nat
  mBseq : Nat
  mCkpt : Nat
  mPage : Nat
  mRun : Nat
  wearSbs : List Nat
  failed : List Nat
  wear : Tbl Blk
  wSpill : Nat
  wFlash : Nat
  gens : Tbl (BitVec 12)
  turn : Tbl Nat
  copy0 : Option SanMark
  copy1 : Option SanMark
  deriving DecidableEq, Repr

/-- The flash media manager and the basin (R141 to R206). rows is the medium, laid the blocks that the headers on it give each
superblock; barges, sbs, blocks and pages are the map in the control region; segs and manifests are on the medium too. ingress and
ingressLast count the units admitted in this and the last 10 ms (R190), and level is the collection throttle's (R197). -/
structure Fmm where
  chans : Tbl Nat
  lostDies : List Nat
  rows : Tbl Row
  laid : Tbl (List (Nat × Nat))
  segs : List Seg
  manifests : List Manifest
  blocks : Tbl Blk
  sbs : Tbl Sb
  barges : Tbl Barge
  pages : Tbl Cpt
  asm : Tbl Asm
  nextBarge : Nat
  bseq : Nat
  ckptSeq : Nat
  pageSeq : Nat
  closedSince : Nat
  tCkpt : Nat
  rotor : Nat
  coll : Tbl Coll
  fg : BitVec 4
  bg : BitVec 4
  produced : Nat
  paceLeft : Nat
  ingress : Nat
  ingressLast : Nat
  level : Nat
  reserveOut : Bool
  endOfLife : Bool
  lifeShort : Bool
  spillBytes : Nat
  flashBytes : Nat
  runDays : Nat
  ecSum : Nat
  days : List (Nat × Nat × Nat)
  lifeDays : Nat
  safeRate : Nat
  wRatio : Nat
  rE : Nat
  failed : List (Nat × Nat)
  san : San
  deriving DecidableEq, Repr

/-- The chart (R170 to R173, R382): state code, slots in use, consecutive misses. -/
structure Chart where
  st : Nat
  used : Nat
  misses : Nat
  deriving DecidableEq, Repr

/-- An anchor that the gauge's next update brings into force (R234, R238): full charge or end of discharge, its time, and the
capacity learned with it (R239). -/
structure Anchor where
  full : Bool
  at_ : Nat
  cap : Option Nat
  deriving DecidableEq, Repr

/-- A battery string (R231 to R248). Charges are in nC (mA x us), voltages in mV, resistances in micro-ohm, times in us.
hist holds the samples of the last 1 ms, newest first; stepAt is when a current step was last measured (R235); eoc and eod say since
when an end point's condition has held, and whether its event has been taken (R234); tFull is the time of the module's last full-charge
anchor (R240). auth is the code of GAUGE_Sn_STATE.AUTH; due: an authentication asked for has not come to its end (R244); ahead: it is
taken before the others (R243); nonce is the one of the authentication in progress (R243). -/
structure GStr where
  present : Bool
  silent : Nat
  auth : Nat
  attempts : Nat
  serial : BitVec 128
  nameplate : Nat
  cells : Nat
  cap : Nat
  learned : Bool
  q : Nat
  anchored : Bool
  tAnchor : Nat
  thru : Nat
  rint : List Nat
  v : Nat
  i : Int
  hist : List (Nat × Nat × Int)
  stepAt : Nat
  anchor : Option Anchor
  eoc : Option (Nat × Bool)
  eod : Option (Nat × Bool)
  tFull : Option Nat
  temp : BitVec 8
  retired : Bool
  learning : Bool
  sinceAnchor : Option (Nat × Nat)
  outOfTemp : Bool
  tLearned : Nat
  learnRetry : Nat
  learnDrawn : Nat
  quietSince : Nat
  authAt : Nat
  due : Bool
  ahead : Bool
  pendingSwap : Bool
  nonce : Option Nat
  deriving DecidableEq, Repr

def GStr.absent : GStr :=
  { present := false, silent := 0, auth := 0, attempts := 0, serial := 0, nameplate := 0, cells := 0, cap := 0,
    learned := false, q := 0, anchored := false, tAnchor := 0, thru := 0, rint := [], v := 0, i := 0,
    hist := [], stepAt := 0, anchor := none, eoc := none, eod := none, tFull := none, temp := 0, retired := false, learning := false, sinceAnchor := none, outOfTemp := false,
    tLearned := 0, learnRetry := 0, learnDrawn := 0, quietSince := 0, authAt := 0, due := false,
    ahead := false, pendingSwap := false, nonce := none }

/-- A gauge record entry in the SPI NOR (R246). -/
structure GaugeRec where
  serial : BitVec 128
  cap : Nat
  learned : Bool
  rint : Nat
  deriving DecidableEq, Repr

/-- A copy of the gauge record in the SPI NOR (R246): its number in the alternation, the entries by string, and its CRC-32C. -/
structure GaugeCopy where
  n : Nat
  recs : Tbl GaugeRec
  crc : Nat
  deriving DecidableEq, Repr

/-- The gauge (R231 to R257). loaded, nCfg and eRes are the values of R416; staged are the ENERGY values that the next update brings
into force, aonValues those taken at the start of the always-on domain. copy0 and copy1 are the gauge record (none: blank). updated is
the time of the last 100 us update and snap what the string registers, GAUGE_BATT_SUM and GAUGE_CAP were in it (R256). counted is the
mask of R85; quietAcSince is the last time a condition of AC_LOST held (R252); runCmd tells the GAUGE_CTRL command that runs: the
string of an AUTH, 8 for a CAP_TEST. -/
structure Gauge where
  loaded : Bool
  nCfg : Nat
  eRes : Nat
  staged : Option (List (Nat × Word))
  aonValues : Option (List (Nat × Word))
  strings : Tbl GStr
  copy0 : Option GaugeCopy
  copy1 : Option GaugeCopy
  updated : Option Nat
  snap : Tbl (Option Word)
  counted : BitVec 8
  acLost : Bool
  drawSince : Option Nat
  quietAcSince : Nat
  capReq : Bool
  released : Bool
  reserve : Bool
  learning : Option Nat
  hibernating : Bool
  sleepQuiet : Nat
  bank : Nat
  cTest : Option Nat
  capLow : Bool
  testing : Bool
  testStart : Nat
  testFrom : Nat
  tCapTest : Nat
  captures : Tbl (Option Word)
  runCmd : Option Nat
  deriving DecidableEq, Repr

/-- A windlass state (R261). -/
inductive FSt where
  | off | safe | test | sync | run | brake | fault
  deriving DecidableEq, Repr

/-- How far SYNC has come (R266, R267): the back-EMF measured with gates off, then duties matched to it; or, from rest, the alignment
since a time, then encoder commutation from the encoder's angle at its end. -/
inductive SyncStep where
  | measure
  | matched
  | align (since : Nat)
  | encoder (angle : BitVec 16)
  deriving DecidableEq, Repr

/-- The windlass (R258 to R278). Voltages in 10 mV, temperatures in 0.1 C. ocHit marks the sets whose gates an overcurrent trip holds
off for the rest of the PWM period; ocRun0 and ocRun1 count the consecutive periods with a trip (R270). syncAt is when the 20 ms of SYNC
began. pwmH and pwmL are the phases whose gate outputs FLY_PWM_H and FLY_PWM_L are not held low, gateEn is FLY_GATE_EN and dump
FLY_DUMP_EN (R259); gatesCut holds the gates off until the state changes. -/
structure Fly where
  st : FSt
  loaded : Bool
  cause : Nat
  phase : Nat
  tFault : Nat
  set0 : Bool
  set1 : Bool
  encFailed : Bool
  enc : Nat
  bemf : Nat
  used : Nat
  measured : Bool
  link : Nat
  peak : Nat
  ramp : Nat
  rampAt : Nat
  motoring : Bool
  generating : Bool
  release : Bool
  temps : List Int
  waitUntil : Option Nat
  syncFails : List Nat
  shuts : List Nat
  ocRun0 : Nat
  ocRun1 : Nat
  ocHit : BitVec 2
  dump : Bool
  sync : SyncStep
  syncAt : Nat
  gateEn : BitVec 2
  pwmH : BitVec 6
  pwmL : BitVec 6
  gatesCut : Bool
  deriving DecidableEq, Repr

/-- A rail (R282 to R284, R303): commanded on, power-good, running fault seen, target, last readings, and the end of the
window of R283. -/
structure Rail where
  on : Bool
  pg : Bool
  fault : Bool
  target : Nat
  vout : Nat
  status : Nat
  slewEnd : Option Nat
  deriving DecidableEq, Repr

def Rail.off : Rail := ⟨false, false, false, 0, 0, 0, none⟩

/-- What a running program waits for (R288). -/
inductive PWait where
  | none
  | time (until_ : Nat)
  | item (w : BitVec 32) (until_ : Nat)
  | cond (w : BitVec 32) (until_ : Nat)
  | seal
  deriving DecidableEq, Repr

/-- A program run (R288); rom: it runs the mask-ROM words (R290, R336). -/
structure Run where
  prog : Nat
  rom : Bool
  step : Nat
  c : Bool
  turnedOn : List (BitVec 32)
  wait : PWait
  afterClear : Bool
  deriving DecidableEq, Repr

/-- A sequencer section's tables (R285, R281, R291, R293): program words by 256 x program + step, rail entries, stretches in
ms, RESTART_HOLD in 10 ms units, PMBus rate in kHz, and TOW_CFG. -/
structure SeqSection where
  progs : Tbl (BitVec 32)
  rails : Tbl (Word × Word)
  stretch : Tbl Nat
  restartHold : Nat
  pmbusKhz : Nat
  tow : Word
  deriving DecidableEq, Repr

def SeqSection.empty : SeqSection := ⟨[], [], [], 0, 0, 0⟩

/-- The sequencer (R279 to R293). st is SEQ_STATUS.STATE. lowAt is when each reset output was last driven low; startOn are the domains
that the start's program 0 has left switched on (R418), lines those whose sources the keeper hears (R308), and discharging those switched
off that have not been seen off. downs are the items that a reverse shutdown or a reset still has to see off, the first of them in downWait
with its deadline, and downLatch tells that LATCHED follows (R288, R289, R292). -/
structure Seq where
  st : Nat
  run : Option Run
  sect : SeqSection
  staged : Option SeqSection
  loaded : Bool
  defaultProg : Bool
  sectionNew : Bool
  on : BitVec 24
  pg : BitVec 24
  rails : Tbl Rail
  en : BitVec 16
  pgPins : BitVec 16
  asserted : BitVec 16
  relPending : BitVec 16
  lowAt : Tbl Nat
  failRail : Nat
  failKind : Nat
  failTime : Nat
  timedEnd : Option Nat
  graceEnd : Option Nat
  busGood : Option Nat
  latchCleared : Bool
  tProg0 : Nat
  startOn : BitVec 24
  lines : BitVec 24
  discharging : BitVec 24
  downs : List (BitVec 32)
  downWait : Option (BitVec 32 × Nat)
  downLatch : Bool
  deriving DecidableEq, Repr

/-- A log record (R295). -/
structure LogRec where
  seq : BitVec 32
  kind : Nat
  source : Nat
  first : Bool
  detail : Nat
  t : Nat
  data : List Word
  deriving DecidableEq, Repr

/-- A 64-byte slot of the log area (R297): erased, torn, or a good record. -/
inductive LogCell where
  | erased
  | torn
  | good (r : LogRec)
  deriving DecidableEq, Repr

/-- The event log (R294 to R297, R303): the slots of the log area that are not erased, the queue, the next slot, and the
read-out registers. -/
structure Log where
  slots : Tbl LogCell
  queue : List LogRec
  nextSeq : BitVec 32
  head : Option (BitVec 32)
  slot : Nat
  dropped : Nat
  reading : Option (BitVec 32)
  rd : List Word
  deriving DecidableEq, Repr

/-- The towpath (R298 to R303). waiting holds the commands the master has still to send, head first; staggered marks the members that have
been sent START since program 0 last started. -/
structure Tow where
  addr : BitVec 3
  cycle : BitVec 8
  cmd : Nat
  mask : Byte
  cmdNo : Byte
  repeats : Nat
  waiting : List (Nat × Byte)
  lastNo : Option Byte
  members : Byte
  warn : Byte
  missed : Tbl Nat
  lost : Bool
  tBeacon : Option Nat
  started : Bool
  joinDone : Bool
  group : Bool
  staggered : Byte
  deriving DecidableEq, Repr

/-- A keeper source (R305, R309, R323): SEVERE or not, its line fault, the times of its counted transient events, the last
detail word, its three event counters, and whether an event of it is being handled. -/
structure Src where
  severe : Bool
  lineFault : Bool
  times : List Nat
  detail : BitVec 48
  trans : Nat
  sev : Nat
  merged : Nat
  items : List (BitVec 48)
  deriving DecidableEq, Repr

def Src.ok : Src := ⟨false, false, [], 0, 0, 0, 0, []⟩

/-- The keeper (R304 to R323). entries holds the section entries that differ from ABSENT; the mask-ROM defaults are used
while romDefaults is true. handling lists the items being handled, by source and detail, and whether a SHUTDOWN's grace is waited for (R315). reports is the model's own
field: the (source, severe, detail) events that blocks have raised in the present step and the keeper has yet to decide; it is
empty between steps. warnTill: WARN_OUT_N is released at the next refloat ready and not by ACK_WARN (R212, R313). -/
structure Keep where
  romDefaults : Bool
  entries : Tbl Word
  srcs : Tbl Src
  handling : List (Nat × BitVec 48 × Bool)
  reports : List (Nat × Bool × BitVec 48)
  firstSrc : Nat
  firstOutcome : Nat
  firstDetail : BitVec 48
  firstTime : Nat
  rootLost : Bool
  fatal : Bool
  stopped : Bool
  acked : Bool
  heldUntil : Option Nat
  fcmp : BitVec 16
  acmp : BitVec 8
  testMode : Bool
  fuseBlown : Bool
  warnTill : Bool
  deriving DecidableEq, Repr

/-- A copy of a slot record (R333): its fields, MAGIC and CRC among them. -/
structure SlotRec where
  magic : BitVec 32
  st : Nat
  rollback : Nat
  version : Nat
  length : Nat
  digest : Nat
  rseq : Nat
  crc : Nat
  deriving DecidableEq, Repr

/-- A slot of the SPI NOR: the image's bytes, and the two copies of its record (none: erased). -/
structure Slot where
  image : List Byte
  copy0 : Option SlotRec
  copy1 : Option SlotRec
  deriving DecidableEq, Repr

def Slot.blank : Slot := ⟨[], none, none⟩

/-- The configuration loader (R324 to R344). st is CFG_STATUS.STATE; fuses counts the rollback fuses blown since delivery and fuseTarget
is the counter that a confirmation still blows fuses for; checking tells the source of a load that a PUSH or LOAD_SLOT command runs;
writing and trialling are the slots of the WRITE_SLOT and SET_TRIAL that run; issuers holds the keys, x and y as one number. -/
structure Cfg where
  st : Nat
  source : Nat
  trial : Bool
  defaulted : Bool
  unsig : Bool
  reverted : Bool
  reason : Nat
  failSection : Nat
  failCheck : Nat
  slotA : Slot
  slotB : Slot
  pushUntil : Option Nat
  version : Nat
  rollback : Nat
  build : Nat
  sled : Nat
  digest : Nat
  fuses : Nat
  fuseTarget : Nat
  dramFail : BitVec 12
  dieFail : Nat
  railFail : Nat
  testPass : Bool
  testDone : Bool
  sealed : Bool
  writing : Option (Nat × List Byte)
  trialling : Option Nat
  checking : Option Nat
  issuers : List Nat
  deriving DecidableEq, Repr

/-- A feeder port's state (R355). -/
inductive PSt where
  | off | wake | up | retry | retired | member
  deriving DecidableEq, Repr

/-- A feeder port (R345 to R365). token 0 is no registered token; presented tells that the presentation since the last link event has
been used, tokenOk that it was accepted; unmasked lists the MSI-X vectors that are not masked; d3 and flr: in D3hot, in an
FLR; aer is the Uncorrectable Error Status of AER (R354), and mps, mrrs and tags10 are what the configuration space has programmed (R348). -/
structure Port where
  st : PSt
  mode : Nat
  epoch : BitVec 16
  stopping : Bool
  token : Word
  presented : Bool
  tokenOk : Bool
  linkUp : Bool
  bme : Bool
  msixEn : Bool
  fnMask : Bool
  unmasked : List Nat
  pendingVec : List Nat
  speed : Nat
  width : Nat
  retryEnd : Option Nat
  cause : Nat
  warn : Bool
  d3 : Bool
  flr : Bool
  aer : BitVec 32
  mps : Nat
  mrrs : Nat
  tags10 : Bool
  deriving DecidableEq, Repr

def Port.idle : Port :=
  { st := .off, mode := 0, epoch := 0, stopping := false, token := 0, presented := false, tokenOk := false, linkUp := false,
    bme := false, msixEn := false, fnMask := true, unmasked := [], pendingVec := [], speed := 0, width := 0, retryEnd := none,
    cause := 0, warn := false, d3 := false, flr := false, aer := 0, mps := 128, mrrs := 512, tags10 := false }

/-- The lock cycle's target (R360 to R363). -/
structure Lock where
  epoch : BitVec 16
  mode : Nat
  valid : Bool
  frozen : Bool
  deriving DecidableEq, Repr

/-- Who asked for a key engine operation (R386, R388). -/
inductive PUser where
  | rack | loader | gauge
  deriving DecidableEq, Repr

/-- A key engine operation queued or running (R386). -/
structure POp where
  who : PUser
  op : Nat
  gen : Bool
  tStart : Nat
  block : List Byte
  deriving DecidableEq, Repr

/-- The random bit generator (R394): SP 800-90A Hash_DRBG values, requests since the last seeding, seedings so far. -/
structure Drbg where
  v : BitVec 440
  c : BitVec 440
  requests : Nat
  seeds : Nat
  deriving DecidableEq, Repr

/-- The key engine (R385 to R399). queue holds what waits, head first; cur runs. -/
structure Pke where
  cur : Option POp
  queue : List POp
  issue : BitVec 16
  rDone : Bool
  rTicket : BitVec 16
  rStatus : Nat
  rValid : Bool
  rx : Nat
  ry : Nat
  rTime : Nat
  drbg : Drbg
  failing : Bool
  deriving DecidableEq, Repr

/-- Clocks and resets (R400 to R404, R413). -/
structure Clk where
  aon : Bool
  rootOk : Bool
  holdover : Bool
  supLock : Bool
  aLock : Bool
  bLock : Bool
  mainSel : Bool
  ddrDiv : Nat
  flDiv : Nat
  cause : Nat
  deriving DecidableEq, Repr

/-- The management port's function (R366 to R368, R380): link, Bus Master Enable, MSI-X enabled, vectors masked, messages
due, pending bits. held are the accesses that wait behind a berth command, in arrival order, each with whether no sluice had been triggered
when it was accepted (R34, R81, R375); honoured: the access that runs now had been accepted so; fencing is the berth command that waits for
descriptors in flight: its opcode and its berth (R80). -/
structure Mgmt where
  link : Bool
  bme : Bool
  msixEn : Bool
  d3 : Bool
  masked : Byte
  due : Byte
  pend : Byte
  msixTable : Tbl Word
  held : List (Instr × Bool)
  honoured : Bool
  fencing : Option (Nat × Nat)
  deriving DecidableEq, Repr

/-- Pins and outputs of the power side (R405, R407): true is asserted. -/
structure Pins where
  warn : Bool
  capTest : Bool
  charger : Bool
  deriving DecidableEq, Repr

/-- The whole device. now is the CK_AON time base; free counts the free values drawn (the model's own field); regs is the
register file of stored fields, by BAR0 offset; enginesOut marks the berth engines retired (R25, R305); pending is the queue of
commands that wait. -/
structure State where
  now : Nat
  free : Nat
  pending : List Instr
  regs : Tbl Word
  cmds : Tbl CmdSt
  out : List Out
  berths : Tbl Berth
  ports : Tbl Port
  lock : Lock
  weir : Weir
  sluice : Sluice
  refloat : Refloat
  drc : Drc
  fmm : Fmm
  chart : Chart
  gauge : Gauge
  fly : Fly
  seq : Seq
  log : Log
  tow : Tow
  keep : Keep
  cfg : Cfg
  pke : Pke
  clk : Clk
  mgmt : Mgmt
  pins : Pins
  enginesOut : BitVec 64
  deriving DecidableEq, Repr

/-- Why a command stops with a fault. Safe: nothing more is proved of the run. -/
inductive Fault where
  /-- Raised where a command's operands are ones that no access, link or medium can bring (WellFormed refuses them): a payload
  longer than the PUT's LENGTH, a sample list that is not one sample per string. Safe. -/
  | malformedCommand
  deriving DecidableEq, Repr

/-- Why a command is refused. -/
inductive Refusal where
  /-- Raised by the dispatch for a row that has no meaning yet. Safe. -/
  | notModelled (mnemonic : String)
  deriving DecidableEq, Repr

/-- The supervisor die's power-on reset, with a blank SPI NOR and a blank basin: every register at the reset value of its
table, every domain off, every pin in its standby state (R40, R107, R261, R279, R303, R323, R344, R372, R405, R407). -/
def State.reset : State :=
  { now := 0, free := 0, pending := [], regs := [], cmds := [], out := [], berths := [], ports := [],
    lock := ⟨0, 0, false, false⟩,
    weir :=
      { st := .shut, capRaw := 0, capDer := 0, flyRaw := 0, flyDer := 0, shares := [], battRaw := 0, rs := 0, bPound := 0,
        qSingle := 0, budget := ⟨0, 0, 0⟩,
        window := [], tripCap := .clear, tripFly := .clear, tripStr := [], floorShort := false, spillOn := false,
        spillLatch := false, spillFull := false, spilled := [], tokens := 0, tokensAt := 0 },
    sluice :=
      { phase := 0, flush := 0, first := 0, mask := 0, tTrigger := 0, early := false, heldReset := none, warned := false, torn := false,
        programDone := false, openWritten := false },
    refloat :=
      { stage := 0, kase := 0, lastFirst := 0, runId := 0, survivors := 0, truncated := 0, tStart := 0, readyMs := 0,
        verifiedSb := 0, lost := 0, opened := false, loaded := none },
    drc :=
      { chans := [], remirror := false, singleCtl := false, coupled := 0, rotor := 0, heads := [], moving := [], evac := [],
        homes := [], turn := false, flips := [], nextReq := 0, sched := [], probedAt := 0, probeLines := [], delays := [] },
    fmm :=
      { chans := [], lostDies := [], rows := [], laid := [], segs := [], manifests := [], blocks := [], sbs := [],
        barges := [], pages := [], asm := [], nextBarge := 0, bseq := 0, ckptSeq := 0, pageSeq := 0, closedSince := 0,
        tCkpt := 0, rotor := 0, coll := [], fg := 0, bg := 0, produced := 0, paceLeft := 0, ingress := 0, ingressLast := 0, level := 0, reserveOut := false,
        endOfLife := false, lifeShort := false, spillBytes := 0, flashBytes := 0, runDays := 0, ecSum := 0, days := [],
        lifeDays := 0, safeRate := 0, wRatio := 0, rE := 0, failed := [],
        san :=
          { st := 0, result := 0, unerased := 0, doneBlocks := 0, total := 0, marker := 0, mStart := 0, mStep := 0,
            mProgress := [], mBseq := 0, mCkpt := 0, mPage := 0, mRun := 0, wearSbs := [], failed := [], wear := [], wSpill := 0, wFlash := 0,
            gens := [], turn := [], copy0 := none, copy1 := none } },
    chart := ⟨0, 0, 0⟩,
    gauge :=
      { loaded := false, nCfg := 0, eRes := 0, staged := none, aonValues := none, strings := [], copy0 := none, copy1 := none,
        updated := none, snap := [], counted := 0, acLost := false, drawSince := none,
        quietAcSince := 0, capReq := true, released := false, reserve := false, learning := none, hibernating := false,
        sleepQuiet := 0, bank := 0, cTest := none, capLow := false, testing := false, testStart := 0, testFrom := 0,
        tCapTest := 0, captures := [], runCmd := none },
    fly :=
      { st := .off, loaded := false, cause := 0, phase := 0, tFault := 0, set0 := false, set1 := false, encFailed := false,
        enc := 0, bemf := 0, used := 0, measured := false, link := 0, peak := 0, ramp := 0, rampAt := 0, motoring := false,
        generating := false, release := false, temps := [0, 0, 0, 0], waitUntil := none, syncFails := [],
        shuts := [], ocRun0 := 0, ocRun1 := 0, ocHit := 0, dump := false, sync := .measure, syncAt := 0, gateEn := 0, pwmH := 0,
        pwmL := 0, gatesCut := false },
    seq :=
      { st := 0, run := none, sect := SeqSection.empty, staged := none, loaded := false, defaultProg := false,
        sectionNew := false, on := 0, pg := 0, rails := [], en := 0, pgPins := 0, asserted := 0xFFFF, relPending := 0,
        lowAt := [], failRail := 0xFF, failKind := 0, failTime := 0, timedEnd := none, graceEnd := none, busGood := none,
        latchCleared := false, tProg0 := 0, startOn := 0, lines := 0, discharging := 0, downs := [],
        downWait := none, downLatch := false },
    log :=
      { slots := [], queue := [], nextSeq := 0, head := none, slot := 0, dropped := 0, reading := none,
        rd := [0, 0, 0, 0, 0, 0, 0, 0] },
    tow :=
      { addr := 0, cycle := 0, cmd := 0, mask := 0, cmdNo := 0, repeats := 0, waiting := [], lastNo := none, members := 0, warn := 0,
        missed := [], lost := false, tBeacon := none, started := false, joinDone := false, group := false, staggered := 0 },
    keep :=
      { romDefaults := true, entries := [], srcs := [], handling := [], reports := [], firstSrc := 0xFFF, firstOutcome := 0,
        firstDetail := 0, firstTime := 0, rootLost := false, fatal := false, stopped := true, acked := true,
        heldUntil := none, fcmp := 0, acmp := 0, testMode := false, fuseBlown := true, warnTill := true },
    cfg :=
      { st := 0, source := 0, trial := false, defaulted := false, unsig := false, reverted := false, reason := 0,
        failSection := 0, failCheck := 0, slotA := Slot.blank, slotB := Slot.blank, pushUntil := none, version := 0,
        rollback := 0, build := 0, sled := 0, digest := 0, fuses := 0, fuseTarget := 0, dramFail := 0, dieFail := 0,
        railFail := 0, testPass := false, testDone := false, sealed := false, writing := none, trialling := none,
        checking := none, issuers := [] },
    pke :=
      { cur := none, queue := [], issue := 0, rDone := false, rTicket := 0, rStatus := 0, rValid := false, rx := 0, ry := 0,
        rTime := 0, drbg := ⟨0, 0, 0, 0⟩, failing := false },
    clk :=
      { aon := false, rootOk := false, holdover := false, supLock := false, aLock := false, bLock := false,
        mainSel := false, ddrDiv := 0, flDiv := 0, cause := 0 },
    mgmt :=
      { link := false, bme := false, msixEn := false, d3 := false, masked := 0xFF, due := 0, pend := 0, msixTable := [],
        held := [], honoured := false, fencing := none },
    pins := ⟨true, false, true⟩, enginesOut := 0 }

/-- The word of a stored register. -/
def State.reg (s : State) (off : Nat) : Word := tget 0 s.regs off

/-- A berth by its ID; an unlisted berth is FREE with generation 0. -/
def State.berth (s : State) (i : Nat) : Berth := tget Berth.none s.berths i

/-- A port by its number. -/
def State.port (s : State) (p : Nat) : Port := tget Port.idle s.ports p

/-- A result of a meaning. -/
abbrev Res := Host.Outcome State Fault Refusal

end Sys2Proof.Machine
end

