-- ==== Sys2Proof/Machine/Fields.lean ====
section
/-! DEFINITION. The named fields of the registers that hold stored values: the RWL fields that the structure image loads (R324,
R328) and the RW fields that the rack manager writes. Each is the field's bits in the register file, as a number. -/

namespace Sys2Proof.Machine

def State.GLB_IRQ_ENABLE_EVENT (s : State) : Nat := fld (s.reg offGLB_IRQ_ENABLE) 7 0
def State.CFG_HOST_ADDR_ADDR (s : State) : Nat := fld (s.reg offCFG_HOST_ADDR) 63 12
def State.CFG_HOST_LEN_LEN (s : State) : Nat := fld (s.reg offCFG_HOST_LEN) 24 0
def State.CFG_ST_CFG_CONFIRM_WIN (s : State) : Nat := fld (s.reg offCFG_ST_CFG) 63 48
def State.CFG_ST_CFG_DRAM_ALLOW (s : State) : Nat := fld (s.reg offCFG_ST_CFG) 47 40
def State.CFG_ST_CFG_DIE_ALLOW (s : State) : Nat := fld (s.reg offCFG_ST_CFG) 39 24
def State.CFG_ST_CFG_RAIL_TOL (s : State) : Nat := fld (s.reg offCFG_ST_CFG) 23 16
def State.CFG_DIE_ID_ID (s : State) : Nat := fld (s.reg offCFG_DIE_ID) 47 0
def State.SEQ_RAIL_SEL_RAIL (s : State) : Nat := fld (s.reg offSEQ_RAIL_SEL) 5 0
def State.SEQ_RAIL_CMD_VOUT (s : State) : Nat := fld (s.reg offSEQ_RAIL_CMD) 15 0
def State.SEQ_STEP_SEL_PROG (s : State) : Nat := fld (s.reg offSEQ_STEP_SEL) 9 8
def State.SEQ_STEP_SEL_STEP (s : State) : Nat := fld (s.reg offSEQ_STEP_SEL) 7 0
def State.KEEP_SRC_SEL_SRC (s : State) : Nat := fld (s.reg offKEEP_SRC_SEL) 11 0
def State.KEEP_CFG_GRACE (s : State) : Nat := fld (s.reg offKEEP_CFG) 63 48
def State.KEEP_FCMP_FUNC (s : State) (i : Nat) : Nat := fld (s.reg (offKEEP_FCMP + 0x8 * i)) 63 60
def State.KEEP_FCMP_INDEX (s : State) (i : Nat) : Nat := fld (s.reg (offKEEP_FCMP + 0x8 * i)) 59 54
def State.KEEP_FCMP_BELOW (s : State) (i : Nat) : Nat := fld (s.reg (offKEEP_FCMP + 0x8 * i)) 53 53
def State.KEEP_FCMP_THRESH (s : State) (i : Nat) : Nat := fld (s.reg (offKEEP_FCMP + 0x8 * i)) 39 28
def State.KEEP_FCMP_HYST (s : State) (i : Nat) : Nat := fld (s.reg (offKEEP_FCMP + 0x8 * i)) 27 16
def State.KEEP_FCMP_FILTER (s : State) (i : Nat) : Nat := fld (s.reg (offKEEP_FCMP + 0x8 * i)) 15 0
def State.KEEP_ACMP_FUNC (s : State) (i : Nat) : Nat := fld (s.reg (offKEEP_ACMP + 0x8 * i)) 63 60
def State.KEEP_ACMP_INDEX (s : State) (i : Nat) : Nat := fld (s.reg (offKEEP_ACMP + 0x8 * i)) 59 54
def State.KEEP_ACMP_BELOW (s : State) (i : Nat) : Nat := fld (s.reg (offKEEP_ACMP + 0x8 * i)) 53 53
def State.KEEP_ACMP_THRESH (s : State) (i : Nat) : Nat := fld (s.reg (offKEEP_ACMP + 0x8 * i)) 39 28
def State.KEEP_ACMP_HYST (s : State) (i : Nat) : Nat := fld (s.reg (offKEEP_ACMP + 0x8 * i)) 27 16
def State.KEEP_ACMP_FILTER (s : State) (i : Nat) : Nat := fld (s.reg (offKEEP_ACMP + 0x8 * i)) 15 0
def State.WEIR_CTRL_SHUT (s : State) : Nat := fld (s.reg offWEIR_CTRL) 0 0
def State.WEIR_MODEL0_ECTL (s : State) : Nat := fld (s.reg offWEIR_MODEL0) 63 32
def State.WEIR_MODEL0_EB (s : State) : Nat := fld (s.reg offWEIR_MODEL0) 15 0
def State.WEIR_MODEL1_PIDLE (s : State) : Nat := fld (s.reg offWEIR_MODEL1) 63 32
def State.WEIR_MODEL1_TFIX (s : State) : Nat := fld (s.reg offWEIR_MODEL1) 31 0
def State.WEIR_MODEL2_RS (s : State) : Nat := fld (s.reg offWEIR_MODEL2) 31 0
def State.WEIR_DERATE_U_FLY (s : State) : Nat := fld (s.reg offWEIR_DERATE) 63 48
def State.WEIR_DERATE_ETA_FLY (s : State) : Nat := fld (s.reg offWEIR_DERATE) 47 32
def State.WEIR_DERATE_U_CAP (s : State) : Nat := fld (s.reg offWEIR_DERATE) 31 16
def State.WEIR_DERATE_ETA_CAP (s : State) : Nat := fld (s.reg offWEIR_DERATE) 15 0
def State.WEIR_BATT_E_RES (s : State) : Nat := fld (s.reg offWEIR_BATT) 63 32
def State.WEIR_BATT_ETA_BATT (s : State) : Nat := fld (s.reg offWEIR_BATT) 31 16
def State.WEIR_BATT_INDEP (s : State) : Nat := fld (s.reg offWEIR_BATT) 12 12
def State.WEIR_BATT_N_CFG (s : State) : Nat := fld (s.reg offWEIR_BATT) 11 8
def State.WEIR_FLOOR_MAX_VALUE (s : State) : Nat := fld (s.reg offWEIR_FLOOR_MAX) 39 0
def State.WEIR_LEVELS_GUARD (s : State) : Nat := fld (s.reg offWEIR_LEVELS) 63 56
def State.WEIR_LEVELS_SPILL_THR (s : State) : Nat := fld (s.reg offWEIR_LEVELS) 55 48
def State.WEIR_LEVELS_SPILL_LOW (s : State) : Nat := fld (s.reg offWEIR_LEVELS) 47 40
def State.WEIR_LEVELS_REOPEN (s : State) : Nat := fld (s.reg offWEIR_LEVELS) 39 32
def State.WEIR_LEVELS_LIM3 (s : State) : Nat := fld (s.reg offWEIR_LEVELS) 31 24
def State.WEIR_LEVELS_LIM2 (s : State) : Nat := fld (s.reg offWEIR_LEVELS) 23 16
def State.WEIR_LEVELS_LIM1 (s : State) : Nat := fld (s.reg offWEIR_LEVELS) 15 8
def State.WEIR_LEVELS_LIM0 (s : State) : Nat := fld (s.reg offWEIR_LEVELS) 7 0
def State.WEIR_TIMING_QUANT (s : State) : Nat := fld (s.reg offWEIR_TIMING) 63 48
def State.WEIR_TIMING_RISE_HOLD (s : State) : Nat := fld (s.reg offWEIR_TIMING) 47 32
def State.WEIR_TIMING_SPILL_CEIL (s : State) : Nat := fld (s.reg offWEIR_TIMING) 31 0
def State.WEIR_RESIDENCE_LIM3 (s : State) : Nat := fld (s.reg offWEIR_RESIDENCE) 63 48
def State.WEIR_RESIDENCE_LIM2 (s : State) : Nat := fld (s.reg offWEIR_RESIDENCE) 47 32
def State.WEIR_RESIDENCE_LIM1 (s : State) : Nat := fld (s.reg offWEIR_RESIDENCE) 31 16
def State.WEIR_RESIDENCE_LIM0 (s : State) : Nat := fld (s.reg offWEIR_RESIDENCE) 15 0
def State.WEIR_INGRESS_BURST (s : State) : Nat := fld (s.reg offWEIR_INGRESS) 47 32
def State.WEIR_INGRESS_RATE (s : State) : Nat := fld (s.reg offWEIR_INGRESS) 31 0
def State.WEIR_SLUICE_CFG_DRAIN_LIMIT (s : State) : Nat := fld (s.reg offWEIR_SLUICE_CFG) 63 48
def State.WEIR_SLUICE_CFG_RESTART_HOLD (s : State) : Nat := fld (s.reg offWEIR_SLUICE_CFG) 47 32
def State.GAUGE_CFG_CELL_CELLS (s : State) : Nat := fld (s.reg offGAUGE_CFG_CELL) 63 56
def State.GAUGE_CFG_CELL_V_EOC (s : State) : Nat := fld (s.reg offGAUGE_CFG_CELL) 47 32
def State.GAUGE_CFG_CELL_V_EOD (s : State) : Nat := fld (s.reg offGAUGE_CFG_CELL) 31 16
def State.GAUGE_CFG_CELL_V_AVG (s : State) : Nat := fld (s.reg offGAUGE_CFG_CELL) 15 0
def State.GAUGE_CFG_CURR_I_TAPER (s : State) : Nat := fld (s.reg offGAUGE_CFG_CURR) 63 48
def State.GAUGE_CFG_CURR_T_TAPER (s : State) : Nat := fld (s.reg offGAUGE_CFG_CURR) 47 32
def State.GAUGE_CFG_CURR_I_WAKE (s : State) : Nat := fld (s.reg offGAUGE_CFG_CURR) 31 16
def State.GAUGE_CFG_CURR_LEARN_I (s : State) : Nat := fld (s.reg offGAUGE_CFG_CURR) 15 8
def State.GAUGE_CFG_CURR_ACLOSS_I (s : State) : Nat := fld (s.reg offGAUGE_CFG_CURR) 7 0
def State.GAUGE_CFG_UNC_U0 (s : State) : Nat := fld (s.reg offGAUGE_CFG_UNC) 63 52
def State.GAUGE_CFG_UNC_U_LEARNED (s : State) : Nat := fld (s.reg offGAUGE_CFG_UNC) 51 40
def State.GAUGE_CFG_UNC_U_NAMEPLATE (s : State) : Nat := fld (s.reg offGAUGE_CFG_UNC) 39 28
def State.GAUGE_CFG_UNC_U_TIME (s : State) : Nat := fld (s.reg offGAUGE_CFG_UNC) 27 12
def State.GAUGE_CFG_UNC_U_THRU (s : State) : Nat := fld (s.reg offGAUGE_CFG_UNC) 11 0
def State.GAUGE_CFG_RINT_R_NOM (s : State) : Nat := fld (s.reg offGAUGE_CFG_RINT) 63 48
def State.GAUGE_CFG_RINT_R_MIN (s : State) : Nat := fld (s.reg offGAUGE_CFG_RINT) 47 32
def State.GAUGE_CFG_RINT_R_MAX (s : State) : Nat := fld (s.reg offGAUGE_CFG_RINT) 31 16
def State.GAUGE_CFG_RINT_STEP_I (s : State) : Nat := fld (s.reg offGAUGE_CFG_RINT) 15 0
def State.GAUGE_CFG_LEARN_LEARN_DAYS (s : State) : Nat := fld (s.reg offGAUGE_CFG_LEARN) 63 48
def State.GAUGE_CFG_LEARN_T_MIN (s : State) : Nat := fld (s.reg offGAUGE_CFG_LEARN) 47 40
def State.GAUGE_CFG_LEARN_T_MAX (s : State) : Nat := fld (s.reg offGAUGE_CFG_LEARN) 39 32
def State.GAUGE_CFG_LEARN_PMBUS_CMD (s : State) : Nat := fld (s.reg offGAUGE_CFG_LEARN) 31 24
def State.GAUGE_CFG_LEARN_HIB_DELAY (s : State) : Nat := fld (s.reg offGAUGE_CFG_LEARN) 23 8
def State.GAUGE_CFG_LEARN_SMB_FAST (s : State) : Nat := fld (s.reg offGAUGE_CFG_LEARN) 0 0
def State.GAUGE_CFG_CAP0_C_NOM (s : State) : Nat := fld (s.reg offGAUGE_CFG_CAP0) 63 48
def State.GAUGE_CFG_CAP0_C_LOW (s : State) : Nat := fld (s.reg offGAUGE_CFG_CAP0) 47 32
def State.GAUGE_CFG_CAP0_V_FULL (s : State) : Nat := fld (s.reg offGAUGE_CFG_CAP0) 31 16
def State.GAUGE_CFG_CAP0_V_MIN (s : State) : Nat := fld (s.reg offGAUGE_CFG_CAP0) 15 0
def State.GAUGE_CFG_CAP1_DV_TEST (s : State) : Nat := fld (s.reg offGAUGE_CFG_CAP1) 63 48
def State.GAUGE_CFG_CAP1_CAP_PERIOD (s : State) : Nat := fld (s.reg offGAUGE_CFG_CAP1) 47 32
def State.GAUGE_CFG_CAP1_TEST_I (s : State) : Nat := fld (s.reg offGAUGE_CFG_CAP1) 31 16
def State.GAUGE_CFG_CAP1_NAMEPLATE (s : State) : Nat := fld (s.reg offGAUGE_CFG_CAP1) 15 0
def State.GAUGE_CFG_RIDE_RIDE_MARGIN (s : State) : Nat := fld (s.reg offGAUGE_CFG_RIDE) 63 32
def State.GAUGE_CFG_RIDE_HYST (s : State) : Nat := fld (s.reg offGAUGE_CFG_RIDE) 31 0
def State.FLY_CTRL_HOLD (s : State) : Nat := fld (s.reg offFLY_CTRL) 0 0
def State.FLY_LINK_TARGET (s : State) : Nat := fld (s.reg offFLY_LINK) 63 48
def State.FLY_CFG0_PHASES (s : State) : Nat := fld (s.reg offFLY_CFG0) 63 60
def State.FLY_CFG0_POLE_PAIRS (s : State) : Nat := fld (s.reg offFLY_CFG0) 59 56
def State.FLY_CFG0_PWM (s : State) : Nat := fld (s.reg offFLY_CFG0) 55 48
def State.FLY_CFG0_DEAD (s : State) : Nat := fld (s.reg offFLY_CFG0) 47 36
def State.FLY_CFG0_INERTIA (s : State) : Nat := fld (s.reg offFLY_CFG0) 31 0
def State.FLY_CFG1_SPEED_MAX (s : State) : Nat := fld (s.reg offFLY_CFG1) 63 48
def State.FLY_CFG1_SPEED_MIN_E (s : State) : Nat := fld (s.reg offFLY_CFG1) 47 32
def State.FLY_CFG1_OVERSPEED (s : State) : Nat := fld (s.reg offFLY_CFG1) 31 16
def State.FLY_CFG1_BEMF_MIN (s : State) : Nat := fld (s.reg offFLY_CFG1) 15 0
def State.FLY_CFG2_KE (s : State) : Nat := fld (s.reg offFLY_CFG2) 63 48
def State.FLY_CFG2_ENC_LINES (s : State) : Nat := fld (s.reg offFLY_CFG2) 47 32
def State.FLY_CFG2_SPD_TOL (s : State) : Nat := fld (s.reg offFLY_CFG2) 31 16
def State.FLY_CFG2_P_SLUICE (s : State) : Nat := fld (s.reg offFLY_CFG2) 15 0
def State.FLY_CFG3_P_MOT (s : State) : Nat := fld (s.reg offFLY_CFG3) 63 48
def State.FLY_CFG3_P_GEN_SET (s : State) : Nat := fld (s.reg offFLY_CFG3) 47 32
def State.FLY_CFG3_OC_LIM (s : State) : Nat := fld (s.reg offFLY_CFG3) 31 24
def State.FLY_CFG3_SYNC_I (s : State) : Nat := fld (s.reg offFLY_CFG3) 23 16
def State.FLY_CFG3_TEST_I (s : State) : Nat := fld (s.reg offFLY_CFG3) 15 8
def State.FLY_CFG3_TRIM_MAX (s : State) : Nat := fld (s.reg offFLY_CFG3) 7 0
def State.FLY_CFG4_LINK_TGT (s : State) : Nat := fld (s.reg offFLY_CFG4) 63 48
def State.FLY_CFG4_LINK_MIN (s : State) : Nat := fld (s.reg offFLY_CFG4) 47 32
def State.FLY_CFG4_LINK_OV (s : State) : Nat := fld (s.reg offFLY_CFG4) 31 16
def State.FLY_CFG4_IMB_FAULT (s : State) : Nat := fld (s.reg offFLY_CFG4) 15 0
def State.FLY_CFG5_GEN_BAND (s : State) : Nat := fld (s.reg offFLY_CFG5) 63 56
def State.FLY_CFG5_REL_V (s : State) : Nat := fld (s.reg offFLY_CFG5) 55 48
def State.FLY_CFG5_SLEW (s : State) : Nat := fld (s.reg offFLY_CFG5) 47 40
def State.FLY_CFG5_T_WARN (s : State) : Nat := fld (s.reg offFLY_CFG5) 31 24
def State.FLY_CFG5_T_SHUT (s : State) : Nat := fld (s.reg offFLY_CFG5) 23 16
def State.FLY_CFG5_T_HYST (s : State) : Nat := fld (s.reg offFLY_CFG5) 15 8
def State.FLY_CFG5_SLUICE_MARGIN (s : State) : Nat := fld (s.reg offFLY_CFG5) 7 0
def State.DRC_LAYOUT0_SPEED (s : State) : Nat := fld (s.reg offDRC_LAYOUT0) 63 60
def State.DRC_LAYOUT0_DIMMS (s : State) : Nat := fld (s.reg offDRC_LAYOUT0) 59 58
def State.DRC_LAYOUT0_RANKS (s : State) : Nat := fld (s.reg offDRC_LAYOUT0) 57 56
def State.DRC_LAYOUT0_DIMM_GIB (s : State) : Nat := fld (s.reg offDRC_LAYOUT0) 55 48
def State.DRC_LAYOUT0_CTL (s : State) : Nat := fld (s.reg offDRC_LAYOUT0) 31 16
def State.DRC_LAYOUT0_WORK (s : State) : Nat := fld (s.reg offDRC_LAYOUT0) 15 0
def State.DRC_LAYOUT1_CH_RATE (s : State) : Nat := fld (s.reg offDRC_LAYOUT1) 63 32
def State.DRC_LAYOUT1_COMPACT_LOW (s : State) : Nat := fld (s.reg offDRC_LAYOUT1) 31 16
def State.DRC_POUND_DECL (s : State) : Nat := fld (s.reg offDRC_POUND) 39 0
def State.DRC_LAT0_SPILL (s : State) : Nat := fld (s.reg offDRC_LAT0) 63 48
def State.DRC_LAT0_SLUICE (s : State) : Nat := fld (s.reg offDRC_LAT0) 47 32
def State.DRC_LAT0_CONTROL (s : State) : Nat := fld (s.reg offDRC_LAT0) 31 16
def State.DRC_LAT0_BERTH (s : State) : Nat := fld (s.reg offDRC_LAT0) 15 0
def State.DRC_LAT1_COMPACT (s : State) : Nat := fld (s.reg offDRC_LAT1) 47 32
def State.DRC_LAT1_REFLOAT (s : State) : Nat := fld (s.reg offDRC_LAT1) 31 16
def State.DRC_LAT1_BARGE (s : State) : Nat := fld (s.reg offDRC_LAT1) 15 0
def State.DRC_URGENCY_STEP3 (s : State) : Nat := fld (s.reg offDRC_URGENCY) 23 16
def State.DRC_URGENCY_STEP2 (s : State) : Nat := fld (s.reg offDRC_URGENCY) 15 8
def State.DRC_URGENCY_STEP1 (s : State) : Nat := fld (s.reg offDRC_URGENCY) 7 0
def State.DRC_PROBE_PERIOD (s : State) : Nat := fld (s.reg offDRC_PROBE) 15 0
def State.DRC_DLY_SEL_CH (s : State) : Nat := fld (s.reg offDRC_DLY_SEL) 15 12
def State.DRC_DLY_SEL_LANE (s : State) : Nat := fld (s.reg offDRC_DLY_SEL) 11 4
def State.DRC_DLY_SEL_KIND (s : State) : Nat := fld (s.reg offDRC_DLY_SEL) 3 0
def State.DRC_SHARE_SHARE (s : State) (i : Nat) : Nat := fld (s.reg (offDRC_SHARE + 0x8 * i)) 39 0
def State.FMM_CTRL_WL_PAUSE (s : State) : Nat := fld (s.reg offFMM_CTRL) 1 1
def State.FMM_CTRL_BG_PAUSE (s : State) : Nat := fld (s.reg offFMM_CTRL) 0 0
def State.FMM_GEOM0_CHANNELS (s : State) : Nat := fld (s.reg offFMM_GEOM0) 63 56
def State.FMM_GEOM0_TARGETS (s : State) : Nat := fld (s.reg offFMM_GEOM0) 55 48
def State.FMM_GEOM0_BLOCKS (s : State) : Nat := fld (s.reg offFMM_GEOM0) 47 32
def State.FMM_GEOM0_RATE (s : State) : Nat := fld (s.reg offFMM_GEOM0) 31 28
def State.FMM_GEOM0_RATED_EC (s : State) : Nat := fld (s.reg offFMM_GEOM0) 19 0
def State.FMM_GEOM1_TPROG (s : State) : Nat := fld (s.reg offFMM_GEOM1) 63 48
def State.FMM_GEOM1_TBERS (s : State) : Nat := fld (s.reg offFMM_GEOM1) 47 32
def State.FMM_GEOM1_BARGE_WAIT (s : State) : Nat := fld (s.reg offFMM_GEOM1) 31 16
def State.FMM_GEOM1_OPEN_MAX (s : State) : Nat := fld (s.reg offFMM_GEOM1) 15 8
def State.FMM_GEOM1_VERIFY_BITS (s : State) : Nat := fld (s.reg offFMM_GEOM1) 7 0
def State.FMM_JOURNAL_CTL_AREA (s : State) : Nat := fld (s.reg offFMM_JOURNAL) 63 32
def State.FMM_JOURNAL_BARGES (s : State) : Nat := fld (s.reg offFMM_JOURNAL) 31 0
def State.FMM_RESERVE_SB_RES (s : State) : Nat := fld (s.reg offFMM_RESERVE) 63 48
def State.FMM_RESERVE_SLUICE_CTL (s : State) : Nat := fld (s.reg offFMM_RESERVE) 47 32
def State.FMM_RESERVE_RETIRE_RES (s : State) : Nat := fld (s.reg offFMM_RESERVE) 31 0
def State.FMM_GC_GC_HIGH (s : State) : Nat := fld (s.reg offFMM_GC) 63 48
def State.FMM_GC_GC_LOW (s : State) : Nat := fld (s.reg offFMM_GC) 47 32
def State.FMM_GC_FG_PACE (s : State) : Nat := fld (s.reg offFMM_GC) 31 24
def State.FMM_GC_BG_IDLE (s : State) : Nat := fld (s.reg offFMM_GC) 23 16
def State.FMM_GC_BG_RATE (s : State) : Nat := fld (s.reg offFMM_GC) 15 0
def State.FMM_WEAR_ERASE_LIMIT (s : State) : Nat := fld (s.reg offFMM_WEAR) 63 44
def State.FMM_WEAR_WL_SPREAD (s : State) : Nat := fld (s.reg offFMM_WEAR) 31 16
def State.FMM_WEAR_WL_RATE (s : State) : Nat := fld (s.reg offFMM_WEAR) 15 0
def State.FMM_LIFE_CFG_TARGET_DAYS (s : State) : Nat := fld (s.reg offFMM_LIFE_CFG) 63 48
def State.FMM_LIFE_CFG_WINDOW (s : State) : Nat := fld (s.reg offFMM_LIFE_CFG) 47 32
def State.FMM_RETRY0_OFFSETS (s : State) : Nat := fld (s.reg offFMM_RETRY0) 63 0
def State.FMM_RETRY1_SOFT (s : State) : Nat := fld (s.reg offFMM_RETRY1) 23 0
def State.FMM_PSLC_PREFIX (s : State) : Nat := fld (s.reg offFMM_PSLC) 63 56
def State.FMM_PSLC_FEAT_ADDR (s : State) : Nat := fld (s.reg offFMM_PSLC) 55 48
def State.FMM_PSLC_FEAT_VAL (s : State) : Nat := fld (s.reg offFMM_PSLC) 47 40
def State.FMM_PSLC_BB_PAGE (s : State) : Nat := fld (s.reg offFMM_PSLC) 39 32
def State.FMM_BLK_SEL_DIE (s : State) : Nat := fld (s.reg offFMM_BLK_SEL) 22 12
def State.FMM_BLK_SEL_BLOCK (s : State) : Nat := fld (s.reg offFMM_BLK_SEL) 11 0
def State.PKE_OP_WORD (s : State) (i : Nat) : Nat := fld (s.reg (offPKE_OP + 0x8 * i)) 63 0
def State.TOW_CFG_STAGGER (s : State) : Nat := fld (s.reg offTOW_CFG) 63 56
def State.TOW_CFG_EXPECT (s : State) : Nat := fld (s.reg offTOW_CFG) 55 48
def State.TOW_CFG_JOIN_WAIT (s : State) : Nat := fld (s.reg offTOW_CFG) 47 32
def State.TOW_CFG_JOIN (s : State) : Nat := fld (s.reg offTOW_CFG) 1 1
def State.TOW_CFG_TOGETHER (s : State) : Nat := fld (s.reg offTOW_CFG) 0 0
def State.LOG_RD_SEL_SEQ (s : State) : Nat := fld (s.reg offLOG_RD_SEL) 31 0
def State.LOCK_FLAG_FLAG (s : State) (i : Nat) : Nat := fld (s.reg (offLOCK_FLAG + 0x8 * i)) 63 0
def State.CHART_BASE_ADDR (s : State) : Nat := fld (s.reg offCHART_BASE) 63 12
def State.CHART_SIZE_SLOTS (s : State) : Nat := fld (s.reg offCHART_SIZE) 24 0
def State.PORT_CFG_WIDTH (s : State) (i : Nat) : Nat := fld (s.reg (offPORT_CFG + 0x1000 * i)) 63 62
def State.PORT_CFG_MAX_SPEED (s : State) (i : Nat) : Nat := fld (s.reg (offPORT_CFG + 0x1000 * i)) 61 59
def State.PORT_CFG_INIT_MODE (s : State) (i : Nat) : Nat := fld (s.reg (offPORT_CFG + 0x1000 * i)) 58 57
def State.PORT_CFG_D_LOG2 (s : State) (i : Nat) : Nat := fld (s.reg (offPORT_CFG + 0x1000 * i)) 56 53
def State.PORT_CFG_RETRY_MS (s : State) (i : Nat) : Nat := fld (s.reg (offPORT_CFG + 0x1000 * i)) 47 32
def State.PORT_CFG_WARN_VEC (s : State) (i : Nat) : Nat := fld (s.reg (offPORT_CFG + 0x1000 * i)) 27 17
def State.PORT_CFG_SLOTS (s : State) (i : Nat) : Nat := fld (s.reg (offPORT_CFG + 0x1000 * i)) 16 0
def State.BERTH_SEL_ID (s : State) : Nat := fld (s.reg offBERTH_SEL) 19 0
def State.BERTH_PORT_PORT (s : State) : Nat := fld (s.reg offBERTH_PORT) 23 16
def State.BERTH_PORT_SLOT (s : State) : Nat := fld (s.reg offBERTH_PORT) 15 0
def State.BERTH_SQ_BASE_ADDR (s : State) : Nat := fld (s.reg offBERTH_SQ_BASE) 63 12
def State.BERTH_CQ_BASE_ADDR (s : State) : Nat := fld (s.reg offBERTH_CQ_BASE) 63 12
def State.BERTH_RING_LOG2 (s : State) : Nat := fld (s.reg offBERTH_RING) 3 0
def State.BERTH_OWNER_OWNER (s : State) : Nat := fld (s.reg offBERTH_OWNER) 63 0
def State.BERTH_FLOOR_FLOOR (s : State) : Nat := fld (s.reg offBERTH_FLOOR) 31 0
def State.BERTH_CEIL_CEIL (s : State) : Nat := fld (s.reg offBERTH_CEIL) 31 0
def State.BERTH_RETAIN_RETAIN (s : State) : Nat := fld (s.reg offBERTH_RETAIN) 31 0
def State.BERTH_POLICY_HOLD (s : State) : Nat := fld (s.reg offBERTH_POLICY) 48 32
def State.BERTH_POLICY_QOS (s : State) : Nat := fld (s.reg offBERTH_POLICY) 13 12
def State.BERTH_POLICY_SPILL_OK (s : State) : Nat := fld (s.reg offBERTH_POLICY) 11 11
def State.BERTH_POLICY_VECTOR (s : State) : Nat := fld (s.reg offBERTH_POLICY) 10 0

end Sys2Proof.Machine
end

