-- ==== Sys2Proof/Machine/Ops.lean ====
section
/-! DEFINITION. The operations every family shares: access to berths, ports and registers, what is sent out, domains in
service, the event log's queue, interrupt bits, command-status registers, reports to the keeper, WARN_OUT_N and MSI-X. -/

namespace Sys2Proof.Machine

/-! Access -/

def State.setBerth (s : State) (i : Nat) (b : Berth) : State := { s with berths := tset Berth.none s.berths i b }

def State.updBerth (s : State) (i : Nat) (f : Berth → Berth) : State := s.setBerth i (f (s.berth i))

def State.setPort (s : State) (p : Nat) (q : Port) : State := { s with ports := tset Port.idle s.ports p q }

def State.updPort (s : State) (p : Nat) (f : Port → Port) : State := s.setPort p (f (s.port p))

def State.setReg (s : State) (off : Nat) (w : Word) : State := { s with regs := tset 0 s.regs off w }

/-- Add k to the counter field [hi:lo] of a register (R9). -/
def State.bump (s : State) (off hi lo k : Nat) : State := s.setReg off (bumpFld (s.reg off) hi lo k)

/-- Send something out, behind everything sent before. -/
def State.emit (s : State) (o : Out) : State := { s with out := s.out ++ [o] }

def State.emits (s : State) (os : List Out) : State := { s with out := s.out ++ os }

/-- Draw a free value (log 2): the next element of the opaque sequence. -/
def State.draw (s : State) : State × BitVec 64 := ({ s with free := s.free + 1 }, Config.freeValue s.free)

/-- Apply f for each element of a list, in order. -/
def forEach {α : Type} (l : List α) (s : State) (f : α → State → State) : State := l.foldl (fun s a => f a s) s

/-! Domains (R279, R280) -/

/-- A domain is in service while it is switched on and its power-good holds (R280). -/
def State.inService (s : State) (d : Nat) : Bool := s.seq.on.getLsbD d && s.seq.pg.getLsbD d

def dCore : Nat := 22
def dMgmt : Nat := 23

def State.core (s : State) : Bool := s.inService dCore

/-- The domain of a feeder port (R279). -/
def domainOfPort (p : Nat) : Nat := p / 16

/-- The domain of a DRAM channel (R279). -/
def domainOfChannel (c : Nat) : Nat := if c < 6 then 20 else 21

/-- The domain of a flash quadrant (R279). -/
def domainOfQuadrant (q : Nat) : Nat := 16 + q

/-- Whether a request to BAR0 reaches the registers: PD_MGMT in service, link up, function not in D3hot (R368). -/
def State.bar0 (s : State) : Bool := s.inService dMgmt && s.mgmt.link && !s.mgmt.d3

/-- The always-on domain runs on its own clocks: started, and ROOT not lost (R402). -/
def State.aonRuns (s : State) : Bool := s.clk.aon && !s.clk.holdover

/-! The event log's queue (R295, R296) -/

/-- The next record, at the head of nothing yet: SEQ assigned when it is queued. -/
def mkLog (s : State) (kind source detail : Nat) (first : Bool) (data : List Word) : LogRec :=
  { seq := s.log.nextSeq, kind := kind, source := source, first := first, detail := detail, t := s.now, data := data }

/-- Send the management port's message of vector n: a masked vector sets its pending bit, and a message that cannot be sent stays due
(R380). -/
def sendIrq (n : Nat) (s : State) : State :=
  if s.mgmt.link && s.mgmt.bme && s.mgmt.msixEn && !s.mgmt.d3 then
    if s.mgmt.masked.getLsbD n then { s with mgmt := { s.mgmt with pend := s.mgmt.pend ||| BitVec.ofNat 8 (2 ^ n) } }
    else s.emit (.mgmtMsix n)
  else { s with mgmt := { s.mgmt with due := s.mgmt.due ||| BitVec.ofNat 8 (2 ^ n) } }

/-- Raise bit n of GLB_IRQ_STATUS; its message follows when the bit becomes 1 while its enable is 1 (R380). -/
def raiseIrq (n : Nat) (s : State) : State :=
  if !s.inService dMgmt then s else
  let st := s.reg offGLB_IRQ_STATUS
  if fld st n n = 1 then s else
  let s := s.setReg offGLB_IRQ_STATUS (setFld st n n 1)
  if fld (s.reg offGLB_IRQ_ENABLE) n n = 0 then s else sendIrq n s

/-- Queue a log record; a record that finds the queue full is counted as dropped (R296). -/
def queueLog (kind source detail : Nat) (first : Bool) (data : List Word) (s : State) : State :=
  if 256 ≤ s.log.queue.length then
    ({ s with log := { s.log with dropped := s.log.dropped + 1 } }).bump offLOG_CNT 31 16 1
  else
    let r := mkLog s kind source detail first data
    let s := { s with log := { s.log with queue := s.log.queue ++ [r], nextSeq := s.log.nextSeq + 1 } }
    if kind = 0x12 ∨ kind = 0x0C ∨ kind = 0x0D then raiseIrq 7 s else s

/-- Queue a record without FIRST. -/
def logRec (kind source detail : Nat) (data : List Word) (s : State) : State := queueLog kind source detail false data s

/-! Refloat ready and the sluice, as other blocks ask for them -/

/-- Refloat ready has been reached in this start (R228). -/
def State.ready (s : State) : Bool := s.refloat.stage == 5

/-- A sluice trigger has been taken in this start (R107, R208, R220). -/
def State.sluiced (s : State) : Bool := s.sluice.phase != 0 || s.sluice.early

/-- The device behaves as in safe harbour (R336, R339). -/
def State.harbour (s : State) : Bool := s.cfg.st == 5 || s.cfg.st == 6

/-! Command-status registers (R372 to R374) -/

def kGlb : Nat := 0
def kCfg : Nat := 1
def kSeq : Nat := 2
def kKeep : Nat := 3
def kGauge : Nat := 4
def kChart : Nat := 5
def kLock : Nat := 6
def kBerth : Nat := 7
def kLog : Nat := 8
def kPort (p : Nat) : Nat := 16 + p

def State.cmd (s : State) (k : Nat) : CmdSt := tget CmdSt.idle s.cmds k

def State.setCmd (s : State) (k : Nat) (c : CmdSt) : State := { s with cmds := tset CmdSt.idle s.cmds k c }

/-- The code of RESULT BUSY in each status register (the RESULT field of each block's table). -/
def busyCode (k : Nat) : Nat :=
  if k = kSeq ∨ k = kKeep ∨ k = kChart ∨ k = kLock then 4 else 3

/-- Accept a control write (R372): take the next ticket. While a command runs the write is refused (R374). -/
def cmdTake (k : Nat) (s : State) : State :=
  let c := s.cmd k
  if c.done then s.setCmd k { done := false, ticket := c.ticket + 1, result := 0, refused := false }
  else s.setCmd k { c with ticket := c.ticket + 1, refused := true }

/-- A command ends with a result, or BUSY when a write was refused while it ran (R373, R374); DONE becoming 1 is event 6. -/
def cmdEnd (k result : Nat) (s : State) : State :=
  let c := s.cmd k
  raiseIrq 6 (s.setCmd k { done := true, ticket := c.ticket, result := if c.refused then busyCode k else result, refused := false })

/-- An accepted write whose command starts only when none runs: f acts on the state with the ticket taken. -/
def cmdStart (k : Nat) (f : State → State) (s : State) : State :=
  if (s.cmd k).done then f (cmdTake k s) else cmdTake k s

/-! Accesses in order (R34, R375) -/

/-- An access of BAR0 has to wait: a write of the charter window while a berth command runs, and then everything behind it, since one
requester's accesses are applied in the order in which they arrive (R34, log 60). -/
def portHolds (charter : Bool) (s : State) : Bool :=
  s.bar0 && (!s.mgmt.held.isEmpty || (charter && s.core && !(s.cmd kBerth).done))

/-- An access of BAR0 acts at once, or is held (R34, R375). charter: it writes the charter window. -/
def viaPort (c : Instr) (charter : Bool) (f : State → Res) (s : State) : Res :=
  if portHolds charter s then .next { s with mgmt := { s.mgmt with held := s.mgmt.held ++ [(c, !s.sluiced)] } } else f s

/-! Reports to the keeper, settled at the end of a step (R304) -/

/-- A block reports an event of a source: severe or transient, with its detail word. -/
def report (src : Nat) (severe : Bool) (detail : BitVec 48) (s : State) : State :=
  { s with keep := { s.keep with reports := s.keep.reports ++ [(src, severe, detail)] } }

/-- A detail word (R414). -/
def detailWord (kind cause item : Nat) : BitVec 48 := BitVec.ofNat 48 (kind * 2 ^ 46 + cause * 2 ^ 40 + item)

/-- The detail word that names no item (R307, R414). -/
def noItem : BitVec 48 := 0xFFFFFFFFFFFF

/-- Reads and writes of host memory can be sent: link up, Bus Master Enable 1 (R368), not in D3hot. -/
def hostReads (s : State) : Bool := s.mgmt.link && s.mgmt.bme && !s.mgmt.d3

/-! Feeder-port messages -/

/-- Whether a posted write of a port can be sent: link up, Bus Master Enable 1, domain in service (R354). -/
def State.portSends (s : State) (p : Nat) : Bool := (s.port p).linkUp && (s.port p).bme && s.inService (domainOfPort p)

/-- Send MSI-X vector v of a port, or set its pending bit while the vector or the function is masked or MSI-X is disabled (R352). A
message that the port cannot send is lost (R354). -/
def portMsix (p v : Nat) (s : State) : State :=
  let q := s.port p
  if !s.portSends p then s
  else if q.msixEn && !q.fnMask && q.unmasked.contains v then s.emit (.msix p v)
  else if q.pendingVec.contains v then s else s.setPort p { q with pendingVec := q.pendingVec ++ [v] }

/-- Pending messages of vectors that are no longer masked are sent (R352). -/
def portFlush (p : Nat) (s : State) : State :=
  let q := s.port p
  if !(s.portSends p && q.msixEn && !q.fnMask) then s else
  let go := q.pendingVec.filter (fun v => q.unmasked.contains v)
  (s.setPort p { q with pendingVec := q.pendingVec.filter (fun v => !q.unmasked.contains v) }).emits (go.map (Out.msix p))

/-- WARN_OUT_N asserted and the early warning on every feeder port whose link is up (R212, R311, R352). -/
def earlyWarning (s : State) : State :=
  let s := { s with pins := { s.pins with warn := true } }
  forEach (List.range 256) s (fun p s =>
    if (s.port p).linkUp then portMsix p (s.PORT_CFG_WARN_VEC p) (s.updPort p (fun q => { q with warn := true })) else s)

/-- Set the weir's state; a change of WEIR_STATUS.STATE is event 4 (R380). -/
def setWeir (w : WSt) (s : State) : State :=
  if s.weir.st = w then s else raiseIrq 4 { s with weir := { s.weir with st := w } }

end Sys2Proof.Machine
end

