-- ==== Sys2Proof/Machine/Gauging.lean ====
section
/-! DEFINITION. What the gauge's figures say of a string and of the reserve bank (R234 to R254): uncertainty, energy, which
strings count, B_sum, and the bank's capacitance. Charges are in nC (mA x us), voltages in mV, energies in mJ. -/

namespace Sys2Proof.Machine

/-- A string of the gauge; an unlisted one is absent. -/
def State.str (s : State) (i : Nat) : GStr := tget GStr.absent s.gauge.strings i

def State.setStr (s : State) (i : Nat) (g : GStr) : State :=
  { s with gauge := { s.gauge with strings := tset GStr.absent s.gauge.strings i g } }

def State.updStr (s : State) (i : Nat) (f : GStr → GStr) : State := s.setStr i (f (s.str i))

/-- One mAh in nC. -/
def nCmAh : Nat := 3600000000

/-- U_CAP_i, per mille (R236). -/
def uCap (s : State) (g : GStr) : Nat := if g.learned then s.GAUGE_CFG_UNC_U_LEARNED else s.GAUGE_CFG_UNC_U_NAMEPLATE

/-- U_ANCH_i before rounding up, in units of 1 / (360,000,000,000 x CAP) per mille: U0, the time term and the charge term
(R236). U_TIME is in 0.01 per mille per hour and an hour is 3,600,000,000 us; U_THRU is per CAP counted, CAP in mAh of 3,600,000,000
nC each and thru in nC. -/
def uAnchParts (s : State) (g : GStr) : Nat × Nat :=
  let c := max g.cap 1
  let d := 360000000000 * c
  (s.GAUGE_CFG_UNC_U0 * d + s.GAUGE_CFG_UNC_U_TIME * (s.now - g.tAnchor) * c + s.GAUGE_CFG_UNC_U_THRU * g.thru * 100, d)

/-- U_ANCH_i, per mille, rounded up; 1,000 without an anchor (R236). -/
def uAnch (s : State) (g : GStr) : Nat :=
  if g.anchored then min 1000 (ceilDiv (uAnchParts s g).1 (uAnchParts s g).2) else 1000

/-- u_i, per mille, rounded up to a whole per mille (R236). -/
def uStr (s : State) (g : GStr) : Nat := min 1000 (uCap s g + uAnch s g)

/-- E_i = Q_rem x V_AVG, mJ (before R234); V_AVG in 10 mV units. -/
def eStr (s : State) (g : GStr) : Nat := g.q * s.GAUGE_CFG_CELL_V_AVG / 100000000

/-- E_low,i = E_i x (1 - u_i), mJ. -/
def eLow (s : State) (g : GStr) : Nat := if s.gauge.loaded then eStr s g * (1000 - uStr s g) / 1000 else 0

/-- The module passed, with the image's cell count and at least its nameplate (R244). -/
def passes (s : State) (g : GStr) : Bool :=
  g.auth == 2 && g.cells == s.GAUGE_CFG_CELL_CELLS && s.GAUGE_CFG_CAP1_NAMEPLATE * 100 ≤ g.nameplate

/-- Sensing in range (R231). -/
def inRange (g : GStr) : Bool := g.v ≤ 72000 && -200000 ≤ g.i && g.i ≤ 200000

/-- GAUGE_Sn_STATE.VALID: present, authenticated and sensing in range; 0 until the gauge's values have loaded (R416). -/
def validStr (s : State) (i : Nat) : Bool :=
  let g := s.str i
  s.gauge.loaded && decide (i < s.gauge.nCfg) && g.present && passes s g && inRange g

/-- Counted under R85: valid, not learning, not retired by the keeper (R305). -/
def countsStr (s : State) (i : Nat) : Bool := validStr s i && !(s.str i).learning && !(s.str i).retired

/-- Whether a string stands in B_sum: present, authenticated, not retired, learning or not (before R252). -/
def inSum (s : State) (i : Nat) : Bool :=
  let g := s.str i
  s.gauge.loaded && decide (i < s.gauge.nCfg) && g.present && passes s g && !g.retired

/-- B_sum, mJ. -/
def bSum (s : State) : Nat := ((List.range 8).map (fun i => if inSum s i then eLow s (s.str i) else 0)).sum

/-- The mask of R85 as the gauge's update hands it to the weir. -/
def countedMask (s : State) : BitVec 8 :=
  (List.range 8).foldl (fun m i => if countsStr s i then m ||| BitVec.ofNat 8 (2 ^ i) else m) 0

/-- C of R249, mF. -/
def capUsed (s : State) : Nat :=
  match s.gauge.cTest with
  | none => s.GAUGE_CFG_CAP0_C_NOM
  | some c => min c s.GAUGE_CFG_CAP0_C_NOM

/-- The temperature window of R239 and R240. -/
def tempOk (s : State) (g : GStr) : Bool :=
  let t := ofTwos 8 g.temp.toNat
  ofTwos 8 s.GAUGE_CFG_LEARN_T_MIN ≤ t && t ≤ ofTwos 8 s.GAUGE_CFG_LEARN_T_MAX

/-- R_int in use: the mean of the last 16 values measured, R_NOM before the first (R235). -/
def rInt (s : State) (g : GStr) : Nat := if g.rint.isEmpty then s.GAUGE_CFG_RINT_R_NOM else g.rint.sum / g.rint.length

/-! The gauge record in the SPI NOR (R246) -/

/-- A blank entry. -/
def GaugeRec.blank : GaugeRec := ⟨0, 0, false, 0⟩

/-- The bytes that a copy's CRC-32C covers. DESIGN CHOICE (log 59): the spec lists the values and gives no layout. -/
def recBytes (n : Nat) (recs : Tbl GaugeRec) : List Byte :=
  leBytes 4 n ++ (List.range 8).flatMap (fun i =>
    let r := tget GaugeRec.blank recs i
    leBytes 16 r.serial.toNat ++ leBytes 4 r.cap ++ [if r.learned then 1 else 0] ++ leBytes 2 r.rint)

/-- A copy whose CRC-32C is right. -/
def GaugeCopy.good (c : GaugeCopy) : Bool := c.crc == crc32c (recBytes c.n c.recs)

/-- The newest good copy. -/
def newestCopy (s : State) : Option GaugeCopy :=
  match s.gauge.copy0.filter (·.good), s.gauge.copy1.filter (·.good) with
  | some a, some b => some (if a.n < b.n then b else a)
  | some a, none => some a
  | none, x => x

/-- The entries of the gauge record. -/
def gaugeRecs (s : State) : Tbl GaugeRec := ((newestCopy s).map (·.recs)).getD []

/-- Write the gauge record: the copies alternate. -/
def writeRecs (recs : Tbl GaugeRec) (s : State) : State :=
  let n := ((newestCopy s).map (·.n + 1)).getD 0
  let c := some ⟨n, recs, crc32c (recBytes n recs)⟩
  { s with gauge := if n % 2 = 0 then { s.gauge with copy0 := c } else { s.gauge with copy1 := c } }

/-- The gauge record follows a bound module's values, and is written when one of them has changed. -/
def saveRec (i : Nat) (s : State) : State :=
  let g := s.str i
  let r : GaugeRec := ⟨g.serial, g.cap, g.learned, rInt s g⟩
  if g.auth ≠ 2 ∨ tget GaugeRec.blank (gaugeRecs s) i = r then s else writeRecs (tset GaugeRec.blank (gaugeRecs s) i r) s

/-! The values of the ENERGY section (R328, R329, R332, R416) -/

/-- The RWL bits of a register. -/
def rwlOf (off : Nat) : Word := match regAt off with | some r => r.rwl | none => 0

/-- The RWL fields of a section's registers take the values of its list, and 0 where it names none. -/
def loadRegs (own : Nat → Bool) (l : List (Nat × Word)) (s : State) : State :=
  let s := { s with regs := tmap 0 (fun off w => if own off then w &&& ~~~ rwlOf off else w) s.regs }
  forEach (l.filter (fun p => own p.1)) s (fun p s => s.setReg p.1 ((s.reg p.1 &&& ~~~ rwlOf p.1) ||| p.2))

/-- A GAUGE_CFG register. -/
def gaugeCfg (off : Nat) : Bool := decide (0x60000 ≤ off) && decide (off < 0x70000)

/-- The value that a register list gives a register. -/
def listed (l : List (Nat × Word)) (off : Nat) : Word := ((l.find? (fun p => p.1 == off)).map (·.2)).getD 0

/-- The values of the ENERGY section that the gauge uses, in force (R416). -/
def gaugeValues (l : List (Nat × Word)) (s : State) : State :=
  let w := listed l offWEIR_BATT
  let s := loadRegs gaugeCfg l s
  { s with gauge := { s.gauge with loaded := true, nCfg := fld w 11 8, eRes := fld w 63 32 } }

/-- Values that a seal or safe harbour has handed over are in force from the next update (R416). -/
def takeStaged (s : State) : State :=
  match s.gauge.staged with
  | none => s
  | some l => gaugeValues l { s with gauge := { s.gauge with staged := none } }

/-! What one update shows (R255, R256) -/

/-- GAUGE_Sn_STATE. -/
def strStateWord (s : State) (i : Nat) : Word :=
  let g := s.str i
  at' g.temp.toNat 16 ||| bitAt g.retired 8 ||| at' g.auth 6 ||| bitAt g.learned 5 ||| bitAt (decide (uAnch s g < 1000)) 4 |||
    bitAt g.learning 3 ||| bitAt (s.gauge.counted.getLsbD i) 2 ||| bitAt (validStr s i) 1 ||| bitAt g.present 0

/-- The registers of a string's group, k = 0 to 6; T_ANCHOR is 0 where the module has had no anchor. -/
def strWord (s : State) (i k : Nat) : Word :=
  let g := s.str i
  match k with
  | 0 => strStateWord s i
  | 1 => at' (sat 32 g.v) 32 ||| at' (toTwos 32 g.i) 0
  | 2 => at' (g.q / nCmAh) 32 ||| at' g.cap 0
  | 3 => at' (sat 32 (eStr s g / 1000)) 32 ||| at' (sat 32 (eLow s g / 1000)) 0
  | 4 => at' (uStr s g) 48 ||| at' (uCap s g) 32 ||| at' (uAnch s g) 16 ||| at' (sat 16 (rInt s g)) 0
  | 5 => at' g.tAnchor 0
  | _ => if g.auth = 2 then BitVec.ofNat 64 g.serial.toNat else 0

/-- What a register of a string's group reads before the first update, and a captured one before the first capture. -/
def strReset (k : Nat) : Word := if k = 4 then at' 1000 48 ||| at' 1000 16 else 0

def capKey (i k : Nat) : Nat := 8 * i + k
def battKey : Nat := 64
def bankKey : Nat := 65

/-- GAUGE_BATT_SUM, in J. -/
def battSumWord (s : State) : Word := at' (sat 32 (bSum s / 1000)) 32 ||| at' (sat 32 ((bSum s - s.gauge.eRes) / 1000)) 0

/-- GAUGE_CAP. -/
def gaugeCapWord (s : State) : Word :=
  at' (sat 16 s.gauge.bank) 48 ||| at' (sat 16 (s.gauge.cTest.getD s.GAUGE_CFG_CAP0_C_NOM)) 32 ||| at' (capUsed s) 16 |||
    bitAt s.gauge.capLow 1 ||| bitAt s.gauge.testing 0

/-- What an update leaves for the reads until the next one (R256). -/
def takeSnap (s : State) : State :=
  let strs := (List.range 8).flatMap (fun i => (List.range 7).map (fun k => (capKey i k, strWord s i k)))
  let all := strs ++ [(battKey, battSumWord s), (bankKey, gaugeCapWord s)]
  { s with gauge := { s.gauge with snap := all.foldl (fun t p => tset none t p.1 (some p.2)) s.gauge.snap } }

/-- A register as the last update left it, or its reset value before the first. -/
def snapWord (s : State) (key : Nat) (reset : Word) : Word := (tget none s.gauge.snap key).getD reset

end Sys2Proof.Machine
end

