-- ==== Sys2Proof/Machine/Pound.lean ====
section
/-! DEFINITION. The pound (R111 to R140): channel states, pairs and couples, where records stand, free runs, B_pound, port
shares and the content of single copies. Sizes are granules, which are the 512-B units of every byte count. -/

namespace Sys2Proof.Machine

def State.chan (s : State) (c : Nat) : Chan := tget ⟨0, 0⟩ s.drc.chans c

def State.setChan (s : State) (c : Nat) (v : Chan) : State :=
  { s with drc := { s.drc with chans := tset ⟨0, 0⟩ s.drc.chans c v } }

/-- Channel state SERVICE (R140). -/
def inSvc (s : State) (c : Nat) : Bool := (s.chan c).st == 2

/-- REC, the record area of one channel, in granules: capacity less CTL and WORK (R113). -/
def recGran (s : State) : Nat :=
  (s.DRC_LAYOUT0_DIMMS * s.DRC_LAYOUT0_DIMM_GIB * 1024 - s.DRC_LAYOUT0_CTL - s.DRC_LAYOUT0_WORK) * 2048

/-- 256 MiB in granules: the free slabs held back in each pair (R115). -/
def heldBack : Nat := 524288

/-- The mirror pairs, or the couples after a half-domain fault (R116, R136). -/
def allUnits (s : State) : List (List Nat) :=
  match s.drc.coupled with
  | 0 => (List.range 6).map (fun k => [k, k + 6])
  | 1 => [[0, 3], [1, 4], [2, 5]]
  | _ => [[6, 9], [7, 10], [8, 11]]

/-- Pairs, or couples, in service: both channels in SERVICE (R115). -/
def units (s : State) : List (List Nat) := (allUnits s).filter (fun u => u.all (inSvc s))

/-- B_pound (R115). -/
def bPound (s : State) : Nat := min s.DRC_POUND_DECL ((units s).length * (recGran s - heldBack))

/-- Every place the pound holds: channels, offset and length of each record's copies, of each reservation and of each
compaction target (R98, R116, R118). -/
def places (s : State) : List (Place × Nat) :=
  s.berths.flatMap (fun p =>
    p.2.chain.filterMap (fun r => r.place.map (fun pl => (pl, r.len))) ++
    p.2.flights.filterMap (fun f => f.place.map (fun pl => (pl, f.len)))) ++
  s.drc.moving.filterMap (fun m =>
    ((s.berth m.berth).chain.find? (fun r => r.seq == m.seq)).map (fun r => (m.place, r.len)))

/-- The runs taken on any channel of a unit, as (offset, length), in rising offset. -/
def runsOn (ps : List (Place × Nat)) (u : List Nat) : List (Nat × Nat) :=
  sortBy (·.1) ((ps.filter (fun p => p.1.chs.any (fun c => u.contains c))).map (fun p => (p.1.off, p.2)))

/-- The lowest free run of n granules among runs in rising order, from a position up to a limit. -/
def gapIn (n limit : Nat) : Nat → List (Nat × Nat) → Option Nat
  | at_, [] => if at_ + n ≤ limit then some at_ else none
  | at_, (o, l) :: t => if at_ + n ≤ o then some at_ else gapIn n limit (max at_ (o + l)) t

/-- The log head of a unit (R116, R118): where its last run ended. -/
def pairHead (s : State) (u : List Nat) : Nat := tget 0 s.drc.heads (u.headD 0)

/-- A free run of n granules among the runs of a unit, from the log head on or else from the start (R116: one run, never split). -/
def runFrom (s : State) (u : List Nat) (n : Nat) (rs : List (Nat × Nat)) : Option Nat :=
  match gapIn n (recGran s) (pairHead s u) rs with
  | some o => some o
  | none => gapIn n (recGran s) 0 rs

/-- A free run of n granules of a unit. -/
def freeRun (s : State) (u : List Nat) (n : Nat) : Option Nat := runFrom s u n (runsOn (places s) u)

/-- The log head of a place's unit moves behind it (R118). -/
def headPast (p : Place) (n : Nat) (s : State) : State :=
  { s with drc := { s.drc with heads := tset 0 s.drc.heads (p.chs.headD 0) (p.off + n) } }

/-- Granules in use on a unit. -/
def usedOn (s : State) (u : List Nat) : Nat := ((runsOn (places s) u).map (·.2)).sum

/-- Units in the order the rotor gives them (R116: ties broken by a rotating pointer). -/
def rotate {α : Type} (k : Nat) (l : List α) : List α := l.drop (k % max l.length 1) ++ l.take (k % max l.length 1)

/-- The place of a record of n granules: the unit in service with the most free granules that has a free run (R116, R117). -/
def choosePlace (s : State) (n : Nat) : Option Place :=
  let cs := (rotate s.drc.rotor (units s)).filterMap (fun u => (freeRun s u n).map (fun o => (u, o)))
  (minBy (fun c => usedOn s c.1) cs).map (fun c => ⟨c.1, c.2⟩)

/-- PH_p: HELD of the berths chartered to a port (before R119). -/
def portHeld (s : State) (p : Nat) : Nat := tsum (fun _ b => if b.st ≠ .free ∧ b.port = p then b.held else 0) s.berths

/-- The per-port share check (R120). -/
def shareFits (s : State) (p n : Nat) : Bool := decide (portHeld s p + n ≤ s.DRC_SHARE_SHARE p)

/-- Whether a place holds a single copy only. -/
def Place.single (p : Place) : Bool := p.chs.length == 1

/-- Unpersisted single-copy bytes of one channel, and Q, the largest over the channels (R134). -/
def singleOn (s : State) (c : Nat) : Nat :=
  tsum (fun _ b => ((b.chain.filter (fun r => r.basin.isNone &&
    (match r.place with | some p => p.chs == [c] | none => false))).map (·.len)).sum) s.berths

def singleQ (s : State) : Nat := ((List.range 12).map (singleOn s)).foldl max 0

/-- DRC_STATUS.PAIR_DEGRADED: bit k when pair k has a retired channel (R140). -/
def pairDegraded (s : State) : BitVec 6 :=
  (List.range 6).foldl (fun m k =>
    if (s.chan k).st = 3 ∨ (s.chan (k + 6)).st = 3 then m ||| BitVec.ofNat 6 (2 ^ k) else m) 0

end Sys2Proof.Machine
end

