-- ==== Sys2Proof/Machine/Sched.lean ====
section
/-! DEFINITION. The DRAM controller's per-channel scheduler (R125, R127 to R130): banks, requests, urgency, refresh and the command
slot. -/

namespace Sys2Proof.Machine

def State.sched (s : State) (c : Nat) : Sched := tget Sched.idle s.drc.sched c

def State.setSched (s : State) (c : Nat) (x : Sched) : State := { s with drc := { s.drc with sched := tset Sched.idle s.drc.sched c x } }

/-! Banks (R128) -/

/-- Banks of one rank of one subchannel: eight groups of four, as DDR5 has them. PRESUMED (log 56). -/
def rankBanks : Nat := 32

/-- Ranks of a channel over its two subchannels and its modules (R111). -/
def ranksOf (s : State) : Nat := 2 * s.DRC_LAYOUT0_DIMMS * s.DRC_LAYOUT0_RANKS

/-- Banks of a channel, each with a queue of its own, for each subchannel and rank (R128). -/
def banksOf (s : State) : Nat := max 1 (ranksOf s) * rankBanks

/-- The bank and row of a granule offset, a channel's own mapping (R5); a run is taken to stand in the row of its first granule (log
56). -/
def bankOf (s : State) (off : Nat) : Nat := Config.dramBank off % banksOf s

def rowAt (off : Nat) : Nat := Config.dramRow off

/-- A bank's queue: the oldest 16 of its requests (R128). The others are held off until there is room (R127). -/
def bankQueue (x : Sched) (b : Nat) : List DramReq := (x.reqs.filter (fun r => r.bank == b)).take 16

/-- A request has been accepted into its bank's queue (R127). -/
def accepted (x : Sched) (r : DramReq) : Bool := (bankQueue x r.bank).any (fun y => y.id == r.id)

/-- Whether a channel's bank queue has room for a request (R127). -/
def dramRoom (s : State) (c off : Nat) : Bool := decide ((bankQueue (s.sched c) (bankOf s off)).length < 16)

/-! Requests (R129, R130) -/

/-- The latency target of a requester, 10 ns units (R129, R130). -/
def latencyTarget (s : State) : Requester → Nat
  | .berth => s.DRC_LAT0_BERTH
  | .control => s.DRC_LAT0_CONTROL
  | .sluice => s.DRC_LAT0_SLUICE
  | .refloat => s.DRC_LAT1_REFLOAT
  | .spill => s.DRC_LAT0_SPILL
  | .barge => s.DRC_LAT1_BARGE
  | .compact => s.DRC_LAT1_COMPACT

/-- The page hint of a requester (R130). -/
def Requester.hint : Requester → Hint
  | .berth => .last
  | .control | .refloat => .close
  | .sluice | .spill | .barge | .compact => .stay

/-- Ask a channel for bursts from a granule offset on (R127 to R130). -/
def dramAsk (who : Requester) (write : Bool) (off bursts c : Nat) (s : State) : State :=
  let r : DramReq := ⟨s.drc.nextReq, who, bankOf s off, rowAt off, write, s.now, 0, who.hint, bursts⟩
  let x := s.sched c
  ({ s with drc := { s.drc with nextReq := s.drc.nextReq + 1 } }).setSched c { x with reqs := x.reqs ++ [r] }

/-- Bursts of n granules. -/
def burstsOf (n : Nat) : Nat := 8 * n

/-- Read one copy of a run of n granules. -/
def dramRead (who : Requester) (p : Place) (n : Nat) (s : State) : State :=
  match p.chs with
  | [] => s
  | c :: _ => dramAsk who false p.off (burstsOf n) c s

/-- Write a run of n granules to every channel of its place. -/
def dramWrite (who : Requester) (p : Place) (n : Nat) (s : State) : State :=
  forEach p.chs s (fun c s => dramAsk who true p.off (burstsOf n) c s)

/-- Staging in the work slice of a channel in service (R113): the barge assembler's granules. DESIGN CHOICE (log 8): the channels take
turns. -/
def stageWork (n : Nat) (s : State) : State :=
  match (rotate s.drc.nextReq (List.range 12)).find? (inSvc s) with
  | none => s
  | some c => dramAsk .barge true (recGran s) (burstsOf n) c s

/-! Refresh (R125, R128) -/

/-- A bank's activates since its last refresh management, one mark fewer (R125). -/
def managed (c b : Nat) (x : Sched) : Sched :=
  { x with acts := if tget 0 x.acts b = 0 then x.acts else tset 0 x.acts b (tget 0 x.acts b - Config.refreshMark c) }

/-- A refresh precharges its banks, and counts for refresh management (R125, R128). -/
def refreshed (c : Nat) (bs : List Nat) (x : Sched) : Sched :=
  bs.foldl (fun x b => managed c b { x with openRows := tset none x.openRows b none }) x

/-- The bank whose modules require refresh management now (R125): its count has come to the mark that their mode registers declare, which
is at least 32 (PRESUMED, log 56). -/
def rfmBank (c : Nat) (x : Sched) : Option Nat :=
  (x.acts.find? (fun p => decide (32 ≤ p.2) && decide (0 < Config.refreshMark c) && decide (Config.refreshMark c ≤ p.2))).map (·.1)

/-! The command slot (R128, R130) -/

/-- The request of a bank that goes first: higher urgency, then older (R128). -/
def bankFirst (l : List DramReq) : Option DramReq := minBy (fun r => 3 - r.urgency) l

/-- n banks in rotation after the last one. -/
def banksAfter (n last : Nat) : List Nat := (List.range n).map (fun k => (last + 1 + k) % max n 1)

/-- The row a bank holds open. -/
def openRow (x : Sched) (b : Nat) : Option Nat := tget none x.openRows b

/-- The request stands in its bank's open row. -/
def isHit (x : Sched) (r : DramReq) : Bool := openRow x r.bank == some r.row

/-- The request a command slot of n banks serves: urgency 3 oldest first; then, of the requests that go first in their banks, a hit,
banks in rotation, or an activate, banks in rotation (R128). The second component tells a column command from an activate. -/
def slotChoice (n : Nat) (x : Sched) : Option (DramReq × Bool) :=
  match x.reqs.find? (fun r => r.urgency == 3 && accepted x r) with
  | some r => some (r, isHit x r)
  | none =>
    match (banksAfter n x.lastCol).findSome? (fun b => (bankFirst (bankQueue x b)).bind (fun r => if isHit x r then some r else none)) with
    | some r => some (r, true)
    | none => ((banksAfter n x.lastAct).findSome? (fun b => bankFirst (bankQueue x b))).map (fun r => (r, false))

/-- A column command of a request: its last burst ends it; with auto-precharge on a close hint, and on the last burst of a record
(R130). -/
def columnCmd (r : DramReq) (x : Sched) : Sched :=
  let ends := decide (r.bursts ≤ 1)
  let shut := r.hint == .close || (ends && r.hint == .last)
  { x with
    reqs := if ends then x.reqs.filter (fun y => y.id != r.id)
      else x.reqs.map (fun y => if y.id = r.id then { y with bursts := r.bursts - 1 } else y),
    lastCol := r.bank, openRows := if shut then tset none x.openRows r.bank none else x.openRows }

/-- An activate opens a request's row; refresh management counts it. -/
def activateCmd (r : DramReq) (x : Sched) : Sched :=
  { x with lastAct := r.bank, openRows := tset none x.openRows r.bank (some r.row),
           acts := tset 0 x.acts r.bank (tget 0 x.acts r.bank + 1) }

/-- One command slot of channel c with n banks: refresh management that is required, else what R128 chooses. -/
def schedSlot (n c : Nat) (x : Sched) : Sched :=
  match rfmBank c x with
  | some b => { refreshed c [b] x with rfms := x.rfms + 1 }
  | none =>
    match slotChoice n x with
    | none => x
    | some (r, true) => columnCmd r x
    | some (r, false) => activateCmd r x

/-- A command slot on every channel that has requests. -/
def dramSlots (s : State) : State :=
  { s with drc := { s.drc with sched := tmap Sched.idle (fun c x => if inSvc s c then schedSlot (banksOf s) c x else x) s.drc.sched } }

end Sys2Proof.Machine
end

