-- ==== Sys2Proof/Machine/Budget.lean ====
section
/-! DEFINITION. The weir's arithmetic (R83 to R98): the energy terms, the energy needed, the byte budget, the device-wide counts
and what a PUT asks of the pool. Energies are in mJ, byte counts in 512-B units. Available figures round down and needed ones
round up (log 7). -/

namespace Sys2Proof.Machine

/-! Counts (R93, R94, R96) -/

/-- U, unpersisted units. -/
def totU (s : State) : Nat := tsum (fun _ b => b.unpers) s.berths

/-- H, held units. -/
def totH (s : State) : Nat := tsum (fun _ b => b.held) s.berths

/-- P, pool use. -/
def poolUsed (s : State) : Nat := tsum (fun _ b => b.held - b.floor) s.berths

/-- F_sum, the chartered floors. -/
def floorSum (s : State) : Nat := tsum (fun _ b => b.floor) s.berths

/-- PUTs held at the weir (WEIR_WAITING). -/
def waiting (s : State) : Nat := tsum (fun _ b => (b.flights.filter (fun f => f.stage == .held)).length) s.berths

/-! Energy available (R83 to R86) -/

/-- Reserve capacitors, raw: half C (V^2 - V_min^2), from mF and mV. -/
def rawCap (s : State) : Nat :=
  let v := s.gauge.bank
  let m := s.GAUGE_CFG_CAP0_V_MIN
  capUsed s * (v * v - m * m) / 2000000

/-- raw x eta x (1 - u), per mille fractions (R84). -/
def derate (raw eta u : Nat) : Nat := raw * eta * (1000 - u) / 1000000

/-- The windlass is able to generate and has measured speed: RUN, and with a set lost only while the other set covers a sluice
(R86, R265). -/
def flyCounts (s : State) : Bool :=
  s.fly.st == .run && s.fly.measured &&
    ((s.fly.set0 && (s.fly.set1 || s.FLY_CFG0_PHASES == 1)) || s.FLY_CFG2_P_SLUICE ≤ s.FLY_CFG3_P_GEN_SET)

/-- Flywheel, raw: half I (w^2 - w_min^2), from 10^-6 kg m2 and rpm; pi^2 as 9.8696044, below its value (log 7). -/
def rawFly (s : State) : Nat :=
  if flyCounts s then
    let w := s.fly.used
    let m := s.FLY_CFG1_SPEED_MIN_E
    s.FLY_CFG0_INERTIA * (w * w - m * m) * 98696044 / 18000000000000
  else 0

/-- The share of string i (R85): min(E_res / N_cfg, E_i). -/
def rawShare (s : State) (i : Nat) : Nat :=
  if s.gauge.counted.getLsbD i then min (s.WEIR_BATT_E_RES / max s.WEIR_BATT_N_CFG 1) (eStr s (s.str i)) else 0

/-- What a counted string contributes: its share x eta_batt x (1 - u_i) (R85). -/
def derShare (s : State) (i : Nat) : Nat := derate (rawShare s i) s.WEIR_BATT_ETA_BATT (uStr s (s.str i))

/-- The string that comparator trips hold or release. -/
def tripStrOf (s : State) (i : Nat) : Trip := tget .clear s.weir.tripStr i

/-- A term under a comparator: its value while the comparator is clear; while held or released and not yet past the rise hold,
what strict says (R92). -/
def guarded (t : Trip) (v : Nat) : Nat := if t = .clear then v else 0

def unheld (t : Trip) (v : Nat) : Nat := if t = .held then 0 else v

/-- E_avail from the terms, with g applied to each guarded one (R83, R87: the battery only when INDEP is 1). -/
def eAvailBy (g : Trip → Nat → Nat) (s : State) : Nat :=
  g s.weir.tripCap s.weir.capDer + g s.weir.tripFly s.weir.flyDer +
    (if s.WEIR_BATT_INDEP = 1 then
      ((List.range 8).map (fun i => g (tripStrOf s i) (s.weir.shares.getD i 0))).sum else 0)

/-! Energy needed and the byte budget (R88 to R90, R134) -/

/-- Flash channels in service (R206: state 0x1). -/
def flashUp (s : State) : Nat := ((List.range 96).filter (fun c => tget 0 s.fmm.chans c == 1)).length

/-- R_s as the next recomputation takes it, MB/s: the image's rate scaled by the channels in service (R90). -/
def rsLive (s : State) : Nat := s.WEIR_MODEL2_RS * flashUp s / max s.FMM_GEOM0_CHANNELS 1

/-- t_fix + max(U / R_s, Q / R_ch), in us rounded up (R88, R134); MB/s is B/us. -/
def sluiceTime (s : State) (u : Nat) : Nat :=
  s.WEIR_MODEL1_TFIX + max (ceilDiv (u * 512) (max s.weir.rs 1))
    (if s.weir.qSingle = 0 then 0 else ceilDiv (s.weir.qSingle * 512) (max s.DRC_LAYOUT1_CH_RATE 1))

/-- E_need(U) = E_ctl + e_b U + P_idle t, mJ rounded up (R88): e_b in pJ/B, P_idle in mW. -/
def eNeed (s : State) (u : Nat) : Nat :=
  s.WEIR_MODEL0_ECTL + ceilDiv (u * 512 * s.WEIR_MODEL0_EB) 1000000000 + ceilDiv (s.WEIR_MODEL1_PIDLE * sluiceTime s u) 1000000

/-- B_energy for an available energy, in 512-B units: (E - E_ctl - P_idle t_fix) / (e_b + P_idle / R_s), 0 when the numerator is
not positive (R89). In nJ over pJ/B: numerator n nJ, divisor (EB R_s + 1000 P_idle) / (1000 R_s) nJ/B. -/
def bEnergyOf (s : State) (e rs : Nat) : Nat :=
  let n := (e - s.WEIR_MODEL0_ECTL) * 1000000 - s.WEIR_MODEL1_PIDLE * s.WEIR_MODEL1_TFIX
  n * 1000 * rs / ((s.WEIR_MODEL0_EB * rs + 1000 * s.WEIR_MODEL1_PIDLE) * 512)

/-- B_eff = min(B_pound, B_energy (1 - GUARD)) (R89). -/
def bEffOf (s : State) (bEnergy : Nat) : Nat := min s.weir.bPound (bEnergy * (100 - s.WEIR_LEVELS_GUARD) / 100)

/-- The three figures for an available energy. -/
def budgetOf (s : State) (e : Nat) : Budget :=
  let b := bEnergyOf s e s.weir.rs
  ⟨e, b, bEffOf s b⟩

def Budget.min' (a b : Budget) : Budget := ⟨min a.eAvail b.eAvail, min a.bEnergy b.bEnergy, min a.bEff b.bEff⟩

def Budget.max' (a b : Budget) : Budget := ⟨max a.eAvail b.eAvail, max a.bEnergy b.bEnergy, max a.bEff b.bEff⟩

/-! The pool (R95, R96) -/

/-- S = max(0, B_eff - F_sum). -/
def poolSize (s : State) : Nat := s.weir.budget.bEff - floorSum s

/-- LIM_c, per cent. -/
def limOf (s : State) (c : Nat) : Nat :=
  match c with
  | 0 => s.WEIR_LEVELS_LIM0
  | 1 => s.WEIR_LEVELS_LIM1
  | 2 => s.WEIR_LEVELS_LIM2
  | _ => s.WEIR_LEVELS_LIM3

/-- The pool part of a PUT of n units: n less its floor part (R95). -/
def poolPart (floor held n : Nat) : Nat := n - min n (floor - held)

/-- P + x <= LIM_c x S (R96). -/
def fitsClass (s : State) (c x : Nat) : Bool := decide ((poolUsed s + x) * 100 ≤ limOf s c * poolSize s)

/-- The residence limit of a class, us; 0 none (R104). -/
def residenceOf (s : State) (c : Nat) : Nat :=
  10000 * match c with
    | 0 => s.WEIR_RESIDENCE_LIM0
    | 1 => s.WEIR_RESIDENCE_LIM1
    | 2 => s.WEIR_RESIDENCE_LIM2
    | _ => s.WEIR_RESIDENCE_LIM3

end Sys2Proof.Machine
end

