-- ==== Sys2Proof/Machine/Basin.lean ====
section
/-! DEFINITION. The basin's tables as the other blocks read them (R141 to R199): geometry, the block, superblock, barge and
chain page tables, free superblocks, the collection throttle and a berth's chain pages. -/

namespace Sys2Proof.Machine

/-- The lost-medium barge ID (R193, R415). -/
def lostBarge : Nat := 0x3FFFFFF

/-- No chain page (R164). -/
def noCpn : Nat := 0xFFFFFFFF

def State.setFmm (s : State) (f : Fmm) : State := { s with fmm := f }

def blkNo (s : State) (die block : Nat) : Nat := die * s.FMM_GEOM0_BLOCKS + block

def State.blk (s : State) (n : Nat) : Blk := tget Blk.erased s.fmm.blocks n

def State.setBlk (s : State) (n : Nat) (b : Blk) : State :=
  { s with fmm := { s.fmm with blocks := tset Blk.erased s.fmm.blocks n b } }

def State.sb (s : State) (i : Nat) : Sb := tget Sb.free s.fmm.sbs i

def State.setSb (s : State) (i : Nat) (b : Sb) : State := { s with fmm := { s.fmm with sbs := tset Sb.free s.fmm.sbs i b } }

def State.barge (s : State) (i : Nat) : Barge := tget Barge.free s.fmm.barges i

def State.setBarge (s : State) (i : Nat) (b : Barge) : State :=
  { s with fmm := { s.fmm with barges := tset Barge.free s.fmm.barges i b } }

def State.page (s : State) (i : Nat) : Cpt := tget Cpt.free s.fmm.pages i

def State.setPage (s : State) (i : Nat) (p : Cpt) : State := { s with fmm := { s.fmm with pages := tset Cpt.free s.fmm.pages i p } }

/-- A row nothing has been written to. -/
def Row.blank : Row := ⟨0, 0, 0, 0, false, 0, [], 0, false⟩

def rowKey (sb row : Nat) : Nat := sb * 1024 + row

def State.row (s : State) (sb row : Nat) : Row := tget Row.blank s.fmm.rows (rowKey sb row)

def State.setRow (s : State) (sb row : Nat) (r : Row) : State :=
  { s with fmm := { s.fmm with rows := tset Row.blank s.fmm.rows (rowKey sb row) r } }

/-- Whether every chunk that a run of granules occupies is programmed. -/
def spanSet (c : BitVec 17) (off len : Nat) : Bool :=
  (List.range 16).all (fun k => !(decide (off / 128 ≤ k) && decide (k ≤ (off + len - 1) / 128)) || c.getLsbD k)

/-! Dies, channels and quadrants (R143) -/

def channelOfDie (d : Nat) : Nat := d / 16

def quadOfDie (d : Nat) : Nat := d / 384

def flashChan (s : State) (c : Nat) : Nat := tget 0 s.fmm.chans c

/-- A die in service: its channel in service, within the image's targets, and not lost. -/
def dieUp (s : State) (d : Nat) : Bool :=
  flashChan s (channelOfDie d) == 1 && decide (d % 16 < s.FMM_GEOM0_TARGETS) && !s.fmm.lostDies.contains d

/-- A quadrant in service: its domain in service and populated (R206 FMM_STATUS.QUAD). -/
def quadUp (s : State) (q : Nat) : Bool :=
  s.inService (domainOfQuadrant q) && decide (q * 24 < s.FMM_GEOM0_CHANNELS) &&
    (List.range 24).any (fun i => flashChan s (24 * q + i) == 1)

def quadsUp (s : State) : List Nat := (List.range 4).filter (quadUp s)

/-- The dies in service of a quadrant. -/
def diesOf (s : State) (q : Nat) : List Nat := ((List.range 384).map (fun i => 384 * q + i)).filter (dieUp s)

/-- Blocks of a die that are ERASED (R188). -/
def erasedOn (s : State) (d : Nat) : Nat :=
  s.FMM_GEOM0_BLOCKS - (s.fmm.blocks.filter (fun p => p.1 / max s.FMM_GEOM0_BLOCKS 1 == d && p.2.st != 0)).length

/-- ERASED blocks of a die that await no blank check. -/
def checkedOn (s : State) (d : Nat) : Nat :=
  s.FMM_GEOM0_BLOCKS - (s.fmm.blocks.filter (fun p =>
    p.1 / max s.FMM_GEOM0_BLOCKS 1 == d && (p.2.st != 0 || p.2.blank))).length

/-- F_q: the ERASED blocks of the dies in service not awaiting a blank check, divided by 17 (before R190). -/
def freeSbs (s : State) (q : Nat) : Nat := ((diesOf s q).map (checkedOn s)).sum / 17

/-- A block of 64 MiB in 512-B units. -/
def blkUnits : Nat := 131072

/-! Sanitize and a stop (R203, R206) -/

/-- PD_CORE loses what FMM_SAN_STATUS and FMM_SAN_PROG show; the marker stays in the SPI NOR and the wear record on flash. -/
def San.stopped (x : San) : San := { x with st := 0, result := 0, unerased := 0, doneBlocks := 0, total := 0, turn := [] }

/-- A sluice trigger stops sanitize at once; the marker stays RUNNING. -/
def San.halted (x : San) : San := { x with st := if x.st = 1 then 0 else x.st }

/-! Flash commands (R142, R146) -/

/-- Issue a command to a die, in pSLC mode with the image's prefix, feature address and feature value, exactly as given (R142). -/
def flashCmd (op : FlashOp) (die block row : Nat) (s : State) : State :=
  s.emit (.flash (s.FMM_PSLC_PREFIX, s.FMM_PSLC_FEAT_ADDR, s.FMM_PSLC_FEAT_VAL) op die block row)

/-- The read of the chunks of a barge that a run of granules occupies, at a read offset where one is given (R146). -/
def readRun (offset : Option Byte) (g off len : Nat) (s : State) : State :=
  let e := s.barge g
  forEach ((List.range 16).filter (fun k => decide (off / 128 ≤ k) && decide (k ≤ (off + len - 1) / 128))) s (fun k s =>
    let p := (s.sb e.sb).slots.getD k (0, 0)
    flashCmd (.read offset) p.1 p.2 e.row s)

/-- The read offsets of the re-reads of a codeword that step 1 did not decode (R146): those of the retry table up to the one that
decoded, or all eight and then the three soft offsets. -/
def retryOffsets (s : State) : CwRead → List Byte
  | .bits _ => []
  | .retry k => (List.range (k.val + 1)).map (fun j => BitVec.ofNat 8 (fld (s.reg offFMM_RETRY0) (8 * j + 7) (8 * j)))
  | _ => (List.range 8).map (fun j => BitVec.ofNat 8 (fld (s.reg offFMM_RETRY0) (8 * j + 7) (8 * j))) ++
      (List.range 3).map (fun j => BitVec.ofNat 8 (fld (s.reg offFMM_RETRY1) (8 * j + 7) (8 * j)))

/-- A record is readable when every codeword that it occupies has been decoded by some step (R146). -/
def cwsRead (cws : List CwRead) : Bool := cws.all (fun c => c != .lost)

/-- Every codeword decoded at step 1. -/
def cwsFirst (cws : List CwRead) : Bool := cws.all (fun c => match c with | .bits _ => true | _ => false)

/-- The re-reads of a run of granules whose codewords came out so, in the order of the steps (R146). -/
def reReads (cws : List CwRead) (g off len : Nat) (s : State) : State :=
  let os := (cws.map (retryOffsets s)).foldl (fun a l => if a.length < l.length then l else a) []
  forEach os s (fun o s => readRun (some o) g off len s)

/-! The collection throttle (R197) -/

def throttleStop (s : State) : Bool :=
  s.fmm.endOfLife || (!(quadsUp s).isEmpty && (quadsUp s).all (fun q => decide (freeSbs s q ≤ s.FMM_RESERVE_SB_RES)))

def throttlePace (s : State) : Bool := s.fmm.fg != 0

/-- The level of the throttle (R197). -/
def throttleLevel (s : State) : Nat := if throttleStop s then 2 else if throttlePace s then 1 else 0

/-- throttle_allows(x), for a pool part x > 0. -/
def throttleAllows (s : State) (x : Nat) : Bool :=
  !throttleStop s && (!throttlePace s || decide (x ≤ s.fmm.paceLeft))

/-- A pool part granted while THROTTLE_PACE holds is taken from what is left of the 10 ms. -/
def throttleTake (x : Nat) (s : State) : State :=
  if throttlePace s then { s with fmm := { s.fmm with paceLeft := s.fmm.paceLeft - x } } else s

/-! A berth's chain pages (R163, R164) -/

/-- The lowest pound frame that holds no page (R166). -/
def freeFrame (s : State) : Nat :=
  ((List.range (s.fmm.pages.length + 1)).find? (fun k => !s.fmm.pages.any (fun q => (q.2.st == 1 || q.2.st == 2) && q.2.loc == k))).getD 0

/-- A page is read into a frame, HOT_CLEAN: a CHART page from its slot, which is then free, a FLASH page from its barge (R166, R170). -/
def intoFrame (cpn : Nat) (s : State) : State :=
  let p := s.page cpn
  let t := s.setPage cpn { p with st := 2, loc := freeFrame s }
  if p.st = 3 then { t with chart := { t.chart with used := t.chart.used - 1 } }.emit (.chart p.loc false)
  else if p.st = 4 then t else s

/-- A page changed, in a frame: HOT_DIRTY, with the next PAGE_SEQ (R164, R166). -/
def touchPage (cpn : Nat) (f : Cpt → Cpt) (s : State) : State :=
  let s := intoFrame cpn s
  let ps := s.fmm.pageSeq + 1
  let p := f (s.page cpn)
  ({ s with fmm := { s.fmm with pageSeq := ps } }).setPage cpn { p with st := 1, pageSeq := ps }

/-- The lowest FREE chain page number: one past the highest in use is always FREE. -/
def newCpn (s : State) : Nat :=
  ((List.range (s.fmm.pages.length + 1)).find? (fun k => (s.page k).st == 0)).getD s.fmm.pages.length

/-- The chain takes an entry for sequence n of berth i: in the berth's last page, or in a new one (R163, R164). -/
def chainPageAdd (i n : Nat) (s : State) : State :=
  let b := s.berth i
  let l := s.page b.lastCpn
  if b.lastCpn ≠ noCpn ∧ l.count < 251 ∧ l.firstSeq + l.count = n then touchPage b.lastCpn (fun p => { p with count := p.count + 1 }) s
  else
    let k := newCpn s
    let s := if b.lastCpn ≠ noCpn then touchPage b.lastCpn (fun p => { p with next := k }) s else s
    let s := touchPage k (fun _ => { Cpt.free with berth := i, firstSeq := n, count := 1, loc := freeFrame s }) s
    s.updBerth i (fun b => { b with firstCpn := if b.firstCpn = noCpn then k else b.firstCpn, lastCpn := k })

/-- Drop the pages of berth i whose every entry is at or below the retire point (R163). Pages of the chain follow by NEXT_CPN. -/
def chainPagesRetire (i rp : Nat) : Nat → State → State
  | 0, s => s
  | fuel + 1, s =>
    let b := s.berth i
    let p := s.page b.firstCpn
    if b.firstCpn ≠ noCpn ∧ p.firstSeq + p.count ≤ rp + 1 then
      let s := { s with chart := if p.st = 3 then { s.chart with used := s.chart.used - 1 } else s.chart }
      let s := s.setPage b.firstCpn Cpt.free
      let s := s.updBerth i (fun b =>
        { b with firstCpn := p.next, lastCpn := if p.next = noCpn then noCpn else b.lastCpn,
                 fetchCpn := if b.fetchCpn = b.firstCpn then noCpn else b.fetchCpn })
      chainPagesRetire i rp fuel s
    else s

/-- The page that holds sequence n of a berth, found by NEXT_CPN from a starting page (R164). -/
def pageOf (s : State) (n : Nat) : Nat → Nat → Option Nat
  | 0, _ => none
  | fuel + 1, k =>
    if k = noCpn then none else
    let p := s.page k
    if p.firstSeq ≤ n ∧ n < p.firstSeq + p.count then some k else pageOf s n fuel p.next

/-- The entry of sequence n of berth i changes, and its page with it (R164, R166). -/
def touchEntry (i n : Nat) (s : State) : State :=
  match pageOf s n s.fmm.pages.length (s.berth i).firstCpn with
  | none => s
  | some k => touchPage k id s

end Sys2Proof.Machine
end

