-- ==== Sys2Proof/Machine/Lines.lean ====
section
/-! DEFINITION. The control region (R122 to R124): the lines of the map's tables and of the chain pages in pound frames, as the tables of
State give their bytes, where each line stands, and reading, repairing and writing one. -/

namespace Sys2Proof.Machine

/-! The bytes of the tables (R155, R162 to R166, R175) -/

/-- A barge table entry (R162). -/
def bargeBytes (b : Barge) : List Byte :=
  leBytes 8 (b.st * 2 ^ 62 + b.sb * 2 ^ 42 + b.row * 2 ^ 32 + b.live * 2 ^ 20) ++ leBytes 8 (b.bseq * 2 ^ 8)

/-- A chain page table entry (R166). -/
def cptBytes (p : Cpt) : List Byte :=
  leBytes 8 (p.st * 2 ^ 61 + p.barge * 2 ^ 35 + p.slot * 2 ^ 27 + p.loc * 2 ^ 3) ++ leBytes 8 p.pageSeq

/-- A block table entry (R175). -/
def blkBytes (b : Blk) : List Byte :=
  leBytes 8 (b.st * 2 ^ 60 + b.ec * 2 ^ 40 + b.nextRow * 2 ^ 29 + b.cause * 2 ^ 26 + (if b.blank then 2 ^ 25 else 0))

/-- A slot of a superblock: VALID, DIE and BLOCK; one without a block reads 0 (R155). -/
def slotBytes (x : Option (Nat × Nat)) : List Byte :=
  match x with
  | some p => leBytes 3 (2 ^ 23 + p.1 * 2 ^ 12 + p.2)
  | none => leBytes 3 0

/-- A superblock table line (R155). -/
def sbBytes (b : Sb) : List Byte :=
  (List.range 17).flatMap (fun k => slotBytes b.slots[k]?) ++ leBytes 1 b.st ++ leBytes 2 b.rows ++ leBytes 6 0

/-- WHERE of a chain entry (R163). -/
def whereOf (r : Rec) : Nat := if r.basin.isNone then 0 else if r.place.isNone then 1 else 2

/-- POUND_REF: the spec lays out no record index entry, and its number here is the record's place (log 57). -/
def poundRef (r : Rec) : Nat :=
  match r.place with
  | some p => p.chs.headD 0 * 2 ^ 32 + p.off
  | none => 0

/-- A chain entry (R163). -/
def entryBytes (r : Rec) : List Byte :=
  let w1 := match r.basin with | some (g, o) => g * 2 ^ 38 + o * 2 ^ 27 | none => 0
  leBytes 8 (r.tag * 2 ^ 48 + r.len * 2 ^ 38 + whereOf r * 2 ^ 36 + poundRef r) ++ leBytes 8 w1

/-- The entry of a sequence in a page; one that no record has reads 0. -/
def entryAt (s : State) (p : Cpt) (k : Nat) : List Byte :=
  match (s.berth p.berth).chain.find? (fun r => r.seq == p.firstSeq + k) with
  | some r => if k < p.count then entryBytes r else leBytes 16 0
  | none => leBytes 16 0

/-- A chain page of 4,096 bytes (R164). -/
def pageBytes (s : State) (cpn : Nat) : List Byte :=
  let p := s.page cpn
  let body := leBytes 8 (p.berth * 2 ^ 44 + cpn) ++ leBytes 8 (p.count * 2 ^ 56 + p.firstSeq) ++ leBytes 8 p.pageSeq ++ leBytes 8 p.next ++
    leBytes 32 0 ++ (List.range 251).flatMap (entryAt s p) ++ leBytes 12 0
  body ++ leBytes 4 (crc32c body)

/-! Lines (R122) -/

/-- A control line: of the barge table, the chain page table, the superblock table or the block table, or line j of the page in a pound
frame. -/
inductive Line where
  | barges (k : Nat)
  | pages (k : Nat)
  | sbs (k : Nat)
  | blocks (k : Nat)
  | frame (f j : Nat)
  deriving DecidableEq, Repr

/-- A line's number, one for each line. DESIGN CHOICE (log 57). -/
def Line.no : Line → Nat
  | .barges k => k
  | .sbs k => 2 ^ 25 + k
  | .blocks k => 2 ^ 26 + k
  | .pages k => 2 ^ 31 + k
  | .frame f j => 2 ^ 32 + 69 * f + j

/-- The page in a pound frame. -/
def framePage (s : State) (f : Nat) : Option Nat := (s.fmm.pages.find? (fun p => (p.2.st == 1 || p.2.st == 2) && p.2.loc == f)).map (·.1)

/-- DATA of a line: 60 bytes, those that no entry takes 0 (R122, R155, R162, R166, R175). -/
def lineData (s : State) (l : Line) : List Byte :=
  let pad := fun (bs : List Byte) => bs ++ List.replicate (60 - bs.length) 0
  match l with
  | .barges k => pad ((List.range 3).flatMap (fun j => bargeBytes (s.barge (3 * k + j))))
  | .pages k => pad ((List.range 3).flatMap (fun j => cptBytes (s.page (3 * k + j))))
  | .sbs k => sbBytes (s.sb k)
  | .blocks k => pad ((List.range 7).flatMap (fun j => blkBytes (s.blk (7 * k + j))))
  | .frame f j =>
    match framePage s f with
    | some n => pad (((pageBytes s n).drop (60 * j)).take 60)
    | none => List.replicate 60 0

/-- The pair a line stands in: pairs in turn by its number, and where a retired channel's pair sent it (R122, R124). DESIGN CHOICE (log
57). -/
def lineHome (s : State) (l : Line) : List Nat :=
  s.drc.homes.foldl (fun u m => if u = m.1 then m.2.getD (l.no % max m.2.length 1) u else u) [l.no % 6, l.no % 6 + 6]

/-- A line's 8-byte pound address: its pair, and its offset in the control slice. DESIGN CHOICE (log 57). -/
def lineAddr (s : State) (l : Line) : Nat := (lineHome s l).headD 0 * 2 ^ 40 + 64 * l.no

/-- The 64 bytes of a line: DATA, and CRC-32C over DATA and the pound address (R122). -/
def lineBytes (s : State) (l : Line) : List Byte :=
  let d := lineData s l
  d ++ leBytes 4 (crc32c (d ++ leBytes 8 (lineAddr s l)))

/-- The key of a copy. -/
def copyKey (l : Line) (c : Nat) : Nat := 16 * l.no + c

/-- The copy of a line on channel c: what was written last, or what it has become since (R122). -/
def lineCopy (s : State) (l : Line) (c : Nat) : List Byte :=
  match s.drc.flips.find? (fun p => p.1 == copyKey l c) with
  | some (_, w, b) => if w = lineBytes s l then b else lineBytes s l
  | none => lineBytes s l

/-- The check of a copy against its CRC and its address (R122, R123). What was written last passes it. -/
def copyGood (s : State) (l : Line) (c : Nat) : Bool :=
  !s.drc.flips.any (fun p => p.1 == copyKey l c) ||
    leBytes 4 (crc32c ((lineCopy s l c).take 60 ++ leBytes 8 (lineAddr s l))) == (lineCopy s l c).drop 60

/-! Reading and writing (R123, R124) -/

/-- The channels whose copy of a line can be read: those of its pair in service. -/
def lineChs (s : State) (l : Line) : List Nat := (lineHome s l).filter (inSvc s)

/-- The channels that a write of a line goes to: its copies, and the new place too while it is moved (R123, R124). -/
def lineDests (s : State) (l : Line) : List Nat :=
  let u := lineHome s l
  lineChs s l ++ (if s.drc.evac.contains u then (units s).getD (l.no % max (units s).length 1) [] else [])

/-- The berth whose entries alone a line holds (R414). -/
def lineBerth (s : State) (l : Line) : Option Nat :=
  let one := fun (bs : List Nat) => match bs.dedup with | [i] => some i | _ => none
  match l with
  | .frame f _ => (framePage s f).map (fun k => (s.page k).berth)
  | .pages k => one (((List.range 3).filter (fun j => (s.page (3 * k + j)).st != 0)).map (fun j => (s.page (3 * k + j)).berth))
  | _ => none

/-- A control line's detail word (R414): cause 1 repaired, 2 both copies bad. -/
def lineDetail (s : State) (l : Line) (cause : Nat) : BitVec 48 :=
  match lineBerth s l with
  | some i => detailWord 1 cause i
  | none => detailWord 2 cause (lineAddr s l % 2 ^ 40)

/-- A copy rewritten from the other: counted, and one transient event (R123, R414). -/
def repairCopy (l : Line) (c : Nat) (s : State) : State :=
  let s := { s with drc := { s.drc with flips := tdel s.drc.flips (copyKey l c) } }
  let s := (s.bump offDRC_CTL_ERR 63 32 1).bump (offDRC_CH_CNT + 8 * c) 47 32 1
  report 0x1B3 false (lineDetail s l 1) (dramAsk .control true l.no 1 c s)

/-- No copy is good: a severe control error (R29, R123). -/
def lineBad (l : Line) (s : State) : State := report 0x1B3 true (lineDetail s l 2) (s.bump offDRC_CTL_ERR 31 0 1)

/-- Read a line (R123): one copy, the channels in turn; the other where that fails; the bad one repaired. A line alone is read alone. -/
def readLine (l : Line) (s : State) : State :=
  let cs := if s.drc.turn then (lineChs s l).reverse else lineChs s l
  let s := { s with drc := { s.drc with turn := !s.drc.turn } }
  match cs with
  | [] => s
  | c :: t =>
    let s := dramAsk .control false l.no 1 c s
    if copyGood s l c then s
    else match t with
      | [] => lineBad l s
      | d :: _ =>
        let s := dramAsk .control false l.no 1 d s
        if copyGood s l d then repairCopy l c s else lineBad l s

/-- A line is written: to every copy it has (R123, R124). -/
def writeLine (l : Line) (s : State) : State := forEach (lineDests s l) s (fun c s => dramAsk .control true l.no 1 c s)

/-- The lines of a chain page's entry for sequence n: its table entry, and the line of its frame (R164, R166). -/
def entryLines (s : State) (cpn n : Nat) : List Line :=
  let p := s.page cpn
  .pages (cpn / 3) :: (if p.st = 1 ∨ p.st = 2 then [.frame p.loc ((64 + 16 * (n - p.firstSeq)) / 60)] else [])

/-! Space (R124) -/

/-- Lines that the listed entries of a table take, n to a line. -/
def tableLines {α : Type} (n : Nat) (t : Tbl α) : Nat := ((t.map (fun p => p.1 / n)).dedup).length

/-- Pages in pound frames. -/
def framed (s : State) : List (Nat × Cpt) := s.fmm.pages.filter (fun p => p.2.st == 1 || p.2.st == 2)

/-- Lines in use: the tables, 69 for each page in a frame, and the record index at three entries of 16 bytes to a line (R122, R155, R162,
R166, R175). -/
def ctlLines (s : State) : Nat :=
  tableLines 3 s.fmm.barges + tableLines 3 s.fmm.pages + tableLines 7 s.fmm.blocks + s.fmm.sbs.length + 69 * (framed s).length +
    ceilDiv (tsum (fun _ b => (b.chain.filter (fun r => r.place.isSome)).length) s.berths) 3

/-- What the pairs in service may hold: 5/6 of CTL each (R124). -/
def ctlLimit (s : State) : Nat := (units s).length * (s.DRC_LAYOUT0_CTL * 16384 * 5 / 6)

/-- Clean pages leave their frames for flash, those changed longest ago first, while the lines in use pass the limit; not during a move
(R124, R166). Where no pair is in service there is no slice to keep. -/
def framesOut (s : State) : State :=
  let past := ctlLines s - ctlLimit s
  if past = 0 ∨ s.drc.remirror ∨ ctlLimit s = 0 then s else
  let clean := sortBy (fun p => p.2.pageSeq) ((framed s).filter (fun p => p.2.st == 2))
  forEach (clean.take (ceilDiv past 69)) s (fun p s => s.setPage p.1 { s.page p.1 with st := 4, loc := 0 })

end Sys2Proof.Machine
end

