-- ==== Sys2Proof/Machine/Berthing.lean ====
section
/-! DEFINITION. Shared operations on berths (R40 to R82, R97 to R103): completions and their posting, fencing, the weir's grants,
records leaving a chain, and the processing of a fetched descriptor in ring order. -/

namespace Sys2Proof

open Machine

def Desc.words (d : Desc) : List Word := [d.w0, d.w1, d.w2, d.w3, d.w4, d.w5, d.w6, d.w7]

def Desc.opcode (d : Desc) : Nat := fld d.w0 7 0
def Desc.flags (d : Desc) : Nat := fld d.w0 15 8
def Desc.length (d : Desc) : Nat := fld d.w0 31 16
def Desc.tag (d : Desc) : Nat := fld d.w0 47 32
def Desc.sequence (d : Desc) : Nat := fld d.w2 47 0
def Desc.handle (d : Desc) : Nat := fld d.w3 31 0

/-- The CRC over bytes 0 to 59 matches (R52, R53). -/
def Desc.crcOk (d : Desc) : Bool := crc32c ((wordBytes d.words).take 60) == fld d.w7 63 32

/-- An address that is not 64-B aligned, or 0 (R55). -/
def badAddr (w : Word) : Bool := w.toNat % 64 != 0 || w == 0

end Sys2Proof

namespace Sys2Proof.Machine

/-- The port waits for a presentation (R356). -/
def Port.tokenNeeded (q : Port) : Bool := q.token != 0 && !q.tokenOk

/-- Fetch runs on a port: UP, link up, Bus Master Enable, no presentation awaited, function ready, domain in service, no sluice
(R211, R355, R356, R417). -/
def portFree (s : State) (p : Nat) : Bool :=
  let q := s.port p
  q.st == .up && q.linkUp && q.bme && !q.tokenNeeded && !q.d3 && !q.flr && s.inService (domainOfPort p) && !s.sluiced

/-- BSt codes (before R40). -/
def bstCode : BSt → Nat
  | .free => 0
  | .chartered => 1
  | .opened => 2
  | .fenced => 3
  | .exhausted => 4
  | .refloating => 5

/-- A berth's handle: generation in [31:20], berth ID in [19:0] (R38). -/
def handleOf (i : Nat) (b : Berth) : Nat := b.gen.toNat * 2 ^ 20 + i

/-! Completions (R56 to R59) -/

/-- The two words of a completion entry (R56). -/
def cplWords (i tag status seq : Nat) (delayed phase : Bool) : Word × Word :=
  let w0 := at' (seq % 2 ^ 32) 32 ||| bitAt delayed 25 ||| bitAt phase 24 ||| at' status 16 ||| at' tag 0
  let low := at' (i % 65536) 16 ||| at' (seq / 2 ^ 32 % 65536) 0
  (w0, low ||| at' (crc32c (leBytes 8 w0.toNat ++ leBytes 4 low.toNat)) 32)

def durable : Nat := 0x00
def retired : Nat := 0x01
def fetched : Nat := 0x02
def fetchEnd : Nat := 0x03
def lostMedium : Nat := 0x10
def refusedQuota : Nat := 0x80
def refusedDevice : Nat := 0x81
def refusedSeqEnd : Nat := 0x82
def refusedFenced : Nat := 0x83
def refusedMode : Nat := 0x84
def malformed : Nat := 0xC0
def checkFail : Nat := 0xC1
def dmaFault : Nat := 0xC2

/-- A completion posted as soon as it is known. -/
def Cpl.now (s : State) (status seq : Nat) : Cpl := ⟨status, seq, false, .soon, s.now⟩

/-- A refusal, posted 16 us after its refusal point (R100). -/
def Cpl.refuse (status point : Nat) : Cpl := ⟨status, 0, false, .refusal, point + 16⟩

/-- The first quantum boundary t_fetch + k QUANT, k at least 1, not before a time (R101). -/
def quantumAt (tFetch quant t : Nat) : Nat := tFetch + max 1 (ceilDiv (t - tFetch) (max quant 1)) * max quant 1

/-- Change the flight at a ring index. -/
def setFlight (i idx : Nat) (f : Flight → Flight) (s : State) : State :=
  s.updBerth i (fun b => { b with flights := b.flights.map (fun x => if x.idx = idx then f x else x) })

/-- Finish a descriptor: its completion is decided. DMA_FAULTs are counted at the port (R364). -/
def finishFlight (i idx : Nat) (c : Cpl) (s : State) : State :=
  let s := setFlight i idx (fun f => { f with stage := .done c }) s
  if c.status = dmaFault then s.bump (offPORT_ERR + 0x1000 * (s.berth i).port) 63 32 1 else s

/-- Fence a berth (R40): a held PUT is refused with its refusal point at the fence (R103). A berth that is FREE or already
FENCED stays as it is (R312). -/
def fenceBerth (reason i : Nat) (s : State) : State :=
  let b := s.berth i
  if b.st = .free ∨ b.st = .fenced then s else
  s.setBerth i { b with
    st := .fenced, reason := reason,
    flights := b.flights.map (fun f => if f.stage = .held then { f with stage := .done (Cpl.refuse refusedFenced s.now) } else f) }

/-- Write the completion entry of the berth's oldest descriptor (R57); a write that cannot be sent fences the berth with
reason 0x3 (R59, R354). -/
def writeCpl (i : Nat) (f : Flight) (c : Cpl) (s : State) : State :=
  let b := s.berth i
  let n := 2 ^ b.log2
  let ws := cplWords i f.tag c.status c.seq c.delayed b.phase
  let s := s.setBerth i { b with
    flights := b.flights.drop 1, cqTail := (b.cqTail + 1) % n, phase := if b.cqTail + 1 = n then !b.phase else b.phase }
  let s := if c.delayed then s.bump offWEIR_CNT_DELAYED 63 0 1 else s
  let s := if c.status = refusedDevice then s.bump offWEIR_CNT_REFUSED 63 0 1 else s
  if s.portSends b.port then s.emit (.cpl b.port (b.cqBase + BitVec.ofNat 64 (16 * b.cqTail)) ws.1 ws.2)
  else fenceBerth 3 i s

/-- Post the completions of a berth that are decided and due, in ring order (R31, R57). -/
def postLoop (i : Nat) : Nat → State → State
  | 0, s => s
  | fuel + 1, s =>
    match (s.berth i).flights with
    | [] => s
    | f :: _ =>
      match f.stage with
      | .done c => if c.postAt ≤ s.now then postLoop i fuel (writeCpl i f c s) else s
      | _ => s

/-- A burst of completions and the one message after it (R58), on the vector that its descriptors complete under; one each where a MODIFY
falls within the burst (R79). -/
def postAll (i : Nat) (s : State) : State :=
  let l := (s.berth i).flights
  let t := postLoop i l.length s
  let posted := l.take (l.length - (t.berth i).flights.length)
  if s.out.length < t.out.length then forEach (posted.map (·.vector)).dedup t (portMsix (s.berth i).port) else t

/-! Records leaving a chain -/

/-- LIVE of a barge falls by a record's length (R152); the lost-medium barge has no entry (R193). -/
def bargeLess (n len : Nat) (s : State) : State :=
  if n = lostBarge then s else s.setBarge n { s.barge n with live := (s.barge n).live - len }

/-- The barge formed with a record that is not yet on flash whole (R152). -/
def bargeWith (s : State) (i seq : Nat) : Option Nat :=
  (s.fmm.rows.find? (fun p => p.2.kind == 1 && (s.barge p.2.barge).st != 0 && (s.barge p.2.barge).bseq == p.2.bseq &&
    p.2.dir.any (fun e => e.berth == i && e.seq == seq && e.src.isNone))).map (fun p => p.2.barge)

/-- A record leaves the chain of berth i: from HELD with its pound copies, from U when not programmed, from UNRETIRED, and from
its barge's LIVE, from the moment the barge has been formed (R93, R152, R163). -/
def dropRec (i : Nat) (r : Rec) (s : State) : State :=
  let s := s.updBerth i (fun b => { b with
    chain := b.chain.filter (fun x => x.seq != r.seq), unret := b.unret - r.len,
    held := if r.place.isSome then b.held - r.len else b.held,
    unpers := if r.basin.isNone then b.unpers - r.len else b.unpers })
  match r.basin with
  | some (g, _) => bargeLess g r.len s
  | none =>
    match bargeWith s i r.seq with
    | some g => bargeLess g r.len s
    | none => s

/-- Records from granule 0 upward, each behind the one before it (R147). -/
def packFrom : Nat → List DirEnt → List DirEnt
  | _, [] => []
  | o, e :: t => { e with off := o } :: packFrom (o + e.len) t

/-- Records not yet started on a die leave the barges being assembled; those behind move up, so that no hole stays. DEDUCED (log 64): R152
says that the record leaves, R147 has the records run from granule 0 upward. -/
def dropAssembled (i rp : Nat) (s : State) : State :=
  { s with fmm := { s.fmm with asm := tmap Asm.empty (fun _ a =>
      let d := a.dir.filter (fun e => !(e.berth == i && decide (e.seq ≤ rp)))
      if d.isEmpty then Asm.empty else { a with dir := packFrom 0 d, next := (d.map (·.len)).sum }) s.fmm.asm } }

/-- Raise the retire point of berth i (R65, R40): covered records leave; a REFLOATING berth whose last survivor is covered
returns to OPEN, or to EXHAUSTED at the end of its sequence. -/
def retireTo (i target : Nat) (s : State) : State :=
  let rp := max (s.berth i).retirePoint target
  let s := forEach ((s.berth i).chain.filter (fun r => decide (r.seq ≤ rp))) s (dropRec i)
  let s := chainPagesRetire i rp (s.fmm.pages.length) (dropAssembled i rp s)
  let s := if (s.berth i).retirePoint < rp then touchEntry i rp s else s
  s.updBerth i (fun b =>
    let back := b.st = .refloating ∧ b.lastSurvivor ≤ rp
    { b with retirePoint := rp, lastSurvivor := if b.lastSurvivor ≤ rp then 0 else b.lastSurvivor,
             st := if back then (if b.nextSeq < 2 ^ 48 then .opened else .exhausted) else b.st })

/-! The weir's states (R107) -/

/-- The state rows of R107 that H, the budget and SHUT decide. DESIGN CHOICE (log 55): WEIR_CNT_OVER counts OPEN to OVER, whose row alone
says + 1, and not SHUT to OVER, which R110's "entries to OVER" would also take in. -/
def weirState (s : State) : State :=
  let b := s.weir.budget.bEff
  match s.weir.st with
  | .opened => if b < totH s then setWeir .over (s.bump offWEIR_CNT_OVER 63 0 1) else s
  | .over => if totH s * 100 ≤ s.WEIR_LEVELS_REOPEN * b then setWeir .opened s else s
  | .shut =>
    if s.ready && s.WEIR_CTRL_SHUT == 0 && !s.harbour && s.fmm.san.marker != 1 then (if b < totH s then setWeir .over s else setWeir .opened s) else s
  | .sluice => s

/-! The weir's grants (R97, R98, R109) -/

/-- Bytes in the ingress bucket now: RATE MB/s is B/us, up to BURST KiB (R109). -/
def bucket (s : State) : Int :=
  min ((s.WEIR_INGRESS_BURST * 1024 : Nat) : Int) (s.weir.tokens + ((s.now - s.weir.tokensAt) * s.WEIR_INGRESS_RATE : Nat))

/-- Whether n units of payload may start now: the bucket holds them, or is full. What a read takes beyond a full bucket is made up before
the next one starts, so that RATE holds for records above BURST too. -/
def shaperLets (s : State) (n : Nat) : Bool :=
  decide (((n * 512 : Nat) : Int) ≤ bucket s) || decide (((s.WEIR_INGRESS_BURST * 1024 : Nat) : Int) ≤ bucket s)

/-- Start the payload read of a flight (R98, R109). -/
def startRead (i : Nat) (f : Flight) (s : State) : State :=
  let s := { s with weir := { s.weir with tokens := bucket s - (f.len * 512 : Nat), tokensAt := s.now } }
  let s := setFlight i f.idx (fun f => { f with stage := .reading }) s
  s.emit (.readReq (s.berth i).port (match f.desc with | some d => d.w1 | none => 0) (f.len * 512))

/-- Grant a PUT (R98): reserve its whole length, which can take H above B_eff (R107), take its place, and start its payload read or hand
it to shaping. -/
def grantPut (i : Nat) (f : Flight) (pl : Place) (x : Nat) (s : State) : State :=
  let s := s.updBerth i (fun b => { b with held := b.held + f.len, unret := b.unret + f.len, unpers := b.unpers + f.len })
  let s := throttleTake x (weirState s)
  let s := { s with fmm := { s.fmm with ingress := s.fmm.ingress + f.len } }
  let s := headPast pl f.len { s with drc := { s.drc with rotor := s.drc.rotor + 1 } }
  let s := setFlight i f.idx (fun f => { f with place := some pl }) s
  if shaperLets s f.len then startRead i f s else setFlight i f.idx (fun f => { f with stage := .shaped, wasShaped := true }) s

/-- The PUTs at the weir in the order of R97: class, then deadline, then fetch time. -/
def waiters (s : State) : List (Nat × Flight) :=
  let l := s.berths.flatMap (fun p => (p.2.flights.filter (fun f => f.stage == .held)).map (fun f => (p.1, f)))
  sortBy (fun w => w.2.qos) (sortBy (fun w => w.2.tFetch + w.2.hold) (sortBy (fun w => w.2.tFetch) l))

/-- What R97 decides of one PUT: granted or not, and whether it waits for the pool and for room. -/
structure Verdict where
  grant : Option Place
  pool : Bool
  room : Bool
  x : Nat
  deriving DecidableEq, Repr

/-- The admission test of R97 for a PUT behind PUTs that wait for the pool or for room. -/
def judge (s : State) (i : Nat) (f : Flight) (poolAhead roomAhead : Bool) : Verdict :=
  let b := s.berth i
  let x := poolPart f.floor b.held f.len
  let pl := choosePlace s f.len
  let room := roomAhead || pl.isNone
  if x = 0 then
    ⟨if (s.weir.st = .opened ∨ s.weir.st = .over) ∧ !room then pl else none, false, room, 0⟩
  else
    let pool := !fitsClass s f.qos x || !throttleAllows s x || poolAhead || room
    ⟨if s.weir.st = .opened ∧ !pool ∧ shareFits s b.port f.len then pl else none, pool, room, x⟩

/-- Go through the waiting PUTs in order, granting what R97 grants. -/
def grantLoop : List (Nat × Flight) → Bool → Bool → State → State
  | [], _, _, s => s
  | (i, f) :: t, pa, ra, s =>
    let v := judge s i f pa ra
    match v.grant with
    | some pl => grantLoop t pa ra (grantPut i f pl v.x s)
    | none => grantLoop t (pa || v.pool) (ra || v.room) s

/-- An event of R97: every waiting PUT is evaluated again. -/
def grantAll (s : State) : State := grantLoop (waiters s) false false s

/-! Processing a descriptor (R54 to R72) -/

/-- The validity table of R55. -/
def badDesc (d : Desc) (i : Nat) (b : Berth) : Bool :=
  let spillNow := d.flags % 2 == 1
  let toEnd := d.flags / 2 % 2 == 1
  let any := fld d.w0 63 48 != 0 || fld d.w2 63 48 != 0 || fld d.w3 63 32 != 0 || d.w5 != 0 || d.w6 != 0 || fld d.w7 31 0 != 0 ||
    4 ≤ d.flags || (spillNow && d.opcode != 1) || (toEnd && d.opcode != 2) || d.handle != handleOf i b
  let lenBad := d.length == 0 || 512 < d.length
  any || match d.opcode with
    | 0 => d.length != 0 || d.w1 != 0 || d.sequence != 0 || d.w4 != 0
    | 1 => lenBad || badAddr d.w1 || 2 ^ 64 < d.w1.toNat + d.length * 512 || d.sequence != 0 || d.w4 != 0
    | 2 => d.length != 0 || d.w1 != 0 || d.w4 != 0 || b.nextSeq - 1 < d.sequence || (toEnd && d.sequence != 0)
    | 3 => lenBad || badAddr d.w1 || badAddr d.w4 || 2 ^ 64 < d.w1.toNat + d.length * 512
    | 5 => d.length != 0 || d.w1 != 0 || d.sequence != 0 || badAddr d.w4
    | _ => true

/-- The checks of R54, steps 2 to 6, in order; none when the descriptor is carried out. -/
def checkDesc (i : Nat) (b : Berth) (f : Flight) (d : Desc) (s : State) : Option Cpl :=
  if !d.crcOk then some (Cpl.now s checkFail 0)
  else if badDesc d i b then some (Cpl.now s malformed 0)
  else if b.st = .fenced then some (Cpl.refuse refusedFenced f.tFetch)
  else if f.mode = 1 ∧ d.opcode = 1 then some (Cpl.refuse refusedMode f.tFetch)
  else if d.opcode = 1 ∧ b.st = .refloating then some (Cpl.refuse refusedMode f.tFetch)
  else if d.opcode = 1 ∧ b.st = .exhausted then some (Cpl.refuse refusedSeqEnd f.tFetch)
  else none

/-- A PUT that passed steps 1 to 6: quota, then the weir (R61, R97, R99). -/
def doPut (i : Nat) (f : Flight) (d : Desc) (s : State) : State :=
  let b := s.berth i
  let n := d.length
  if b.ceil < b.held + n ∨ b.retain < b.unret + n then finishFlight i f.idx (Cpl.refuse refusedQuota f.tFetch) s
  else if s.weir.st = .sluice then finishFlight i f.idx (Cpl.now s refusedDevice 0) s
  else
    let s := grantAll (setFlight i f.idx (fun x => { x with stage := .held, len := n }) s)
    match (s.berth i).flights.find? (fun x => x.idx == f.idx && x.stage == .held) with
    | none => s
    | some x =>
      if x.tFetch + x.hold ≤ s.now then finishFlight i f.idx (Cpl.refuse refusedDevice (x.tFetch + x.hold)) s
      else setFlight i f.idx (fun y => { y with wasHeld := true }) s

/-- A RETIRE (R65): the retire point rises before the completion is written; what it frees may reopen the weir (R107) and grant waiting
PUTs. -/
def doRetire (i : Nat) (f : Flight) (d : Desc) (s : State) : State :=
  let b := s.berth i
  let s := retireTo i (if d.flags / 2 % 2 = 1 then b.nextSeq - 1 else d.sequence) s
  grantAll (finishFlight i f.idx (Cpl.now s retired (s.berth i).retirePoint) (weirState s))

/-- The FETCH information block (R68). -/
def infoBlock (tag seq len : Nat) (deferred lost written : Bool) : List Word :=
  sealWords [at' tag 48 ||| at' seq 0, bitAt deferred 18 ||| bitAt lost 17 ||| bitAt written 16 ||| at' len 0, 0, 0, 0, 0, 0]

/-- End a FETCH that found record r (R66, R67): the payload when it is written, then the information block, then the completion
decided. -/
def endFetch (i : Nat) (f : Flight) (d : Desc) (r : Rec) (deferred lost : Bool) (s : State) : State :=
  let p := (s.berth i).port
  let written := !deferred && !lost && decide (r.len ≤ d.length)
  let os := (if written then [Out.payload p d.w1 (r.len * 512) r.payload] else []) ++
    [Out.block p d.w4 (infoBlock r.tag r.seq r.len deferred lost written)]
  let s := if s.portSends p then s.emits os else s
  finishFlight i f.idx (Cpl.now s (if lost then lostMedium else fetched) r.seq) s

/-- The record a FETCH with sequence n finds: the lowest unretired one not below it (R66). -/
def findRec (b : Berth) (n : Nat) : Option Rec :=
  minBy (·.seq) (b.chain.filter (fun r => decide (max n (b.retirePoint + 1) ≤ r.seq)))

/-- The quadrant a barge stands in. -/
def quadOfBarge (s : State) (g : Nat) : Nat := (s.sb (s.barge g).sb).quadrant

/-- The page that a FETCH reads an entry from (R66, R164, R166, R170): a page in a chart slot is asked for, one on flash read into a frame;
the control lines read are those of its table entry and of its frame, and of the barge table where the record stands in the basin
(R123). -/
def fetchPage (i k : Nat) (r : Rec) (s : State) : State :=
  let s := s.updBerth i (fun b => { b with fetchCpn := k })
  let s := if (s.page k).st = 3 then (if s.chart.st = 1 then s.emit (.chart (s.page k).loc false) else s)
    else if (s.page k).st = 4 then framesOut (intoFrame k s) else s
  let ls := entryLines s k r.seq ++ (match r.place, r.basin with | none, some (g, _) => [Line.barges (g / 3)] | _, _ => [])
  forEach ls s readLine

/-- A FETCH (R66, R164, R165, R170): found in the pound it is answered at once, on the lost-medium barge LOST_MEDIUM, behind a
quadrant out of service DEFERRED, and otherwise its basin read starts. -/
def doFetch (i : Nat) (f : Flight) (d : Desc) (s : State) : State :=
  let b := s.berth i
  match findRec b d.sequence with
  | none => finishFlight i f.idx (Cpl.now s fetchEnd d.sequence) s
  | some r =>
    let start := if b.fetchCpn ≠ noCpn ∧ (s.page b.fetchCpn).firstSeq ≤ d.sequence then b.fetchCpn else b.firstCpn
    let pg := pageOf s r.seq s.fmm.pages.length start
    let s := match pg with
      | none => s
      | some k => fetchPage i k r s
    match r.place, r.basin with
    | some p, _ => endFetch i f d r false false (dramRead .berth p r.len s)
    | none, some (g, o) =>
      if g = lostBarge then endFetch i f d r false true s
      else if !quadUp s (quadOfBarge s g) then endFetch i f d r true false s
      else readRun none g o r.len (setFlight i f.idx (fun x => { x with stage := .basin r.seq }) s)
    | none, none => endFetch i f d r false true s

/-- The FETCHes of a berth whose basin read stands behind a quadrant that has gone out of service end DEFERRED (R25, R66, R161). -/
def deferBerth (i : Nat) (s : State) : State :=
  forEach (s.berth i).flights s (fun f s =>
    match f.stage, f.desc with
    | .basin q, some d =>
      match (s.berth i).chain.find? (fun r => r.seq == q) with
      | none => s
      | some r =>
        match r.place, r.basin with
        | none, some (g, _) => if g ≠ lostBarge ∧ !quadUp s (quadOfBarge s g) then endFetch i f d r true false s else s
        | _, _ => s
    | _, _ => s)

def quadDefer (s : State) : State := forEach (s.berths.map (·.1)) s deferBerth

/-- The QUERY block (R69). -/
def queryBlock (i : Nat) (b : Berth) : List Word :=
  sealWords
    [bitAt b.spillOk 38 ||| at' b.qos 36 ||| at' (bstCode b.st) 32 ||| at' (handleOf i b) 0,
     at' b.nextSeq 0, at' b.retirePoint 0, at' b.lastSurvivor 0,
     at' b.floor 32 ||| at' (sat 32 b.held) 0, at' b.retain 32 ||| at' b.ceil 0, at' b.hold 32 ||| at' (sat 32 b.unret) 0]

/-- A QUERY (R69). -/
def doQuery (i : Nat) (f : Flight) (d : Desc) (s : State) : State :=
  let b := s.berth i
  let s := if s.portSends b.port then s.emit (.block b.port d.w4 (queryBlock i b)) else s
  finishFlight i f.idx (Cpl.now s durable (b.nextSeq - 1)) s

/-- Carry out a descriptor whose words are here (R54, R60); from this boundary on it is under the policy the berth has now (R79). -/
def carryOut (i : Nat) (f : Flight) (d : Desc) (s : State) : State :=
  let s := setFlight i f.idx (fun x => { x with spillOk := (s.berth i).spillOk, vector := (s.berth i).vector }) s
  let b := s.berth i
  match checkDesc i b f d s with
  | some c => finishFlight i f.idx c s
  | none =>
    match d.opcode with
    | 1 => doPut i f d s
    | 2 => doRetire i f d s
    | 3 => doFetch i f d s
    | 5 => doQuery i f d s
    | _ => finishFlight i f.idx (Cpl.now s durable 0) s

def Stage.isDone : Stage → Bool
  | .done _ => true
  | _ => false

/-- A PUT of the berth in its payload read. -/
def Stage.isReading : Stage → Bool
  | .reading => true
  | .shaped => true
  | _ => false

/-- The next descriptor of a berth that may be carried out (R31, R64): the first returned one behind finished ones, or a PUT
behind at most three PUTs in their payload reads, with a sequence left for each. -/
def nextReady (b : Berth) : Option (Flight × Desc) :=
  let rest := b.flights.dropWhile (fun f => f.stage.isDone || f.stage.isReading)
  let ahead := (b.flights.takeWhile (fun f => f.stage.isDone || f.stage.isReading)).filter (fun f => f.stage.isReading)
  match rest with
  | f :: _ =>
    match f.stage, f.desc with
    | .returned, some d =>
      if ahead.isEmpty then some (f, d)
      else if d.opcode = 1 ∧ ahead.length < 4 ∧ b.nextSeq + ahead.length < 2 ^ 48 then some (f, d) else none
    | _, _ => none
  | [] => none

/-- Carry out, over all berths, every descriptor whose turn has come, and post what is due. -/
def pumpLoop : Nat → State → State
  | 0, s => s
  | fuel + 1, s =>
    match s.berths.findSome? (fun p => (nextReady p.2).map (fun fd => (p.1, fd))) with
    | none => s
    | some (i, f, d) => pumpLoop fuel (postAll i (carryOut i f d s))

/-- The number of descriptors whose words wait their turn. -/
def returnedCount (s : State) : Nat := tsum (fun _ b => (b.flights.filter (fun f => f.stage == .returned)).length) s.berths

def pump (s : State) : State := pumpLoop (returnedCount s) s

/-- What follows a change at a berth: its due completions are posted and the descriptors behind go on. -/
def goOn (i : Nat) (s : State) : State := pump (postAll i s)

/-- What follows an event of R97: grants, and what they let go on, berth by berth. -/
def weirEvent (s : State) : State :=
  let s := grantAll s
  pump (forEach (s.berths.map (·.1)) s postAll)

end Sys2Proof.Machine
end

