-- ==== Sys2Proof/Machine/Medium.lean ====
section
/-! DEFINITION. How a row of a superblock lies on the medium (R143 to R149, R156): granules, codewords, plane pages, the barge directory,
chunk headers, parity, and the manifest's header and pages (R221). -/

namespace Sys2Proof.Machine

/-! Places (R143, R145, R147) -/

/-- The chunk of a barge's granule, and its granule there (R147). -/
def chunkOf (g : Nat) : Nat := g / 128

/-- The plane of a chunk's granule (R145). -/
def planeOf (g : Nat) : Nat := g / 32

/-- The chunk codeword of a chunk's granule: 0 to 15, plane by plane (R145). -/
def codewordOf (g : Nat) : Nat := g / 8

/-- The codewords that a run of granules of a barge occupies, as (chunk, codeword). -/
def spanWords (off len : Nat) : List (Nat × Nat) :=
  (((List.range len).map (fun k => (chunkOf (off + k), codewordOf ((off + k) % 128)))).dedup)

/-! The barge directory (R147, R148) -/

/-- DIR_GRAN for n directory entries of 16 B (R147). -/
def dirGran (n : Nat) : Nat := ceilDiv (16 * n) 512

/-- A directory entry (R148). -/
def dirEntBytes (e : DirEnt) : List Byte :=
  leBytes 8 (e.tag * 2 ^ 48 + e.seq) ++ leBytes 8 (e.berth * 2 ^ 44 + e.off * 2 ^ 33 + e.len * 2 ^ 23)

/-- The directory of a barge of records, entries in record order; other kinds have none. -/
def dirBytes (r : Row) : List Byte := if r.kind = 1 then r.dir.flatMap dirEntBytes else []

/-! Granules (R147) -/

/-- n bytes of a list from a position on, 0 where it has none. -/
def sliceAt (bs : List Byte) (at_ n : Nat) : List Byte :=
  let l := (bs.drop at_).take n
  l ++ List.replicate (n - l.length) 0

/-- A granule of a barge: of the record or page that stands there, of the directory at the end, or padding (R147). -/
def granule (r : Row) (g : Nat) : List Byte :=
  match r.dir.find? (fun e => decide (e.off ≤ g) && decide (g < e.off + e.len)) with
  | some e => leBytes 512 (e.payload / 2 ^ (4096 * (g - e.off)))
  | none =>
    let n := if r.kind = 1 then dirGran r.dir.length else 0
    if 2048 - n ≤ g then sliceAt (dirBytes r) (512 * (g - (2048 - n))) 512 else List.replicate 512 0

/-- The data area of a data chunk (R147). -/
def dataArea (r : Row) (j : Nat) : List Byte := (List.range 128).flatMap (fun g => granule r (128 * j + g))

/-- Exclusive-OR, byte by byte. -/
def xorBytes (a b : List Byte) : List Byte := List.zipWith (· ^^^ ·) a b

/-- The parity chunk's data area: the exclusive-OR of the 16 (R156). -/
def parityArea (r : Row) : List Byte :=
  (List.range 16).foldl (fun a j => xorBytes a (dataArea r j)) (List.replicate 65536 0)

/-- A lost chunk's data area, from the parity chunk and the other 15 (R156). -/
def rebuiltArea (r : Row) (j : Nat) : List Byte :=
  ((List.range 16).filter (fun k => k != j)).foldl (fun a k => xorBytes a (dataArea r k)) (parityArea r)

/-! Chunk headers (R149) -/

/-- The first 15 words of a chunk header; word 15 is the reserved low half and the CRC. -/
def headWords (k row : Nat) (r : Row) (j : Nat) : List Word :=
  let n := if r.kind = 1 then r.dir.length else 0
  [at' 0xC2560B4E 32 ||| at' 1 24 ||| at' (if j < 16 then r.kind else 2) 16 ||| at' (if j < 16 then j else 15) 12,
   at' r.bseq 8, at' r.barge 38 ||| at' k 18 ||| at' row 8, at' r.runId 32 ||| bitAt r.sluice 0,
   at' n 48 ||| at' (dirGran n) 32 ||| at' (crc32c (dirBytes r)) 0, at' r.ckptSeq 0, 0, 0, 0, 0, 0, 0, 0, 0, 0]

/-- The chunk header of 128 bytes, CRC-32C over bytes 0 to 123 in the high half of word 15 (R149). -/
def headBytes (k row : Nat) (r : Row) (j : Nat) : List Byte :=
  let body := wordBytes (headWords k row r j) ++ leBytes 4 0
  body ++ leBytes 4 (crc32c body)

/-- A chunk is found when one of its four header copies is good (R149): bad lists the copies whose CRC fails. -/
def headFound (bad : List (Nat × Nat × Nat × Nat)) (k row j : Nat) : Bool :=
  (List.range 4).any (fun p => !bad.contains (k, row, j, p))

/-! Plane pages (R144) -/

/-- A plane page of a chunk: four codewords, their LDPC parity, and a copy of the chunk header (R144). -/
def planePage (k row : Nat) (r : Row) (j plane : Nat) : List Byte :=
  let data := sliceAt (if j < 16 then dataArea r j else parityArea r) (16384 * plane) 16384
  data ++ (List.range 4).flatMap (fun c => Config.ldpc (sliceAt data (4096 * c) 4096)) ++ headBytes k row r j

/-! What can be read of a row (R149, R156) -/

/-- A chunk of a row is there, or can be rebuilt from the row's parity and its other chunks (R156). -/
def chunkFound (c : BitVec 17) (j : Nat) : Bool := c.getLsbD j || (List.range 17).all (fun k => k == j || c.getLsbD k)

/-- Every data chunk of a row is there or can be rebuilt. -/
def rowFound (c : BitVec 17) : Bool := (List.range 16).all (chunkFound c)

/-- The directory can be read: it lies in the last chunk. -/
def dirFound (c : BitVec 17) : Bool := c != 0 && chunkFound c 15

/-- The chunks of a row of a superblock that stand on dies in service, those of quadrants out of service apart (R161, R223). -/
def seenChunks (s : State) (k : Nat) (r : Row) : BitVec 17 :=
  ((tget [] s.fmm.laid k).zipIdx.filter (fun x => dieUp s x.1.1 && quadUp s (quadOfDie x.1.1))).foldl
    (fun a x => a ||| (r.chunks &&& BitVec.ofNat 17 (2 ^ x.2))) 0

/-- Rows of a kind that the medium holds, as (superblock, row, content). -/
def rowsOfKind (s : State) (kind : Nat) : List (Nat × Nat × Row) :=
  (s.fmm.rows.filter (fun p => p.2.kind == kind)).map (fun p => (p.1 / 1024, p.1 % 1024, p.2))

/-- A checkpoint segment can be read where it stands, and has its CRCs (R29). -/
def segFound (ok : Nat → Nat → Bool) (s : State) (g : Seg) : Bool :=
  (rowsOfKind s 3).any (fun x => x.1 == g.sb && ok x.1 x.2.1 && x.2.2.dir.any (fun e => e.seq == g.ckptSeq) && rowFound (seenChunks s x.1 x.2.2))

/-! Manifests (R221, R222) -/

/-- The rows of a manifest's barge. -/
def partRows (s : State) (bseqs : List Nat) : List (Nat × Nat × Row) := (rowsOfKind s 5).filter (fun x => bseqs.contains x.2.2.bseq)

/-- A manifest is good: every one of its barges is found, and its header and pages can be read and have their CRCs (R222). ok tells of the
rows whose headers and CRCs the scan found good. -/
def Manifest.good (ok : Nat → Nat → Bool) (s : State) (m : Manifest) : Bool :=
  !m.parts.isEmpty && m.parts.all (fun b => (partRows s b).any (fun x => ok x.1 x.2.1 && rowFound (seenChunks s x.1 x.2.2)))

/-- Every chunk of a manifest has been programmed (R222). -/
def Manifest.written (s : State) (m : Manifest) : Bool :=
  m.parts.all (fun b => (partRows s b).any (fun x => x.2.2.chunks == 0x1FFFF))

/-- The manifest's BSEQ: that of its last barge. -/
def Manifest.bseq (m : Manifest) : Nat := m.parts.flatten.foldl max 0

/-- Superblock k holds a barge of a manifest that may still be loaded. -/
def manifestIn (s : State) (k : Nat) : Bool :=
  s.fmm.manifests.any (fun m => m.parts.any (fun b => (partRows s b).any (fun x => x.1 == k)))


/-- The bytes of a manifest's body: berth contexts of 64 bytes in berth-ID order, or the superblock and failed-block entries of
SEALED. -/
def bodyBytes (m : Manifest) : Nat := if m.kind = 3 then 4 * (m.sbs.length + m.fails.length) else 64 * 2 ^ 20

/-- Byte b of the body. -/
def bodyByte (m : Manifest) (b : Nat) : Byte :=
  if m.kind = 3 then
    let words := m.sbs ++ m.fails.map (fun f => f.1 * 2 ^ 12 + f.2)
    (leBytes 4 (words.getD (b / 4) 0)).getD (b % 4) 0
  else Config.contextByte (b / 64) (b % 64)

/-- A body page of 4 KiB: 4,092 bytes, and the CRC over them. -/
def bodyPage (m : Manifest) (k : Nat) : List Byte :=
  let body := (List.range 4092).map (fun j => if 4092 * k + j < bodyBytes m then bodyByte m (4092 * k + j) else 0)
  body ++ leBytes 4 (crc32c body)

/-- PARTS: the barges that the header's granule and the body's pages take. -/
def partsOf (m : Manifest) : Nat := ceilDiv (1 + 8 * ceilDiv (bodyBytes m) 4092) 2048

/-- The manifest header, CRC over bytes 0 to 59 in the high half of word 7 (R221). -/
def manifestHead (m : Manifest) : List Word :=
  let sealed := m.kind == 3
  sealWords
    [at' 0xC2564D46 32 ||| at' m.kind 24 ||| at' m.parts.length 16, at' m.runId 32 ||| at' m.first 28 ||| at' m.mask.toNat 16,
     at' m.bseqHw 8, at' m.ckptSeq 0, at' m.pageHw 0, at' m.tEvent 0,
     at' (if sealed then m.sbs.length else 0) 32 ||| at' (if sealed then m.fails.length else 0) 0]

end Sys2Proof.Machine
end

