-- ==== Sys2Proof/Machine/Flash.lean ====
section
/-! DEFINITION. Shared operations of the flash media manager (R141 to R206): opening and closing superblocks, forming barges and
issuing their rows under the program guard, assembling records, programmed rows, moves and rewrites, garbage, the release gate,
erases, and checkpoint segments. -/

namespace Sys2Proof.Machine

/-- The key of a stream's barge in assembly. -/
def streamKey : Stream → Nat
  | .spill => 0
  | .collect => 1
  | .wear => 2
  | .sluice => 3
  | .control => 4

/-- The basin may be worked on: PD_CORE in service, an image sealed, no sanitize running (R201, R204). -/
def State.basinLive (s : State) : Bool := s.core && s.fmm.san.st != 1

/-! Opening a superblock (R153, R188, R191) -/

/-- Superblocks open. -/
def openSbs (s : State) : List (Nat × Sb) := s.fmm.sbs.filter (fun p => p.2.st == 1)

/-- Whether a die already has an open block of the kind, data or parity (R153). -/
def hasOpen (s : State) (d : Nat) (parity : Bool) : Bool :=
  (openSbs s).any (fun p => if parity then (p.2.slots.drop 16).any (·.1 == d) else (p.2.slots.take 16).any (·.1 == d))

/-- The ERASED block of lowest EC on a die (R188 step 3). -/
def bestBlock (s : State) (d : Nat) : Option Nat :=
  minBy (fun b => (s.blk (blkNo s d b)).ec) ((List.range s.FMM_GEOM0_BLOCKS).filter (fun b => (s.blk (blkNo s d b)).st == 0))

/-- The die of a channel that holds the most ERASED blocks and has no open block of the kind (R188 step 2). -/
def bestDie (s : State) (c : Nat) (parity : Bool) : Option Nat :=
  minBy (fun d => 4096 - erasedOn s d)
    (((List.range 16).map (fun t => 16 * c + t)).filter (fun d => dieUp s d && !hasOpen s d parity && decide (0 < erasedOn s d)))

/-- The channels of a quadrant by the ERASED blocks they hold, most first, ties by the rotating pointer (R188 step 1). -/
def channelOrder (s : State) (q : Nat) : List Nat :=
  let erased := fun c => (((List.range 16).map (fun t => 16 * c + t)).filter (dieUp s)).foldl (fun a d => a + erasedOn s d) 0
  sortBy (fun c => 16 * 4096 - erased c) (rotate s.fmm.rotor ((List.range 24).map (fun k => 24 * q + k)))

/-- The 17 slots of a new superblock in a quadrant: 16 data blocks and the parity block, on distinct channels (R153, R188). -/
def pickSlots (s : State) (q : Nat) : Option (List (Nat × Nat)) :=
  let cand := fun parity c => (bestDie s c parity).bind (fun d => (bestBlock s d).map (fun b => (d, b)))
  let data := ((channelOrder s q).filterMap (cand false)).take 16
  let used := data.map (fun p => channelOfDie p.1)
  let par := (((channelOrder s q).filter (fun c => !used.contains c)).filterMap (cand true)).take 1
  if data.length = 16 ∧ par.length = 1 then some (data ++ par) else none

/-- The lowest superblock index that holds nothing. -/
def freeSbIndex (s : State) : Nat :=
  let n := s.fmm.sbs.length + s.fmm.laid.length
  ((List.range (n + 1)).find? (fun k => (s.sb k).slots.isEmpty && (tget [] s.fmm.laid k).isEmpty)).getD n

/-- A quadrant may open one for a stream: only the sluice goes below SB_RES (R191), and the streams of running share OPEN_MAX,
spread evenly (R153). -/
def mayOpen (s : State) (st : Stream) (q : Nat) : Bool :=
  (st == .sluice || decide (s.FMM_RESERVE_SB_RES < freeSbs s q)) &&
    decide (((openSbs s).filter (fun p => p.2.quadrant == q)).length < s.FMM_GEOM1_OPEN_MAX / max (quadsUp s).length 1)

/-- Open a superblock for a stream in a quadrant (R176: ERASED to OPEN, NEXT_ROW 0). While a block that R188 chooses awaits its blank
check it cannot be (R179). -/
def openSb (st : Stream) (q : Nat) (s : State) : Option (Nat × State) :=
  if !mayOpen s st q then none else
  (pickSlots s q).bind (fun slots =>
    if slots.any (fun p => (s.blk (blkNo s p.1 p.2)).blank) then none else
    let k := freeSbIndex s
    let s := forEach slots s (fun p s => let n := blkNo s p.1 p.2; s.setBlk n { s.blk n with st := 1, nextRow := 0 })
    some (k, ({ s with fmm := { s.fmm with rotor := s.fmm.rotor + 1, laid := tset [] s.fmm.laid k slots } }).setSb k
      ⟨slots, 1, 0, 0, 0, q, st, []⟩))

/-- The quadrant with the fewest open superblocks that can open one, from a list of quadrants. -/
def openAny (st : Stream) (qs : List Nat) (s : State) : Option (Nat × State) :=
  (sortBy (fun q => ((openSbs s).filter (fun p => p.2.quadrant == q)).length) (rotate s.fmm.rotor qs)).findSome? (fun q => openSb st q s)

/-! Issuing rows (R177) -/

/-- The program guard: every data block of the superblock is OPEN with NEXT_ROW equal to the row (R177). -/
def guardOk (s : State) (k row : Nat) : Bool :=
  (s.sb k).slots.all (fun p => let b := s.blk (blkNo s p.1 p.2); b.st == 1 && b.nextRow == row)

/-- The read-back of a superblock that has closed in running begins: every block's programmed rows (R158). -/
def readBackStart (b : Sb) (s : State) : State :=
  if s.weir.st = .sluice then s else forEach b.slots s (fun p s => flashCmd .readBack p.1 p.2 b.rows s)

/-- Close a superblock (R157): its OPEN blocks become FULL (R176). -/
def closeSb (k : Nat) (s : State) : State :=
  let b := s.sb k
  if b.st ≠ 1 then s else
  let s := forEach b.slots s (fun p s =>
    let n := blkNo s p.1 p.2
    if (s.blk n).st = 1 then s.setBlk n { s.blk n with st := 2 } else s)
  readBackStart b (s.setSb k { b with st := 2 })

/-- The next BSEQ (R150). -/
def nextBseq (s : State) : Nat := s.fmm.bseq + 1

/-- The entries that the barge table holds at most: the journal capacity, and never more than 50,331,648 (R162). -/
def bargeCap (s : State) : Nat := min s.FMM_JOURNAL_BARGES 50331648

/-- The next free barge ID; never the lost-medium barge (R193); none when the table is full (R162). -/
def freshBarge (s : State) : Option Nat :=
  if bargeCap s ≤ s.fmm.barges.length then none
  else (List.range (s.fmm.barges.length + 2)).find? (fun k => (s.barge k).st == 0 && k != lostBarge)

/-- The newest complete checkpoints, newest first: each segment verified together with the 63 before it (R169). -/
def completeCkpts (s : State) : List Nat :=
  ((s.fmm.segs.filter (fun g =>
    decide (64 ≤ (s.fmm.segs.filter (fun h => h.verified && decide (h.ckptSeq ≤ g.ckptSeq) && decide (g.ckptSeq < h.ckptSeq + 64))).length))).map
      (·.ckptSeq)).reverse

def newestCkpt (s : State) : Nat := (completeCkpts s).headD 0

/-- The chunks that a superblock has still to program for the rows it holds (R154). -/
def sbLoad (s : State) (p : Nat × Sb) : Nat :=
  17 * (p.2.issued - p.2.rows) - ((List.range 17).filter (fun j => (s.row p.1 p.2.rows).chunks.getLsbD j)).length

/-- The open superblock of a stream to take a row: one with nothing to program, else a new one, else the one with the fewest chunks still
to program; ties by the rotating pointer (R154). -/
def chooseSb (st : Stream) (qs : List Nat) (s : State) : Option (Nat × State) :=
  let mine := rotate s.fmm.rotor ((openSbs s).filter (fun p => p.2.stream == st && qs.contains p.2.quadrant && decide (p.2.issued < 1024)))
  let t := { s with fmm := { s.fmm with rotor := s.fmm.rotor + 1 } }
  match mine.find? (fun p => p.2.issued == p.2.rows) with
  | some p => some (p.1, t)
  | none =>
    match openAny st qs s with
    | some r => some r
    | none => (minBy (sbLoad s) mine).map (fun p => (p.1, t))

/-- Put a formed barge on the next row of a superblock (R154). -/
def placeRow (k : Nat) (r : Row) (s : State) : State :=
  let b := s.sb k
  let s := (s.setRow k b.issued r).setSb k { b with issued := b.issued + 1 }
  s.setBarge r.barge { s.barge r.barge with st := 1, sb := k, row := b.issued, bseq := r.bseq }

/-- A barge of a stream placed on superblock k (R147, R149, R150): under a given ID it has been moved, else it takes a new one. -/
def formOn (k : Nat) (st : Stream) (kind : Nat) (dir : List DirEnt) (id : Option Nat) (s : State) : Option State :=
  match id.orElse (fun _ => freshBarge s) with
  | none => none
  | some g =>
    let bs := nextBseq s
    let s := { s with fmm := { s.fmm with bseq := bs } }
    let r : Row := ⟨kind, bs, g, s.refloat.runId, decide (st = Stream.sluice), newestCkpt s, dir, 0, id.isSome⟩
    let live := (dir.map (fun (e : DirEnt) => e.len)).sum
    some (placeRow k r (if id.isSome then s else s.setBarge g ⟨1, 0, 0, live, bs⟩))

/-- Form a barge of a stream and place it on a superblock, whose index is answered too (R147, R149, R150, R154). Where no superblock of
the stream can take it, or the barge table is full, it is not formed. -/
def formRow (st : Stream) (qs : List Nat) (kind : Nat) (dir : List DirEnt) (id : Option Nat) (s : State) : Option (Nat × State) :=
  (chooseSb st qs s).bind (fun x => (formOn x.1 st kind dir id x.2).map (fun t => (x.1, t)))

/-- The rows of a superblock that hold a barge, in row order. -/
def rowsOf (s : State) (k : Nat) : List (Nat × Row) :=
  (s.fmm.rows.filter (fun p => p.1 / 1024 == k && p.2.kind != 0)).map (fun p => (p.1 % 1024, p.2))

/-- The barge table still places a row's barge there. -/
def rowCurrent (s : State) (k row : Nat) (r : Row) : Bool :=
  let b := s.barge r.barge
  b.st != 0 && b.sb == k && b.row == row && b.bseq == r.bseq

/-- A checkpoint segment, or a manifest, follows its barge to another superblock. -/
def controlFollow (k : Nat) (r : Row) (s : State) : State :=
  if r.kind = 3 then
    { s with fmm := { s.fmm with segs := s.fmm.segs.map (fun g => if r.dir.any (fun e => e.seq == g.ckptSeq) then { g with sb := k } else g) } }
  else if r.kind = 5 then
    { s with fmm := { s.fmm with manifests := s.fmm.manifests.map (fun m =>
      { m with parts := m.parts.map (fun b => if b.contains r.bseq then s.fmm.bseq :: b else b) }) } }
  else s

/-- From a row on, the barges of a superblock are to be moved. -/
def leaveFrom (k row : Nat) (s : State) : State :=
  let b := s.sb k
  s.setSb k { b with leave := ((List.range b.issued).filter (fun j => decide (row ≤ j) || b.leave.contains j)) }

/-- The program guard refuses (R177): never issued, a severe control error, counted, the superblock closed and the barge that it
carried, with those queued behind it, to be written into another. -/
def refuseProgram (k : Nat) (s : State) : State :=
  let n := match (s.sb k).slots with
    | p :: _ => blkNo s p.1 p.2
    | [] => 0
  let s := closeSb k (report 0x1B4 true (detailWord 0 1 n) (s.bump offFMM_CNT_REFUSE 63 32 1))
  leaveFrom k (s.sb k).rows s

/-- Issue the next row of a superblock when one waits and none runs, under the guard (R177): the programs of its data chunks. -/
def issueNext (k : Nat) (s : State) : State :=
  let b := s.sb k
  if b.st ≠ 1 ∨ b.issued ≤ b.rows ∨ b.started ≠ b.rows then s
  else if !guardOk s k b.rows then refuseProgram k s
  else
    forEach (b.slots.take 16) (s.setSb k { b with started := b.rows + 1 }) (fun p s => flashCmd .program p.1 p.2 b.rows s)

/-- Form a barge and issue its row when its turn has come. -/
def formBarge (st : Stream) (qs : List Nat) (kind : Nat) (dir : List DirEnt) (id : Option Nat) (s : State) : Option State :=
  (formRow st qs kind dir id s).map (fun x => issueNext x.1 x.2)

/-! Moved barges (R180, R181) -/

/-- A moved barge's directory: the granules of records retired since it was built are written as 0 (R181). -/
def retiredZero (s : State) (r : Row) : List DirEnt :=
  if r.kind ≠ 1 then r.dir
  else r.dir.map (fun e => if (s.berth e.berth).chain.any (fun x => x.seq == e.seq) then e else { e with payload := 0 })

/-- Move a row's barge to a new row of an open superblock of some quadrants, keeping its ID, records, offsets and directory, under a new
BSEQ (R180, R181). It stays where it is while none can take it. -/
def moveRow (st : Stream) (qs : List Nat) (r : Row) (s : State) : State :=
  let live := (s.barge r.barge).live
  match formRow st qs r.kind (retiredZero s r) (some r.barge) s with
  | some (k, t) => issueNext k (controlFollow k r (t.setBarge r.barge { t.barge r.barge with live := live }))
  | none => s

/-- The barges that a superblock is to lose are moved, as far as a superblock can take them: in running in its quadrant and stream, after a
sluice in collection's (R180, R226), in a sluice to the sluice stream (R182). -/
def moveOut (k : Nat) (s : State) : State :=
  let b := s.sb k
  let here := fun (s : State) (row : Nat) => rowCurrent s k row (s.row k row)
  let sluice := decide (s.weir.st = .sluice)
  let s := forEach b.leave s (fun row s =>
    if here s row then moveRow (if sluice then .sluice else if b.stream = .sluice then .collect else b.stream) (if sluice then quadsUp s else [b.quadrant]) (s.row k row) s else s)
  s.setSb k { s.sb k with leave := b.leave.filter (here s) }

/-- Superblocks whose barges wait to be moved. -/
def leaving (s : State) : List Nat := (s.fmm.sbs.filter (fun p => !p.2.leave.isEmpty)).map (·.1)

def moveWaiting (s : State) : State := forEach (leaving s) s moveOut

/-- From a row on, the barges of a superblock are moved. -/
def moveFrom (k row : Nat) (s : State) : State := moveOut k (leaveFrom k row s)

/-! Assembling records (R147, R151) -/

def State.asmOf (s : State) (key : Nat) : Asm := tget Asm.empty s.fmm.asm key

def State.setAsm (s : State) (key : Nat) (a : Asm) : State :=
  { s with fmm := { s.fmm with asm := tset Asm.empty s.fmm.asm key a } }

/-- Close the barge in assembly under a key and form it for a stream (R151). It stays in assembly while no superblock can take it. -/
def closeAsm (st : Stream) (key : Nat) (s : State) : State :=
  let a := s.asmOf key
  if a.dir.isEmpty then s else
  match formBarge st (quadsUp s) 1 a.dir none (s.setAsm key Asm.empty) with
  | none => s
  | some t =>
    { t with fmm := { t.fmm with closedSince := t.fmm.closedSince + 1 } }

/-- Place an entry in the barge in assembly, staged in the work slice, closing the barge first when the entry does not fit (R113,
R151). -/
def asmAdd (st : Stream) (key : Nat) (e : DirEnt) (s : State) : State :=
  let fits := fun (a : Asm) => decide (a.next + e.len + dirGran (a.dir.length + 1) ≤ 2048)
  let s := if fits (s.asmOf key) then s else closeAsm st key s
  let a := s.asmOf key
  if !fits a then s else
  (stageWork e.len s).setAsm key
    { since := if a.dir.isEmpty then s.now else a.since, next := a.next + e.len, dir := a.dir ++ [{ e with off := a.next }] }

def entOf (i : Nat) (r : Rec) (src : Option (Nat × Nat)) : DirEnt := ⟨i, r.seq, r.tag, 0, r.len, r.payload, src⟩

/-- A record that stands in a barge in assembly or in a row not yet programmed. -/
def inTransit (s : State) (i seq : Nat) : Bool :=
  s.fmm.asm.any (fun p => p.2.dir.any (fun e => e.berth == i && e.seq == seq)) ||
  s.fmm.rows.any (fun p => p.2.kind == 1 && (s.barge p.2.barge).st == 1 && p.2.dir.any (fun e => e.berth == i && e.seq == seq))

/-- Records only in the pound and in no barge, as (berth, record, spill permission). -/
def unspilled (s : State) : List (Nat × Rec × Bool × Nat) :=
  s.berths.flatMap (fun p => (p.2.chain.filter (fun r => r.basin.isNone && r.place.isSome && !inTransit s p.1 r.seq)).map
    (fun r => (p.1, r, p.2.spillOk, p.2.qos)))

/-- The groups of R105, and before them the single copies of R19. -/
def spillGroup (s : State) (x : Nat × Rec × Bool × Nat) : Nat :=
  let r := x.2.1
  if (match r.place with | some p => p.single | none => false) then 0
  else if r.front && x.2.2.1 then 1
  else if x.2.2.1 && residenceOf s x.2.2.2 != 0 && decide (r.tCommit + residenceOf s x.2.2.2 ≤ s.now) then 2
  else if x.2.2.1 then 3 else 4

/-- Units on their way to flash. -/
def transitUnits (s : State) : Nat :=
  tsum (fun i b => ((b.chain.filter (fun r => r.basin.isNone && inTransit s i r.seq)).map (·.len)).sum) s.berths

/-- What the ceiling has let through in the last 10 ms, units (R106). -/
def spilledLately (s : State) : List (Nat × Nat) := s.weir.spilled.filter (fun x => decide (s.now < x.1 + 10000))

/-- Whether n more units stay within SPILL_CEIL over 10 ms: MB/s is B/us. -/
def ceilingLets (s : State) (n : Nat) : Bool :=
  decide (512 * (((spilledLately s).map (·.2)).sum + n) ≤ 10000 * s.WEIR_TIMING_SPILL_CEIL)

/-- The record is wanted by the spill engine, with left units still to go: single copies always (R19), those of SPILL_NOW (DESIGN
CHOICE, log 55: R104 names no case for them and R63 only their place in the queue; they go at once) and those past residence always
(R104), all of them in OVER (R106), the rest while the latch of R104 would hold, and group 4 only above the threshold itself (R105). -/
def spillWants (s : State) (g left : Nat) : Bool :=
  let b := s.weir.budget.bEff
  decide (g ≤ 2) || s.weir.st == .over ||
    (s.weir.spillLatch && decide (s.WEIR_LEVELS_SPILL_LOW * b < left * 100) && (g == 3 || decide (s.WEIR_LEVELS_SPILL_THR * b < left * 100)))

/-- Take a record into the spill stream, its pound copy read; in OPEN it counts under the ceiling, a single copy excepted (R106). -/
def spillTake (g : Nat) (x : Nat × Rec × Bool × Nat) (s : State) : State :=
  let s := match x.2.1.place with
    | some p => dramRead .spill p x.2.1.len s
    | none => s
  let t := asmAdd .spill (streamKey .spill) (entOf x.1 x.2.1 none) s
  if g = 0 ∨ s.weir.st ≠ .opened ∨ !inTransit t x.1 x.2.1.seq then t
  else { t with weir := { t.weir with spilled := (t.now, x.2.1.len) :: spilledLately t } }

/-- Take records in the order of R105 while they are wanted; the first that the ceiling holds back ends the turn. left are the units of
U that no barge holds yet. -/
def spillLoop : List (Nat × Rec × Bool × Nat) → Nat → State → State
  | [], _, s => s
  | x :: t, left, s =>
    let g := spillGroup s x
    if !spillWants s g left then spillLoop t left s
    else if g ≠ 0 ∧ s.weir.st = .opened ∧ !ceilingLets s x.2.1.len then s
    else spillLoop t (left - x.2.1.len) (spillTake g x s)

/-- Run the spill engine (R104 to R106). It stops at END_OF_LIFE (R185), in a sluice, and before refloat ready. -/
def spillRun (s : State) : State :=
  if s.fmm.endOfLife || s.weir.st == .sluice || !s.ready || !s.basinLive then s else
  let l := sortBy (fun x => spillGroup s x) (sortBy (fun x => x.2.1.tCommit) (unspilled s))
  spillLoop l (totU s - transitUnits s) s

/-! Programmed chunks (R156, R176) -/

/-- Entries of a spilled or sluiced barge that have just become whole on flash: the chain entry takes WHERE 0x2 and the record
leaves U (R93, R106). -/
def persist (g : Nat) (r : Row) (s : State) : State :=
  forEach (r.dir.filter (fun e => e.src.isNone && spanSet r.chunks e.off e.len)) s (fun e s =>
    match (s.berth e.berth).chain.find? (fun x => x.seq == e.seq) with
    | none => s
    | some x =>
      if x.basin.isSome then s else
      touchEntry e.berth e.seq (s.updBerth e.berth (fun b => { b with
        unpers := b.unpers - x.len,
        chain := b.chain.map (fun y => if y.seq = e.seq then { y with basin := some (g, e.off) } else y) })))

/-- A chain page barge has been programmed: its pages that have not changed since become HOT_CLEAN (R166, R170). -/
def cleanPages (g : Nat) (r : Row) (s : State) : State :=
  forEach (r.dir.filter (fun e => e.src.isNone)) s (fun e s =>
    let p := s.page e.berth
    if p.st = 1 ∧ p.pageSeq = e.seq then s.setPage e.berth { p with st := 2, barge := g, slot := e.off / 8 } else s)

/-- Write HOT_CLEAN pages to free chart slots while the chart is ACTIVE, each frame freed as its write is issued (R170). While
host memory cannot be reached none is issued (log 16). keep: pages that stay in their frames, just needed. -/
def chartWrites (keep : List Nat) (s : State) : State :=
  if s.chart.st ≠ 1 ∨ s.weir.st = .sluice ∨ !hostReads s then s else
  forEach ((s.fmm.pages.map (·.1)).filter (fun k => !keep.contains k)) s (fun k s =>
    let p := s.page k
    if p.st = 2 ∧ s.chart.used < s.CHART_SIZE_SLOTS then
      let slot := ((List.range (s.fmm.pages.length + 1)).find? (fun j => !s.fmm.pages.any (fun q => q.2.st == 3 && q.2.loc == j))).getD 0
      ({ s with chart := { s.chart with used := s.chart.used + 1 } }.setPage k { p with st := 3, loc := slot }).emit (.chart slot true)
    else s)

/-- Chunks programmed count in FMM_BYTES_FLASH, records of the spill stream in FMM_BYTES_SPILL; both are kept in granules
(R198). -/
def countChunk (spill : Nat) (s : State) : State :=
  { s with fmm := { s.fmm with flashBytes := s.fmm.flashBytes + 128, spillBytes := s.fmm.spillBytes + spill } }

/-! Moving and rewriting (R159, R161, R180, R181) -/

/-- Give up a barge, its ID freed: its records go back to their pound copies, or where those are gone but the row can be read or rebuilt
are read from flash (R156, R161); a record with neither is lost with its last copy (R415). again: into new barges of the spill stream. -/
def giveUp (g : Nat) (dir : List DirEnt) (rebuilt again : Bool) (s : State) : State :=
  let s := forEach dir s (fun e s =>
    match (s.berth e.berth).chain.find? (fun x => x.seq == e.seq) with
    | none => s
    | some x =>
      if x.basin.isSome ∧ (x.basin.map (·.1)) ≠ some g then s
      else if x.place.isSome ∨ rebuilt then
        let s := touchEntry e.berth e.seq (s.updBerth e.berth (fun b => { b with
          unpers := if x.basin.isSome then b.unpers + x.len else b.unpers,
          chain := b.chain.map (fun y => if y.seq = e.seq then { y with basin := none } else y) }))
        if again then asmAdd .spill (streamKey .spill) { e with src := none } s else s
      else
        touchEntry e.berth e.seq (s.updBerth e.berth (fun b => { b with
          unpers := if x.basin.isNone then b.unpers - x.len else b.unpers,
          chain := b.chain.map (fun y => if y.seq = e.seq then { y with basin := some (lostBarge, 0) } else y) })))
  s.setBarge g Barge.free

/-- A row's barge of records is given up before it has been programmed; with nothing of it on a die the row holds nothing. -/
def dropRow (k row : Nat) (rebuilt again : Bool) (s : State) : State :=
  let r := s.row k row
  let s := giveUp r.barge (if r.kind = 1 then r.dir else []) rebuilt again s
  if r.chunks = 0 then s.setRow k row Row.blank else s

/-! Retirement of blocks (R180 to R185) -/

def retiredBlocks (s : State) : Nat := (s.fmm.blocks.filter (fun p => p.2.st == 6)).length

/-- Blocks of the dies in service. -/
def blocksUp (s : State) : Nat := ((List.range 1536).filter (dieUp s)).length * s.FMM_GEOM0_BLOCKS

/-- Blocks in service: those of the dies in service that are not retired. -/
def blocksIn (s : State) : Nat :=
  blocksUp s - (s.fmm.blocks.filter (fun p => p.2.st == 6 && dieUp s (p.1 / max s.FMM_GEOM0_BLOCKS 1))).length

/-- RESERVE_OUT when the retired blocks exceed RETIRE_RES (R184), END_OF_LIFE when the blocks in service less the control area
and 2 x OPEN_MAX fall below the journal and the sluice reserve (R185). Each is reported once in a start. -/
def lifeChecks (s : State) : State :=
  let s := if s.FMM_RESERVE_RETIRE_RES < retiredBlocks s ∧ !s.fmm.reserveOut then
      report 0x1B5 false (detailWord 3 1 0) { s with fmm := { s.fmm with reserveOut := true } } else s
  let left := blocksIn s - s.FMM_JOURNAL_CTL_AREA - 2 * s.FMM_GEOM1_OPEN_MAX
  let need := s.FMM_JOURNAL_BARGES / 1024 * 16 + s.FMM_RESERVE_SB_RES * (quadsUp s).length * 17
  if left < need ∧ !s.fmm.endOfLife then
    report 0x1B5 true (detailWord 3 2 0) { s with fmm := { s.fmm with endOfLife := true } } else s

/-- Retire a block with a cause (R176, R175). -/
def retireBlock (n cause : Nat) (s : State) : State :=
  lifeChecks (s.setBlk n { s.blk n with st := 6, cause := cause, blank := false })

/-! Garbage, the gate and erases (R169, R176, R178, R186, R194) -/

/-- The two newest complete checkpoints need a superblock that holds one of their segments (R169). -/
def ckptNeeds (s : State) (k : Nat) : Bool :=
  let keep := (completeCkpts s).take 2
  let oldest := keep.getLastD 0
  s.fmm.segs.any (fun g => g.sb == k && decide (oldest < g.ckptSeq + 64))

/-- A superblock is garbage (R194): every barge the table places on it is VERIFIED with LIVE 0 and of no current page, the
checkpoints do not need it and no manifest stands on it; or its barges have all been moved and programmed elsewhere (R180). -/
def isGarbage (s : State) (k : Nat) : Bool :=
  let b := s.sb k
  let pageHere := fun (g : Nat) => s.fmm.pages.any (fun p => 2 ≤ p.2.st && p.2.barge == g)
  let cur := (rowsOf s k).filter (fun r => rowCurrent s k r.1 r.2)
  (b.st == 3 && cur.all (fun r => (s.barge r.2.barge).st == 3 && (s.barge r.2.barge).live == 0 && !pageHere r.2.barge) && !ckptNeeds s k &&
    !manifestIn s k) ||
  (b.st == 2 && cur.isEmpty && decide (0 < b.issued) && (rowsOf s k).all (fun r => (s.barge r.2.barge).st != 1))

/-- A block becomes GARBAGE, gated behind the next checkpoint segment (R176, R194). -/
def toGarbage (n : Nat) (s : State) : State :=
  if (s.blk n).st = 2 then s.setBlk n { s.blk n with st := 3, gate := s.fmm.ckptSeq + 1 } else s

/-- The slot of a block in a superblock. -/
def slotOf (b : Sb) (die block : Nat) : Option Nat := b.slots.findIdx? (fun p => p.1 == die && p.2 == block)

/-- The superblock that holds a block. -/
def sbOf (s : State) (die block : Nat) : Option (Nat × Sb) := s.fmm.sbs.find? (fun p => p.2.slots.contains (die, block))

/-- The place of a block that a superblock no longer has on the medium: no die has this number. -/
def goneSlot : Nat × Nat := (1536, 0)

/-- What an erase clears: the chunks of the block in every row of its superblock; a superblock with nothing left and state FREE
is forgotten. -/
def clearBlock (die block : Nat) (s : State) : State :=
  forEach (s.fmm.laid.filter (fun p => p.2.contains (die, block))) s (fun p s =>
    let bit := match p.2.findIdx? (fun x => x == (die, block)) with | some j => BitVec.ofNat 17 (2 ^ j) | none => 0
    let rows := tmap Row.blank (fun key r =>
      if key / 1024 = p.1 then
        let c := r.chunks &&& ~~~ bit
        if c = 0 then Row.blank else { r with chunks := c }
      else r) s.fmm.rows
    let l := p.2.map (fun x => if x = (die, block) then goneSlot else x)
    let laid := tset [] s.fmm.laid p.1 (if l.all (fun x => x == goneSlot) then [] else l)
    let s := { s with fmm := { s.fmm with rows := rows, laid := laid } }
    if (s.sb p.1).st = 0 ∧ !s.fmm.rows.any (fun q => q.1 / 1024 == p.1) then s.setSb p.1 Sb.free else s)

/-- The key of a quadrant's move: collection's at its number, wear levelling's four above. -/
def collKey (q : Nat) (wear : Bool) : Nat := if wear then q + 4 else q

/-- Take every superblock that has become garbage: its blocks to GARBAGE, its barges freed, the collection that emptied it
counted (R192, R194, R206). -/
def sweep (s : State) : State :=
  forEach (s.fmm.sbs.map (·.1)) s (fun k s =>
    if !isGarbage s k then s else
    let b := s.sb k
    let s := forEach (rowsOf s k) s (fun r s => if rowCurrent s k r.1 r.2 then s.setBarge r.2.barge Barge.free else s)
    let s := forEach b.slots s (fun p s => toGarbage (blkNo s p.1 p.2) s)
    let s := s.setSb k { b with st := 0 }
    let s := forEach b.slots s (fun p s => if (s.blk (blkNo s p.1 p.2)).st = 6 then clearBlock p.1 p.2 s else s)
    forEach [false, true] s (fun wear s =>
      let key := collKey b.quadrant wear
      if (tget Coll.none s.fmm.coll key).victim = some k then
        let s := { s with fmm := { s.fmm with coll := tdel s.fmm.coll key } }
        if wear then s.bump offFMM_CNT_GC 31 0 1 else s.bump offFMM_CNT_GC 63 32 1
      else s))

/-- The release gate (R194): GARBAGE blocks whose recorded segment lies below the newest complete checkpoint become ERASABLE. -/
def releaseGate (s : State) : State :=
  let n := newestCkpt s
  let f := fun (_ : Nat) (b : Blk) => if b.st = 3 ∧ b.gate + 1 ≤ n then { b with st := 4 } else b
  { s with fmm := { s.fmm with blocks := tmap Blk.erased f s.fmm.blocks } }

/-- Issue the erase of a block, EC + 1 first (R176, R186); aimed at a block that is not ERASABLE it is never issued, and is a severe
control error (R178). -/
def issueErase (n : Nat) (s : State) : State :=
  let b := s.blk n
  let w := max s.FMM_GEOM0_BLOCKS 1
  if b.st = 4 then flashCmd .erase (n / w) (n % w) 0 (s.setBlk n { b with st := 5, ec := sat 20 (b.ec + 1) })
  else report 0x1B4 true (detailWord 0 2 n) (s.bump offFMM_CNT_REFUSE 31 0 1)

/-- Issue the erases of the ERASABLE blocks; none after a sluice trigger (R195) or in sanitize. -/
def issueErases (s : State) : State :=
  if s.weir.st = .sluice ∨ !s.basinLive then s else
  forEach ((s.fmm.blocks.filter (fun p => p.2.st == 4)).map (·.1)) s issueErase

/-- What follows verified map state: waiting moves go on, garbage found, gate passed, erases issued. -/
def upkeep (s : State) : State := if s.basinLive then issueErases (releaseGate (sweep (moveWaiting s))) else s

/-! Checkpoints (R168, R169) -/

/-- Keys at which two tables differ. -/
def changedKeys {α : Type} [DecidableEq α] (d : α) (a b : Tbl α) : List Nat :=
  ((a ++ b).map (·.1)).filter (fun k => tget d a k != tget d b k)

/-- The lines that differ from those of a segment, by number (R168): those of the barge, chain page table, superblock and block
tables. -/
def changedLines (g : Option Seg) (s : State) : List Nat :=
  let b := match g with | some g => g.barges | none => []
  let p := match g with | some g => g.pages | none => []
  let u := match g with | some g => g.sbs | none => []
  let k := match g with | some g => g.blocks | none => []
  ((changedKeys Barge.free b s.fmm.barges).map (fun n => (Line.barges (n / 3)).no) ++
    (changedKeys Cpt.free p s.fmm.pages).map (fun n => (Line.pages (n / 3)).no) ++
    (changedKeys Sb.free u s.fmm.sbs).map (fun n => (Line.sbs n).no) ++
    (changedKeys Blk.erased k s.fmm.blocks).map (fun n => (Line.blocks (n / 7)).no)).dedup

/-- The map as a segment leaves it: what it carries, and what stands on flash with it and those before it (R168, R169). -/
def snapshot (seq sb : Nat) (verified : Bool) (s : State) : Seg :=
  { ckptSeq := seq, part := seq % 64, changed := changedLines s.fmm.segs.getLast? s, sb := sb, verified := verified,
    chains := s.berths.filterMap (fun p => if p.2.chain.isEmpty then none else some (p.1, p.2.chain)),
    barges := s.fmm.barges, sbs := s.fmm.sbs, blocks := s.fmm.blocks, pages := s.fmm.pages,
    spillBytes := s.fmm.spillBytes, flashBytes := s.fmm.flashBytes }

/-- The map deltas in the control region: the lines changed in segments since the newest complete checkpoint, and since the last segment
(R169). -/
def mapDeltas (s : State) : List Nat :=
  let n := newestCkpt s
  ((s.fmm.segs.filter (fun g => decide (n < g.ckptSeq))).flatMap (·.changed) ++ changedLines s.fmm.segs.getLast? s).dedup

/-- Segments older than the two newest complete checkpoints need are given up (R169). -/
def trimSegs (s : State) : State :=
  let keep := (completeCkpts s).take 2
  match keep.getLast? with
  | none => s
  | some n => if keep.length < 2 then s else { s with fmm := { s.fmm with segs := s.fmm.segs.filter (fun g => decide (n < g.ckptSeq + 64)) } }

/-- Chain pages as the directory of a KIND 0x04 barge: slot j of the barge holds a page, of 8 granules (R166, R168). src: the places
that collection copies them from. -/
def pageDir (src : Bool) (l : List (Nat × Cpt)) (s : State) : List DirEnt :=
  l.zipIdx.map (fun x => ⟨x.1.1, x.1.2.pageSeq, 0, 8 * x.2, 8, ofLe (pageBytes s x.1.1), if src then some (x.1.2.barge, x.1.2.slot) else none⟩)

/-- A list in parts of n. -/
def partsBy {α : Type} (n : Nat) (l : List α) : List (List α) :=
  (List.range (ceilDiv l.length n)).map (fun k => (l.drop (n * k)).take n)

/-- Chain pages are written as KIND 0x04 barges of 256 pages each (R168). -/
def writePages (st : Stream) (src : Bool) (l : List (Nat × Cpt)) (s : State) : State :=
  forEach (partsBy 256 l) s (fun ps s => (formBarge st (quadsUp s) 4 (pageDir src ps s) none s).getD s)

/-- Every dirty chain page. -/
def dirtyPages (s : State) : List (Nat × Cpt) := s.fmm.pages.filter (fun p => p.2.st == 1)

/-- Write a checkpoint segment, dirty chain pages first (R168); its barge's one directory entry holds its CKPT_SEQ. -/
def writeSegment (st : Stream) (s : State) : State :=
  let s := writePages st false (dirtyPages s) s
  let seq := s.fmm.ckptSeq + 1
  match formRow st (quadsUp s) 3 [⟨0, seq, 0, 0, 0, 0, none⟩] none s with
  | none => s
  | some (k, t) =>
    issueNext k { t with fmm := { t.fmm with ckptSeq := seq, tCkpt := t.now, closedSince := 0, segs := t.fmm.segs ++ [snapshot seq k false t] } }

/-- A segment is due once 4,096 data barges have closed since the last (R168). -/
def segmentDue (s : State) : State := if 4096 ≤ s.fmm.closedSince then writeSegment .control s else s

end Sys2Proof.Machine
end

