-- ==== Sys2Proof/Machine/Sequencing.lean ====
section
/-! DEFINITION. Shared operations of the sequencer (R279 to R293): domains off and what their reset state is, rails, enable pins
and reset outputs, program words, starting and ending a program, the latched failure, and the global reset (R379). -/

namespace Sys2Proof.Machine

/-! Image slots (R333, R341, R343) -/

/-- Bytes 0 to 59 of a slot record: MAGIC, STATE and ROLLBACK; VERSION and LENGTH; the digest, its byte 8k in [63:56] of word 2 + k; RSEQ;
RSV (R333). The CRC stands behind them. -/
def SlotRec.bytes (r : SlotRec) : List Byte :=
  leBytes 8 (r.magic.toNat * 2 ^ 32 + r.st * 2 ^ 28 + r.rollback) ++ leBytes 8 (r.version * 2 ^ 32 + r.length) ++
    wordBytes ((List.range 4).map (fun k => BitVec.ofNat 64 (r.digest / 2 ^ (64 * (3 - k))))) ++ leBytes 8 r.rseq ++ leBytes 4 0

/-- A record's copy is good: its MAGIC and its CRC match. -/
def SlotRec.good (r : SlotRec) : Bool := r.magic == 0xC2565107 && r.crc == crc32c r.bytes

/-- A record as it is written. -/
def SlotRec.sealed (r : SlotRec) : SlotRec :=
  let r := { r with magic := 0xC2565107 }
  { r with crc := crc32c r.bytes }

/-- The record copy that stands: the greater RSEQ among those that are good; none for EMPTY. -/
def Slot.standing (x : Slot) : Option SlotRec :=
  match x.copy0.filter (·.good), x.copy1.filter (·.good) with
  | some a, some b => if a.rseq < b.rseq then some b else some a
  | some a, none => some a
  | none, b => b

/-- A slot's record STATE. -/
def Slot.state (x : Slot) : Nat := match x.standing with | some r => r.st | none => 0

/-- Slot A is 0, slot B 1. -/
def State.slot (s : State) (n : Nat) : Slot := if n = 0 then s.cfg.slotA else s.cfg.slotB

def Cfg.setSlot (c : Cfg) (n : Nat) (x : Slot) : Cfg := if n = 0 then { c with slotA := x } else { c with slotB := x }

/-- A record write: both copies, under the next RSEQ. -/
def Slot.write (x : Slot) (r : SlotRec) : Slot :=
  let q := (match x.standing with | some o => o.rseq | none => 0) + 1
  let r := SlotRec.sealed { r with rseq := q }
  { x with copy0 := some r, copy1 := some r }

/-- A slot whose record is written EMPTY. -/
def Slot.emptied (x : Slot) : Slot := x.write ⟨0, 0, 0, 0, 0, 0, 0, 0⟩

/-- A WRITE_SLOT that stops leaves its target EMPTY, and a SET_TRIAL its slot unchanged (R341, R343). -/
def Cfg.dropWrite (c : Cfg) : Cfg :=
  match c.writing with
  | some (n, _) => { (c.setSlot n (if n = 0 then c.slotA.emptied else c.slotB.emptied)) with writing := none, trialling := none }
  | none => { c with trialling := none }

/-! Domains (R280) -/

/-- Registers of an offset range take their reset value. -/
def clearRegs (lo hi : Nat) (s : State) : State :=
  { s with regs := s.regs.filter (fun p => !(decide (lo ≤ p.1) && decide (p.1 < hi))) }

/-- The GAUGE_CTRL command that runs (the string of an AUTH, 8 for CAP_TEST) ends with a result (R257). -/
def endGaugeCmd (op result : Nat) (s : State) : State :=
  if s.gauge.runCmd = some op then cmdEnd kGauge result { s with gauge := { s.gauge with runCmd := none } } else s

/-- Authentications in progress stop with PD_CORE: their modules wait for it to return, an AUTH command ends CONDITION (R243, R257). -/
def authStop (s : State) : State :=
  let g := { s.gauge with strings := tmap GStr.absent (fun _ g => if g.nonce.isSome then { g with nonce := none } else g) s.gauge.strings }
  forEach (List.range 8) { s with gauge := g } (fun i s => endGaugeCmd i 4 s)

/-- PD_CORE's blocks start from their reset state; what stands on the medium stays (R280, R369). -/
def coreReset (s : State) : State :=
  let z := State.reset
  let f := { z.fmm with rows := s.fmm.rows, laid := s.fmm.laid, segs := s.fmm.segs, manifests := s.fmm.manifests,
                        runDays := s.fmm.runDays, days := s.fmm.days, san := s.fmm.san.stopped }
  let s := authStop s
  let w := { z.weir with tripCap := s.weir.tripCap, tripFly := s.weir.tripFly, tripStr := s.weir.tripStr }
  let s := clearRegs 0x50000 0x60000 (clearRegs 0x80000 0xB0000 (clearRegs 0xD0000 0xF0000 (clearRegs 0x100000 0x200100 s)))
  { s with
    berths := [], ports := [], lock := z.lock, weir := w, refloat := z.refloat, drc := z.drc, fmm := f, chart := z.chart,
    pke := z.pke, enginesOut := 0, mgmt := { s.mgmt with held := [], honoured := false, fencing := none }, cmds := s.cmds.filter (fun p => p.1 ≤ 4 || p.1 == kLog),
    clk := { s.clk with aLock := false, bLock := false, ddrDiv := 0, flDiv := 0 } }

/-- PD_MGMT's blocks start from their reset state; slots and fuses stay (R280, R369, R381). -/
def mgmtReset (s : State) : State :=
  let z := State.reset
  let d := s.cfg.dropWrite
  let c := { z.cfg with slotA := d.slotA, slotB := d.slotB, fuses := d.fuses }
  let s := clearRegs 0 0x20000 (clearRegs 0xD1000 0xD1800 s)
  { s with mgmt := { z.mgmt with fencing := s.mgmt.fencing }, cfg := c, cmds := s.cmds.filter (fun p => p.1 != kGlb && p.1 != kCfg) }

/-- A port leaves UP for RETRY: fetch stopped, one transient keeper event; the timer starts at once for a link or domain loss
(R355, R417). After a sluice trigger no timer runs (R358). -/
def portDown (timer : Bool) (p : Nat) (s : State) : State :=
  let q := s.port p
  if q.st ≠ .up then s else
  let t := if timer && !s.sluiced then some (s.now + 1000 * s.PORT_CFG_RETRY_MS p) else none
  let s := s.setPort p { q with st := .retry, retryEnd := t, stopping := false }
  report p false (detailWord 0 2 p) (s.bump (offPORT_CNT + 0x1000 * p) 63 48 1)

/-- The function's state after its link goes down (R346, R352, R356). -/
def portLinkDown (p : Nat) (s : State) : State :=
  s.updPort p (fun q => { q with
    linkUp := false, bme := false, msixEn := false, fnMask := true, unmasked := [], pendingVec := [], speed := 0, width := 0,
    presented := false, tokenOk := false, d3 := false, flr := false })

/-- The ports of a cluster lose their links and their functions' state: to each a link loss (R355). -/
def clusterOff (d : Nat) (s : State) : State :=
  forEach ((List.range 16).map (fun j => 16 * d + j)) s (fun p s => (portLinkDown p (portDown true p s)).updPort p (fun q =>
    { q with aer := 0, mps := 128, mrrs := 512, tags10 := false }))

/-- Channels of a half or quadrant that are not retired or lost go OFF (R140, R206). -/
def channelsOff (d : Nat) (s : State) : State :=
  if d = 20 ∨ d = 21 then
    forEach ((List.range 6).map (fun j => (d - 20) * 6 + j)) s (fun c s =>
      if (s.chan c).st = 3 ∨ (s.chan c).st = 0 then s else s.setChan c { s.chan c with st := 4 })
  else
    forEach ((List.range 24).map (fun j => (d - 16) * 24 + j)) s (fun c s =>
      if flashChan s c = 1 then { s with fmm := { s.fmm with chans := tset 0 s.fmm.chans c 3 } } else s)

/-- Switch a domain off: its outputs are clamped and it starts from its reset state when it is next on (R280). The keeper no longer hears its
sources (R308), and it has yet to be seen off (R288). -/
def domainOff (d : Nat) (s : State) : State :=
  let m := BitVec.ofNat 24 (2 ^ d)
  let s := { s with seq := { s.seq with
    discharging := s.seq.discharging ||| (s.seq.on &&& m), on := s.seq.on &&& ~~~ m, pg := s.seq.pg &&& ~~~ m,
    startOn := s.seq.startOn &&& ~~~ m, lines := s.seq.lines &&& ~~~ m } }
  if d < 16 then clusterOff d s
  else if d < dCore then quadDefer (channelsOff d s)
  else if d = dCore then coreReset s
  else if d = dMgmt then mgmtReset s else s

/-- Switch a domain on; its power-good comes later. Program 0 switches it on for the start (R418). -/
def domainOn (d : Nat) (s : State) : State :=
  let m := BitVec.ofNat 24 (2 ^ d)
  let start := match s.seq.run with | some r => r.prog == 0 | none => false
  { s with seq := { s.seq with
    on := s.seq.on ||| m, startOn := if start then s.seq.startOn ||| m else s.seq.startOn, discharging := s.seq.discharging &&& ~~~ m } }

/-- Every main-die domain off in descending index order (R218, R292, R402). -/
def allDomainsOff (s : State) : State :=
  forEach (List.range 24).reverse s (fun d s => if s.seq.on.getLsbD d then domainOff d s else s)

/-! Rails, pins and reset outputs (R281 to R283, R291) -/

def State.rail (s : State) (r : Nat) : Rail := tget Rail.off s.seq.rails r

def State.setRail (s : State) (r : Nat) (x : Rail) : State := { s with seq := { s.seq with rails := tset Rail.off s.seq.rails r x } }

def railEntry (s : State) (r : Nat) : Word × Word := tget (0, 0) s.seq.sect.rails r

def railIsland (s : State) (r : Nat) : Bool := fld (railEntry s r).1 51 51 == 1
def railAction (s : State) (r : Nat) : Nat := fld (railEntry s r).1 50 48
def railVout (s : State) (r : Nat) : Nat := fld (railEntry s r).1 47 32
def railVmin (s : State) (r : Nat) : Nat := fld (railEntry s r).1 31 16
def railVmax (s : State) (r : Nat) : Nat := fld (railEntry s r).1 15 0
def railFed (s : State) (r : Nat) : Nat := fld (railEntry s r).2 63 40
def railSrc (s : State) (r : Nat) : Nat := fld (railEntry s r).2 39 36
def railIdx (s : State) (r : Nat) : Nat := fld (railEntry s r).2 31 24
def railGrace (s : State) (r : Nat) : Nat := fld (railEntry s r).2 23 16
def railTrans (s : State) (r : Nat) : Nat := fld (railEntry s r).2 15 0

/-- Command a rail's output: forwarded at once; the target is the newest command's; the window of R283 restarts. -/
def railOutput (r mv : Nat) (s : State) : State :=
  (s.setRail r { s.rail r with target := mv, slewEnd := some (s.now + 1000 * railTrans s r) }).emit (.pmbus r 0x21 mv)

/-- Switch a rail on at its nominal output, or off (R282, R283): its power-good falls with its source. -/
def railSwitch (r : Nat) (on : Bool) (s : State) : State :=
  if on then
    railOutput r (railVout s r) ((s.setRail r { s.rail r with on := true, fault := false }).emit (.pmbus r 0x01 0x80))
  else (s.setRail r { s.rail r with on := false, slewEnd := some (s.now + 1000 * railTrans s r) }).emit (.pmbus r 0x01 0x00)

/-- Drive a reset output low; a pending release is cancelled (R291). -/
def assertReset (n : Nat) (s : State) : State :=
  let m := BitVec.ofNat 16 (2 ^ n)
  let low := if s.seq.asserted.getLsbD n then s.seq.lowAt else tset 0 s.seq.lowAt n s.now
  { s with seq := { s.seq with asserted := s.seq.asserted ||| m, relPending := s.seq.relPending &&& ~~~ m, lowAt := low } }

def assertAllResets (s : State) : State := forEach (List.range 16) s assertReset

/-- The stretch of an output has passed since it was last driven low. -/
def stretched (s : State) (n : Nat) : Bool := decide (tget 0 s.seq.lowAt n + 1000 * tget 0 s.seq.sect.stretch n ≤ s.now)

/-- Request the release of a reset output; it rises once its stretch has passed (R291). -/
def releaseReset (n : Nat) (s : State) : State :=
  let m := BitVec.ofNat 16 (2 ^ n)
  if !s.seq.asserted.getLsbD n then s
  else if stretched s n then { s with seq := { s.seq with asserted := s.seq.asserted &&& ~~~ m, relPending := s.seq.relPending &&& ~~~ m } }
  else { s with seq := { s.seq with relPending := s.seq.relPending ||| m } }

/-! Step words (R286) -/

def sOp (w : BitVec 32) : Nat := w.toNat / 2 ^ 28
def sBits (w : BitVec 32) (hi lo : Nat) : Nat := w.toNat / 2 ^ lo % 2 ^ (hi + 1 - lo)
def eKind (w : BitVec 32) : Nat := sBits w 27 26
def eOn (w : BitVec 32) : Bool := sBits w 25 25 == 1
def eIndex (w : BitVec 32) : Nat := sBits w 23 16
def eTimeout (w : BitVec 32) : Nat := sBits w 15 0

/-- An ENABLE step of a domain. -/
def romEnable (on : Bool) (d : Nat) (t : BitVec 16) : BitVec 32 :=
  BitVec.ofNat 32 (0x10000000 + (if on then 0x02000000 else 0) + d * 65536 + t.toNat)

/-- The mask-ROM programs (R290): program 0 enables the management island, programs 1 and 2 switch it off, program 3 ends at
once. DESIGN CHOICE (log 10): the words, with opaque timeouts. -/
def romWord (p step : Nat) : BitVec 32 :=
  if p = 0 then
    if step = 0 then romEnable true dCore Config.romUpMs
    else if step = 1 then romEnable true dMgmt Config.romUpMs else BitVec.ofNat 32 0x4C000000
  else if p = 3 then BitVec.ofNat 32 0x4C000000
  else if step = 0 then romEnable false dMgmt Config.romDownMs
  else if step = 1 then romEnable false dCore Config.romDownMs else BitVec.ofNat 32 0x4C000000

/-- The mask-ROM section that replaces one that failed its check (R290): its programs are romWord's. -/
def romSection : SeqSection :=
  { SeqSection.empty with
    restartHold := Config.romHold.toNat,
    stretch := (List.range 16).map (fun n => (n, Config.romStretch.toNat + 1)) }

/-- The word of a step, of the section in force or of the mask ROM; a step number beyond 255 acts as END (R288). -/
def progWord (s : State) (rom : Bool) (p step : Nat) : BitVec 32 :=
  if 256 ≤ step then BitVec.ofNat 32 0x4C000000 else if rom then romWord p step else tget 0 s.seq.sect.progs (256 * p + step)

/-- JUMP END. -/
def isEnd (w : BitVec 32) : Bool := sOp w == 4 && sBits w 27 26 == 3

/-- Set the item of an ENABLE step (R288). -/
def setItem (w : BitVec 32) (on : Bool) (s : State) : State :=
  match eKind w with
  | 0 => if on then domainOn (eIndex w) s else domainOff (eIndex w) s
  | 1 => railSwitch (eIndex w) on s
  | 2 =>
    let m := BitVec.ofNat 16 (2 ^ eIndex w)
    { s with seq := { s.seq with en := if on then s.seq.en ||| m else s.seq.en &&& ~~~ m } }
  | _ => if on then releaseReset (eIndex w) s else assertReset (eIndex w) s

/-- The item of an ENABLE step is power-good, for an on step, or off (R282, R288). -/
def itemReached (s : State) (w : BitVec 32) : Bool :=
  match eKind w with
  | 0 => if eOn w then s.inService (eIndex w) else !s.seq.discharging.getLsbD (eIndex w)
  | 1 =>
    let x := s.rail (eIndex w)
    if eOn w then x.pg else !x.pg && (railSrc s (eIndex w) != 0 || decide (x.vout ≤ railVout s (eIndex w) / 10))
  | _ => true

/-! Running programs (R285, R288, R289) -/

def setRun (r : Option Run) (s : State) : State := { s with seq := { s.seq with run := r } }

def setSeqSt (n : Nat) (s : State) : State := { s with seq := { s.seq with st := n } }

/-- Start a program at step 0: a staged section applies from now, and in safe harbour a program that does not begin a start takes
the mask-ROM words (R285, R290, R336). -/
def startProgram (p : Nat) (s : State) : State :=
  let s := match s.seq.staged with
    | some x => ({ s with seq := { s.seq with sect := x, staged := none, sectionNew := false, defaultProg := false } }).setReg offTOW_CFG x.tow
    | none => s
  let rom := s.seq.defaultProg || (s.cfg.st == 5 && p != 0)
  let r : Run := ⟨p, rom, 0, false, [], .none, s.seq.latchCleared⟩
  logRec 0x02 p 0 [] (setSeqSt 2 { s with seq := { s.seq with run := some r, latchCleared := false } })

/-- Abandon the running program (R288, R292). -/
def abandonProgram (s : State) : State :=
  match s.seq.run with
  | none => s
  | some r => logRec 0x03 r.prog 2 [] (setRun none s)

/-- Go on at a step with a wait. -/
def setStep (r : Run) (step : Nat) (w : PWait) (s : State) : State := setRun (some { r with step := step, wait := w }) s

/-- The rail or domain of an ENABLE step, as SEQ_FIRST_FAIL.RAIL and the log give it (R295, R303). -/
def itemCode (w : BitVec 32) : Nat := if eKind w = 0 then 0x80 + eIndex w else eIndex w

/-- The first failure since the last clear is recorded once (R295, R303). -/
def firstFail (code kind : Nat) (s : State) : State :=
  if s.seq.failRail = 0xFF then { s with seq := { s.seq with failRail := code, failKind := kind, failTime := s.now } } else s

/-- An item of the management island (R280). -/
def islandItem (s : State) (w : BitVec 32) : Bool :=
  (eKind w == 0 && (eIndex w == dCore || eIndex w == dMgmt)) || (eKind w == 1 && railIsland s (eIndex w))

/-- The ENABLE word that switches the item of one off, with its TIMEOUT. -/
def offWord (w : BitVec 32) : BitVec 32 := w &&& ~~~ 0x02000000

/-- An item has to be seen off no longer: the next ones are switched off in turn, up to one that has not been seen off within its TIMEOUT
(R288, R289). At the end of a latched failure STATE is LATCHED. -/
def goDown : List (BitVec 32) → State → State
  | [], s =>
    let q := { s.seq with downs := [], downWait := none, downLatch := false }
    if s.seq.downLatch then { s with seq := { q with st := 4 } } else { s with seq := q }
  | w :: t, s =>
    let s := setItem w false s
    if eTimeout w = 0 ∨ itemReached s w then goDown t s
    else { s with seq := { s.seq with downs := t, downWait := some (w, s.now + 1000 * eTimeout w) } }

/-- latch_fail (R289): the record, the reset outputs, and everything the run has turned on switched off, most recently enabled first. -/
def latchFail (w : BitVec 32) (r : Run) (s : State) : State :=
  let first := s.seq.failRail == 0xFF
  let s := firstFail (itemCode w) 1 (queueLog 0x04 (itemCode w) 0 first [] s)
  let s := raiseIrq 5 s
  let s := assertAllResets s
  let keep := !islandItem s w && (r.turnedOn.filter (islandItem s)).all (itemReached s)
  let items := (r.turnedOn.reverse.filter (fun x => !(keep && islandItem s x))).map offWord
  let s := logRec 0x03 r.prog 1 [] (setRun none s)
  goDown items { s with seq := { s.seq with downLatch := true } }

/-- A reset or a loss of ROOT has switched every main-die domain off: each has 20 ms to be seen off, in descending index order (R292, R402). -/
def domainsDown (was : BitVec 24) (s : State) : State :=
  goDown (((List.range 24).reverse.filter (fun d => was.getLsbD d)).map (fun d => romEnable false d 20) ++ s.seq.downs) s

/-! The windlass's gate outputs (R259, R261, R266, R268, R270, R271) -/

/-- The phases of the sets in service that no overcurrent trip holds off (R258, R270). -/
def Fly.live (f : Fly) : BitVec 6 :=
  (if f.set0 && !f.ocHit.getLsbD 0 then 0x07 else 0) ||| (if f.set1 && !f.ocHit.getLsbD 1 then 0x38 else 0)

/-- FLY_GATE_EN of the sets in service. -/
def Fly.enables (f : Fly) : BitVec 2 := (if f.set0 then 1 else 0) ||| (if f.set1 then 2 else 0)

/-- The outputs that the windlass's state gives: low sides alone in TEST, none while SYNC measures and during a load release, all of
the sets in service in SYNC, RUN and BRAKE otherwise, and none in OFF, SAFE and FAULT. -/
def Fly.driven (f : Fly) : Fly :=
  let off := { f with gateEn := 0, pwmH := 0, pwmL := 0 }
  let ready := { f with gateEn := f.enables, pwmH := 0, pwmL := 0 }
  let on := { f with gateEn := f.enables, pwmH := f.live, pwmL := f.live }
  if f.gatesCut then off else
  match f.st with
  | .test => { ready with pwmL := f.live }
  | .sync => if f.sync = .measure then ready else on
  | .run => if f.release then ready else on
  | .brake => on
  | _ => off

/-- The windlass block in a new value, its gate outputs following. -/
def State.setFly (s : State) (f : Fly) : State := { s with fly := f.driven }

/-- The windlass goes to SAFE with its gates off, as a global reset applied has it (R261, R275). -/
def flySafe (s : State) : State :=
  s.setFly { s.fly with
    st := .safe, gatesCut := false, dump := false, motoring := false, generating := false, release := false, measured := false,
    waitUntil := none }

/-- The sources whose state a start of program 0, or a global reset, returns to OK: the main-die ones and those of domains,
rails and ROOT (R310). -/
def startSource (n : Nat) : Bool :=
  n < 0x1C0 || (0x1C0 ≤ n && n ≤ 0x1D8) || (0x200 ≤ n && n < 0x240) || 0x400 ≤ n

def restoreStartSources (s : State) : State :=
  { s with keep := { s.keep with
    srcs := tmap Src.ok (fun n x => if startSource n then { x with severe := false, lineFault := false, times := [], items := [] } else x) s.keep.srcs,
    handling := s.keep.handling.filter (fun h => !startSource h.1) } }

/-- What is still handled when a reset has been applied: a SHUTDOWN whose grace runs (R315). -/
def handledOn (s : State) : State :=
  { s with keep := { s.keep with handling := if s.seq.graceEnd.isSome then s.keep.handling.filter (·.2.2) else [] } }

/-- A global reset applied (R292, R379): the program abandoned, every reset output asserted, every main-die domain off, the
windlass to SAFE, the start condition to be tested again. Rails, enable pins, the latch, log, gauge and time base stay. -/
def globalReset (cause : Nat) (s : State) : State :=
  let t := handledOn (restoreStartSources (flySafe (allDomainsOff (assertAllResets (abandonProgram s)))))
  let u := { t with clk := { t.clk with cause := cause } }
  domainsDown s.seq.on (if u.seq.st = 4 then u else setSeqSt 1 u)

end Sys2Proof.Machine
end

