-- ==== Sys2Proof/Machine/Reactions.lean ====
section
/-! DEFINITION. Shared reactions of the power side: learning and the bank's test given up, the windlass to FAULT, the sluice
trigger (R207 to R220), and the weir's recomputation, states and overtop (R83 to R108). -/

namespace Sys2Proof.Machine

/-! The gauge and the windlass as other blocks stop them -/

/-- Abandon a learning discharge: a current of 0 is written unless AC_LOST is 1; the string counts from its next update
(R241, R242). -/
def stopLearning (s : State) : State :=
  match s.gauge.learning with
  | none => s
  | some i =>
    let s := s.updStr i (fun g => { g with learning := false })
    let s := { s with gauge := { s.gauge with learning := none } }
    if s.gauge.acLost then s else s.emit (.shelf s.GAUGE_CFG_LEARN_PMBUS_CMD i 0)

/-- Abandon the bank's test: load off, charger on, C_TEST as it was (R250); a CAP_TEST command ends ABORTED (R257). -/
def stopCapTest (s : State) : State :=
  if !s.gauge.testing then s else
  let s := { s with gauge := { s.gauge with testing := false }, pins := { s.pins with capTest := false, charger := true } }
  endGaugeCmd 8 7 (s.bump offGAUGE_CAP_CNT 31 0 1)

/-- The windlass does not generate or count: the flywheel term is 0 within 1 us of entering any state but RUN (R261). -/
def flyDrop (s : State) : State :=
  let w := { s.weir with flyRaw := 0, flyDer := 0 }
  let s := { s with weir := w }
  { s with weir := { s.weir with budget := Budget.min' s.weir.budget (budgetOf s (eAvailBy guarded s)) } }

/-- The windlass to FAULT with a cause from RUN, SYNC or TEST, or from BRAKE for a brake's end (R261, R274); gates off, a
WINDLASS record (R295). -/
def flyFault (cause phase : Nat) (s : State) : State :=
  let f := { s.fly with
    st := .fault, cause := cause, phase := phase, tFault := s.now, gatesCut := false, dump := false, motoring := false,
    generating := false, release := false }
  logRec 0x0D 0 cause [] (flyDrop (s.setFly f))

/-- Whether a windlass set is in service. -/
def setIn (s : State) (k : Fin 2) : Bool := if k = 0 then s.fly.set0 else s.fly.set1

/-- A set of phases taken out of service (R265): the remaining set goes on, and FAULT follows when none is left. -/
def takeSetOut (k : Fin 2) (phase : Nat) (s : State) : State :=
  if !setIn s k then s else
  let s := s.setFly (if k = 0 then { s.fly with set0 := false } else { s.fly with set1 := false })
  if s.fly.set0 ∨ s.fly.set1 then (if flyCounts s then s else flyDrop s)
  else if s.fly.st = .run ∨ s.fly.st = .sync ∨ s.fly.st = .test then flyFault 8 phase s else s

/-- The windlass takes a set out, and the set's keeper source reports it (R265, R305). -/
def loseSet (k : Fin 2) (phase : Nat) (s : State) : State :=
  if !setIn s k then s else report (0x1E9 + k.val) true (detailWord 0 2 k.val) (takeSetOut k phase s)

/-! The towpath as a trigger uses it (R300, R301) -/

/-- A command on the pair under a new CMD_NO, four beacons long. -/
def towNow (cmd : Nat) (mask : Byte) (s : State) : State :=
  { s with tow := { s.tow with cmd := cmd, mask := mask, cmdNo := s.tow.cmdNo + 1, repeats := 4 } }

/-- The master sends a command in four consecutive beacons (R300): a SLUICE at once (R301), another one behind those waiting. -/
def towSend (cmd : Nat) (mask : Byte) (s : State) : State :=
  let s := if cmd = 2 ∨ s.tow.repeats = 0 then towNow cmd mask s
    else { s with tow := { s.tow with waiting := s.tow.waiting ++ [(cmd, mask)] } }
  logRec 0x0F mask.toNat 2 [] s

/-- A master with TOGETHER sends SLUICE to every member once it is triggered, or a member's reply shows a sluice (R301). -/
def groupSluice (s : State) : State :=
  if s.tow.addr = 0 ∧ s.TOW_CFG_TOGETHER = 1 ∧ !s.tow.group then towSend 2 0xFE { s with tow := { s.tow with group := true } } else s

/-! The sluice trigger (R207 to R220) -/

def trigBit (c : Nat) : BitVec 6 := BitVec.ofNat 6 (2 ^ (c - 1))

/-- A further trigger: MASK until the seal, FIRST the lowest of one CK_AON period (R208, R218). One that MASK holds already changes
nothing. -/
def triggerAgain (c : Nat) (s : State) : State :=
  if (5 ≤ s.sluice.phase ∧ !s.sluice.early) ∨ s.sluice.mask.getLsbD (c - 1) then s else
  let first := if s.now = s.sluice.tTrigger then min s.sluice.first c else s.sluice.first
  let s := { s with sluice := { s.sluice with first := first, mask := s.sluice.mask ||| trigBit c } }
  logRec 0x08 c (if s.sluice.early then 1 else 0) [] (raiseIrq 1 s)

/-- Program p in place of the one running (R292). -/
def switchProgram (p : Nat) (s : State) : State := startProgram p (abandonProgram s)

/-- CFG WRITE_SLOT and SET_TRIAL end ABORTED at a trigger; the record that was to be written is EMPTY for WRITE_SLOT and
unchanged for SET_TRIAL (R343). -/
def stopCfg (s : State) : State :=
  if s.cfg.writing.isSome ∨ s.cfg.trialling.isSome then
    cmdEnd kCfg 11 { s with cfg := s.cfg.dropWrite }
  else s

/-- What every trigger does to the gauge, the windlass, the loader and the retry timers (R242, R250, R343, R358). -/
def triggerAround (s : State) : State :=
  let s := stopCfg (stopCapTest (stopLearning s))
  let s := s.setFly { s.fly with motoring := false }
  forEach (s.ports.map (·.1)) s (fun p s => s.updPort p (fun q => { q with retryEnd := none }))

/-- A trigger before refloat ready powers the device down in order: program 1, no manifest (R220). A sanitize that runs stops;
its marker stays RUNNING (R203). -/
def triggerEarly (c : Nat) (s : State) : State :=
  let u := { s.sluice with phase := 6, first := c, mask := trigBit c, tTrigger := s.now, early := true, warned := true }
  let s := raiseIrq 1 { s with sluice := u }
  let s := earlyWarning (setWeir .sluice s)
  let s := logRec 0x08 c 1 [] s
  let s := { s with fmm := { s.fmm with san := s.fmm.san.halted } }
  switchProgram 1 (triggerAround s)

/-- The rows of a superblock of running that no die has begun when a sluice is triggered: those behind the one being programmed, or the
unprogrammed rows of one that has closed. -/
def undoneRows (s : State) (k : Nat) : List Nat :=
  let b := s.sb k
  ((rowsOf s k).filter (fun r => rowCurrent s k r.1 r.2 && (s.barge r.2.barge).st == 1 && (b.st != 1 || decide (b.started ≤ r.1)))).map (·.1)

/-- The streams of running give up what has not started on a die, and their open superblocks close (R153, R195). -/
def dropStreams (s : State) : State :=
  let s := { s with fmm := { s.fmm with asm := [], coll := [], fg := 0, bg := 0 } }
  forEach (s.fmm.sbs.map (·.1)) s (fun k s =>
    if (s.sb k).stream = .sluice then s else
    let s := forEach (undoneRows s k) s (fun row s => dropRow k row true false s)
    let b := s.sb k
    let s := s.setSb k { b with issued := max b.started b.rows, leave := [] }
    if b.st = 1 ∧ b.started ≤ b.rows then closeSb k s else s)

/-- Held PUTs end REFUSED_DEVICE and completions that wait for their quantum may be posted (R103, R211, R213). -/
def releaseHeld (s : State) : State :=
  let f := fun (x : Flight) => match x.stage with
    | .held => { x with stage := .done (Cpl.now s refusedDevice 0) }
    | .done c => if c.post = .quantum then { x with stage := .done { c with postAt := min c.postAt s.now } } else x
    | _ => x
  { s with berths := tmap Berth.none (fun _ b => { b with flights := b.flights.map f }) s.berths }

/-- The chart is OFF at a trigger and its pages are those on flash (R173, R383). -/
def chartOff (s : State) : State :=
  let f := fun (_ : Nat) (p : Cpt) => if p.st = 3 then { p with st := 4 } else p
  { s with chart := { s.chart with st := 0, used := 0, misses := 0 }, fmm := { s.fmm with pages := tmap Cpt.free f s.fmm.pages } }

/-- The first trigger after refloat ready (R211, R212, R215). -/
def triggerSluice (c : Nat) (s : State) : State :=
  let u := { s.sluice with phase := 1, first := c, mask := trigBit c, tTrigger := s.now, warned := true }
  let s := raiseIrq 1 { s with sluice := u }
  let s := logRec 0x08 c 0 [] (setWeir .sluice s)
  let s := earlyWarning s
  let s := { s with fmm := { s.fmm with san := s.fmm.san.halted } }
  let s := chartOff (dropStreams (triggerAround s))
  let s := { s with lock := { s.lock with frozen := s.lock.valid } }
  let s := releaseHeld s
  let s := forEach (s.berths.map (·.1)) s postAll
  pump (switchProgram 2 s)

/-- A trigger with code c (R207). Where no start has begun, or a latched failure switches everything off, there is nothing to power down.
WARN_OUT_N is then released at the next refloat ready (R313). -/
def trigger (c : Nat) (s : State) : State :=
  if (s.seq.st ≠ 2 ∧ s.seq.st ≠ 3) ∨ s.seq.downLatch then s
  else if s.sluiced then triggerAgain c { s with keep := { s.keep with warnTill := true } }
  else groupSluice (let t := { s with keep := { s.keep with warnTill := true } }
    if s.ready then triggerSluice c t else triggerEarly c t)

/-! The weir (R83 to R108) -/

/-- The terms from the last samples (R83 to R86). -/
def weirTerms (s : State) : State :=
  let w := { s.weir with
    capRaw := rawCap s, capDer := derate (rawCap s) s.WEIR_DERATE_ETA_CAP s.WEIR_DERATE_U_CAP,
    flyRaw := rawFly s, flyDer := derate (rawFly s) s.WEIR_DERATE_ETA_FLY s.WEIR_DERATE_U_FLY,
    shares := (List.range 8).map (derShare s), battRaw := ((List.range 8).map (rawShare s)).sum }
  { s with weir := w }

def riseHold (s : State) : Nat := 1000 * s.WEIR_TIMING_RISE_HOLD

/-- The window without what the rise hold no longer needs: newest first, up to the last one at its start. -/
def trimWindow (from_ : Nat) : List (Nat × Budget) → List (Nat × Budget)
  | [] => []
  | x :: t => if x.1 ≤ from_ then [x] else x :: trimWindow from_ t

/-- A value lower than the one in force takes effect at once; a guarded term that is held or not yet past the rise hold counts
as 0 (R91, R92). -/
def fallNow (s : State) : State :=
  { s with weir := { s.weir with budget := Budget.min' s.weir.budget (budgetOf s (eAvailBy guarded s)) } }

/-- The recomputation of every 100 us (R91); R_s, B_pound and Q take effect with it (R90, R133). -/
def recompute (s : State) : State :=
  let s := weirTerms s
  let s := { s with weir := { s.weir with rs := rsLive s, bPound := bPound s, qSingle := singleQ s } }
  let full := budgetOf s (eAvailBy unheld s)
  fallNow { s with weir := { s.weir with window := trimWindow (s.now - riseHold s) ((s.now, full) :: s.weir.window) } }

/-- A trip released longer ago than the rise hold is past it (R92). -/
def Trip.pass (limit : Nat) : Trip → Trip
  | .released t => if t ≤ limit then .clear else .released t
  | t => t

/-- The rise: after a whole RISE_HOLD of recomputations the budget rises to the lowest of them, never above what the guarded
terms now let through (R91, R92). -/
def rise (s : State) : State :=
  let start := s.now - riseHold s
  let spans := match s.weir.window.getLast? with | some x => decide (x.1 ≤ start) && decide (riseHold s ≤ s.now) | none => false
  if !spans then s else
  let w := { s.weir with
    tripCap := s.weir.tripCap.pass start, tripFly := s.weir.tripFly.pass start,
    tripStr := tmap Trip.clear (fun _ t => t.pass start) s.weir.tripStr }
  let s := { s with weir := w }
  let strict := budgetOf s (eAvailBy guarded s)
  let low := s.weir.window.foldl (fun a x => Budget.min' a x.2) strict
  { s with weir := { s.weir with budget := Budget.max' s.weir.budget low } }

/-- SHUT: WEIR_CTRL.SHUT set, PUTs wait (R107, R311). -/
def weirShut (s : State) : State :=
  let s := s.setReg offWEIR_CTRL (setFld (s.reg offWEIR_CTRL) 0 0 1)
  if s.weir.st = .opened ∨ s.weir.st = .over then setWeir .shut s else s

/-- Overtop (R108), tested from refloat ready on. -/
def overtop (s : State) : State :=
  if s.ready && decide (s.weir.budget.eAvail < eNeed s (totU s)) then trigger 3 s else s

/-- Whether a single copy has still to be spilled (R19). -/
def singleWaiting (s : State) : Bool := (unspilled s).any (fun x => spillGroup s x == 0)

/-- The spill engine's flags (R104, R106). The latch is the first case of R104: from U above SPILL_THR of B_eff until it is at most
SPILL_LOW of it. The engine also runs in OVER, and while a record of the first groups waits. -/
def spillFlags (s : State) : State :=
  let u := totU s * 100
  let b := s.weir.budget.bEff
  let run := s.ready && s.weir.st != .sluice && !s.fmm.endOfLife
  let latch := run && (decide (s.WEIR_LEVELS_SPILL_THR * b < u) || (s.weir.spillLatch && decide (s.WEIR_LEVELS_SPILL_LOW * b < u)))
  let on := latch || (run && (s.weir.st == .over || (unspilled s).any (fun x => decide (spillGroup s x ≤ 2))))
  { s with weir := { s.weir with spillLatch := latch, spillOn := on, spillFull := run && (s.weir.st == .over || singleWaiting s) } }

/-- What follows any change of H, U, the budget or SHUT: the state, the spill engine and R97's grants. FLOOR_SHORT compares F_sum with
the capacitor term as counted. -/
def weirEval (s : State) : State :=
  let short := decide (bEnergyOf s (guarded s.weir.tripCap s.weir.capDer) s.weir.rs < floorSum s)
  let s := spillFlags (weirState { s with weir := { s.weir with floorShort := short } })
  if s.weir.st = .sluice then s else weirEvent (spillRun s)

/-- An evaluation at a recomputation or at a comparator trip: overtop first (R108). -/
def weirTest (s : State) : State := weirEval (overtop s)

/-! Collection's mode (R190, R197) -/

/-- The basin is in running: mounted, no sluice, no sanitize. -/
def running (s : State) : Bool := s.ready && s.basinLive && s.weir.st != .sluice

/-- Foreground collection of a quadrant: begun below GC_LOW, kept until GC_HIGH (R190); at the end of life it serves only the sluice
reserve (R185). -/
def fgOf (s : State) (q : Nat) : Bool :=
  let f := freeSbs s q
  quadUp s q && decide (f < s.FMM_GC_GC_HIGH) && (s.fmm.fg.getLsbD q || decide (f < s.FMM_GC_GC_LOW)) &&
    (!s.fmm.endOfLife || decide (f ≤ s.FMM_RESERVE_SB_RES))

/-- Admitted ingress lies below BG_IDLE per cent of WEIR_INGRESS.RATE (R190), taken over the last 10 ms (log 14): MB/s is B/us. -/
def ingressIdle (s : State) : Bool :=
  decide (s.fmm.ingressLast * 512 * 100 < s.FMM_GC_BG_IDLE * s.WEIR_INGRESS_RATE * 10000)

/-- Background collection of a quadrant (R190). -/
def bgOf (s : State) (q : Nat) : Bool :=
  quadUp s q && !fgOf s q && decide (freeSbs s q < s.FMM_GC_GC_HIGH) && ingressIdle s && s.FMM_CTRL_BG_PAUSE == 0 && !s.fmm.endOfLife

def quadMask (f : Nat → Bool) : BitVec 4 := (List.range 4).foldl (fun m q => if f q then m ||| BitVec.ofNat 4 (2 ^ q) else m) 0

/-- The modes follow the free superblocks and the ingress; a change of the throttle's level is an event of R97. -/
def collModes (s : State) : State :=
  let fg := if running s then quadMask (fgOf s) else 0
  let bg := if running s then quadMask (bgOf s) else 0
  let t := { s with fmm := { s.fmm with fg := fg, bg := bg } }
  let n := if running s then throttleLevel t else 0
  if n = s.fmm.level then t else weirEvent { t with fmm := { t.fmm with level := n } }

end Sys2Proof.Machine
end

