-- ==== Sys2Proof/Machine/Keeping.lean ====
section
/-! DEFINITION. Units lost and retired (R25, R133 to R136, R161, R355), resets asked for (R217, R379), and the keeper's decision
on an event with its reactions (R304 to R319). -/

namespace Sys2Proof.Machine

/-! DRAM channels (R133 to R136) -/

/-- A place without a channel; none when no copy is left. -/
def Place.drop (c : Nat) (p : Place) : Option Place :=
  let l := p.chs.filter (fun x => x != c)
  if l.isEmpty then none else some { p with chs := l }

/-- A record whose last pound copy is gone: lost when it has no flash copy (R415). -/
def Rec.unplaced (r : Rec) : Rec := { r with place := none, basin := if r.basin.isNone then some (lostBarge, 0) else r.basin }

/-- A berth's records lose their copies on channel c (R133, R135, R415). -/
def berthDropChannel (c : Nat) (b : Berth) : Berth :=
  let hit := fun (r : Rec) => match r.place with | some p => p.chs.contains c && (p.drop c).isNone | none => false
  let held := ((b.chain.filter hit).map (·.len)).sum
  let unp := ((b.chain.filter (fun r => hit r && r.basin.isNone)).map (·.len)).sum
  { b with
    held := b.held - held, unpers := b.unpers - unp,
    chain := b.chain.map (fun r =>
      if hit r then r.unplaced else { r with place := r.place.bind (fun p => p.drop c) }) }

/-- A PUT in its payload read whose copies would stand on channel c is re-placed in another pair, or keeps the partner alone
(R133). -/
def replaceFlight (c i : Nat) (f : Flight) (s : State) : State :=
  let s := setFlight i f.idx (fun x => { x with place := none }) s
  let dest := match choosePlace s f.len with
    | some p => some p
    | none => f.place.bind (fun p => p.drop c)
  let s := match dest with
    | some p => headPast p f.len s
    | none => s
  setFlight i f.idx (fun x => { x with place := dest }) s

/-- The channel that holds the other copy of what channel c holds: of its pair, or of its couple (R116, R136). -/
def partnerOf (s : State) (c : Nat) : Option Nat :=
  ((allUnits s ++ (List.range 6).map (fun k => [k, k + 6])).filter (·.contains c)).findSome? (fun u => u.find? (fun d => d != c && inSvc s d))

/-- The reads that wait on a retired channel go to the partner (R133, R135); its writes are lost with it. -/
def redirectReads (c : Nat) (s : State) : State :=
  let reads := (s.sched c).reqs.filter (fun r => !r.write)
  let t := { s with drc := { s.drc with sched := tdel s.drc.sched c } }
  match partnerOf s c with
  | none => t
  | some d => t.setSched d { t.sched d with reqs := (t.sched d).reqs ++ reads }

/-- The control lines of a retired channel's pair begin their move (R124): the pairs whose lines have stood on the channel. -/
def remirrorStart (c : Nat) (s : State) : State :=
  let us := ((allUnits s ++ (List.range 6).map (fun k => [k, k + 6])).filter (fun u => u.contains c && !s.drc.evac.contains u)).dedup
  { s with drc := { s.drc with remirror := true, singleCtl := true, evac := s.drc.evac ++ us } }

/-- Retire a channel with a cause (R132, R133). -/
def channelRetire (cause c : Nat) (s : State) : State :=
  if (s.chan c).st = 3 ∨ (s.chan c).st = 0 then s else
  let s := if inSvc s c then remirrorStart c s else s
  let s := redirectReads c (s.setChan c ⟨3, cause⟩)
  let flights := s.berths.flatMap (fun p => (p.2.flights.filter (fun f => f.stage.isReading &&
    (match f.place with | some q => q.chs.contains c | none => false))).map (fun f => (p.1, f)))
  let s := { s with berths := tmap Berth.none (fun _ b => berthDropChannel c b) s.berths }
  let d := { s.drc with moving := s.drc.moving.filter (fun m => !m.place.chs.contains c) }
  let s := forEach flights { s with drc := d } (fun f s => replaceFlight c f.1 f.2 s)
  weirEval s

/-- A half domain lost: its six channels retired with cause 0x4, couples formed in the other half (R136). -/
def halfLost (h : Nat) (s : State) : State :=
  let s := forEach ((List.range 6).map (fun k => 6 * h + k)) s (fun c s => channelRetire 4 c s)
  let s := { s with drc := { s.drc with coupled := if s.drc.coupled = 0 then 2 - h else s.drc.coupled } }
  weirEval s

/-! Flash dies, channels and quadrants (R161) -/

/-- The pages of a chain page barge are read into frames to be written anew, and its ID is freed (R161, R166). -/
def pagesAgain (g : Nat) (s : State) : State :=
  let ks := (s.fmm.pages.filter (fun p => decide (2 ≤ p.2.st) && p.2.barge == g)).map (·.1)
  (forEach ks s (fun n s => let t := intoFrame n s; t.setPage n { t.page n with st := 1 })).setBarge g Barge.free

/-- Take the barge of a row elsewhere by its kind: records into new barges, chain pages to be written anew, others moved. -/
def rewriteRow (k row : Nat) (rebuilt : Bool) (s : State) : State :=
  let r := s.row k row
  if r.kind = 1 then giveUp r.barge r.dir rebuilt true s
  else if r.kind = 4 then pagesAgain r.barge s
  else moveOut k (s.setSb k { s.sb k with leave := row :: (s.sb k).leave })

/-- The records of a row that stand on lost chunks of a VERIFIED superblock are lost on the medium (R21, R161, R193). -/
def rowLoss (r : Row) (s : State) : State :=
  forEach r.dir s (fun e s =>
    match (s.berth e.berth).chain.find? (fun x => x.seq == e.seq) with
    | none => s
    | some x =>
      if x.basin = some (r.barge, e.off) ∧ x.place.isNone ∧ !spanSet r.chunks e.off e.len then
        bargeLess r.barge x.len (touchEntry e.berth e.seq (s.updBerth e.berth (fun b => { b with
          chain := b.chain.map (fun y => if y.seq = e.seq then { y with basin := some (lostBarge, 0) } else y) })))
      else s)

/-- The chunks of a row that are lost with some slots: those it has on them. One can be rebuilt, from its parity chunk or from the work
slice's accumulation while that is not programmed (R156, R161). -/
def rowRebuilds (r : Row) (gone : BitVec 17) : Bool :=
  decide (((List.range 17).filter (fun j => (r.chunks &&& gone).getLsbD j)).length ≤ 1)

/-- A superblock that is not verified loses dies in running (R161): it closes, and each of its barges is rewritten, those already programmed
only where a data chunk is lost. -/
def sbRewrite (gone : BitVec 17) (quad : Bool) (k : Nat) (s : State) : State :=
  let first := if gone &&& 0xFFFF = 0 then (s.sb k).rows else 0
  let rows := ((rowsOf s k).filter (fun r => rowCurrent s k r.1 r.2 && decide (first ≤ r.1))).map (·.1)
  forEach rows (closeSb k s) (fun row s =>
    let r := s.row k row
    rewriteRow k row (rowRebuilds r gone) (if quad then s else s.setRow k row { r with chunks := r.chunks &&& ~~~ gone }))

/-- One loses dies in a sluice: no rewrite is made of what is programmed with its parity; it closes, and what stands in it unprogrammed is
drained again, or moved (R25, R161, R218). -/
def sbSluiceLoss (gone : BitVec 17) (quad : Bool) (k : Nat) (s : State) : State :=
  let b := s.sb k
  let s := forEach (if quad then [] else (rowsOf s k).map (·.1)) (closeSb k s) (fun row s =>
    let r := s.row k row
    s.setRow k row { r with chunks := r.chunks &&& ~~~ gone })
  if b.st ≠ 1 then s else
  let rows := ((rowsOf s k).filter (fun r => rowCurrent s k r.1 r.2 && decide (b.rows ≤ r.1))).map (·.1)
  forEach rows s (fun row s => if (s.row k row).kind = 1 then dropRow k row false false s else rewriteRow k row true s)

/-- A superblock some of whose dies are lost (R161). quad: its quadrant's domain, which loses no data of a VERIFIED one. -/
def sbLoss (hit : Nat → Bool) (quad : Bool) (k : Nat) (s : State) : State :=
  let b := s.sb k
  let gone := (b.slots.zipIdx.filter (fun x => hit x.1.1)).foldl (fun (a : BitVec 17) x => a ||| BitVec.ofNat 17 (2 ^ x.2)) 0
  if gone = 0 ∨ b.st = 0 then s
  else if b.st = 3 then
    if quad then s else
    forEach (rowsOf s k) s (fun r s =>
      let row := { r.2 with chunks := r.2.chunks &&& ~~~ gone }
      let s := s.setRow k r.1 row
      if rowCurrent s k r.1 r.2 then rowLoss row s else s)
  else if s.weir.st = .sluice then sbSluiceLoss gone quad k s
  else sbRewrite gone quad k s

/-- What the loss of dies takes with it: superblocks, FETCHes behind a quadrant, the counts of R185, the budget. -/
def basinLoss (hit : Nat → Bool) (quad : Bool) (s : State) : State :=
  weirEval (collModes (lifeChecks (quadDefer (forEach (s.fmm.sbs.map (·.1)) s (sbLoss hit quad)))))

/-- A die lost (R161). -/
def dieLost (d : Nat) (s : State) : State :=
  if s.fmm.lostDies.contains d then s else
  basinLoss (fun x => x == d) false { s with fmm := { s.fmm with lostDies := insertBy id d s.fmm.lostDies } }

/-- A flash channel lost, its 16 dies with it (R25, R161). -/
def flashChannelLost (c : Nat) (s : State) : State :=
  if flashChan s c ≠ 1 then s else
  basinLoss (fun x => channelOfDie x == c) false { s with fmm := { s.fmm with chans := tset 0 s.fmm.chans c 2 } }

/-- A quadrant's domain lost: out of service until the next start (R161, R418). -/
def quadLost (q : Nat) (s : State) : State :=
  let cs := (List.range 24).map (fun j => 24 * q + j)
  let s := forEach cs s (fun c s => if flashChan s c = 0 then s else { s with fmm := { s.fmm with chans := tset 0 s.fmm.chans c 2 } })
  basinLoss (fun x => quadOfDie x == q) true { s with fmm := { s.fmm with coll := tdel (tdel s.fmm.coll q) (collKey q true) } }

/-! Feeder ports (R355, R358) -/

/-- Fence every berth of a port. -/
def fencePort (reason p : Nat) (s : State) : State :=
  let ids := (s.berths.filter (fun x => x.2.st != .free && x.2.port == p)).map (·.1)
  forEach ids (forEach ids s (fenceBerth reason)) goOn

/-- A port RETIRED with a cause; a port in OFF, MEMBER or RETIRED stays as it is (R355). -/
def portRetire (cause p : Nat) (s : State) : State :=
  let q := s.port p
  if q.st = .wake ∨ q.st = .up ∨ q.st = .retry then
    fencePort 5 p (s.setPort p { q with st := .retired, cause := cause, retryEnd := none, stopping := false })
  else s

/-! Domains (R25, R317) -/

/-- What the loss of a domain takes with it (R25, R136, R161, R355). -/
def unitsLost (d : Nat) (s : State) : State :=
  if d < 16 then forEach ((List.range 16).map (fun j => 16 * d + j)) s (fun p s => portLinkDown p (portDown true p s))
  else if d < 20 then quadLost (d - 16) s
  else if d < 22 then halfLost (d - 20) s
  else if d = dMgmt then mgmtReset s
  else s

/-- A domain's power-good falls: a DOMAIN_LOST record, and its source's severe event (R305, R317). -/
def domainLost (d : Nat) (s : State) : State :=
  let m := BitVec.ofNat 24 (2 ^ d)
  let s := { s with seq := { s.seq with pg := s.seq.pg &&& ~~~ m } }
  report (0x1C0 + d) true (detailWord 0 1 d) (logRec 0x07 d 0 [] s)

/-! Resets asked for (R217, R292, R379) -/

/-- A global reset asked for: held from a trigger to the end of the sluice-order program, a COMMAND trigger after refloat ready,
applied at once before it. The cause is CLK_RESET_CAUSE's. -/
def resetRequest (cause : Nat) (s : State) : State :=
  let hold := fun (t : State) =>
    { t with sluice := { t.sluice with heldReset := some (t.sluice.heldReset.getD cause) } }
  if s.sluiced && !s.sluice.programDone then hold s
  else if s.ready && !s.sluiced then hold (trigger 6 s)
  else globalReset cause s

/-! The keeper -/

/-- An entry of the keeper section (R318): MODE, N, WIN_UNIT, WIN, REACT. -/
def mkEntry (mode n unit win react : Nat) : Word := at' mode 62 ||| at' n 54 ||| at' unit 53 ||| at' win 37 ||| at' react 29

/-- MODE ABSENT. -/
def absentEntry : Word := mkEntry 3 0 0 0 0

/-- The mask-ROM default of a source: the reference values of the source table (R305), DUAL for a main-die source and LATCHED for
a supervisor-die one, ABSENT for an unassigned ID. -/
def romEntry (n : Nat) : Word :=
  if n < 0x100 then mkEntry 1 16 1 1 0x01
  else if n < 0x140 then mkEntry 1 1 1 1 0x01
  else if n < 0x14C then mkEntry 1 64 1 1 0x01
  else if n < 0x150 then absentEntry
  else if n < 0x1B0 then mkEntry 1 8 1 10 0x01
  else if n = 0x1B0 then mkEntry 1 255 1 3600 0x02
  else if n = 0x1B1 then mkEntry 1 255 1 3600 0
  else if n = 0x1B2 then mkEntry 1 255 1 3600 0x50
  else if n = 0x1B3 then mkEntry 1 255 1 3600 0x02
  else if n = 0x1B4 then mkEntry 1 1 1 1 0
  else if n = 0x1B5 then mkEntry 1 255 1 3600 0
  else if n < 0x1C0 then absentEntry
  else if n < 0x1D9 then mkEntry 0 1 1 1 0
  else if n < 0x1E0 then absentEntry
  else if n < 0x1E8 then mkEntry 0 16 1 3600 0x01
  else if n = 0x1E8 then mkEntry 0 1 1 1 0
  else if n < 0x1EB then mkEntry 0 16 1 3600 0x01
  else if n = 0x1EB then mkEntry 0 4 1 3600 0
  else if n = 0x1EC then mkEntry 0 255 1 3600 0
  else if n < 0x1F0 then absentEntry
  else if n < 0x200 then mkEntry 0 1 1 1 0
  else if n < 0x240 then mkEntry 0 255 1 3600 0
  else if n < 0x248 then mkEntry 0 1 1 1 0
  else if n < 0x400 then absentEntry
  else if n < 0xA00 then mkEntry 1 4 1 60 0x01
  else absentEntry

def keepEntry (s : State) (n : Nat) : Word := if s.keep.romDefaults then romEntry n else tget absentEntry s.keep.entries n

def eMode (e : Word) : Nat := fld e 63 62
def eN (e : Word) : Nat := fld e 61 54
def eReact (e : Word) : Nat := fld e 36 29

/-- The window W in us (R318). -/
def eWindow (e : Word) : Nat := fld e 52 37 * (if fld e 53 53 = 1 then 1000000 else 1000)

def State.src (s : State) (n : Nat) : Src := tget Src.ok s.keep.srcs n

def State.updSrc (s : State) (n : Nat) (f : Src → Src) : State :=
  { s with keep := { s.keep with srcs := tset Src.ok s.keep.srcs n (f (s.src n)) } }

/-- The domain of a main-die source (R305, R308). -/
def srcDomain (n : Nat) : Option Nat :=
  if n < 0x100 then some (domainOfPort n)
  else if n < 0x140 then some dCore
  else if n < 0x150 then some (domainOfChannel (n - 0x140))
  else if n < 0x1B0 then some (domainOfQuadrant ((n - 0x150) / 24))
  else if n < 0x1C0 then some dCore
  else if n < 0x400 then none
  else if n < 0xA00 then some (domainOfQuadrant (quadOfDie (n - 0x400)))
  else none

/-- The keeper hears a source: not ABSENT, its domain power-good since it was last off, its pair not ignored after a line fault (R306,
R308). -/
def heard (s : State) (n : Nat) : Bool :=
  let e := keepEntry s n
  eMode e != 3 && (match srcDomain n with | some d => s.seq.lines.getLsbD d | none => true) &&
    !(eMode e == 1 && (s.src n).lineFault)

/-- Sources with fixed reactions (R317): domains, ROOT and rails. -/
def fixedSource (n : Nat) : Bool := decide (0x1C0 ≤ n ∧ n ≤ 0x1D8) || decide (0x200 ≤ n ∧ n < 0x240)

/-- The reactions a severe classification takes: R317's for fixed sources, REACT otherwise, a QUARANTINE that names no berth as
SLUICE (R312). -/
def reactionsOf (s : State) (n : Nat) (detail : BitVec 48) : Nat :=
  let r :=
    if n = 0x1C0 + dCore then 0x50
    else if 0x1C0 ≤ n ∧ n < 0x1D8 then 0x01
    else if 0x200 ≤ n ∧ n < 0x240 then
      (match railAction s (n - 0x200) with
       | 1 => 0x01
       | 2 => 0x20
       | 3 => 0x40
       | _ => 0)
    else if n = 0x1D8 then 0
    else eReact (keepEntry s n)
  if r / 2 % 2 = 1 ∧ detail.toNat / 2 ^ 46 ≠ 1 then Nat.lor (r - 2) 0x40 else r

/-- The next berth engine in service after e. -/
def otherEngine (s : State) (e : Nat) : Nat :=
  (((List.range 63).map (fun k => (e + 1 + k) % 64)).find? (fun x => !s.enginesOut.getLsbD x)).getD e

/-- Retire a berth engine: its berths move to another (R25, R75, R305). -/
def engineRetire (e : Nat) (s : State) : State :=
  let s := { s with enginesOut := s.enginesOut ||| BitVec.ofNat 64 (2 ^ e) }
  let dest := otherEngine s e
  { s with berths := tmap Berth.none (fun _ b => if b.engine = e ∧ b.st ≠ .free then { b with engine := dest } else b) s.berths }

/-- The bits set in a mask, lowest first. -/
def bitsOf (n mask : Nat) : List Nat := (List.range n).filter (fun k => mask / 2 ^ k % 2 == 1)

/-- A rail's ACTION DOMAIN: every domain it feeds is switched off and reported lost (R284), but for PD_CORE, whose switch is never opened
in running (R26). -/
def railDomains (r : Nat) (s : State) : State :=
  forEach ((bitsOf 24 (railFed s r)).filter (fun d => d != dCore)) s (fun d s => domainLost d (domainOff d s))

/-- RETIRE, as the source table gives it (R305). -/
def retireSource (n : Nat) (s : State) : State :=
  if n < 0x100 then portRetire 3 n s
  else if n < 0x140 then engineRetire (n - 0x100) s
  else if n < 0x14C then channelRetire 6 (n - 0x140) s
  else if n < 0x150 then s
  else if n < 0x1B0 then flashChannelLost (n - 0x150) s
  else if n < 0x1C0 then s
  else if n < 0x1D8 then unitsLost (n - 0x1C0) s
  else if n < 0x1E0 then s
  else if n < 0x1E8 then
    let s := s.updStr (n - 0x1E0) (fun g => { g with retired := true })
    { s with gauge := { s.gauge with counted := countedMask s } }
  else if n = 0x1E9 then takeSetOut 0 0xF s
  else if n = 0x1EA then takeSetOut 1 0xF s
  else if n < 0x200 then s
  else if n < 0x240 then railDomains (n - 0x200) s
  else if n < 0x400 then s
  else if n < 0xA00 then dieLost (n - 0x400) s
  else s

/-- QUARANTINE of a berth (R312): fenced with reason 0x4; in a sluice marked in its context until SLUICE_OPEN is programmed,
and only logged after. -/
def quarantine (i : Nat) (s : State) : State :=
  if (s.berth i).st = .free then s
  else if s.sluiced then (if s.sluice.openWritten then s else s.updBerth i (fun b => { b with quar := true }))
  else goOn i (fenceBerth 4 i s)

/-- WARN (R311): WARN_OUT_N and the early warning; in force, it is not repeated (R315). -/
def warnNow (s : State) : State := if s.pins.warn then s else earlyWarning s

/-- FLY_OFF (R311): gates off, the windlass to FAULT with cause 0x1 where R261 gives that. -/
def flyOff (s : State) : State :=
  if s.fly.st = .run ∨ s.fly.st = .sync ∨ s.fly.st = .test then flyFault 1 0xF s
  else s.setFly { s.fly with gatesCut := true }

/-- SHUTDOWN (R311): as WARN and WEIR_SHUT, then the grace; never cancelled and not restarted. -/
def shutdownBegin (graceMs10 : Nat) (s : State) : State :=
  if s.sluiced then s else
  let s := weirShut (warnNow s)
  if s.seq.graceEnd.isSome then s else { s with seq := { s.seq with graceEnd := some (s.now + 10000 * graceMs10) } }

/-- A rail's ACTION TIMED (R284): WARN_OUT_N, early warning and the weir SHUT, then the rail's GRACE; never cancelled. -/
def timedBegin (r : Nat) (s : State) : State :=
  if s.sluiced then s else
  let s := weirShut (warnNow s)
  if s.seq.timedEnd.isSome then s else { s with seq := { s.seq with timedEnd := some (s.now + 10000 * railGrace s r) } }

/-- Take the reactions of a mask (R311, R316). -/
def react (mask n : Nat) (detail : BitVec 48) (s : State) : State :=
  let bit := fun k => mask / 2 ^ k % 2 == 1
  let s := if bit 0 then retireSource n s else s
  let s := if bit 1 then quarantine (detail.toNat % 2 ^ 20) s else s
  let s := if bit 2 && !s.sluiced then weirShut s else s
  let s := if bit 3 then flyOff s else s
  let s := if bit 4 then warnNow s else s
  let s := if bit 5 then (if n < 0x200 ∨ 0x240 ≤ n then shutdownBegin s.KEEP_CFG_GRACE s else timedBegin (n - 0x200) s) else s
  let s := if bit 6 then trigger 1 { s with keep := { s.keep with fatal := true } } else s
  if bit 7 then resetRequest 3 s else s

/-- Stop KEEP_ALIVE: low at once and for at least 10 ms, until ACK_ALIVE (R319); event 0 (R380). -/
def stopAlive (s : State) : State :=
  raiseIrq 0 { s with keep := { s.keep with stopped := true, acked := false, heldUntil := some (s.now + 10000) } }

/-- The outcome code of a severe classification (R311). -/
def outcomeOf (line : Bool) (mask : Nat) : Nat := if line then 3 else if mask / 64 % 2 = 1 then 2 else 1

/-- A severe classification (R309, R311): KEEP_ALIVE stopped, the first one recorded, the reactions taken, a KEEPER record
queued. -/
def classify (n : Nat) (detail : BitVec 48) (line : Bool) (s : State) : State :=
  let mask := reactionsOf s n detail
  let out := outcomeOf line mask
  let s := s.updSrc n (fun x => { x with severe := true, items := x.items ++ [detail] })
  let s := stopAlive (s.bump offKEEP_CNT 31 16 1)
  let k := if s.keep.firstSrc = 0xFFF then
      { s.keep with firstSrc := n, firstOutcome := out, firstDetail := detail, firstTime := s.now } else s.keep
  let held := (mask / 32 % 2 = 1 ∨ mask / 128 % 2 = 1) ∧ !fixedSource n
  let k := if held then { k with handling := k.handling ++ [(n, detail, mask / 32 % 2 == 1)] } else k
  let s := react mask n detail { s with keep := k }
  logRec 0x0E mask (n + out * 4096) [detail.zeroExtend 64] s

/-- The keeper's decision on one event (R309, R315). -/
def decideEvent (n : Nat) (severe : Bool) (detail : BitVec 48) (line : Bool) (s : State) : State :=
  if !heard s n then s
  else if s.keep.handling.any (fun h => h.1 == n && h.2.1 == detail) then s.updSrc n (fun x => { x with merged := sat 16 (x.merged + 1) })
  else
    let e := keepEntry s n
    let s := s.bump offKEEP_CNT 63 32 1
    if severe then
      let x := s.src n
      let s := s.updSrc n (fun x => { x with detail := detail, sev := sat 16 (x.sev + 1) })
      if !x.severe || fixedSource n || !x.items.contains detail then classify n detail line s else s
    else
      let x := s.src n
      let s := s.updSrc n (fun x => { x with detail := detail, trans := sat 32 (x.trans + 1) })
      if x.severe then s else
      let times := x.times.filter (fun t => decide (s.now - t ≤ eWindow e)) ++ [s.now]
      let s := s.updSrc n (fun x => { x with times := times })
      if eN e ≤ times.length then classify n detail false s else s

/-- Decide every report of this step, those that reactions raise included; nothing waits for a later step (log 19). -/
def settleLoop : Nat → State → State
  | 0, s => { s with keep := { s.keep with reports := [] } }
  | fuel + 1, s =>
    match s.keep.reports with
    | [] => s
    | (n, sev, d) :: t => settleLoop fuel (decideEvent n sev d false { s with keep := { s.keep with reports := t } })

def settle (s : State) : State := settleLoop 8192 s

end Sys2Proof.Machine
end

