-- ==== Sys2Proof/Machine/Dram.lean ====
section
/-! DEFINITION. Compaction (R118), and the meanings of the DRAM commands (R124, R125, R129 to R138). -/

namespace Sys2Proof.Machine

/-! Compaction (R118) -/

/-- Slabs of 2 MiB, 4,096 granules. -/
def slabGran : Nat := 4096

/-- Whether a run touches a slab. -/
def touches (o l k : Nat) : Bool := decide (o < (k + 1) * slabGran) && decide (k * slabGran < o + l)

/-- Slabs of a unit that some record touches. -/
def usedSlabs (s : State) (u : List Nat) : List Nat :=
  ((runsOn (places s) u).flatMap (fun r =>
    (List.range (r.2 / slabGran + 2)).map (fun j => r.1 / slabGran + j) |>.filter (touches r.1 r.2))).dedup

/-- Live granules of a slab of a unit. -/
def slabLive (s : State) (u : List Nat) (k : Nat) : Nat :=
  ((runsOn (places s) u).map (fun r => min (r.1 + r.2) ((k + 1) * slabGran) - max r.1 (k * slabGran))).sum

/-- A free run of n granules outside a slab. -/
def runOutside (s : State) (u : List Nat) (k n : Nat) : Option Nat :=
  let rs := sortBy (·.1) ((k * slabGran, slabGran) :: runsOn (places s) u)
  runFrom s u n rs

/-- Start the copy of record r of berth i to a free run of its unit outside slab k, at the log head: its old copy read, both new ones
asked for (R118, R127). -/
def moveStart (u : List Nat) (k i : Nat) (r : Rec) (s : State) : State :=
  match runOutside s u k r.len, r.place with
  | some o, some old =>
    let ids := u.zipIdx.map (fun x => (x.1, s.drc.nextReq + 1 + x.2))
    let s := dramWrite .compact ⟨u, o⟩ r.len (dramRead .compact old r.len s)
    headPast ⟨u, o⟩ r.len { s with drc := { s.drc with moving := s.drc.moving ++ [⟨i, r.seq, ⟨u, o⟩, ids⟩] } }
  | _, _ => s

/-- Compact a unit whose free slabs are below COMPACT_LOW: the live records of the slab with the fewest live granules are copied to the
log head, both copies (R118). DESIGN CHOICE (log 58): one slab of a unit at a time. -/
def compactStart (u : List Nat) (s : State) : State :=
  let used := usedSlabs s u
  if s.DRC_LAYOUT1_COMPACT_LOW ≤ recGran s / slabGran - used.length ∨ s.drc.moving.any (fun m => m.place.chs == u) then s else
  match minBy (slabLive s u) used with
  | none => s
  | some k =>
    let recs := s.berths.flatMap (fun p => (p.2.chain.filter (fun r =>
      match r.place with | some q => q.chs == u && touches q.off r.len k | none => false)).map (fun r => (p.1, r)))
    forEach recs s (fun x s => moveStart u k x.1 x.2 s)

/-- The free slabs of every unit in service are looked at: at a commitment, at a recomputation, and when a copy has been switched (R118).
DESIGN CHOICE (log 58). -/
def compactAll (s : State) : State := forEach (units s) s compactStart

/-- Both copies of a compacted record are accepted: neither is held off by a full queue (R118, R127). -/
def copiesIn (s : State) (m : Move) : Bool :=
  m.reqs.all (fun x => (s.sched x.1).reqs.all (fun r => r.id != x.2 || accepted (s.sched x.1) r))

/-! Meanings -/

/-- CA_PARITY_ALERT (R131): replayed within eight attempts it is one transient event, the failed attempts merged into its handling
(R315); a failed eighth attempt is a channel fault. -/
def execCaParityAlert (ch : Fin 12) (failed : Fin 9) (s : State) : Res :=
  if !inSvc s ch.val then .next s else
  let n := 0x140 + ch.val
  let m := min failed.val 7
  let s := if heard s n ∧ m ≠ 0 then s.updSrc n (fun x => { x with merged := sat 16 (x.merged + m) }) else s
  if failed.val < 8 then
    .next (settle (report n false (detailWord 0 0 ch.val) (s.bump (offDRC_CH_CNT + 8 * ch.val) 63 48 1)))
  else .next (settle (report n true (detailWord 0 1 ch.val) (channelRetire 1 ch.val s)))

/-- A channel that a fault or a command can retire: populated, not retired (R132). -/
def retirable (s : State) (c : Nat) : Bool := (s.chan c).st != 0 && (s.chan c).st != 3

/-- PHY_FAULT (R132, cause 0x3). -/
def execPhyFault (ch : Fin 12) (s : State) : Res :=
  if !retirable s ch.val then .next s
  else .next (settle (report (0x140 + ch.val) true (detailWord 0 3 ch.val) (channelRetire 3 ch.val s)))

/-- The probe lines of a channel, one per rank, hold the pattern (R138). -/
def probeWrite (c : Nat) (s : State) : State :=
  forEach (List.range (ranksOf s / 2)) s (fun k s => { s with drc := { s.drc with
    probeLines := tset [] s.drc.probeLines (8 * c + k) ((List.range 64).map Config.probePattern) } })

/-- PROBE_TIMER (R138): PERIOD after the last probe, the probe lines of every channel in service are written and read back; a mismatch
retires the channel with cause 0x2. -/
def execProbeTimer (mismatch : BitVec 12) (s : State) : Res :=
  if !s.core || decide (s.now < s.drc.probedAt + 1000 * s.DRC_PROBE_PERIOD) then .next s else
  let s := forEach ((List.range 12).filter (inSvc s)) { s with drc := { s.drc with probedAt := s.now } } probeWrite
  .next (settle (forEach ((List.range 12).filter (fun c => mismatch.getLsbD c)) s (fun c s =>
    if inSvc s c then report (0x140 + c) true (detailWord 0 2 c) (channelRetire 2 c s) else s)))

/-- Whether DRC_CTRL.RETIRE acts: KEY, the bit, and a channel that is populated and not retired (R132, R140). -/
def retireAsked (s : State) (key : Byte) (retire : Bool) (ch : BitVec 4) : Bool :=
  key == 0xA5 && retire && decide (ch.toNat < 12) && retirable s ch.toNat

/-- DRC_RETIRE (R132, R140, cause 0x5). -/
def execDrcRetire (key : Byte) (retire : Bool) (ch : BitVec 4) (s : State) : Res :=
  viaPort (.drcRetire key retire ch) false (fun s => if s.bar0 && s.core && retireAsked s key retire ch then .next (settle (channelRetire 5 ch.toNat s)) else .next s) s

/-- The lines of the pairs on the move stand in the pairs in service (R124). -/
def remirrored (s : State) : State :=
  { s with drc := { s.drc with
    remirror := false, singleCtl := false, homes := s.drc.homes ++ s.drc.evac.map (fun u => (u, units s)), evac := [] } }

/-- CONTROL_REMIRROR_DONE (R124): where no pair is in service the lines have nowhere to go. -/
def execControlRemirrorDone (s : State) : Res :=
  if s.drc.remirror && !(units s).isEmpty then .next (remirrored s) else .next s

/-- The record's index entry names the new place; one released meanwhile is released at both (R118). -/
def switchPlace (m : Move) (s : State) : State :=
  let s := { s with drc := { s.drc with moving := s.drc.moving.filter (fun x => !(x.berth == m.berth && x.seq == m.seq)) } }
  s.updBerth m.berth (fun x => { x with
    chain := x.chain.map (fun r => if r.seq = m.seq ∧ r.place.isSome then { r with place := some m.place } else r) })

/-- COMPACTION_SWITCH (R118): once both copies are accepted. -/
def execCompactionSwitch (b : BerthId) (seq : BitVec 48) (s : State) : Res :=
  match s.drc.moving.find? (fun m => m.berth == b.toNat && m.seq == seq.toNat) with
  | none => .next s
  | some m => if copiesIn s m then .next (settle (weirEvent (compactAll (switchPlace m s)))) else .next s

/-- Banks that a refresh covers: of the given rank over both subchannels all of them (REFab), or the banks of one number in every bank
group (REFsb) (R125; log 56). -/
def refreshBanks (s : State) (rank : Nat) (bank : Option (Fin 4)) : List Nat :=
  let bs := (List.range rankBanks).map (fun k => rankBanks * (rank % max 1 (ranksOf s)) + k)
  match bank with
  | none => bs
  | some b => bs.filter (fun k => k % 4 == b.val)

/-- REFRESH_DUE (R125, R128): the REFab or REFsb is issued first, and precharges the banks it covers. -/
def execRefreshDue (ch : Fin 12) (s : State) (rank : Fin 8 := 0) (bank : Option (Fin 4) := none) : Res :=
  if !inSvc s ch.val then .next s else
  let x := refreshed ch.val (refreshBanks s rank.val bank) (s.sched ch.val)
  .next (s.setSched ch.val (if bank.isNone then { x with refAll := x.refAll + 1 } else { x with refBank := x.refBank + 1 }))

/-- ZQ_CAL_DUE (R125). -/
def execZqCalDue (ch : Fin 12) (s : State) : Res :=
  if !inSvc s ch.val then .next s else
  let x := s.sched ch.val
  .next (s.setSched ch.val { x with zqCals := x.zqCals + 1 })

/-- STEP1, STEP2 or STEP3, for the step a request at an urgency has ahead. -/
def urgencyStepOf (s : State) (u : Nat) : Nat :=
  match u with
  | 0 => s.DRC_URGENCY_STEP1
  | 1 => s.DRC_URGENCY_STEP2
  | _ => s.DRC_URGENCY_STEP3

/-- URGENCY_STEP (R129): once the step's per cent of its latency target has elapsed, a request's urgency is one higher. -/
def execUrgencyStep (ch : Fin 12) (req : Nat) (s : State) : Res :=
  let x := s.sched ch.val
  let due := fun (r : DramReq) =>
    decide (r.urgency < 3) && decide (urgencyStepOf s r.urgency * latencyTarget s r.who ≤ (s.now - r.arrival) * 10000)
  .next (s.setSched ch.val { x with
    reqs := x.reqs.map (fun r => if r.id = req ∧ due r then { r with urgency := r.urgency + 1 } else r) })

/-- MAXIMUM_OPEN_TIME (R130): the row is precharged. -/
def execMaximumOpenTime (ch : Fin 12) (bank : Nat) (s : State) : Res :=
  let x := s.sched ch.val
  .next (s.setSched ch.val { x with openRows := tset none x.openRows bank none })

end Sys2Proof.Machine
end

