-- ==== Sys2Proof/Machine/Functions.lean ====
section
/-! DEFINITION. The function that a feeder port presents: its configuration space (R347), its BAR (R346, R350), what a read of it
returns (R48, R51, R351, R352), and what the requests it issues are on the link (R348, R353); the management port's function (R366, R367). -/

namespace Sys2Proof.Machine

/-! The BAR (R350) -/

/-- P: the doorbell pages, D slots to a page. -/
def doorbellPages (s : State) (p : Nat) : Nat := ceilDiv (s.PORT_CFG_SLOTS p) (2 ^ s.PORT_CFG_D_LOG2 p)

/-- BAR0's size: the smallest power of two not below 64 KiB and P pages of 4 KiB. -/
def barSize (s : State) (p : Nat) : Nat :=
  (((List.range 14).map (fun k => 0x10000 * 2 ^ k)).find? (fun b => Nat.ble (0x10000 + 4096 * doorbellPages s p) b)).getD (2 ^ 30)

/-- The slot that a doorbell window offset names (before R47, R51). -/
def doorbellSlot (s : State) (p off : Nat) : Option Nat :=
  let d := 2 ^ s.PORT_CFG_D_LOG2 p
  let j := off / 4096 * d + off % 4096 / 8
  if off % 4096 / 8 < d ∧ j < s.PORT_CFG_SLOTS p then some j else none

/-- The adapter page (R351): no field of it tells of another port, another berth or the device's occupancy. -/
def adapterRead (s : State) (p off : Nat) : Word :=
  let q := s.port p
  if off = 0 then
    at' 0x0256 48 ||| at' p 40 ||| at' (s.PORT_CFG_WIDTH p) 38 ||| at' (s.PORT_CFG_D_LOG2 p) 34 ||| at' (s.PORT_CFG_SLOTS p) 17
  else if off = 8 then
    at' q.mode 62 ||| at' q.epoch.toNat 46 ||| bitAt q.warn 45 ||| bitAt q.tokenOk 44 ||| bitAt q.tokenNeeded 43
  else 0

/-- The MSI-X table as far as the function's state goes: the mask bit of each entry, in the vector control word. No command of this block
writes an entry's address and data, which read as at reset (log 61). -/
def msixTableRead (s : State) (p off : Nat) : Word :=
  if off % 16 = 8 then bitAt (!(s.port p).unmasked.contains (off / 16)) 32 else 0

/-- The pending bit array. -/
def pendingRead (s : State) (p off : Nat) : Word :=
  (List.range 64).foldl (fun w k => w ||| bitAt ((s.port p).pendingVec.contains (8 * off + k)) k) 0

/-- A read of 8 bytes of the BAR at an aligned offset; none: the request hits no structure of the BAR and completes as Unsupported Request
(R346). The doorbell window reads 0 (R48). -/
def barRead (s : State) (p off : Nat) : Option Word :=
  if barSize s p ≤ off then none
  else if off < 0x1000 then some (adapterRead s p off)
  else if off < 0x9000 then some (msixTableRead s p (off - 0x1000))
  else if off < 0x9100 then some (pendingRead s p (off - 0x9000))
  else some 0

/-! Configuration space (R347) -/

/-- The capabilities, in their order. -/
inductive Capability where
  | powerManagement
  | pciExpress
  | msix
  | aer
  | deviceSerialNumber
  | secondaryPciExpress
  | dataLinkFeature
  | physicalLayer16
  | physicalLayer32
  | laneMargining
  deriving DecidableEq, Repr

def capabilities : List Capability :=
  [.powerManagement, .pciExpress, .msix, .aer, .deviceSerialNumber, .secondaryPciExpress, .dataLinkFeature, .physicalLayer16,
    .physicalLayer32, .laneMargining]

/-- What a function's configuration space gives: the type 0 header, the capabilities and what stands in them. The vendor ID is not given and
is the device's own; bar0 tells a 64-bit, non-prefetchable memory BAR by its low four bits, and its size; tags of 10 bits, completion timeout
ranges A and B, and FLR stand in the PCI Express capability; vectors is the MSI-X table's size. -/
structure ConfigSpace where
  vendor : BitVec 16
  device : BitVec 16
  headerType : BitVec 7
  classCode : BitVec 24
  bar0 : BitVec 4
  barBytes : Nat
  caps : List Capability
  busMaster : Bool
  d3hot : Bool
  flr : Bool
  tenBitTags : Bool
  timeoutRanges : BitVec 4
  vectors : Nat
  msixEnable : Bool
  functionMask : Bool
  ecrcCapable : Bool
  serial : Word
  deriving DecidableEq, Repr

/-- GLB_SERIAL with the port number in bits [7:0] (R347, R377). -/
def portSerial (p : Nat) : Word := setFld Config.serial 7 0 p

/-- The function's configuration space (R347). -/
def configSpace (s : State) (p : Nat) : ConfigSpace :=
  let q := s.port p
  { vendor := Config.vendorId, device := 0x0256, headerType := 0, classCode := 0x058000, bar0 := 4, barBytes := barSize s p,
    caps := capabilities, busMaster := q.bme, d3hot := q.d3, flr := true, tenBitTags := true, timeoutRanges := 3, vectors := 2048,
    msixEnable := q.msixEn, functionMask := q.fnMask, ecrcCapable := true, serial := portSerial p }

/-- The management port's function (R366): 64 MiB of BAR0, eight vectors, GLB_SERIAL. -/
def mgmtConfig (s : State) : ConfigSpace :=
  let m := s.mgmt
  { vendor := Config.vendorId, device := 0x0257, headerType := 0, classCode := 0x088000, bar0 := 4, barBytes := 0x4000000,
    caps := capabilities, busMaster := m.bme, d3hot := m.d3, flr := true, tenBitTags := true, timeoutRanges := 3, vectors := 8,
    msixEnable := m.msixEn, functionMask := false, ecrcCapable := true, serial := Config.serial }

/-! Requests on the link (R348, R353, R367) -/

/-- A request that a port issues: what the link carries of it. -/
structure LinkRequest where
  write : Bool
  addr : Word
  bytes : Nat
  relaxed : Bool
  idOrdered : Bool
  noSnoop : Bool
  ecrc : Bool
  deriving DecidableEq, Repr

/-- A read or write of n bytes in pieces of at most m. -/
def pieces (write ecrc : Bool) (addr : Word) (n m : Nat) : List LinkRequest :=
  (List.range (ceilDiv n m)).map (fun k => ⟨write, addr + BitVec.ofNat 64 (m * k), min m (n - m * k), false, false, false, ecrc⟩)

/-- The requests of a port's output (R348): none is larger than the port's programmed maximum payload size or maximum read request size,
and ECRC is generated on every one but the writes of FETCH payload (R353). An MSI-X message is a write of four bytes. -/
def linkRequests (s : State) : Out → List LinkRequest
  | .cpl p a _ _ => pieces true true a 16 (s.port p).mps
  | .payload p a n _ => pieces true false a n (s.port p).mps
  | .block p a ws => pieces true true a (8 * ws.length) (s.port p).mps
  | .msix _ _ => pieces true true 0 4 128
  | .readReq p a n => pieces false true a n (s.port p).mrrs
  | _ => []

/-- The most non-posted requests outstanding on a port (R348), and on the management port (R367). -/
def outstandingMax (s : State) (p : Nat) : Nat := if (s.port p).tags10 then 768 else 256
def mgmtOutstandingMax : Nat := 64

end Sys2Proof.Machine
end

