-- ==== Sys2Proof/Machine/Berths.lean ====
section
/-! DEFINITION. The meanings of a berth's commands: doorbells, descriptors, commitment, posting (R43 to R75, R97 to R103), and the
charter window (R76 to R81, R375). -/

namespace Sys2Proof.Machine

/-! Doorbells (R47 to R51) -/

/-- The berth chartered to a slot of a port (R74). -/
def berthAt (s : State) (p slot : Nat) : Option Nat :=
  (s.berths.find? (fun x => x.2.st != .free && x.2.port == p && x.2.slot == slot)).map (·.1)

/-- Doorbells reach the port: link up, function in D0, domain in service, not retired, applied mode not CLOSED (R355, R359). -/
def doorbellOpen (s : State) (p : Nat) : Bool :=
  let q := s.port p
  q.linkUp && !q.d3 && s.inService (domainOfPort p) && q.st != .retired && q.mode != 3

/-- A CHARTERED berth's first valid doorbell write (R40). -/
def firstDoorbell (b : Berth) : BSt :=
  if b.st ≠ .chartered then b.st
  else if b.retirePoint < b.lastSurvivor then .refloating
  else if b.nextSeq < 2 ^ 48 then .opened else .exhausted

/-- CQ_HEAD releases only entries that are written (R49). -/
def headOk (b : Berth) (h : Nat) : Bool :=
  let n := 2 ^ b.log2
  decide (h < n) && decide ((h + n - b.cqHead) % n ≤ (b.cqTail + n - b.cqHead) % n)

/-- DOORBELL_WRITE (R48, R49, R346, R417): off counts from the doorbell window; a write that hits no structure of the BAR, and any write in
D3hot, completes as Unsupported Request. Each field whose two bytes are enabled is judged separately. -/
def execDoorbellWrite (port : Fin 256) (off : BitVec 32) (data : Word) (be : BitVec 8) (s : State) : Res :=
  if (s.port port.val).linkUp ∧ (s.port port.val).d3 then .next (s.emit .unsupported)
  else if !doorbellOpen s port.val then .next s
  else if barSize s port.val ≤ 0x10000 + off.toNat then .next (s.emit .unsupported)
  else
  match (doorbellSlot s port.val off.toNat).bind (berthAt s port.val) with
  | none => .next s
  | some i =>
    let b := s.berth i
    let tailOn := be.getLsbD 0 && be.getLsbD 1
    let headOn := be.getLsbD 2 && be.getLsbD 3
    let tail := fld data 15 0
    let head := fld data 31 16
    let tailOk := tailOn && decide (tail < 2 ^ b.log2)
    let headOk' := headOn && headOk b head
    let bad := (if tailOn && !tailOk then 1 else 0) + (if headOn && !headOk' then 1 else 0)
    let s := if bad = 0 then s else s.bump (offPORT_CNT + 0x1000 * port.val) 47 32 bad
    if !tailOk && !headOk' then .next s
    else .next (s.setBerth i { b with
      sqTail := if tailOk then tail else b.sqTail, cqHead := if headOk' then head else b.cqHead, st := firstDoorbell b })

/-! Descriptors -/

/-- A descriptor of the berth may be fetched (R40, R45, R355, R359, R361). -/
def mayFetch (s : State) (i : Nat) : Bool :=
  let b := s.berth i
  let n := 2 ^ b.log2
  let q := s.port b.port
  (b.st == .opened || b.st == .exhausted || b.st == .refloating) && portFree s b.port && decide (q.mode < 2) && !q.stopping &&
    b.sqHead != b.sqTail && decide (b.flights.length + (b.cqTail + n - b.cqHead) % n + 1 < n)

/-- DESCRIPTOR_FETCH (R43, R45): the read is issued; this is the descriptor's fetch time (R359). -/
def execDescriptorFetch (b : BerthId) (s : State) : Res :=
  let i := b.toNat
  if !mayFetch s i then .next s else
  let x := s.berth i
  let f : Flight := ⟨x.sqHead, s.now, (s.port x.port).mode, x.qos, x.floor, x.hold, x.spillOk, x.vector, none, 0, 0, none, false, false, .fetching⟩
  let s := s.setBerth i { x with flights := x.flights ++ [f], sqHead := (x.sqHead + 1) % 2 ^ x.log2 }
  .next (s.emit (.readReq x.port (x.sqBase + BitVec.ofNat 64 (64 * x.sqHead)) 64))

/-- The oldest descriptor of a berth whose read has not returned. -/
def fetchingIdx (s : State) (i : Nat) : Option Nat := ((s.berth i).flights.find? (fun f => f.stage == .fetching)).map (·.idx)

/-- The bits of AER's Uncorrectable Error Status under which a failed read is reported (R354). PRESUMED (log 61): the specification's
places; a link that went down is reported by none of them. -/
def aerBits : ReadFail → BitVec 32
  | .poisoned => 1 <<< 12
  | .timeout => 1 <<< 14
  | .aborted => 1 <<< 15
  | .ecrc => 1 <<< 19
  | .unsupported => 1 <<< 20
  | .linkDown => 0

/-- A failed read is reported through AER (R354) and counted (R364). -/
def countRead (p : Nat) (why : ReadFail) (s : State) : State :=
  let s := s.updPort p (fun q => { q with aer := q.aer ||| aerBits why })
  match why with
  | .timeout => s.bump (offPORT_ERR + 0x1000 * p) 15 0 1
  | .ecrc => s.bump (offPORT_ERR + 0x1000 * p) 31 16 1
  | _ => s

/-- DESCRIPTOR_READ_FAIL (R54 step 1, R57): DMA_FAULT with the TAG of the bytes read, 0 if none were. -/
def execDescriptorReadFail (b : BerthId) (why : ReadFail) (tag : BitVec 16) (s : State) : Res :=
  match fetchingIdx s b.toNat with
  | none => .next s
  | some k =>
    let s := countRead (s.berth b.toNat).port why (setFlight b.toNat k (fun f => { f with tag := tag.toNat }) s)
    .next (settle (goOn b.toNat (finishFlight b.toNat k (Cpl.now s dmaFault 0) s)))

/-- The read of a berth's oldest awaited descriptor returns its words; every descriptor whose turn has come is carried out in ring
order (R31, R54). -/
def descriptorIn (i : Nat) (d : Desc) (s : State) : State :=
  match fetchingIdx s i with
  | none => s
  | some k => settle (goOn i (setFlight i k (fun f => { f with desc := some d, tag := d.tag, len := d.length, stage := .returned }) s))

/-- NOP (R60). -/
def execNop (b : BerthId) (d : Desc) (s : State) : Res := .next (descriptorIn b.toNat d s)

/-- PUT (R61). -/
def execPut (b : BerthId) (d : Desc) (s : State) : Res := .next (descriptorIn b.toNat d s)

/-- RETIRE (R65). -/
def execRetire (b : BerthId) (d : Desc) (s : State) : Res := .next (descriptorIn b.toNat d s)

/-- FETCH (R66). -/
def execFetch (b : BerthId) (d : Desc) (s : State) : Res := .next (descriptorIn b.toNat d s)

/-- QUERY (R69). -/
def execQuery (b : BerthId) (d : Desc) (s : State) : Res := .next (descriptorIn b.toNat d s)

/-- SHAPER_RELEASE (R109): the oldest shaped payload read of the berth starts once the bucket holds it. -/
def execShaperRelease (b : BerthId) (s : State) : Res :=
  match (s.berth b.toNat).flights.find? (fun f => f.stage == .shaped) with
  | none => .next s
  | some f => if shaperLets s f.len then .next (startRead b.toNat f s) else .next s

/-- The DURABLE completion of a PUT: at once, or at its quantum when it was held or shaped (R62, R101); a sluice waives the quantum
(R213). -/
def durableCpl (s : State) (f : Flight) (seq : Nat) : Cpl :=
  if (f.wasHeld || f.wasShaped) && !s.sluiced then
    ⟨durable, seq, f.wasHeld, .quantum, quantumAt f.tFetch s.WEIR_TIMING_QUANT s.now⟩
  else ⟨durable, seq, f.wasHeld, .soon, s.now⟩

/-- Commit a PUT whose payload is read and whose copies are accepted (R12, R13, R62, R63, R72). -/
def commit (i : Nat) (f : Flight) (p : Place) (payload : Nat) (s : State) : State :=
  let b := s.berth i
  let n := b.nextSeq
  let spill := match f.desc with | some d => d.flags % 2 == 1 && f.spillOk | none => false
  let r : Rec := ⟨n, f.len, f.tag, payload, s.now, some p, none, spill⟩
  let s := s.setBerth i { b with
    chain := b.chain ++ [r], nextSeq := n + 1, st := if b.st = .opened ∧ n + 1 = 2 ^ 48 then .exhausted else b.st }
  let s := forEach (entryLines s b.lastCpn n) s readLine
  let s := chainPageAdd i n s
  let s := forEach (entryLines s (s.berth i).lastCpn n) s writeLine
  let s := compactAll (framesOut (dramWrite .berth p f.len s))
  finishFlight i f.idx (durableCpl s f n) s

/-- Where the copies of a PUT in its payload read go: the place it has, or, where retired channels have taken that, a free run in a pair in
service (R12, R133). -/
def commitPlace (s : State) (f : Flight) : Option Place :=
  match f.place with
  | some p => some p
  | none => choosePlace s f.len

/-- The PUT of a berth that may commit next, and where: the first one not finished that is admitted, with its payload read started and
every copy accepted, its bank queues having room (R12, R64, R127). -/
def committable (s : State) (i : Nat) : Option (Flight × Place) :=
  match (s.berth i).flights.find? (fun f => f.stage.isReading) with
  | none => none
  | some f => (commitPlace s f).bind (fun p => if f.stage == .reading && p.chs.all (fun c => dramRoom s c p.off) then some (f, p) else none)

/-- PUT_COMMIT (R12): in ring order. A payload longer than LENGTH is one no read returns. -/
def execPutCommit (b : BerthId) (payload : Nat) (s : State) : Res :=
  match committable s b.toNat with
  | none => .next s
  | some (f, p) =>
    if 2 ^ (4096 * f.len) ≤ payload then .fault .malformedCommand
    else .next (settle (goOn b.toNat (spillRun (spillFlags (commit b.toNat f p payload s)))))

/-- A reservation given back in full (R98). -/
def unreserve (i : Nat) (f : Flight) (s : State) : State :=
  let s := s.updBerth i (fun b => { b with held := b.held - f.len, unret := b.unret - f.len, unpers := b.unpers - f.len })
  setFlight i f.idx (fun x => { x with place := none }) s

/-- PAYLOAD_READ_FAIL (R64, R98): the reservation is released and the PUT completes DMA_FAULT. The ECRC of a payload is ignored
(R29). -/
def execPayloadReadFail (b : BerthId) (idx : BitVec 12) (why : ReadFail) (s : State) : Res :=
  if why = .ecrc then .next s else
  match (s.berth b.toNat).flights.find? (fun f => f.idx == idx.toNat && f.stage == .reading) with
  | none => .next s
  | some f =>
    let s := unreserve b.toNat f (countRead (s.berth b.toNat).port why s)
    let s := finishFlight b.toNat f.idx (Cpl.now s dmaFault 0) s
    .next (settle (weirEval (goOn b.toNat s)))

/-- HOLD_LIMIT_EXPIRY (R99, R100): held PUTs at their deadline are refused, with the deadline as refusal point. -/
def execHoldLimitExpiry (b : BerthId) (s : State) : Res :=
  let x := s.berth b.toNat
  let due := fun (f : Flight) => f.stage == .held && decide (f.tFetch + f.hold ≤ s.now)
  if !x.flights.any due then .next s else
  let s := s.setBerth b.toNat { x with
    flights := x.flights.map (fun f => if due f then { f with stage := .done (Cpl.refuse refusedDevice (f.tFetch + f.hold)) } else f) }
  .next (settle (weirEvent (goOn b.toNat s)))

/-- REFUSAL_POST (R100). -/
def execRefusalPost (b : BerthId) (s : State) : Res := .next (settle (goOn b.toNat s))

/-- QUANTUM_POST (R101). -/
def execQuantumPost (b : BerthId) (s : State) : Res := .next (settle (goOn b.toNat s))

/-- COMPLETION_WRITE_FAIL (R59): the berth is fenced with reason 0x3. -/
def execCompletionWriteFail (b : BerthId) (s : State) : Res :=
  .next (settle (goOn b.toNat (fenceBerth 3 b.toNat s)))

/-- No descriptor of the berth is part way. -/
def atBoundary (b : Berth) : Bool :=
  b.flights.all (fun f => f.stage.isDone || f.stage == .fetching || f.stage == .returned)

/-- BERTH_MOVE (R75): to an engine in service, at a descriptor boundary. -/
def execBerthMove (b : BerthId) (engine : Fin 64) (s : State) : Res :=
  let x := s.berth b.toNat
  if x.st ≠ .free ∧ atBoundary x ∧ !s.enginesOut.getLsbD engine.val then .next (s.setBerth b.toNat { x with engine := engine.val })
  else .next s

/-! The charter window (R76 to R81) -/

/-- The staging registers of a charter, by offset (R76). -/
def stageOf (b : Berth) : List (Nat × Word) :=
  if b.st = .free then
    [offBERTH_PORT, offBERTH_SQ_BASE, offBERTH_CQ_BASE, offBERTH_RING, offBERTH_OWNER, offBERTH_FLOOR, offBERTH_CEIL,
     offBERTH_RETAIN, offBERTH_POLICY].map (fun o => (o, 0))
  else
    [(offBERTH_PORT, at' b.port 16 ||| at' b.slot 0), (offBERTH_SQ_BASE, b.sqBase), (offBERTH_CQ_BASE, b.cqBase),
     (offBERTH_RING, at' b.log2 0), (offBERTH_OWNER, b.owner), (offBERTH_FLOOR, at' b.floor 0), (offBERTH_CEIL, at' b.ceil 0),
     (offBERTH_RETAIN, at' b.retain 0),
     (offBERTH_POLICY, at' b.hold 32 ||| at' b.qos 12 ||| bitAt b.spillOk 11 ||| at' b.vector 0)]

/-- Select a berth and load its charter (R76). -/
def selectBerth (w : Word) (s : State) : State :=
  let s := s.setReg offBERTH_SEL (w &&& maskOf 19 0)
  forEach (stageOf (s.berth (fld w 19 0))) s (fun x s => s.setReg x.1 x.2)

/-- The berth selected. -/
def selected (s : State) : Nat := s.BERTH_SEL_ID

/-- A berth with the staged fields (R77). -/
def withStaged (s : State) (b : Berth) : Berth :=
  { b with
    port := s.BERTH_PORT_PORT, slot := s.BERTH_PORT_SLOT, sqBase := s.reg offBERTH_SQ_BASE, cqBase := s.reg offBERTH_CQ_BASE,
    log2 := s.BERTH_RING_LOG2, owner := s.reg offBERTH_OWNER, floor := s.BERTH_FLOOR_FLOOR, ceil := s.BERTH_CEIL_CEIL,
    retain := s.BERTH_RETAIN_RETAIN, hold := s.BERTH_POLICY_HOLD, qos := s.BERTH_POLICY_QOS,
    spillOk := s.BERTH_POLICY_SPILL_OK == 1, vector := s.BERTH_POLICY_VECTOR }

/-- The fields of R77's MODIFY outside CHARTERED. -/
def withPolicy (s : State) (b : Berth) : Berth :=
  let n := withStaged s b
  { b with floor := n.floor, ceil := n.ceil, retain := n.retain, hold := n.hold, qos := n.qos, spillOk := n.spillOk, vector := n.vector }

/-- The fields are valid (R78). -/
def fieldsOk (s : State) (i : Nat) : Bool :=
  let n := withStaged s (s.berth i)
  decide (0 < s.PORT_CFG_SLOTS n.port) && decide (n.slot < s.PORT_CFG_SLOTS n.port) && decide (4 ≤ n.log2 ∧ n.log2 ≤ 12) &&
    decide (n.floor ≤ n.ceil ∧ n.ceil ≤ n.retain ∧ 1 ≤ n.ceil) && decide (n.hold ≤ 100000) &&
    decide (floorSum s - (s.berth i).floor + n.floor ≤ s.WEIR_FLOOR_MAX_VALUE)

/-- No other berth holds the staged slot (R74, R77). -/
def slotFree (s : State) (i : Nat) : Bool :=
  match berthAt s s.BERTH_PORT_PORT s.BERTH_PORT_SLOT with
  | none => true
  | some j => j == i

/-- A registered token is cleared when the port's last berth leaves it (R357). -/
def berthLeft (p : Nat) (s : State) : State :=
  if s.berths.any (fun x => x.2.st != .free && x.2.port == p) then s else s.updPort p (fun q => { q with token := 0 })

/-- A berth command made after a sluice trigger; one accepted before it takes effect whole (R81). -/
def tooLate (s : State) : Bool := s.sluiced && !s.mgmt.honoured

/-- The common refusal of the berth commands: after a sluice trigger, or from a state the table does not list (R77, R81). -/
def badState (s : State) (i : Nat) (from_ : List BSt) : Bool := tooLate s || !from_.contains (s.berth i).st

/-- CHARTER's RESULT (R77, R204). -/
def charterResult (s : State) (i : Nat) : Nat :=
  if badState s i [.free] ∨ s.fmm.san.marker = 1 then 2 else if !fieldsOk s i then 3 else if !slotFree s i then 4 else 0

/-- CHARTER's effect (R38, R40, R77). -/
def charterEffect (i : Nat) (s : State) : State :=
  let b := s.berth i
  s.setBerth i { withStaged s b with
    st := .chartered, gen := b.gen + 1, nextSeq := 1, retirePoint := 0, sqHead := 0, sqTail := 0, cqTail := 0, cqHead := 0,
    phase := true, engine := (Config.engineOf i).toNat }

def doCharter (s : State) : State :=
  let i := selected s
  let s := cmdTake kBerth s
  let r := charterResult s i
  cmdEnd kBerth r (if r = 0 then weirEval (charterEffect i s) else s)

/-- MODIFY's RESULT (R77). -/
def modifyResult (s : State) (i : Nat) : Nat :=
  if badState s i [.chartered, .opened, .exhausted, .refloating, .fenced] then 2
  else if !fieldsOk s i then 3
  else if (s.berth i).st = .chartered ∧ !slotFree s i then 4 else 0

/-- MODIFY's effect (R77, R79). -/
def modifyEffect (i : Nat) (s : State) : State :=
  let b := s.berth i
  if b.st = .chartered then
    let s := s.setBerth i (withStaged s b)
    if b.port = s.BERTH_PORT_PORT then s else berthLeft b.port s
  else s.setBerth i (withPolicy s b)

def doModify (s : State) : State :=
  let i := selected s
  let s := cmdTake kBerth s
  let r := modifyResult s i
  cmdEnd kBerth r (if r = 0 then weirEval (modifyEffect i s) else s)

/-- FENCE (R77, R80): its DONE waits for the descriptors fetched before it. -/
def doFence (s : State) : State :=
  let i := selected s
  let s := cmdTake kBerth s
  if badState s i [.chartered, .opened, .exhausted, .refloating] then cmdEnd kBerth 2 s
  else goOn i (fenceBerth 1 i { s with mgmt := { s.mgmt with fencing := some (3, i) } })

/-- RECHARTER's RESULT (R73, R77). -/
def recharterResult (s : State) (i : Nat) : Nat :=
  let b := s.berth i
  if badState s i [.fenced] then 2
  else if !fieldsOk s i then 3
  else if !slotFree s i then 4
  else if s.reg offBERTH_OWNER ≠ b.owner ∧ b.unret ≠ 0 then 6
  else if b.nextSeq = 2 ^ 48 ∧ b.unret ≠ 0 then 5 else 0

/-- RECHARTER's effect (R38, R40, R73, R77). -/
def recharterEffect (i : Nat) (s : State) : State :=
  let b := s.berth i
  let spent := b.nextSeq = 2 ^ 48
  let s := s.setBerth i { withStaged s b with
    st := .chartered, gen := b.gen + 1, reason := 0, sqHead := 0, sqTail := 0, cqTail := 0, cqHead := 0, phase := true,
    nextSeq := if spent then 1 else b.nextSeq, retirePoint := if spent then 0 else b.retirePoint }
  if b.port = s.BERTH_PORT_PORT then s else berthLeft b.port s

/-- RECHARTER ends. -/
def endRecharter (i : Nat) (s : State) : State :=
  let r := recharterResult s i
  cmdEnd kBerth r (if r = 0 then weirEval (recharterEffect i s) else s)

/-- A command that requires FENCED waits while descriptors of the berth are in flight, as after a fence that no FENCE made: they never meet
(R80, log 11). -/
def whenClear (op i : Nat) (f : State → State) (s : State) : State :=
  if (s.berth i).flights.isEmpty then f s else { s with mgmt := { s.mgmt with fencing := some (op, i) } }

def doRecharter (s : State) : State :=
  let i := selected s
  let s := cmdTake kBerth s
  if recharterResult s i = 0 then whenClear 4 i (endRecharter i) s else endRecharter i s

/-- RELEASE's effect (R40, R77): every record retired, the slot freed, the berth FREE with its generation. -/
def releaseEffect (i : Nat) (s : State) : State :=
  let s := retireTo i ((s.berth i).nextSeq - 1) s
  let b := s.berth i
  berthLeft b.port (s.setBerth i { Berth.none with gen := b.gen })

/-- RELEASE ends. -/
def endRelease (i : Nat) (s : State) : State :=
  if badState s i [.fenced] then cmdEnd kBerth 2 s else cmdEnd kBerth 0 (weirEval (releaseEffect i s))

def doRelease (s : State) : State :=
  let i := selected s
  let s := cmdTake kBerth s
  if badState s i [.fenced] then cmdEnd kBerth 2 s else whenClear 5 i (endRelease i) s

/-- A write of BERTH_CMD (R76, R77, R81). -/
def berthCmd (op : Nat) (s : State) : State :=
  match op with
  | 1 => doCharter s
  | 2 => doModify s
  | 3 => doFence s
  | 4 => doRecharter s
  | 5 => doRelease s
  | _ => cmdEnd kBerth (if tooLate s then 2 else 1) (cmdTake kBerth s)

/-- The part of a register that a write brings: 0 the whole, 1 its low and 2 its high four bytes (R370, R375). -/
def partOf (kind : Nat) (old w : Word) : Word :=
  match kind with
  | 1 => setFld old 31 0 (fld w 31 0)
  | 2 => setFld old 63 32 (fld w 31 0)
  | _ => w

/-- The bits a charter register keeps. -/
def stageMask (off : Nat) : Word :=
  if off = offBERTH_PORT then maskOf 23 0
  else if off = offBERTH_SQ_BASE ∨ off = offBERTH_CQ_BASE then maskOf 63 12
  else if off = offBERTH_RING then maskOf 3 0
  else if off = offBERTH_OWNER then maskOf 63 0
  else if off = offBERTH_POLICY then maskOf 48 32 ||| maskOf 13 0
  else maskOf 31 0

/-- A write of the charter window takes effect (R76, R375). -/
def stageNow (off kind : Nat) (w : Word) (s : State) : State :=
  if off = offBERTH_SEL then (if kind = 2 then s else selectBerth w s)
  else if off = offBERTH_CMD then (if kind = 0 then berthCmd (fld w 3 0) s else s)
  else s.setReg off (partOf kind (s.reg off) w &&& stageMask off)

/-- A write of the charter window reaches it: PD_MGMT and PD_CORE in service (R280, R368). -/
def charterReach (s : State) : Bool := s.bar0 && s.core

/-- BERTH_SEL (R76). -/
def execBerthSel (value : Word) (s : State) : Res :=
  viaPort (.berthSel value) true (fun s => if !charterReach s then .next s else .next (settle (stageNow offBERTH_SEL 0 value s))) s

/-- A BERTH_CMD write with an opcode. -/
def berthCommand (op : Nat) (s : State) : Res :=
  if !charterReach s then .next s else .next (settle (stageNow offBERTH_CMD 0 (BitVec.ofNat 64 op) s))

/-- CHARTER (R77). -/
def execCharter (s : State) : Res :=
  viaPort .charter true (fun s => berthCommand 1 s) s

/-- MODIFY (R77, R79). -/
def execModify (s : State) : Res :=
  viaPort .modify true (fun s => berthCommand 2 s) s

/-- FENCE (R80). -/
def execFence (s : State) : Res :=
  viaPort .fence true (fun s => berthCommand 3 s) s

/-- RECHARTER (R73, R77). -/
def execRecharter (s : State) : Res :=
  viaPort .recharter true (fun s => berthCommand 4 s) s

/-- RELEASE (R77). -/
def execRelease (s : State) : Res :=
  viaPort .release true (fun s => berthCommand 5 s) s

/-- The waiting berth command goes on: no descriptor of its berth is in flight (R80). It was accepted before any trigger (R81). -/
def fenceEnds (op i : Nat) (s : State) : State :=
  let s := { s with mgmt := { s.mgmt with fencing := none, honoured := true } }
  let s := match op with
    | 4 => endRecharter i s
    | 5 => endRelease i s
    | _ => cmdEnd kBerth 0 s
  { s with mgmt := { s.mgmt with honoured := false } }

end Sys2Proof.Machine
end

