-- ==== Sys2Proof/Machine/Weirs.lean ====
section
/-! DEFINITION. The meanings of the weir's commands (R91, R104, R107, R197). -/

namespace Sys2Proof.Machine

/-- BUDGET_RECOMPUTE (R91, R107, R108); the free slabs are looked at too (R118, log 58). -/
def execBudgetRecompute (s : State) : Res := if s.core then .next (settle (weirTest (recompute (compactAll s)))) else .next s

/-- BUDGET_RISE (R91, R92). -/
def execBudgetRise (s : State) : Res := if s.core then .next (settle (weirEval (rise s))) else .next s

/-- WEIR_SHUT_WRITE (R107): written 1 the weir shuts, written 0 it may leave SHUT. -/
def execWeirShutWrite (shut : Bool) (s : State) : Res :=
  viaPort (.weirShutWrite shut) false (fun s =>
    if !charterReach s then .next s
    else if shut then .next (settle (weirShut s))
    else .next (settle (weirEval (s.setReg offWEIR_CTRL (setFld (s.reg offWEIR_CTRL) 0 0 0))))) s

/-- A record past its class's residence limit (R104). -/
def residenceOver (s : State) (i seq : Nat) : Bool :=
  let b := s.berth i
  b.spillOk && residenceOf s b.qos != 0 &&
    b.chain.any (fun r => r.seq == seq && r.basin.isNone && decide (r.tCommit + residenceOf s b.qos ≤ s.now))

/-- RESIDENCE_LIMIT_EXPIRY (R104, R105). -/
def execResidenceLimitExpiry (b : BerthId) (seq : BitVec 48) (s : State) : Res :=
  if residenceOver s b.toNat seq.toNat then .next (settle (spillRun (spillFlags s))) else .next s

/-- THROTTLE_WINDOW (R190, R197): the pool parts of the next 10 ms are at most FG_PACE per cent of the space produced in the last; the ingress
of the last 10 ms decides background collection. -/
def execThrottleWindow (s : State) : Res :=
  if !s.core then .next s else
  let f := { s.fmm with
    paceLeft := s.fmm.produced * s.FMM_GC_FG_PACE / 100, produced := 0, ingressLast := s.fmm.ingress, ingress := 0 }
  .next (settle (weirEvent (collModes { s with fmm := f })))

end Sys2Proof.Machine
end

