-- ==== Sys2Proof/Machine/Engine.lean ====
section
/-! DEFINITION. The key engine (R385 to R399): its queue, its random bit generator, the attestation block, the gauge's requests, and
the meanings of its commands. -/

namespace Sys2Proof.Machine

def State.setPke (s : State) (x : Pke) : State := { s with pke := x }

/-- The time of an operation, us (R386). -/
def opTime (op : Nat) : Nat :=
  match op with
  | 1 => 130
  | 2 => 260
  | 3 => 140
  | 4 => 4
  | _ => 0

/-- Operand n: four words, big-endian (Operand encoding). -/
def operand (s : State) (n : Nat) : Nat :=
  (List.range 4).foldl (fun a j => a * 2 ^ 64 + (s.reg (offPKE_OP + 8 * (4 * n + j))).toNat) 0

/-! The random bit generator (R394) -/

/-- Seed or reseed from the entropy source. -/
def drbgReseed (s : State) : State :=
  let d := s.pke.drbg
  let e := Config.entropy s.free
  let x := drbgSeed (if d.seeds = 0 then e else 1 :: beBytes 55 d.v.toNat ++ e)
  ({ s with free := s.free + 1 }).setPke { s.pke with drbg := ⟨x.1, x.2, 0, d.seeds + 1⟩ }

/-- Draw 32 bytes; the generator is seeded first, and again every 2^20 requests. -/
def drbgDraw (s : State) : State × Nat :=
  let s := if s.pke.drbg.seeds = 0 ∨ 2 ^ 20 ≤ s.pke.drbg.requests then drbgReseed s else s
  let d := s.pke.drbg
  let x := drbgNext d.v d.c (d.requests + 1)
  (s.setPke { s.pke with drbg := { d with v := x.2, requests := d.requests + 1 } }, x.1)

/-! Attestation (R396) -/

/-- The rollback counter: fuses blown at delivery and since (R340). -/
def fuseCounter (s : State) : Nat := min 64 (Config.fusesAtDelivery.toNat % 65 + s.cfg.fuses)

/-- CFG_STATUS (R344). -/
def cfgStatusWord (s : State) : Word :=
  let c := s.cfg
  at' c.st 60 ||| at' c.source 58 ||| bitAt c.trial 57 ||| bitAt c.defaulted 56 ||| bitAt c.unsig 55 ||| bitAt c.reverted 54 |||
    at' c.reason 48 ||| at' c.failSection 40 ||| at' c.failCheck 32

/-- GLB_ID (R377). -/
def glbIdWord : Word :=
  at' 0x0256 48 ||| at' Config.grade.toNat 40 ||| at' Config.mainRev.toNat 32 ||| at' Config.supRev.toNat 24

/-- The 128-byte block (R396). -/
def attestBlock (s : State) (ticket : Nat) : List Byte :=
  beBytes 32 (operand s 0) ++ leBytes 8 Config.serial.toNat ++ leBytes 8 glbIdWord.toNat ++
    beBytes 32 (if s.cfg.sealed then s.cfg.digest else 0) ++ leBytes 4 s.cfg.version ++ leBytes 1 s.cfg.rollback ++
    leBytes 1 (fuseCounter s) ++ leBytes 2 (fld (cfgStatusWord s) 63 48) ++ leBytes 8 s.now ++ leBytes 2 ticket ++
    List.replicate 6 0 ++ leBytes 4 0xC256A77E ++ List.replicate 20 0

/-! The queue (R388) -/

/-- Start the operation at the head when none runs; the attestation block holds the values of this moment. -/
def pkeStart (s : State) : State :=
  match s.pke.cur, s.pke.queue with
  | none, o :: t =>
    let o := { o with tStart := s.now, block := if o.op = 3 ∧ o.who = .rack then attestBlock s s.pke.issue.toNat else o.block }
    s.setPke { s.pke with cur := some o, queue := t }
  | _, _ => s

/-- Queue an operation. -/
def pkeQueue (o : POp) (s : State) : State := pkeStart (s.setPke { s.pke with queue := s.pke.queue ++ [o] })

/-- A rack manager operation waits or runs (R392). -/
def rackBusy (s : State) : Bool :=
  s.pke.queue.any (fun o => o.who == .rack) || (match s.pke.cur with | some o => o.who == .rack | none => false)

/-- A PKE_CTRL write (R392): accepted with the key while no rack manager operation waits or runs, counted as refused otherwise. -/
def pkeWrite (key : Byte) (op : Nat) (gen : Bool) (s : State) : State :=
  if key ≠ 0xA9 ∨ rackBusy s then s.bump offPKE_CNT 31 16 1
  else
    let x := { s.pke with
      issue := s.pke.issue + 1, rDone := false, rTicket := 0, rStatus := 0, rValid := false, rx := 0, ry := 0, rTime := 0 }
    pkeQueue ⟨.rack, op, gen, 0, []⟩ (s.setPke x)

/-- PKE_CTRL is reached through BAR0, in PD_CORE (R385). -/
def pkeCommand (key : Byte) (op : Nat) (gen : Bool) (s : State) : Res :=
  if charterReach s then .next (pkeWrite key op gen s) else .next s

/-- MUL (R386). -/
def execMul (key : Byte) (gen : Bool) (s : State) : Res :=
  viaPort (.mul key gen) false (fun s => pkeCommand key 1 gen s) s

/-- VERIFY (R386, R390). -/
def execVerify (key : Byte) (s : State) : Res :=
  viaPort (.verify key) false (fun s => pkeCommand key 2 false s) s

/-- ATTEST (R386, R396). -/
def execAttest (key : Byte) (s : State) : Res :=
  viaPort (.attest key) false (fun s => pkeCommand key 3 false s) s

/-- RANDOM (R386, R394). -/
def execRandom (key : Byte) (s : State) : Res :=
  viaPort (.random key) false (fun s => pkeCommand key 4 false s) s

/-! Results (R387 to R391) -/

/-- MUL's status, the first failing check of R389. -/
def mulStatus (k x y : Nat) : Nat :=
  if p256p ≤ x ∨ p256p ≤ y then 2 else if !onCurve x y then 3 else if k = 0 then 4 else if p256n ≤ k then 5 else 0

/-- VERIFY's status. -/
def verifyStatus (e x y r s : Nat) : Nat :=
  if p256p ≤ x ∨ p256p ≤ y then 2
  else if !onCurve x y then 3
  else if r = 0 ∨ p256n ≤ r ∨ s = 0 ∨ p256n ≤ s then 6
  else if ecdsaOk e x y r s then 0 else 1

/-- The rack manager's result becomes visible with DONE (R391). -/
def pkeResult (status : Nat) (valid : Bool) (rx ry t : Nat) (s : State) : State :=
  let x := { s.pke with
    rDone := true, rTicket := s.pke.issue, rStatus := status, rValid := valid, rx := rx, ry := ry, rTime := t }
  (s.setPke x).bump offPKE_CNT 63 32 1

/-- The outcome of a rack manager operation (R386, R389, R390, R394, R396). -/
def rackOutcome (o : POp) (s : State) : State :=
  match o.op with
  | 1 =>
    let p := if o.gen then (p256gx, p256gy) else (operand s 1, operand s 2)
    let k := operand s 0
    let st := mulStatus k p.1 p.2
    let q := if st = 0 then (curveMul k p.1 p.2).getD (0, 0) else (0, 0)
    pkeResult st false q.1 q.2 0 s
  | 2 =>
    let st := verifyStatus (operand s 0) (operand s 1) (operand s 2) (operand s 3) (operand s 4)
    pkeResult st (st == 0) 0 0 0 s
  | 3 =>
    if s.pke.failing then pkeResult 7 false 0 0 o.tStart s
    else
      let q := attestSign Config.attestKey (sha256 o.block)
      pkeResult 0 false q.1 q.2 o.tStart s
  | 4 =>
    if s.pke.failing then pkeResult 7 false 0 0 0 s
    else
      let x := drbgDraw s
      pkeResult 0 false x.2 0 0 x.1
  | _ => pkeResult 8 false 0 0 0 s

/-! Battery authentication (R243, R244): the gauge's requests, one string at a time -/

/-- The gauge has a request outstanding, or a nonce out. -/
def authRunning (s : State) : Bool :=
  s.pke.queue.any (fun o => o.who == .gauge) || (match s.pke.cur with | some o => o.who == .gauge | none => false) ||
    (List.range 8).any (fun i => (s.str i).nonce.isSome)

/-- An attempt is wanted of a string now: authAt is one past the time of the next attempt, 0 when none is wanted. -/
def authWanted (s : State) (i : Nat) : Bool :=
  let g := s.str i
  g.present && g.authAt != 0 && decide (g.authAt ≤ s.now + 1)

/-- Authentication can run: PD_CORE in service, and an image sealed, whose ENERGY section holds the issuer keys (R243, R385). -/
def authAble (s : State) : Bool := s.core && s.cfg.sealed && !s.harbour

/-- Begin the next authentication wanted: first the modules that appeared or were swapped while PD_CORE was not in service, then the
longest wanted, in rising string order (R243); the issuer's signature comes first. -/
def authNext (s : State) : State :=
  if !authAble s || authRunning s then s else
  match minBy (fun i => if (s.str i).ahead then 0 else (s.str i).authAt) ((List.range 8).filter (authWanted s)) with
  | none => s
  | some i => pkeQueue ⟨.gauge, 2, false, 0, [BitVec.ofNat 8 i]⟩ s

/-- Ask for an authentication of a string from a time on. -/
def authAsk (i t : Nat) (s : State) : State := s.updStr i (fun g =>
  { g with authAt := if g.authAt = 0 then t + 1 else min g.authAt (t + 1), attempts := 0, due := true })

/-- A failed attempt (R244): up to three, 100 ms apart, then one every 10 minutes; a transient event, a BATTERY record and a count
each. -/
def authFail (i : Nat) (s : State) : State :=
  let n := (s.str i).attempts + 1
  let wait := if n < 3 then 100000 else 600000000
  let s := s.updStr i (fun g => { g with
    auth := 3, attempts := n, authAt := s.now + wait + 1, due := g.due && decide (n < 3), ahead := false, nonce := none })
  let s := endGaugeCmd i 5 (s.bump (offGAUGE_S_CNT + 0x40 * i) 47 32 1)
  report (0x1E0 + i) false (detailWord 0 2 i) (logRec 0x0C i 0 [] s)

/-- A gauge request ends: after the issuer's signature the nonce is drawn and written to the module; a failing generator fails the
attempt (R243, R394). -/
def gaugeOutcome (o : POp) (s : State) : State :=
  let i := (o.block.headD 0).toNat
  if o.op = 2 then pkeQueue ⟨.gauge, 4, false, 0, o.block⟩ s
  else if s.pke.failing then authNext (authFail i s)
  else
    let x := drbgDraw s
    (x.1.updStr i (fun g => { g with nonce := some x.2 })).emit (.moduleNonce i x.2)

/-- PKE_OP_DONE (R386, R388, R391): the running operation ends at its fixed time, and the next one starts. -/
def execPkeOpDone (s : State) : Res :=
  match s.pke.cur with
  | none => .next s
  | some o =>
    if s.now < o.tStart + opTime o.op then .next s else
    let s := s.setPke { s.pke with cur := none }
    .next (settle (pkeStart (match o.who with
      | .rack => rackOutcome o s
      | .gauge => gaugeOutcome o s
      | .loader => s)))

/-- ENTROPY_TEST_FAIL (R394). -/
def execEntropyTestFail (s : State) : Res :=
  if !s.core then .next s else .next ((s.setPke { s.pke with failing := true }).bump offPKE_CNT 15 0 1)

/-- ENTROPY_TEST_PASS (R394): the generator reseeds. -/
def execEntropyTestPass (s : State) : Res :=
  if !s.core || !s.pke.failing then .next s else .next (drbgReseed (s.setPke { s.pke with failing := false }))

end Sys2Proof.Machine
end

