-- ==== Sys2Proof/Machine/Gauge.lean ====
section
/-! DEFINITION. The meanings of the gauge's commands (R231 to R257, R416): the 100 us update, anchors, modules and their
authentication, learning, AC loss, hibernation, the reserve bank's test and the captures. -/

namespace Sys2Proof.Machine

/-! The 100 us update (R235, R236, R238, R242, R252 to R254) -/

/-- Declared by N_CFG, once the gauge's values have loaded (R231, R416). -/
def declared (s : State) (i : Nat) : Bool := s.gauge.loaded && decide (i < s.gauge.nCfg)

/-- A measured R_int, limited to R_MIN to R_MAX (R235): the change of voltage over the change of current, in micro-ohm. -/
def rMeasured (s : State) (dv di : Int) : Nat :=
  max s.GAUGE_CFG_RINT_R_MIN (min s.GAUGE_CFG_RINT_R_MAX (dv * 1000000 / di).toNat)

/-- Q_rem after a current over 100 us, held within 0 to CAP (R238). -/
def qCount (cap q : Nat) (i : Int) : Nat := min (cap * nCmAh) ((q : Int) + i * 100).toNat

/-- The charge counted since the full-charge anchor: discharged, then charged (R239). -/
def sinceCount (i : Int) (p : Nat × Nat) : Nat × Nat := if i < 0 then (p.1 + i.natAbs * 100, p.2) else (p.1, p.2 + i.natAbs * 100)

/-- A condition that must hold without a break: since when it has, and whether its event has been taken. -/
def heldSince (now : Nat) (c : Bool) (h : Option (Nat × Bool)) : Option (Nat × Bool) := if c then some (h.getD (now, false)) else none

/-- The samples that 1 ms of averaging takes: the last ten updates (R234). -/
def lastMs (now : Nat) (h : List (Nat × Nat × Int)) : List (Nat × Nat × Int) := h.filter (fun p => decide (now < p.1 + 1000))

/-- V_comp over the last 1 ms in units of 1 / (1,000,000 x the samples) mV, the sum of their currents, and their number (R234). -/
def vComp (s : State) (g : GStr) : Int × Int × Nat :=
  let l := lastMs s.now g.hist
  let amps := l.foldl (fun a p => a + p.2.2) 0
  (l.foldl (fun a p => a + (p.2.1 : Int)) 0 * 1000000 - amps * rInt s g, amps, l.length)

/-- The end-of-charge condition of R234. V_EOC in mV per cell, I_TAPER in 100 mA. -/
def atEoc (s : State) (g : GStr) : Bool :=
  let x := vComp s g
  decide ((s.GAUGE_CFG_CELL_CELLS * s.GAUGE_CFG_CELL_V_EOC * 1000000 * x.2.2 : Nat) ≤ x.1) && decide (0 ≤ x.2.1) &&
    decide (x.2.1 ≤ (s.GAUGE_CFG_CURR_I_TAPER * 100 * x.2.2 : Nat))

/-- The end-of-discharge condition of R234. -/
def atEod (s : State) (g : GStr) : Bool :=
  let x := vComp s g
  decide (x.1 ≤ (s.GAUGE_CFG_CELL_CELLS * s.GAUGE_CFG_CELL_V_EOD * 1000000 * x.2.2 : Nat)) && decide (x.2.1 < 0)

/-- The sample of the last 1 ms, later than the last step measured, from which the current has stepped by at least STEP_I: the nearest
(R235). -/
def stepFrom (s : State) (x : StringSample) (g : GStr) : Option (Nat × Nat × Int) :=
  (g.hist.filter (fun p => decide (s.now ≤ p.1 + 1000) && decide (g.stepAt ≤ p.1))).find? (fun p =>
    decide (x.i ≠ p.2.2) && decide (s.GAUGE_CFG_RINT_STEP_I * 1000 ≤ (x.i - p.2.2).natAbs))

/-- The samples of a string, and the R_int that a step of its current gives (R234, R235). -/
def strSense (s : State) (x : StringSample) (g : GStr) : GStr :=
  let step := if s.gauge.loaded then stepFrom s x g else none
  { g with
    v := x.v, i := x.i, hist := (s.now, x.v, x.i) :: g.hist.filter (fun p => decide (s.now ≤ p.1 + 1000)),
    rint := (match step with | some p => (rMeasured s ((x.v : Int) - p.2.1) (x.i - p.2.2) :: g.rint).take 16 | none => g.rint),
    stepAt := if step.isSome then s.now else g.stepAt,
    quietSince := if s.GAUGE_CFG_CURR_I_WAKE < x.i.natAbs then s.now else g.quietSince }

/-- One string takes its samples; charge is counted, and end points are judged, while values have loaded and the module is present
(R234, R238, R416). -/
def strSample (s : State) (x : StringSample) (g : GStr) : GStr :=
  let g := strSense s x g
  if s.gauge.loaded && g.present then
    { g with
      q := qCount g.cap g.q x.i, thru := g.thru + x.i.natAbs * 100, sinceAnchor := g.sinceAnchor.map (sinceCount x.i),
      outOfTemp := g.outOfTemp || !tempOk s g,
      eoc := heldSince s.now (atEoc s g) g.eoc, eod := heldSince s.now (atEod s g) g.eod,
      learnDrawn := if g.learning && decide (x.i < 0) then g.learnDrawn + x.i.natAbs * 100 else g.learnDrawn }
  else { g with eoc := none, eod := none }

/-- A step of a string's values (R238). -/
def jump (i : Nat) (s : State) : State := s.bump (offGAUGE_S_CNT + 0x40 * i) 63 48 1

/-- The values of a string at an anchor (R234, R236, R238, R239). -/
def GStr.anchorAt (a : Anchor) (g : GStr) : GStr :=
  let cap := a.cap.getD g.cap
  { g with
    anchor := none, cap := cap, learned := g.learned || a.cap.isSome, q := if a.full then cap * nCmAh else 0, anchored := true,
    tAnchor := a.at_, thru := 0, tLearned := if a.cap.isSome then a.at_ else g.tLearned }

/-- A string's anchor since the last update comes into force in one step (R238). -/
def takeAnchor (i : Nat) (s : State) : State :=
  match (s.str i).anchor with
  | none => s
  | some a => jump i (s.updStr i (GStr.anchorAt a))

/-- A learning discharge is abandoned when the temperature leaves its range, or when 1.5 x nameplate has been drawn (R242). -/
def learnWatch (s : State) : State :=
  match s.gauge.learning with
  | none => s
  | some i =>
    let g := s.str i
    if g.nameplate * nCmAh * 3 ≤ g.learnDrawn * 2 then report (0x1E0 + i) false (detailWord 0 3 i) (stopLearning s)
    else if !tempOk s g then stopLearning s else s

/-- The summed discharge current of the strings, mA. -/
def dischargeSum (s : State) : Nat := ((List.range 8).map (fun i => if declared s i ∧ (s.str i).i < 0 then (s.str i).i.natAbs else 0)).sum

/-- The discharge condition of AC_LOST (R252). -/
def drawing (s : State) : Bool := s.gauge.loaded && decide (s.GAUGE_CFG_CURR_ACLOSS_I * 1000 < dischargeSum s)

/-- That condition has held for 100 ms. -/
def drawn (s : State) : Bool := match s.gauge.drawSince with | some t => decide (t + 100000 ≤ s.now) | none => false

/-- CAP_REQ_N and AC_LOST's discharge condition follow the update (R252, R253). Energies in mJ, RIDE_MARGIN and HYST in kJ. -/
def rideThrough (s : State) : State :=
  let b := bSum s
  let low := s.gauge.eRes + s.GAUGE_CFG_RIDE_RIDE_MARGIN * 1000000
  let high := low + s.GAUGE_CFG_RIDE_HYST * 1000000
  let s := { s with gauge := { s.gauge with drawSince := if drawing s then some (s.gauge.drawSince.getD s.now) else none } }
  let s := { s with gauge := { s.gauge with quietAcSince := if drawn s then s.now else s.gauge.quietAcSince } }
  if !s.gauge.loaded then s
  else if s.gauge.capReq then
    if high ≤ b then { s with gauge := { s.gauge with capReq := false, released := true } } else s
  else if b < low then stopLearning { s with gauge := { s.gauge with capReq := true } } else s

/-- The RESERVE trigger (R254); GAUGE_STATUS.RESERVE tells that it has been raised since the last start. -/
def reserveCheck (s : State) : State :=
  if s.gauge.acLost && decide (bSum s ≤ s.gauge.eRes) && !s.gauge.reserve && (s.seq.st == 2 || s.seq.st == 3) then
    trigger 4 { s with gauge := { s.gauge with reserve := true } }
  else s

/-- One update of the gauge: values and anchors that wait for it come into force, the samples count, and the figures are handed on. -/
def gaugeStep (x : GaugeSample) (s : State) : State :=
  let s := takeStaged s
  let s := { s with gauge := { s.gauge with bank := x.bank, updated := some s.now } }
  let s := forEach (List.range 8) s takeAnchor
  let s := forEach (x.strings.zipIdx) s (fun p s => s.updStr p.2 (strSample s p.1))
  let s := forEach (List.range 8) s saveRec
  let s := learnWatch s
  let s := { s with gauge := { s.gauge with counted := countedMask s } }
  takeSnap (reserveCheck (rideThrough s))

/-- GAUGE_UPDATE (R238): one sample per string, 100 us after the last. Asleep, or without the always-on domain, nothing is sampled
(R247). -/
def execGaugeUpdate (sample : GaugeSample) (s : State) : Res :=
  if sample.strings.length ≠ 8 then .fault .malformedCommand
  else if !s.aonRuns || s.gauge.hibernating || (match s.gauge.updated with | some t => decide (s.now < t + 100) | none => false) then .next s
  else .next (settle (gaugeStep sample s))

/-! Anchors and learned capacity (R234, R239, R246) -/

/-- Counting runs on a string: awake, values loaded, module present. -/
def counting (s : State) (i : Nat) : Bool := s.aonRuns && !s.gauge.hibernating && s.gauge.loaded && (s.str i).present

/-- An end point's condition has held for d us and its event has not been taken (R234). -/
def endPoint (s : State) (h : Option (Nat × Bool)) (d : Nat) : Bool :=
  match h with | some (t, taken) => !taken && decide (t + d ≤ s.now) | none => false

/-- END_OF_CHARGE (R234): the full-charge anchor, in force from the next update (R238). -/
def execEndOfCharge (i : Fin 8) (s : State) : Res :=
  if !counting s i.val || !endPoint s (s.str i.val).eoc (s.GAUGE_CFG_CURR_T_TAPER * 1000000) then .next s else
  let s := s.updStr i.val (fun g => { g with
    anchor := some ⟨true, s.now, (g.anchor.bind (·.cap))⟩, eoc := g.eoc.map (fun h => (h.1, true)), tFull := some s.now,
    sinceAnchor := some (0, 0), outOfTemp := !tempOk s g })
  .next (s.bump (offGAUGE_S_CNT + 0x40 * i.val) 31 16 1)

/-- CAP is learned at an end of discharge (R239). -/
def learns (g : GStr) : Option Nat :=
  match g.sinceAnchor with
  | none => none
  | some (out, back) => if back * 50 ≤ g.cap * nCmAh ∧ !g.outOfTemp then some (out / nCmAh) else none

/-- END_OF_DISCHARGE (R234, R239, R241): the anchor, and what it learns, in force from the next update (R238). -/
def execEndOfDischarge (i : Fin 8) (s : State) : Res :=
  if !counting s i.val || !endPoint s (s.str i.val).eod 100000 then .next s else
  let cap := learns (s.str i.val)
  let s := s.updStr i.val (fun g => { g with
    anchor := some ⟨false, s.now, cap⟩, eod := g.eod.map (fun h => (h.1, true)), sinceAnchor := none })
  let s := if cap.isSome then logRec 0x0C i.val 3 [] s else s
  .next (if s.gauge.learning = some i.val then stopLearning s else s)

/-! Modules (R232, R233, R243 to R246) -/

/-- The values a swapped module takes (R245). Until its identity block tells its NAMEPLATE, CAP is the declared one (log 12). -/
def swapped (s : State) (known : Bool) (g : GStr) : GStr :=
  let cap := if known then g.nameplate else s.GAUGE_CFG_CAP1_NAMEPLATE * 100
  { g with
    cap := cap, q := min g.q (cap * nCmAh), learned := false, anchored := false, anchor := none, thru := 0, tAnchor := 0, tFull := none,
    rint := [], retired := false, sinceAnchor := none, eoc := none, eod := none, auth := 1, nonce := none, tLearned := 0, learnRetry := 0,
    authAt := 0, ahead := !s.core }

/-- The values the gauge record gives a module after the always-on domain starts (R246). -/
def recalled (r : GaugeRec) (g : GStr) : GStr := { g with cap := r.cap, learned := r.learned, rint := [r.rint], auth := 1 }

/-- A module answers at a position where none was (R233, R243 to R246): swapped after an absence, as recorded after a start. DESIGN
CHOICE (log 12): the rule gives Q_rem no value; it is 0 when a module appears, and FORGET leaves what was counted. -/
def moduleHere (i : Nat) (serial : BitVec 128) (s : State) : State :=
  let back := (s.str i).pendingSwap
  let rec? := (gaugeRecs s).find? (fun p => p.2.serial == serial)
  let s := s.updStr i (fun g =>
    let g := { g with present := true, serial := serial, nameplate := 0, cells := 0, pendingSwap := false }
    match back, rec? with
    | false, some p => recalled p.2 { swapped s false g with q := g.q }
    | _, _ => { swapped s false g with q := 0 })
  logRec 0x0C i 2 [] (authAsk i s.now s)

/-- A string becomes absent (R233): its COUNTED bit clears; learning ends, and an AUTH that runs on it ends ABORTED (DESIGN CHOICE,
log 53: R257 gives that case no RESULT). -/
def moduleGone (i : Nat) (s : State) : State :=
  if !(s.str i).present then s else
  let s := if s.gauge.learning = some i then stopLearning s else s
  let s := s.updStr i (fun g => { g with
    present := false, pendingSwap := true, auth := 0, authAt := 0, due := false, nonce := none, attempts := 0, anchored := false, anchor := none, tFull := none,
    sinceAnchor := none })
  let s := { s with gauge := { s.gauge with counted := countedMask s } }
  endGaugeCmd i 7 (logRec 0x0C i 1 [] s)

/-- One module's read of the poll (R232). -/
def pollOne (i : Nat) (a : Option (BitVec 128 × BitVec 8)) (s : State) : State :=
  match a with
  | none =>
    let s := if declared s i then
        report (0x1E0 + i) false (detailWord 0 1 i) (s.bump (offGAUGE_S_CNT + 0x40 * i) 15 0 1) else s
    let s := s.updStr i (fun g => { g with silent := min 3 (g.silent + 1) })
    if (s.str i).silent = 3 then moduleGone i s else s
  | some (serial, temp) =>
    let s := s.updStr i (fun g => { g with silent := 0, temp := temp })
    if !(s.str i).present then moduleHere i serial s
    else if (s.str i).serial ≠ serial then moduleHere i serial (moduleGone i s)
    else s

/-- SMBUS_POLL (R232, R233): the answers of strings 0 upward, none where a transfer brought no response. DESIGN CHOICE (log 53): a gauge
that hibernates reads no module, which R247 does not say. -/
def execSmbusPoll (answers : List (Option (BitVec 128 × BitVec 8))) (s : State) : Res :=
  if !s.aonRuns || s.gauge.hibernating then .next s
  else .next (settle (authNext (forEach ((answers.take 8).zipIdx) s (fun p s => pollOne p.2 p.1 s))))

/-- AUTH_RETRY_TIMER (R244). -/
def execAuthRetryTimer (i : Fin 8) (s : State) : Res :=
  if authWanted s i.val then .next (settle (authNext s)) else .next s

/-- Bytes 0 to 127 of an identity block (R243). -/
def idBytes (d : Identity) : List Byte :=
  leBytes 16 d.serial.toNat ++ leBytes 4 d.nameplate.toNat ++ [d.cells, d.issuer] ++ leBytes 42 d.rsv.toNat ++
    beBytes 32 d.pubX.toNat ++ beBytes 32 d.pubY.toNat

/-- Both signatures verify (R243). -/
def identityOk (s : State) (nonce : Nat) (d : Identity) (r t : Nat) : Bool :=
  let key := s.cfg.issuers.getD d.issuer.toNat 0
  decide (d.issuer.toNat < 4) &&
    sigVerifies (sha256 (idBytes d)) (key / 2 ^ 256) (key % 2 ^ 256) d.sigR.toNat d.sigS.toNat &&
    sigVerifies (sha256 (beBytes 32 nonce ++ leBytes 16 d.serial.toNat)) d.pubX.toNat d.pubY.toNat r t

/-- A module passes and is bound (R243): a module that has not learned its capacity takes its NAMEPLATE. -/
def bindModule (i : Nat) (d : Identity) (s : State) : State :=
  let s := s.updStr i (fun g =>
    let cap := if g.learned then g.cap else d.nameplate.toNat
    { g with
      auth := 2, attempts := 0, authAt := 0, due := false, ahead := false, nonce := none, serial := d.serial, nameplate := d.nameplate.toNat,
      cells := d.cells.toNat, cap := cap, q := min g.q (cap * nCmAh) })
  endGaugeCmd i 0 (saveRec i s)

/-- AUTH_VERDICT (R243, R244, R257). -/
def execAuthVerdict (i : Fin 8) (id : Identity) (r s : BitVec 256) (st : State) : Res :=
  match (st.str i.val).nonce with
  | none => .next st
  | some nonce =>
    let t := if identityOk st nonce id r.toNat s.toNat then bindModule i.val id st else authFail i.val st
    .next (settle (authNext t))

/-! Learning (R240 to R242) -/

/-- The conditions of R240 for a string. -/
def learnOk (s : State) (i : Nat) : Bool :=
  let g := s.str i
  s.gauge.loaded && s.gauge.learning.isNone && (List.range s.gauge.nCfg).all (fun j => (s.str j).present && passes s (s.str j)) &&
    decide (i < s.gauge.nCfg) && !s.gauge.acLost && (match g.tFull with | some t => decide (s.now ≤ t + 3600000000) | none => false) &&
    tempOk s g && decide (s.gauge.eRes + s.GAUGE_CFG_RIDE_RIDE_MARGIN * 1000000 ≤ bSum s - (if inSum s i then eLow s g else 0))

/-- Begin a learning discharge at LEARN_I (R241); without the shelf's acknowledgement it is abandoned at once (R242). -/
def learnBegin (i : Nat) (ack : Bool) (s : State) : State :=
  let s := s.emit (.shelf s.GAUGE_CFG_LEARN_PMBUS_CMD i (10 * s.GAUGE_CFG_CURR_LEARN_I))
  let s := s.updStr i (fun g => { g with learning := true, learnDrawn := 0 })
  let s := { s with gauge := { s.gauge with learning := some i } }
  if ack then { s with gauge := { s.gauge with counted := countedMask s } } else stopLearning s

/-- A swapped module with its first anchor. -/
def newlyAnchored (s : State) (i : Nat) : Bool := (s.str i).anchored && !(s.str i).learned

/-- A string's learning is due (R240): its interval has passed, or it holds a swapped module with its first anchor; an hour after a
try that failed. -/
def learnDue (s : State) (i : Nat) : Bool :=
  let g := s.str i
  declared s i && s.GAUGE_CFG_LEARN_LEARN_DAYS != 0 && decide (g.learnRetry ≤ s.now) &&
    (newlyAnchored s i || decide (g.tLearned + s.GAUGE_CFG_LEARN_LEARN_DAYS * 86400000000 ≤ s.now))

/-- The string whose turn it is: swapped modules first, then rising order. -/
def learnTurn (s : State) : Option Nat :=
  let l := (List.range 8).filter (learnDue s)
  match l.find? (newlyAnchored s) with
  | some i => some i
  | none => l.head?

/-- LEARN_SCHEDULE (R240). -/
def execLearnSchedule (i : Fin 8) (ack : Bool) (s : State) : Res :=
  if learnTurn s ≠ some i.val ∨ s.gauge.hibernating then .next s else
  let t := s.updStr i.val (fun g => { g with learnRetry := s.now + 3600000000 })
  if learnOk s i.val then .next (learnBegin i.val ack t) else .next t

/-! GAUGE_CTRL (R257) -/

/-- GAUGE_CTRL is reached through BAR0. -/
def gaugeCommand (key : Byte) (f : State → State) (s : State) : Res :=
  if s.bar0 && key == 0x6B then .next (settle (cmdStart kGauge f s)) else .next s

/-- BAD_STRING for a string that is not declared; CONDITION where what the command needs does not hold; NO_MODULE where the string has
none. The lowest code that applies (log 26), which for AUTH without PD_CORE and for LEARN_START is R257's own CONDITION. -/
def stringBad (s : State) (i : Nat) (ok : Bool) : Option Nat :=
  if !declared s i then some 2 else if !ok then some 4 else if !(s.str i).present then some 6 else none

def doLearnStart (i : Nat) (ack : Bool) (s : State) : State :=
  match stringBad s i (learnOk s i) with
  | some r => cmdEnd kGauge r s
  | none => cmdEnd kGauge (if ack then 0 else 7) (learnBegin i ack s)

/-- LEARN_START (R240, R257). -/
def execLearnStart (key : Byte) (i : Fin 8) (ack : Bool) (s : State) : Res :=
  viaPort (.learnStart key i ack) false (fun s => gaugeCommand key (doLearnStart i.val ack) s) s

/-- DESIGN CHOICE (log 53): with no string learning there is nothing to abort and RESULT is CONDITION, which R257 does not say. -/
def doLearnAbort (s : State) : State := if s.gauge.learning.isNone then cmdEnd kGauge 4 s else cmdEnd kGauge 0 (stopLearning s)

/-- LEARN_ABORT (R242, R257). -/
def execLearnAbort (key : Byte) (s : State) : Res :=
  viaPort (.learnAbort key) false (fun s => gaugeCommand key doLearnAbort s) s

/-- CONDITION while PD_CORE is not in service (R257); DESIGN CHOICE (log 53): and where no sealed image has brought the issuer keys, as
in safe harbour. -/
def doAuth (i : Nat) (s : State) : State :=
  match stringBad s i (authAble s) with
  | some r => cmdEnd kGauge r s
  | none =>
    let s := s.updStr i (fun g => { g with auth := if g.auth = 2 then 2 else 1 })
    authNext (authAsk i s.now { s with gauge := { s.gauge with runCmd := some i } })

/-- AUTH (R243, R257): DONE at the verdict. -/
def execAuth (key : Byte) (i : Fin 8) (s : State) : Res :=
  viaPort (.auth key i) false (fun s => gaugeCommand key (doAuth i.val) s) s

/-- The conditions of R250. -/
def capTestOk (s : State) : Bool :=
  s.gauge.loaded && !s.gauge.testing && s.weir.st != .sluice && !s.gauge.acLost && !s.gauge.hibernating &&
    decide (s.GAUGE_CFG_CAP0_V_FULL * 99 ≤ s.gauge.bank * 100) && decide (s.gauge.bank * 100 ≤ s.GAUGE_CFG_CAP0_V_FULL * 101)

/-- The test begins (R250): charger off, then the test load on. -/
def capTestBegin (s : State) : State :=
  let g := { s.gauge with testing := true, testStart := s.now, testFrom := s.gauge.bank, tCapTest := s.now }
  { s with gauge := g, pins := { s.pins with capTest := true, charger := false } }

def doCapTest (s : State) : State :=
  if !capTestOk s then cmdEnd kGauge 4 s
  else capTestBegin { s with gauge := { s.gauge with runCmd := some 8 } }

/-- CAP_TEST (R250, R257): DONE at the test's end. -/
def execCapTest (key : Byte) (s : State) : Res :=
  viaPort (.capTest key) false (fun s => gaugeCommand key doCapTest s) s

def doForget (i : Nat) (s : State) : State :=
  match stringBad s i true with
  | some r => cmdEnd kGauge r s
  | none =>
    let s := if s.gauge.learning = some i then stopLearning s else s
    let s := s.updStr i (fun g => swapped s (decide (0 < g.nameplate)) g)
    cmdEnd kGauge 0 (authNext (authAsk i s.now s))

/-- FORGET (R245, R257). -/
def execForget (key : Byte) (i : Fin 8) (s : State) : Res :=
  viaPort (.forget key i) false (fun s => gaugeCommand key (doForget i.val) s) s

/-! AC loss (R252) -/

/-- AC_LOST becomes 1: learning and the bank's test end, the windlass stops motoring, the reserve is tested (R242, R250, R254,
R262). -/
def acLost (s : State) : State :=
  let g := { s.gauge with acLost := true, quietAcSince := s.now }
  let s := stopCapTest (stopLearning { s with gauge := g })
  let s := s.setFly { s.fly with motoring := false }
  reserveCheck (logRec 0x0B 0 1 [] s)

/-- AC_LOST_SET (R252): the rectifiers' report, or a summed discharge that has stood for 100 ms. A report while AC_LOST is 1 starts the
10 s again. -/
def execAcLostSet (report : Bool) (s : State) : Res :=
  if !s.aonRuns || !(report || drawn s) then .next s
  else if s.gauge.acLost then .next { s with gauge := { s.gauge with quietAcSince := s.now } }
  else .next (settle (acLost s))

/-- AC_LOST_CLEAR (R252): neither condition has held for 10 s. -/
def execAcLostClear (s : State) : Res :=
  if s.gauge.acLost && !drawn s && decide (s.gauge.quietAcSince + 10000000 ≤ s.now) then
    .next (logRec 0x0B 0 0 [] { s with gauge := { s.gauge with acLost := false } })
  else .next s

/-! Hibernation (R247, R248) -/

/-- Every string's current has stayed within I_WAKE for HIB_DELAY. -/
def quietLong (s : State) : Bool :=
  (List.range 8).all (fun i => !declared s i || decide ((s.str i).quietSince + s.GAUGE_CFG_LEARN_HIB_DELAY * 1000000 ≤ s.now))

/-- HIBERNATE (R247). -/
def execHibernate (s : State) : Res :=
  if s.aonRuns && s.gauge.loaded && !s.gauge.hibernating && s.seq.on == 0 && quietLong s then
    .next { s with gauge := { s.gauge with hibernating := true, sleepQuiet := s.now } }
  else .next s

/-- HIBERNATE_HOUR (R247): each whole hour asleep. -/
def execHibernateHour (s : State) : Res :=
  if !s.gauge.hibernating ∨ s.now < s.gauge.sleepQuiet + 3600000000 then .next s else
  let c := s.GAUGE_CFG_CURR_I_WAKE * nCmAh
  let strings := tmap GStr.absent (fun _ g => { g with q := g.q - c, thru := g.thru + c }) s.gauge.strings
  .next { s with gauge := { s.gauge with sleepQuiet := s.gauge.sleepQuiet + 3600000000, strings := strings } }

/-- The gauge wakes (R248). -/
def gaugeAwake (s : State) : State :=
  if s.gauge.hibernating then
    let strings := tmap GStr.absent (fun _ g => { g with quietSince := s.now, hist := [], eoc := none, eod := none }) s.gauge.strings
    { s with gauge := { s.gauge with hibernating := false, updated := none, strings := strings } }
  else s

/-- GAUGE_WAKE (R248). -/
def execGaugeWake (s : State) : Res := .next (gaugeAwake s)

/-! The reserve bank's test (R250, R251) -/

/-- CAP_TEST_PERIOD (R250). -/
def execCapTestPeriod (s : State) : Res :=
  if s.gauge.tCapTest + s.GAUGE_CFG_CAP1_CAP_PERIOD * 3600000000 ≤ s.now ∧ capTestOk s then .next (capTestBegin s) else .next s

/-- CAP_TEST_END (R250, R251): charge in uC over the fall in mV is C_TEST in mF. -/
def execCapTestEnd (charge fall : Nat) (s : State) : Res :=
  if !s.gauge.testing ∨ fall < s.GAUGE_CFG_CAP1_DV_TEST ∨ fall = 0 then .next s else
  let c := charge / fall
  let low := decide (c < s.GAUGE_CFG_CAP0_C_LOW)
  let g := { s.gauge with testing := false, cTest := some c, capLow := low }
  let s := { s with gauge := g, pins := { s.pins with capTest := false, charger := true } }
  let s := endGaugeCmd 8 0 (s.bump offGAUGE_CAP_CNT 63 32 1)
  .next (settle (if low then report 0x1E8 true (detailWord 0 1 c) s else s))

/-- CAP_TEST_TIMEOUT (R250): a test that has lasted more than 5 s. -/
def execCapTestTimeout (s : State) : Res :=
  if s.gauge.testing ∧ s.gauge.testStart + 5000000 < s.now then .next (stopCapTest s) else .next s

/-! Captures (R256) -/

def setCapture (k : Nat) (w : Word) (s : State) : State :=
  { s with gauge := { s.gauge with captures := tset none s.gauge.captures k (some w) } }

/-- GAUGE_STATUS. -/
def gaugeStatusWord (s : State) : Word :=
  let g := s.gauge
  bitAt g.hibernating 7 ||| bitAt g.capReq 6 ||| bitAt g.acLost 5 ||| bitAt g.reserve 4 ||| bitAt g.learning.isSome 3 |||
    at' (g.learning.getD 0) 0

/-- Capture a string's six registers from the last update. -/
def captureString (i : Nat) (s : State) : State :=
  forEach [1, 2, 3, 4, 5, 6] s (fun k t => setCapture (capKey i k) (snapWord s (capKey i k) (strReset k)) t)

/-- Capture GAUGE_BATT_SUM and GAUGE_CAP from the last update. -/
def captureStatus (s : State) : State := setCapture bankKey (snapWord s bankKey 0) (setCapture battKey (snapWord s battKey 0) s)

/-- A read of GAUGE_Sn_STATE captures the string's six registers. -/
def stringCapture (i : Nat) (s : State) : State := (captureString i s).emit (.mgmtData (snapWord s (capKey i 0) 0))

/-- A read of GAUGE_STATUS captures GAUGE_BATT_SUM and GAUGE_CAP. -/
def statusCapture (s : State) : State := (captureStatus s).emit (.mgmtData (gaugeStatusWord s))

/-- GAUGE_STRING_CAPTURE (R256). -/
def execGaugeStringCapture (i : Fin 8) (s : State) : Res :=
  viaPort (.gaugeStringCapture i) false (fun s => if s.bar0 then .next (stringCapture i.val s) else .next s) s

/-- GAUGE_STATUS_CAPTURE (R256). -/
def execGaugeStatusCapture (s : State) : Res :=
  viaPort .gaugeStatusCapture false (fun s => if s.bar0 then .next (statusCapture s) else .next s) s

end Sys2Proof.Machine
end

