-- ==== Sys2Proof/Machine/Starts.lean ====
section
/-! DEFINITION. Shared operations of starts and power-downs: what a domain's power-good brings, feeder ports leaving OFF (R355),
running faults of rails (R284), a program's conditions and end (R286 to R288), and the end of a sluice (R217, R219). -/

namespace Sys2Proof.Machine

/-! Feeder ports leave OFF (R355) -/

/-- A port that a lower port's bonded group covers (R8, R355). -/
def isMember (s : State) (p : Nat) : Bool :=
  [1, 2, 3].any (fun k => decide (k ≤ p) && decide (k < 2 ^ s.PORT_CFG_WIDTH (p - k)) && decide (0 < s.PORT_CFG_WIDTH (p - k)))

/-- A port in OFF after refloat ready: MEMBER, or WAKE once its domain is in service when it has slots. After a sluice trigger no
link is trained (R215). -/
def portOpen (p : Nat) (s : State) : State :=
  let q := s.port p
  if q.st ≠ .off ∨ !s.ready ∨ s.sluiced then s
  else if isMember s p then s.setPort p { q with st := .member }
  else if s.PORT_CFG_SLOTS p = 0 ∨ !s.inService (domainOfPort p) then s
  else (s.setPort p { q with st := .wake, mode := s.PORT_CFG_INIT_MODE p, epoch := 0 }).emit (.linkTrain p)

/-! Domains come up (R279, R280, R418) -/

/-- PUSH_WAIT, us (R334). -/
def pushWait (s : State) : Nat := if s.TOW_CFG_JOIN = 1 ∨ 0 < s.TOW_CFG_EXPECT then 10000000 else 1000000

/-- Channels of a half or quadrant that was off enter service: before refloat ready, and a quadrant's only where program 0 of this start has
switched it on (R418). -/
def channelsUp (d : Nat) (s : State) : State :=
  if s.ready then s
  else if d = 20 ∨ d = 21 then
    forEach ((List.range 6).map (fun j => (d - 20) * 6 + j)) s (fun c s => if (s.chan c).st = 4 then s.setChan c ⟨2, 0⟩ else s)
  else if !s.seq.startOn.getLsbD d then s
  else
    forEach ((List.range 24).map (fun j => (d - 16) * 24 + j)) s (fun c s =>
      if flashChan s c = 3 then { s with fmm := { s.fmm with chans := tset 0 s.fmm.chans c 1 } } else s)

/-- What a domain's power-good brings: ports, channels, the main PLLs and waiting authentications, the management link and the
push wait (R243, R293, R334, R355, R400). -/
def domainUp (d : Nat) (s : State) : State :=
  if !s.seq.on.getLsbD d ∨ s.seq.pg.getLsbD d then s else
  let m := BitVec.ofNat 24 (2 ^ d)
  let s := { s with seq := { s.seq with pg := s.seq.pg ||| m, lines := s.seq.lines ||| m } }
  if d < 16 then forEach ((List.range 16).map (fun j => 16 * d + j)) s portOpen
  else if d < 22 then channelsUp d s
  else if d = dCore then authNext { s with clk := { s.clk with aLock := true, bLock := true, mainSel := false } }
  else { s with mgmt := { s.mgmt with link := true }, cfg := { s.cfg with pushUntil := some (s.now + pushWait s) } }

/-! Rails (R282 to R284) -/

/-- Within the window of R283 after a command. -/
def slewing (s : State) (r : Nat) : Bool := match (s.rail r).slewEnd with | some t => decide (s.now < t) | none => false

/-- A running fault (R284, R292): logged, the first failure recorded, counted; the keeper takes the rail's ACTION. -/
def runningFault (r : Nat) (s : State) : State :=
  let x := s.rail r
  let first := s.seq.failRail == 0xFF
  let s := s.setRail r { x with pg := false, fault := true }
  let data := at' (x.status % 65536) 32 ||| at' (sat 32 x.vout) 0
  let s := firstFail r 2 (queueLog 0x05 r (railAction s r) first [data] s)
  let s := raiseIrq 5 (s.bump offSEQ_CNT 47 32 1)
  report (0x200 + r) (decide (railAction s r ≠ 0)) (detailWord 0 (railAction s r) r) s

/-- A rail gains power-good. -/
def railUp (r : Nat) (s : State) : State := if (s.rail r).on then s.setRail r { s.rail r with pg := true } else s

/-- A rail loses power-good: ignored within the window of R283, a running fault outside it. -/
def railDown (r : Nat) (s : State) : State :=
  let x := s.rail r
  if !x.pg then s
  else if !x.on then s.setRail r { x with pg := false }
  else if slewing s r then s else runningFault r s

/-! A program's conditions and waits (R286 to R288) -/

/-- CHECK flags (R287). -/
def flagOf (s : State) (n : Nat) : Bool :=
  match n with
  | 0 => s.gauge.acLost
  | 1 => s.tow.started || s.tow.addr == 0 || s.TOW_CFG_JOIN == 0
  | 2 => s.fly.st == .run
  | 3 => match s.seq.run with | some r => r.afterClear | none => false
  | _ => s.seq.busGood.isSome

/-- The condition of a CHECK step: fast comparators are numbered 0 to 15 and always-on ones 16 to 23 (log 13). -/
def condition (s : State) (w : BitVec 32) : Bool :=
  let n := sBits w 23 16
  let v := match sBits w 27 25 with
    | 0 => (s.rail n).pg
    | 1 => s.seq.pg.getLsbD n
    | 2 => s.seq.pgPins.getLsbD n
    | 3 => if n < 16 then s.keep.fcmp.getLsbD n else s.keep.acmp.getLsbD (n - 16)
    | _ => flagOf s n
  v == (sBits w 24 24 == 1)

/-- The item that a reverse shutdown or a reset waits for has been seen off: the next ones follow. -/
def downTurn (s : State) : State :=
  match s.seq.downWait with
  | some (w, _) => if itemReached s w then goDown s.seq.downs s else s
  | none => s

/-- A waiting program goes on when what it waits for has come (R288). -/
def resumeWait (s : State) : State :=
  match s.seq.run with
  | none => downTurn s
  | some r =>
    match r.wait with
    | .item w _ => if itemReached s w then setStep r (r.step + 1) .none s else s
    | .cond w _ => if condition s w then setStep { r with c := true } (r.step + 1) .none s else s
    | _ => s

/-! Power-downs end (R217 to R220) -/

/-- The sluice-order program, or program 1 after an early trigger, has ended and nothing is left to seal: the reset held is
applied, and the start condition is tested again (R217, R219). -/
def sluiceDone (s : State) : State :=
  let held := s.sluice.heldReset
  let s := setSeqSt 1 { s with sluice := { s.sluice with phase := 6, programDone := true, heldReset := none } }
  match held with
  | some c => globalReset c s
  | none => s

/-- The loader starts when program 0 ends (R293, R334); PUSH_WAIT counts from PD_MGMT's power-good. -/
def loaderStart (s : State) : State :=
  { s with cfg := { s.cfg with st := 1, pushUntil := some (s.cfg.pushUntil.getD s.now) } }

/-- A program ends, done (R288, R293). -/
def endProgram (p : Nat) (s : State) : State :=
  let s := logRec 0x03 p 0 [] (setRun none s)
  if p = 0 then loaderStart (setSeqSt 3 { s with tow := { s.tow with started := false } })
  else if p = 3 then setSeqSt 3 s
  else if p = 1 ∨ 5 ≤ s.sluice.phase ∨ s.sluice.torn then sluiceDone s else s

/-- Domains that a sluice holds on: the port groups until the drain has ended, the rest until the seal (R211, R216). -/
def heldOff (s : State) (r : Run) (w : BitVec 32) : Bool :=
  r.prog == 2 && eKind w == 0 && !eOn w && !s.sluice.torn &&
    (if eIndex w < 16 then decide (s.sluice.phase < 2) else decide (s.sluice.phase < 5))

/-- Steps that a sluice held may run. -/
def wakeHeld (s : State) : State :=
  match s.seq.run with
  | some r => if r.wait = .seal then setRun (some { r with wait := .none }) s else s
  | none => s

end Sys2Proof.Machine
end

