-- ==== Sys2Proof/Machine/Sequencer.lean ====
section
/-! DEFINITION. The meanings of the sequencer's commands (R279 to R293), of the comparators (R92, R320) and of RESET_N (R292). -/

namespace Sys2Proof.Machine

/-! Comparators (R320) -/

/-- A comparator's FUNC, INDEX and keeper source; a function its kind may not have is none (R320). -/
def cmpFunc (s : State) : Cmp → Nat × Nat × Nat
  | .fast k =>
    let f := s.KEEP_FCMP_FUNC k.val
    let none := f = 7 ∨ (f = 4 ∧ 8 ≤ s.KEEP_FCMP_INDEX k.val)
    (if none then 0 else f, s.KEEP_FCMP_INDEX k.val, 0x1F0 + k.val)
  | .aon k =>
    let f := s.KEEP_ACMP_FUNC k.val
    (if 5 ≤ f ∧ f ≤ 7 then f else 0, s.KEEP_ACMP_INDEX k.val, 0x240 + k.val)

def cmpTripped (s : State) : Cmp → Bool
  | .fast k => s.keep.fcmp.getLsbD k.val
  | .aon k => s.keep.acmp.getLsbD k.val

def setCmp (c : Cmp) (on : Bool) (s : State) : State :=
  match c with
  | .fast k =>
    let m := BitVec.ofNat 16 (2 ^ k.val)
    { s with keep := { s.keep with fcmp := if on then s.keep.fcmp ||| m else s.keep.fcmp &&& ~~~ m } }
  | .aon k =>
    let m := BitVec.ofNat 8 (2 ^ k.val)
    { s with keep := { s.keep with acmp := if on then s.keep.acmp ||| m else s.keep.acmp &&& ~~~ m } }

/-- A guarded term falls to 0 at once (R92); WEIR_CNT.TRIP counts it. -/
def tripTerm (f : Weir → Weir) (s : State) : State :=
  let s := { s with weir := f s.weir }
  if s.core then weirTest (fallNow (s.bump offWEIR_CNT_TRIP 63 0 1)) else s

/-- What a trip does, by function (R92, R207, R233, R248, R320). -/
def tripEffect (func index src k : Nat) (s : State) : State :=
  match func with
  | 1 => trigger 2 { s with seq := { s.seq with busGood := none } }
  | 2 => stopCapTest (tripTerm (fun w => { w with tripCap := .held }) s)
  | 3 => tripTerm (fun w => { w with tripFly := .held }) s
  | 4 => moduleGone index (tripTerm (fun w => { w with tripStr := tset .clear w.tripStr index .held }) s)
  | 5 => railDown index s
  | 6 => report src true (detailWord 0 1 k) s
  | 7 => gaugeAwake s
  | _ => s

def cmpIndex : Cmp → Nat
  | .fast k => k.val
  | .aon k => k.val

/-- COMPARATOR_TRIP (R320). -/
def execComparatorTrip (c : Cmp) (s : State) : Res :=
  if !s.clk.aon ∨ cmpTripped s c then .next s else
  let f := cmpFunc s c
  .next (settle (resumeWait (tripEffect f.1 f.2.1 f.2.2 (cmpIndex c) (setCmp c true s))))

/-- A released guard waits for the rise hold (R92). -/
def release (t : Nat) (x : Trip) : Trip := if x = .held then .released t else x

/-- What a release does, by function (R92, R219, R282). -/
def releaseEffectOf (func index : Nat) (s : State) : State :=
  let w := s.weir
  match func with
  | 1 => { s with seq := { s.seq with busGood := some s.now } }
  | 2 => { s with weir := { w with tripCap := release s.now w.tripCap } }
  | 3 => { s with weir := { w with tripFly := release s.now w.tripFly } }
  | 4 => { s with weir := { w with tripStr := tset .clear w.tripStr index (release s.now (tripStrOf s index)) } }
  | 5 => railUp index s
  | _ => s

/-- COMPARATOR_RELEASE (R320). -/
def execComparatorRelease (c : Cmp) (s : State) : Res :=
  if !s.clk.aon ∨ !cmpTripped s c then .next s else
  let f := cmpFunc s c
  .next (settle (resumeWait (releaseEffectOf f.1 f.2.1 (setCmp c false s))))

/-! Starts (R219, R293) -/

/-- RESTART_HOLD, us. -/
def restartHold (s : State) : Nat := 10000 * s.seq.sect.restartHold

/-- The start condition of R293, with R219's hold after a sluice. -/
def startOk (s : State) : Bool :=
  s.clk.aon && s.clk.rootOk && s.seq.loaded && s.seq.st == 1 && s.seq.run.isNone && s.seq.downs.isEmpty && s.seq.downWait.isNone &&
    (match s.seq.busGood with | some t => decide (t + restartHold s ≤ s.now) | none => false) &&
    (!s.sluiced || (s.sluice.programDone && decide (s.sluice.tTrigger + restartHold s ≤ s.now))) &&
    (s.TOW_CFG_JOIN == 0 || s.tow.started || s.tow.joinDone)

/-- Every present module is authenticated at a start (R243). -/
def startAuth (s : State) : State :=
  forEach ((List.range 8).filter (fun i => (s.str i).present)) s (fun i s =>
    authAsk i s.now (s.updStr i (fun g => { g with auth := if g.auth = 2 then 2 else 1 })))

/-- Program 0 starts (R219, R293, R310, R355, R403): a new start for the sources, the loader, refloat, the ports, the sluice and the main
PLLs. -/
def programStart (s : State) : State :=
  let z := State.reset
  let c := { z.cfg with slotA := s.cfg.slotA, slotB := s.cfg.slotB, fuses := s.cfg.fuses,
                        pushUntil := s.cfg.pushUntil }
  let s := restoreStartSources (startAuth (gaugeAwake s))
  let s := { s with
    sluice := z.sluice, refloat := z.refloat, lock := z.lock, ports := [], cfg := c,
    seq := { s.seq with tProg0 := s.now }, gauge := { s.gauge with reserve := false },
    keep := { s.keep with fatal := false }, tow := { s.tow with group := false, staggered := 0 },
    clk := { s.clk with aLock := s.core, bLock := s.core, mainSel := false } }
  startProgram 0 (s.bump offSEQ_CNT 63 48 1)

/-- PROGRAM0_START (R293). -/
def execProgram0Start (s : State) : Res := if startOk s then .next (settle (programStart s)) else .next s

/-- RESTART_HOLD_EXPIRY (R219): the power-up program after a sluice. -/
def execRestartHoldExpiry (s : State) : Res := if s.sluiced && startOk s then .next (settle (programStart s)) else .next s

/-! Program steps (R286 to R288) -/

/-- The running program stands at a step with an OP, waiting for nothing. -/
def atStep (s : State) (op : Nat) : Option (Run × BitVec 32) :=
  match s.seq.run with
  | none => none
  | some r =>
    let w := progWord s r.rom r.prog r.step
    if r.wait = .none ∧ sOp w = op then some (r, w) else none

/-- ENABLE (R216, R283, R286, R288). -/
def execEnable (s : State) : Res :=
  match atStep s 1 with
  | none => .next s
  | some (r, w) =>
    if heldOff s r w then .next (setRun (some { r with wait := .seal }) s) else
    let s := setItem w (eOn w) s
    let r := { r with turnedOn := if eOn w then r.turnedOn ++ [w] else r.turnedOn }
    if eTimeout w = 0 ∨ itemReached s w then .next (settle (setStep r (r.step + 1) .none s))
    else .next (settle (setStep r r.step (.item w (s.now + 1000 * eTimeout w)) s))

/-- WAIT (R286). -/
def execWait (s : State) : Res :=
  match atStep s 2 with
  | none => .next s
  | some (r, w) =>
    let units := sBits w 23 0 * (if sBits w 27 27 = 1 then 1000 else 1)
    .next (setStep r r.step (.time (s.now + units)) s)

/-- WAIT_EXPIRY (R288). -/
def execWaitExpiry (s : State) : Res :=
  match s.seq.run with
  | none => .next s
  | some r =>
    match r.wait with
    | .time t => if t ≤ s.now then .next (setStep r (r.step + 1) .none s) else .next s
    | _ => .next s

/-- CHECK (R286 to R288). -/
def execCheck (s : State) : Res :=
  match atStep s 3 with
  | none => .next (resumeWait s)
  | some (r, w) =>
    let c := condition s w
    if c ∨ eTimeout w = 0 then .next (setStep { r with c := c } (r.step + 1) .none s)
    else .next (setStep { r with c := false } r.step (.cond w (s.now + 1000 * eTimeout w)) s)

/-- CHECK_TIMEOUT (R288): C takes its present value. -/
def execCheckTimeout (s : State) : Res :=
  match s.seq.run with
  | none => .next s
  | some r =>
    match r.wait with
    | .cond w t => if t ≤ s.now then .next (setStep { r with c := condition s w } (r.step + 1) .none s) else .next s
    | _ => .next s

/-- The step a JUMP goes to. -/
def jumpTo (r : Run) (w : BitVec 32) : Nat :=
  let go := match sBits w 27 26 with
    | 0 => true
    | 1 => r.c
    | _ => !r.c
  if go then sBits w 7 0 else r.step + 1

/-- JUMP (R286, R288); a word of no step of R286 is passed over. -/
def execJump (s : State) : Res :=
  match s.seq.run with
  | none => .next s
  | some r =>
    let w := progWord s r.rom r.prog r.step
    if r.wait ≠ .none ∨ (1 ≤ sOp w ∧ sOp w ≤ 3) then .next s
    else if isEnd w then .next (settle (endProgram r.prog s))
    else .next (setStep r (if sOp w = 4 then jumpTo r w else r.step + 1) .none s)

/-- A domain that was switched off has been seen off. -/
def seenOff (d : Nat) (s : State) : State :=
  { s with seq := { s.seq with discharging := s.seq.discharging &&& ~~~ BitVec.ofNat 24 (2 ^ d) } }

/-- An item waited for is up, or off. -/
def itemArrives (w : BitVec 32) (s : State) : State :=
  let n := eIndex w
  if eKind w = 0 then (if eOn w then domainUp n s else seenOff n s)
  else if eOn w then
    let pins := if railSrc s n = 1 then s.seq.pgPins ||| BitVec.ofNat 16 (2 ^ railIdx s n) else s.seq.pgPins
    railUp n { s with seq := { s.seq with pgPins := pins } }
  else s.setRail n { s.rail n with pg := false, vout := min (s.rail n).vout (railVout s n / 10) }

/-- A CHECK's item takes the value expected. -/
def checkArrives (w : BitVec 32) (s : State) : State :=
  let n := sBits w 23 16
  if sBits w 24 24 = 0 then s else
  match sBits w 27 25 with
  | 0 => railUp n s
  | 1 => domainUp n s
  | 2 => { s with seq := { s.seq with pgPins := s.seq.pgPins ||| BitVec.ofNat 16 (2 ^ n) } }
  | _ => s

/-- Items switched on or off without a wait come up, or are seen off, too: domains in index order, then rails (log 13). -/
def nextUp (s : State) : State :=
  match (List.range 24).find? s.seq.discharging.getLsbD with
  | some d => seenOff d s
  | none =>
  match (List.range 24).find? (fun d => s.seq.on.getLsbD d && !s.seq.pg.getLsbD d) with
  | some d => domainUp d s
  | none =>
    match (List.range 64).find? (fun r => (s.rail r).on && !(s.rail r).pg && !(s.rail r).fault) with
    | some r => railUp r s
    | none => s

/-- ITEM_POWER_GOOD (R280, R288). -/
def execItemPowerGood (s : State) : Res :=
  match s.seq.run with
  | some r =>
    match r.wait with
    | .item w _ => .next (settle (resumeWait (itemArrives w s)))
    | .cond w _ => .next (settle (resumeWait (checkArrives w s)))
    | _ => .next (settle (nextUp s))
  | none =>
    match s.seq.downWait with
    | some (w, _) => .next (settle (downTurn (itemArrives w s)))
    | none => .next (settle (nextUp s))

/-- A discharge timeout (R288). -/
def dischargeLate (w : BitVec 32) (s : State) : State :=
  let s := logRec 0x06 (itemCode w) 0 [] (s.bump offSEQ_CNT 31 16 1)
  s.setReg offSEQ_STATUS (setFld (s.reg offSEQ_STATUS) 6 6 1)

/-- ENABLE_TIMEOUT (R288, R289), of a program's step or of an item that a reverse shutdown or a reset waits for. -/
def execEnableTimeout (s : State) : Res :=
  match s.seq.run with
  | none =>
    match s.seq.downWait with
    | some (w, t) =>
      if s.now < t then .next s
      else if itemReached s w then .next (goDown s.seq.downs s)
      else .next (goDown s.seq.downs (dischargeLate w s))
    | none => .next s
  | some r =>
    match r.wait with
    | .item w t =>
      if s.now < t then .next s
      else if itemReached s w then .next (resumeWait s)
      else if eOn w then .next (settle (latchFail w r s))
      else .next (setStep r (r.step + 1) .none (dischargeLate w s))
    | _ => .next s

/-! Rails (R282 to R284) -/

/-- RAIL_FAULT (R284). -/
def execRailFault (r : Fin 64) (s : State) : Res :=
  let pins := if railSrc s r.val = 1 then s.seq.pgPins &&& ~~~ BitVec.ofNat 16 (2 ^ railIdx s r.val) else s.seq.pgPins
  .next (settle (railDown r.val { s with seq := { s.seq with pgPins := pins } }))

/-- TIMED_GRACE_EXPIRY (R209, R284): an orderly power-down. -/
def execTimedGraceExpiry (s : State) : Res :=
  match s.seq.timedEnd with
  | none => .next s
  | some t => if s.now < t then .next s else .next (settle (trigger 6 { s with seq := { s.seq with timedEnd := none } }))

/-- RAIL_TRANS_END (R283): power-good judged against the newest target. -/
def execRailTransEnd (r : Fin 64) (good : Bool) (s : State) : Res :=
  match (s.rail r.val).slewEnd with
  | none => .next s
  | some t =>
    if s.now < t then .next s else
    let s := s.setRail r.val { s.rail r.val with slewEnd := none }
    .next (settle (resumeWait (if good then railUp r.val s else railDown r.val s)))

/-- A rail's reading is good (R282): no fault bit, within 5 % of the target. -/
def readingGood (s : State) (x : RailReading) : Bool :=
  let t := (s.rail x.rail.val).target
  x.status == 0 && decide (t * 95 ≤ x.vout.toNat * 100) && decide (x.vout.toNat * 100 ≤ t * 105)

/-- Take a rail's readings (R282). -/
def takeReading (x : RailReading) (s : State) : State :=
  let r := x.rail.val
  let s := s.setRail r { s.rail r with status := x.status.toNat, vout := x.vout.toNat }
  if railSrc s r ≠ 0 then s else if readingGood s x then railUp r s else railDown r s

/-- PMBUS_POLL (R282). -/
def execPmbusPoll (readings : List RailReading) (s : State) : Res :=
  if !s.aonRuns then .next s else .next (settle (resumeWait (forEach readings s takeReading)))

/-- SMBALERT (R282): the alerting rails are read. -/
def execSmbalert (readings : List RailReading) (s : State) : Res :=
  if !s.aonRuns then .next s else .next (settle (resumeWait (forEach readings s takeReading)))

/-- RESET_STRETCH_END (R291). -/
def execResetStretchEnd (n : Fin 16) (s : State) : Res :=
  if s.seq.relPending.getLsbD n.val ∧ stretched s n.val then
    let m := BitVec.ofNat 16 (2 ^ n.val)
    .next { s with seq := { s.seq with asserted := s.seq.asserted &&& ~~~ m, relPending := s.seq.relPending &&& ~~~ m } }
  else .next s

/-! SEQ_CTRL (R303) -/

/-- SEQ_CTRL is reached through BAR0. -/
def seqCommand (key : Byte) (f : State → State) (s : State) : Res :=
  if s.bar0 && key == 0x9D then .next (settle (cmdStart kSeq f s)) else .next s

/-- The latch is cleared (R289, R300): who is 0 for the rack manager, 1 for the towpath. -/
def clearLatch (who : Nat) (s : State) : State :=
  logRec 0x10 0 who [] { s with seq := { s.seq with st := 1, failRail := 0xFF, failKind := 0, failTime := 0, latchCleared := true } }

def doClear (s : State) : State := if s.seq.st = 4 then cmdEnd kSeq 0 (clearLatch 0 s) else cmdEnd kSeq 2 s

/-- CLEAR (R289, R292). -/
def execClear (key : Byte) (s : State) : Res :=
  viaPort (.clear key) false (fun s => seqCommand key doClear s) s

def doRunService (s : State) : State :=
  if s.seq.run.isNone && s.seq.st == 3 && s.weir.st == .shut && decide (totH s = 0) then cmdEnd kSeq 0 (startProgram 3 s)
  else cmdEnd kSeq 2 s

/-- RUN_SERVICE (R285, R292). -/
def execRunService (key : Byte) (s : State) : Res :=
  viaPort (.runService key) false (fun s => seqCommand key doRunService s) s

def doRailCmd (ack : Bool) (s : State) : State :=
  let r := s.SEQ_RAIL_SEL_RAIL
  let v := s.SEQ_RAIL_CMD_VOUT
  if !(s.rail r).on then cmdEnd kSeq 2 s
  else if v < railVmin s r ∨ railVmax s r < v then cmdEnd kSeq 3 s
  else if ack then cmdEnd kSeq 0 (railOutput r v s)
  else cmdEnd kSeq 5 (s.bump offSEQ_CNT 15 0 1)

/-- RAIL_CMD (R283). -/
def execRailCmd (key : Byte) (ack : Bool) (s : State) : Res :=
  viaPort (.railCmd key ack) false (fun s => seqCommand key (doRailCmd ack) s) s

/-! RESET_N (R292, R379) -/

/-- RESET_N: at least 1 us acts, below 100 ns does not; between them it is open (R407, log 2). -/
def execResetN (ns : Nat) (s : State) : Res :=
  if !s.clk.aon ∨ ns < 100 then .next s
  else if 1000 ≤ ns then .next (settle (resetRequest 1 s))
  else
    let d := s.draw
    if d.2.getLsbD 0 then .next (settle (resetRequest 1 d.1)) else .next d.1

end Sys2Proof.Machine
end

