-- ==== Sys2Proof/Machine/Windlass.lean ====
section
/-! DEFINITION. The meanings of the windlass's commands (R258 to R278). -/

namespace Sys2Proof.Machine

/-! What the windlass reads off its settings -/

/-- LINK_RAMP now (R269): from its value at the last target toward TARGET at SLEW, in 10 mV; SLEW x 0.1 V/ms is SLEW units each
100 us. -/
def rampNow (s : State) : Nat :=
  let d := s.FLY_CFG5_SLEW * (s.now - s.fly.rampAt) / 100
  let t := s.FLY_LINK_TARGET
  if t < s.fly.ramp then max t (s.fly.ramp - d) else min t (s.fly.ramp + d)

/-- The lower edge of the band in which the windlass does not generate (R262). -/
def genEdge (s : State) : Nat := rampNow s - 10 * s.FLY_CFG5_GEN_BAND

/-- Every temperature at most T_WARN - T_HYST (R261), in 0.1 C. -/
def coolEnough (s : State) : Bool :=
  s.fly.temps.all (fun t => decide (t ≤ 10 * ((s.FLY_CFG5_T_WARN : Int) - s.FLY_CFG5_T_HYST)))

/-- A temperature at or above T_WARN. -/
def tempWarn (s : State) : Bool := s.fly.temps.any (fun t => decide (10 * (s.FLY_CFG5_T_WARN : Int) ≤ t))

/-- T_SHUT in force, raised by SLUICE_MARGIN from a trigger until the seal (R272), in 0.1 C. -/
def tShut (s : State) : Int :=
  10 * ((s.FLY_CFG5_T_SHUT : Int) + if 1 ≤ s.sluice.phase ∧ s.sluice.phase < 5 then (s.FLY_CFG5_SLUICE_MARGIN : Int) else 0)

/-- Sets of the configuration, and sets in service (R258, R265). -/
def setsFitted (s : State) : Nat := s.FLY_CFG0_PHASES
def setsIn (s : State) : Nat := (if s.fly.set0 then 1 else 0) + if s.fly.set1 then 1 else 0

/-- The motoring and generating limits in force (R263); SYNC releases neither before its current loop has locked (R266). -/
def limMot (s : State) : Nat :=
  if s.fly.st = .sync then 0 else s.FLY_CFG3_P_MOT * setsIn s / max (setsFitted s) 1 / (if tempWarn s then 2 else 1)
def limGen (s : State) : Nat := if s.fly.st = .sync then 0 else s.FLY_CFG3_P_GEN_SET * setsIn s

/-- The limit on every phase current, in 0.1 A: SYNC_I in SYNC (R266, R267), else the comparators' OC_LIM (R270). -/
def phaseLimit (s : State) : Nat := if s.fly.st = .sync then s.FLY_CFG3_SYNC_I else 10 * s.FLY_CFG3_OC_LIM

/-- The windlass switches its power stages. -/
def switching (s : State) : Bool := s.fly.st == .sync || s.fly.st == .run || s.fly.st == .brake

/-- TEST, SYNC or RUN (the FAULT rows of R261). -/
def faultable (s : State) : Bool := s.fly.st == .test || s.fly.st == .sync || s.fly.st == .run

/-- The link last measured is above LINK_OV (R271). -/
def overLink (s : State) : Bool := faultable s && decide (s.FLY_CFG4_LINK_OV < s.fly.link)

/-- The sets that the loaded section declares are in service (R258, R265). -/
def setsBack (s : State) : State := s.setFly { s.fly with set0 := decide (0 < setsFitted s), set1 := decide (setsFitted s = 2) }

/-- The sets after a section has been loaded where the one before declared n: a set that was taken out stays out (R265). -/
def setsKept (n : Nat) (s : State) : State :=
  s.setFly { s.fly with
    set0 := decide (0 < setsFitted s) && (s.fly.set0 || n == 0), set1 := decide (setsFitted s = 2) && (s.fly.set1 || decide (n < 2)) }

/-- A windlass section has been loaded into the FLY_CFG registers (R260): SAFE, LINK_RAMP at LINK_TGT. n is what the section before
declared as PHASES. -/
def flyLoaded (n : Nat) (s : State) : State :=
  let t := s.FLY_CFG4_LINK_TGT
  let s := s.setReg offFLY_LINK (setFld (s.reg offFLY_LINK) 63 48 t)
  let s := s.setFly { s.fly with
    st := .safe, loaded := true, ramp := t, rampAt := s.now, gatesCut := false, dump := false, motoring := false, generating := false,
    release := false, measured := false, waitUntil := none, encFailed := false }
  flyDrop (setsKept n s)

/-- Within the last hour. -/
def lastHour (s : State) (l : List Nat) : List Nat := l.filter (fun t => decide (s.now - t ≤ 3600000000))

/-! Starting (R261, R266 to R268) -/

/-- The SAFE row of R261, in the two configurations of R258; safe harbour keeps the windlass in SAFE (R260, R336). -/
def windlassMay (s : State) : Bool :=
  s.fly.st == .safe && s.fly.loaded && (s.FLY_CFG0_PHASES == 1 || s.FLY_CFG0_PHASES == 2) &&
    (s.fly.set0 || s.fly.set1) && s.FLY_CTRL_HOLD == 0 && decide (s.FLY_CFG4_LINK_MIN ≤ s.fly.link) &&
    coolEnough s && s.fly.waitUntil.isNone && s.cfg.st != 5 && s.clk.rootOk

/-- SYNC begins: gates off, the back-EMF measured (R266). -/
def Fly.toSync (now : Nat) (f : Fly) : Fly := { f with st := .sync, sync := .measure, syncAt := now }

/-- WINDLASS_START (R261). -/
def execWindlassStart (s : State) : Res :=
  if windlassMay s then .next (s.setFly (if s.FLY_CFG0_PHASES = 2 then { s.fly with st := .test } else s.fly.toSync s.now)) else .next s

/-- LEG_TEST_DONE (R268). -/
def execLegTestDone (shorted : Option (Fin 6)) (s : State) : Res :=
  if s.fly.st ≠ .test then .next s else
  match shorted with
  | none => .next (s.setFly (s.fly.toSync s.now))
  | some p => .next (settle (flyFault 2 p.val s))

/-- SYNC goes on: from the measurement to matched duties at BEMF_MIN or above, else to the alignment of 200 ms, and from there to encoder
commutation (R266, R267). DESIGN CHOICE (log 54): the 20 ms of R261 begin again after the alignment, which lasts longer than they do. -/
def syncTurn (s : State) : State :=
  if s.fly.st ≠ .sync then s else
  match s.fly.sync with
  | .measure => s.setFly { s.fly with sync := if s.FLY_CFG1_BEMF_MIN ≤ s.fly.bemf then .matched else .align s.now }
  | .align t => if t + 200000 ≤ s.now then s.setFly { s.fly with sync := .encoder (Config.flyAngle s.now), syncAt := s.now } else s
  | _ => s

/-- SYNC's current loop can lock: under matched duties or encoder commutation. -/
def syncDrives (s : State) : Bool :=
  match s.fly.sync with
  | .matched => true
  | .encoder _ => true
  | _ => false

/-- SYNC_LOCK (R261, R266, R267). -/
def execSyncLock (s : State) : Res :=
  if s.fly.st ≠ .sync then .next s else
  let s := syncTurn s
  if syncDrives s then
    .next ((s.setFly { s.fly with st := .run, measured := true, ocRun0 := 0, ocRun1 := 0, ocHit := 0 }).bump offFLY_CNT 63 48 1)
  else .next s

/-- The 20 ms of SYNC have passed; an alignment stands outside them (log 54). -/
def syncLate (s : State) : Bool :=
  match s.fly.sync with
  | .align _ => false
  | _ => decide (s.fly.syncAt + 20000 ≤ s.now)

/-- SYNC_TIMEOUT (R261). -/
def execSyncTimeout (s : State) : Res :=
  if s.fly.st ≠ .sync ∨ !syncLate s then .next s else
  let l := s.now :: lastHour s s.fly.syncFails
  let s := s.setFly { s.fly with syncFails := l }
  if 3 ≤ l.length then .next (settle (flyFault 3 0xF s))
  else
    let t := flySafe s
    .next (t.setFly { t.fly with waitUntil := some (s.now + 1000000) })

/-- FLY_RESTART_WAIT_END (R261). -/
def execFlyRestartWaitEnd (s : State) : Res :=
  match s.fly.waitUntil with
  | some t => if t ≤ s.now then .next (s.setFly { s.fly with waitUntil := none }) else .next s
  | none => .next s

/-! Speed (R261, R273, R274) -/

/-- The speed in use (R273): the lower of the two when both are valid. -/
def speedUsed (encFailed : Bool) (enc bemf bemfMin : Nat) : Nat :=
  if encFailed then (if bemfMin ≤ bemf then bemf else 0)
  else if bemfMin ≤ bemf then min enc bemf else enc

/-- FLY_SPEED_UPDATE (R261, R273): rpm, and 10 mV for the link and the back-EMF peak. -/
def execFlySpeedUpdate (enc bemf link peak : BitVec 16) (s : State) : Res :=
  if s.fly.st = .off then .next s else
  let b := if s.FLY_CFG1_BEMF_MIN ≤ bemf.toNat then bemf.toNat else 0
  let u := speedUsed s.fly.encFailed enc.toNat bemf.toNat s.FLY_CFG1_BEMF_MIN
  let s := s.setFly { s.fly with enc := enc.toNat, bemf := b, used := u, link := link.toNat, peak := peak.toNat }
  if overLink s then .next (settle (flyFault 6 0xF s))
  else if s.fly.st = .run ∧ s.FLY_CFG1_OVERSPEED ≤ u then
    .next (settle (flyDrop (s.setFly { s.fly with st := .brake, dump := true, motoring := false, generating := false, release := false })))
  else .next (syncTurn s)

/-- BRAKE_END (R261, R274). -/
def execBrakeEnd (s : State) : Res :=
  if s.fly.st = .brake ∧ s.fly.used ≤ s.FLY_CFG1_SPEED_MAX then .next (settle (flyFault 4 0xF s)) else .next s

/-- BRAKE_FAIL (R261). -/
def execBrakeFail (s : State) : Res := if s.fly.st = .brake then .next (settle (flyFault 0xA 0xF s)) else .next s

/-- FLY_TEMP_SHUTDOWN (R261, R272): the four 10 ms means, in 0.1 C, signed. -/
def execFlyTempShutdown (ps0 ps1 w0 w1 : BitVec 16) (s : State) : Res :=
  let s := s.setFly { s.fly with temps := [ps0, ps1, w0, w1].map (fun t => ofTwos 16 t.toNat) }
  if s.fly.st ≠ .run ∨ s.fly.temps.all (fun t => decide (t < tShut s)) then .next s else
  let l := s.now :: lastHour s s.fly.shuts
  let s := (s.setFly { s.fly with shuts := l }).bump offFLY_CNT 15 0 1
  if 3 ≤ l.length then .next (settle (flyFault 5 0xF s)) else .next (settle (flyDrop (flySafe s)))

/-- SPEED_DISAGREE (R273). -/
def execSpeedDisagree (s : State) : Res :=
  if s.fly.st = .off ∨ s.fly.encFailed then .next s else
  let u := speedUsed true s.fly.enc s.fly.bemf s.FLY_CFG1_BEMF_MIN
  let s := report 0x1EB false (detailWord 3 1 0) (s.setFly { s.fly with encFailed := true, used := u })
  .next (settle (if s.fly.bemf < s.FLY_CFG1_BEMF_MIN ∧ faultable s then flyFault 7 0xF s else s))

/-! Phases (R264, R265, R270) -/

/-- A phase's RMS current at a time, 0.1 A. -/
def phaseAmps (t : Nat) (n : Nat) : Nat := (Config.flyCurrents t).toNat / 2 ^ (10 * n) % 1024

/-- The trim of phase n, per mille (R264): renewed every 1 ms in RUN, within TRIM_MAX, toward the mean current of the phase's set. How far it
goes is the regulation's own, a free value (log 3). -/
def trimOf (s : State) (n : Nat) : Int :=
  let t := s.now / 1000 * 1000
  let k := n / 3
  let sum := phaseAmps t (3 * k) + phaseAmps t (3 * k + 1) + phaseAmps t (3 * k + 2)
  let size := (Config.flyTrims t).toNat / 2 ^ (8 * n) % 256 % (s.FLY_CFG3_TRIM_MAX + 1)
  if s.fly.st ≠ .run ∨ !(if k = 0 then s.fly.set0 else s.fly.set1) ∨ 3 * phaseAmps t n = sum then 0
  else if 3 * phaseAmps t n < sum then (size : Int) else -(size : Int)

/-- The set of a phase (R258). -/
def setOf (phase : Fin 6) : Fin 2 := if phase.val < 3 then 0 else 1

/-- Consecutive periods with a trip of a set. -/
def ocRun (s : State) (k : Fin 2) : Nat := if k = 0 then s.fly.ocRun0 else s.fly.ocRun1

def setOcRun (k : Fin 2) (n : Nat) (s : State) : State :=
  s.setFly (if k = 0 then { s.fly with ocRun0 := n } else { s.fly with ocRun1 := n })

/-- OVERCURRENT_TRIP (R270). -/
def execOvercurrentTrip (phase : Fin 6) (s : State) : Res :=
  let k := setOf phase
  if !switching s ∨ !setIn s k then .next s else
  let s := s.bump offFLY_CNT 31 16 1
  if s.fly.ocHit.getLsbD k.val then .next s else
  let n := ocRun s k + 1
  let s := setOcRun k n (s.setFly { s.fly with ocHit := s.fly.ocHit ||| BitVec.ofNat 2 (2 ^ k.val) })
  if 16 ≤ n then .next (settle (loseSet k phase.val s)) else .next s

/-- DESAT_FAULT (R261, R265). -/
def execDesatFault (set : Fin 2) (s : State) : Res :=
  if s.fly.st = .brake then .next (settle (flyFault 0xA 0xF (loseSet set 0xF s)))
  else if s.fly.st = .run ∨ s.fly.st = .sync then .next (settle (loseSet set 0xF s))
  else .next s

/-- PHASE_IMBALANCE (R264, R265). -/
def execPhaseImbalance (phase : Fin 6) (s : State) : Res :=
  if s.fly.st = .run then .next (settle (loseSet (setOf phase) phase.val s)) else .next s

/-- TRIM_LIMIT (R264). -/
def execTrimLimit (phase : Fin 6) (s : State) : Res :=
  let k := setOf phase
  if s.fly.st = .run ∧ setIn s k then .next (settle (report (0x1E9 + k.val) false (detailWord 0 1 k.val) s)) else .next s

/-! The link (R262, R269, R271) -/

/-- LOAD_RELEASE (R271). -/
def execLoadRelease (s : State) : Res :=
  if s.fly.st = .run ∧ s.fly.generating ∧ !s.fly.release then
    .next ((s.setFly { s.fly with release := true }).bump offFLY_CNT 47 32 1)
  else .next s

/-- LOAD_RELEASE_END (R271). -/
def execLoadReleaseEnd (s : State) : Res := .next (s.setFly { s.fly with release := false })

/-- LINK_OVERVOLTAGE (R261, R271). -/
def execLinkOvervoltage (s : State) : Res := if faultable s then .next (settle (flyFault 6 0xF s)) else .next s

/-- A write of FLY_LINK.TARGET (R269). -/
def writeLinkTarget (t : Nat) (s : State) : State :=
  if s.fly.loaded ∧ s.FLY_CFG4_LINK_MIN ≤ t ∧ t + 10 * s.FLY_CFG5_REL_V ≤ s.FLY_CFG4_LINK_OV then
    let s := s.setFly { s.fly with ramp := rampNow s, rampAt := s.now }
    s.setReg offFLY_LINK (setFld (s.reg offFLY_LINK) 63 48 t)
  else s

/-- LINK_TARGET (R269). -/
def execLinkTarget (target : BitVec 16) (s : State) : Res :=
  viaPort (.linkTarget target) false (fun s => if s.bar0 then .next (writeLinkTarget target.toNat s) else .next s) s

/-- PWM_PERIOD (R262, R270, R271): the direction of the next period; a set without a trip in the last one starts its count again. -/
def execPwmPeriod (link : BitVec 16) (s : State) : Res :=
  if !switching s then .next s else
  let f := s.fly
  let s := s.setFly { f with
    link := link.toNat, ocHit := 0, ocRun0 := if f.ocHit.getLsbD 0 then f.ocRun0 else 0,
    ocRun1 := if f.ocHit.getLsbD 1 then f.ocRun1 else 0 }
  if overLink s then .next (settle (flyFault 6 0xF s)) else
  if s.fly.st ≠ .run ∨ s.fly.release then .next (syncTurn s) else
  let gen := decide (link.toNat < genEdge s)
  let mot := !gen && decide (s.fly.used < s.FLY_CFG1_SPEED_MAX) && !s.sluiced && !s.gauge.acLost
  .next (s.setFly { s.fly with generating := gen, motoring := mot })

/-! FLY_CTRL (R261, R278) -/

/-- FLY_CTRL.HOLD written with the key. -/
def writeHold (hold : Bool) (s : State) : State :=
  let s := s.setReg offFLY_CTRL (bitAt hold 0)
  if hold ∧ s.fly.st = .run then flyDrop (flySafe s) else s

/-- FLY_CTRL.CLEAR written 1 with the key: FAULT to SAFE, the cause cleared, the sets back in service (R261, R265). -/
def clearFly (s : State) : State :=
  if s.fly.st = .fault then setsBack (s.setFly { s.fly with st := .safe, gatesCut := false, cause := 0, phase := 0, tFault := 0, encFailed := false }) else s

/-- FLY_HOLD (R261). -/
def execFlyHold (key : Byte) (hold : Bool) (s : State) : Res :=
  viaPort (.flyHold key hold) false (fun s => if s.bar0 && key == 0x3E then .next (settle (writeHold hold s)) else .next s) s

/-- FLY_CLEAR (R261). -/
def execFlyClear (key : Byte) (s : State) : Res :=
  viaPort (.flyClear key) false (fun s => if s.bar0 && key == 0x3E then .next (clearFly s) else .next s) s

end Sys2Proof.Machine
end

