-- ==== Sys2Proof/Machine/Logging.lean ====
section
/-! DEFINITION. The meanings of the event log's commands (R294 to R297, R303). -/

namespace Sys2Proof.Machine

/-- The 64-byte records of the log area, and of one sector (R294). -/
def logSlots : Nat := 131072
def sectorSlots : Nat := 64

def State.logCell (s : State) (k : Nat) : LogCell := tget LogCell.erased s.log.slots k

/-- The eight words of a record (R295). -/
def logWords (r : LogRec) : List Word :=
  let w0 := at' r.seq.toNat 32 ||| at' (r.kind % 256) 24 ||| at' (r.source % 256) 16 ||| bitAt r.first 15 ||| at' (r.detail % 32768) 0
  sealWords ([w0, BitVec.ofNat 64 r.t] ++ (r.data ++ [0, 0, 0, 0, 0]).take 5)

/-- The sector after slot k's is erased when the writer enters a sector (R296). -/
def eraseAhead (k : Nat) (t : Tbl LogCell) : Tbl LogCell :=
  if k % sectorSlots ≠ 0 then t else
  let n := (k / sectorSlots + 1) % (logSlots / sectorSlots)
  t.filter (fun p => p.1 / sectorSlots != n)

/-- The records dropped are reported once the queue has room (R296). -/
def reportDropped (s : State) : State :=
  if s.log.dropped = 0 ∨ 256 ≤ s.log.queue.length then s
  else logRec 0x12 0 0 [BitVec.ofNat 64 s.log.dropped] { s with log := { s.log with dropped := 0 } }

/-- LOG_RECORD_WRITE (R296). -/
def execLogRecordWrite (s : State) : Res :=
  match s.log.queue with
  | [] => .next s
  | r :: t =>
    let k := s.log.slot
    let l := { s.log with
      slots := tset LogCell.erased (eraseAhead k s.log.slots) k (.good r), queue := t, head := some r.seq, slot := (k + 1) % logSlots }
    .next (reportDropped (({ s with log := l }).bump offLOG_CNT 63 32 1))

/-- A write of LOG_RD_SEL (R303, R374): a read starts, or the write is refused and the data read 0. -/
def readLog (seq : BitVec 32) (s : State) : State :=
  let z : List Word := [0, 0, 0, 0, 0, 0, 0, 0]
  let s := { s with log := { s.log with rd := z } }
  if (s.cmd kLog).done then
    let s := s.setReg offLOG_RD_SEL (at' seq.toNat 0)
    cmdTake kLog { s with log := { s.log with reading := some seq } }
  else cmdTake kLog s

/-- LOG_READ (R303). -/
def execLogRead (seq : BitVec 32) (s : State) : Res :=
  viaPort (.logRead seq) false (fun s => if s.bar0 then .next (readLog seq s) else .next s) s

/-- A good record with a SEQ. -/
def findLog (s : State) (seq : BitVec 32) : Option LogRec :=
  s.log.slots.findSome? (fun p => match p.2 with | .good r => if r.seq = seq then some r else none | _ => none)

/-- The slot behind the record before a SEQ is torn. -/
def tornAt (s : State) (seq : BitVec 32) : Bool :=
  s.log.slots.any (fun p => match p.2 with
    | .good r => r.seq + 1 == seq && s.logCell ((p.1 + 1) % logSlots) == .torn
    | _ => false)

/-- LOG_READ_DONE (R297, R303). -/
def execLogReadDone (s : State) : Res :=
  match s.log.reading with
  | none => .next s
  | some seq =>
    let refused := (s.cmd kLog).refused
    let s := { s with log := { s.log with reading := none } }
    match findLog s seq with
    | some r => .next (cmdEnd kLog 0 (if refused then s else { s with log := { s.log with rd := logWords r } }))
    | none =>
      if tornAt s seq then .next (cmdEnd kLog 2 (s.bump offLOG_CNT 15 0 1)) else .next (cmdEnd kLog 1 s)

/-- Record a is newer than record b (R297). -/
def newer (a b : BitVec 32) : Bool :=
  let d := (a - b).toNat
  decide (1 ≤ d) && decide (d < 2 ^ 31)

/-- The slot and SEQ of the newest good record (R297). -/
def logHead (t : Tbl LogCell) : Option (Nat × BitVec 32) :=
  t.foldl (fun a p => match p.2 with
    | .good r => (match a with
      | none => some (p.1, r.seq)
      | some x => if newer r.seq x.2 then some (p.1, r.seq) else a)
    | _ => a) none

/-- The next slot that is erased, from k upward. -/
def nextErased (t : Tbl LogCell) : Nat → Nat → Nat
  | 0, k => k
  | fuel + 1, k => if tget LogCell.erased t k = .erased then k else nextErased t fuel ((k + 1) % logSlots)

/-- The log at AON start (R297): the head found, torn records skipped and counted. -/
def logStart (s : State) : State :=
  let torn := (s.log.slots.filter (fun p => p.2 == .torn)).length
  let s := s.bump offLOG_CNT 15 0 torn
  match logHead s.log.slots with
  | none => { s with log := { s.log with head := none, nextSeq := 0, slot := nextErased s.log.slots s.log.slots.length 0 } }
  | some (k, q) =>
    let slot := nextErased s.log.slots s.log.slots.length ((k + 1) % logSlots)
    { s with log := { s.log with head := some q, nextSeq := q + 1, slot := slot } }

end Sys2Proof.Machine
end

