-- ==== Sys2Proof/Machine/Towpath.lean ====
section
/-! DEFINITION. The meanings of the towpath's commands (R298 to R303). -/

namespace Sys2Proof.Machine

def State.setTow (s : State) (t : Tow) : State := { s with tow := t }

/-- A frame ends in a CRC-32C over its other bytes, least significant byte first (R299, R44). -/
def sealFrame (bs : List Byte) : List Byte := bs ++ leBytes 4 (crc32c bs)

def frameOk (n : Nat) (f : List Byte) : Bool := f.length == n && f == sealFrame (f.take (n - 4))

/-- The towpath runs as master, or as member. -/
def master (s : State) : Bool := s.aonRuns && s.tow.addr == 0
def member (s : State) : Bool := s.aonRuns && s.tow.addr != 0

/-- A beacon (R299). -/
def beaconFrame (s : State) : List Byte :=
  let t := s.tow
  let live := t.repeats != 0
  sealFrame ([0xC6, t.cycle, if live then BitVec.ofNat 8 t.cmd else 0, if live then t.mask else 0, t.cmdNo,
    BitVec.ofNat 8 ((if t.warn = 0 then 0 else 1) + (if t.group then 2 else 0))] ++ List.replicate 6 0)

/-- The next command waiting takes the place of one sent four times. -/
def towAdvance (s : State) : State :=
  if s.tow.repeats ≠ 0 then s else
  match s.tow.waiting with
  | [] => s
  | (c, m) :: t => towNow c m (s.setTow { s.tow with waiting := t })

/-- Another beacon goes out: the answers of the members to the last one that did not come are missed (R301, R303). -/
def countMissed (s : State) : State :=
  forEach ((List.range 8).filter (fun a => s.tow.members.getLsbD a)) s (fun a s =>
    let n := tget 0 s.tow.missed a
    let s := if n = 0 then s else s.bump offTOW_CNT 31 16 1
    s.setTow { s.tow with missed := tset 0 s.tow.missed a (min 8 (n + 1)) })

/-- BEACON_SEND (R299, R300): every 80 us. -/
def execBeaconSend (s : State) : Res :=
  let due := match s.tow.tBeacon with | some t => decide (t + 80 ≤ s.now) | none => true
  if !master s ∨ !due then .next s else
  let s := towAdvance (countMissed s)
  let s := s.emit (.frame (beaconFrame s))
  .next (s.setTow { s.tow with cycle := s.tow.cycle + 1, repeats := s.tow.repeats - 1, tBeacon := some s.now })

/-- A reply (R299). -/
def replyFrame (s : State) : List Byte :=
  let b := fun (x : Bool) (k : Nat) => if x then 2 ^ k else 0
  let running := s.sluiced && decide (s.sluice.phase < 5)
  let st := b s.pins.warn 0 + b running 1 + b (s.sluice.phase == 5 || (s.sluice.phase == 6 && !s.sluice.torn && !s.sluice.early)) 2 +
    b (s.seq.st == 4) 3 + b s.ready 4 + b s.keep.stopped 5
  sealFrame [BitVec.ofNat 8 (0x30 + s.tow.addr.toNat), BitVec.ofNat 8 st, BitVec.ofNat 8 s.seq.st, 0]

/-- A command a member acts on (R300); it wakes the gauge (R248). -/
def towAct (cmd : Nat) (s : State) : State :=
  let s := gaugeAwake (logRec 0x0F s.tow.addr.toNat 3 [] (s.bump offTOW_CNT 15 0 1))
  match cmd with
  | 1 => s.setTow { s.tow with started := true }
  | 2 => trigger 5 s
  | 3 => if s.seq.st = 4 then clearLatch 1 s else s
  | _ => s

/-- A good beacon (R299, R300, R302). -/
def beaconIn (f : List Byte) (s : State) : State :=
  let byte := fun k => f.getD k 0
  let gap := match s.tow.tBeacon with | some _ => (byte 1 - s.tow.cycle - 1).toNat | none => 0
  let s := s.bump offTOW_CNT 31 16 gap
  let s := if s.tow.lost then logRec 0x0F s.tow.addr.toNat 1 [] s else s
  let s := s.setTow { s.tow with lost := false, cycle := byte 1, tBeacon := some s.now }
  let mine := byte 2 ≠ 0 ∧ (byte 3).getLsbD s.tow.addr.toNat ∧ s.tow.lastNo ≠ some (byte 4)
  let s := if mine then towAct (byte 2).toNat (s.setTow { s.tow with lastNo := some (byte 4) }) else s
  s.emit (.frame (replyFrame s))

/-- BEACON (R299, R300): a frame whose CRC fails is counted and ignored. -/
def execBeacon (frame : List Byte) (s : State) : Res :=
  if !member s then .next s
  else if !frameOk 16 frame then .next (s.bump offTOW_CNT 63 32 1)
  else if frame.getD 0 0 ≠ 0xC6 then .next s
  else .next (settle (beaconIn frame s))

/-- A good reply of member a (R301). -/
def replyIn (a : Nat) (f : List Byte) (s : State) : State :=
  let m := BitVec.ofNat 8 (2 ^ a)
  let st := f.getD 1 0
  let s := if tget 0 s.tow.missed a = 8 ∧ !s.tow.members.getLsbD a then logRec 0x0F a 1 [] s else s
  let s := s.setTow { s.tow with
    members := s.tow.members ||| m, missed := tset 0 s.tow.missed a 0,
    warn := if st.getLsbD 0 then s.tow.warn ||| m else s.tow.warn &&& ~~~ m }
  if st.getLsbD 1 ∧ s.TOW_CFG_TOGETHER = 1 ∧ !s.tow.group then trigger 5 (groupSluice s) else s

/-- REPLY (R299, R301): in the slot of a member. -/
def execReply (slot : Fin 8) (frame : List Byte) (s : State) : Res :=
  if !master s ∨ slot.val = 0 then .next s
  else if !frameOk 8 frame then .next (s.bump offTOW_CNT 63 32 1)
  else if frame.getD 0 0 ≠ BitVec.ofNat 8 (0x30 + slot.val) then .next s
  else .next (settle (replyIn slot.val frame s))

/-- TOW_STAGGER_START (R300), once for a start of program 0. -/
def execTowStaggerStart (a : Fin 8) (s : State) : Res :=
  let m := BitVec.ofNat 8 (2 ^ a.val)
  if master s ∧ a.val ≠ 0 ∧ (s.seq.st = 2 ∨ s.seq.st = 3) ∧ s.tow.staggered &&& m = 0 ∧
      s.seq.tProg0 + 1000 * s.TOW_CFG_STAGGER * a.val ≤ s.now then
    .next (towSend 1 m (s.setTow { s.tow with staggered := s.tow.staggered ||| m }))
  else .next s

/-- A TOW_CTRL write with an OP (R303): acts on the master only. -/
def towCommand (cmd : Nat) (key mask : Byte) (s : State) : Res :=
  if s.bar0 && key == 0x47 && master s then .next (towSend cmd mask s) else .next s

/-- TOW_SEND_START (R303). -/
def execTowSendStart (key mask : Byte) (s : State) : Res :=
  viaPort (.towSendStart key mask) false (fun s => towCommand 1 key mask s) s

/-- TOW_SEND_SLUICE (R303). -/
def execTowSendSluice (key mask : Byte) (s : State) : Res :=
  viaPort (.towSendSluice key mask) false (fun s => towCommand 2 key mask s) s

/-- TOW_SEND_CLEAR (R303). -/
def execTowSendClear (key mask : Byte) (s : State) : Res :=
  viaPort (.towSendClear key mask) false (fun s => towCommand 3 key mask s) s

/-- TOWPATH_LOST (R302). -/
def execTowpathLost (s : State) : Res :=
  if !member s ∨ s.tow.lost ∨ s.now < s.tow.tBeacon.getD 0 + 1000 then .next s else
  let s := logRec 0x0F s.tow.addr.toNat 0 [] (s.setTow { s.tow with lost := true })
  .next (settle (report 0x1EC false (detailWord 3 1 0) s))

/-- MEMBER_ABSENT (R302): eight replies missed. -/
def execMemberAbsent (a : Fin 8) (s : State) : Res :=
  let m := BitVec.ofNat 8 (2 ^ a.val)
  if !master s ∨ !s.tow.members.getLsbD a.val ∨ tget 0 s.tow.missed a.val < 8 then .next s
  else .next (logRec 0x0F a.val 0 [] (s.setTow { s.tow with members := s.tow.members &&& ~~~ m, warn := s.tow.warn &&& ~~~ m }))

/-- JOIN_WAIT_EXPIRY (R293): JOIN_WAIT has passed without a beacon. -/
def execJoinWaitExpiry (s : State) : Res :=
  if s.TOW_CFG_JOIN = 1 ∧ (s.tow.tBeacon.getD 0) + 1000000 * s.TOW_CFG_JOIN_WAIT ≤ s.now then
    .next (s.setTow { s.tow with joinDone := true })
  else .next s

end Sys2Proof.Machine
end

