-- ==== Sys2Proof/Machine/Keeper.lean ====
section
/-! DEFINITION. The meanings of the keeper's commands (R304 to R323), and of the clocks' (R402 to R404). -/

namespace Sys2Proof.Machine

/-! Loss of ROOT (R28, R275, R317, R402) -/

/-- The windlass stops with the clocks: gates off at once (R275). -/
def flyStop (s : State) : State :=
  if s.fly.st = .off then s
  else flyDrop (s.setFly { s.fly with gatesCut := true, dump := false, motoring := false, generating := false, release := false, measured := false })

/-- The keeper's ROOT source (R305, R317): the event is logged as a CLOCK record, not as a KEEPER one. -/
def rootSource (s : State) : State :=
  let d := detailWord 3 1 0
  let s := s.updSrc 0x1D8 (fun x => { x with severe := true, detail := d, sev := sat 16 (x.sev + 1) })
  let s := (s.bump offKEEP_CNT 63 32 1).bump offKEEP_CNT 31 16 1
  let k := if s.keep.firstSrc = 0xFFF then
      { s.keep with firstSrc := 0x1D8, firstOutcome := 1, firstDetail := d, firstTime := s.now } else s.keep
  stopAlive { s with keep := { k with rootLost := true } }

/-- A running sluice stops, torn; what it held is dropped (R28, R218). -/
def sluiceStop (s : State) : State :=
  if !s.sluiced then s else
  let torn := s.sluice.torn || (!s.sluice.early && decide (s.sluice.phase < 5))
  handledOn { s with sluice := { s.sluice with torn := torn, phase := 6, programDone := true, heldReset := none } }

/-- ROOT is lost (R402): the supervisor die on its oscillator, every main-die domain off, nothing latched. -/
def rootLost (s : State) : State :=
  if s.clk.holdover then s else
  let s := logRec 0x13 0 0 [] (s.bump offCLK_CNT 63 32 1)
  let s := s.setReg offCLK_STATUS (setFld (s.reg offCLK_STATUS) 7 7 1)
  let s := rootSource { s with pins := { s.pins with warn := true } }
  let s := sluiceStop (flyStop s)
  let c := { s.clk with rootOk := false, holdover := true, supLock := false, cause := 5 }
  let t := allDomainsOff (abandonProgram { s with clk := c, keep := { s.keep with warnTill := true } })
  domainsDown s.seq.on (if t.seq.st = 4 then t else setSeqSt 1 t)

/-- ROOT_LOSS (R402). -/
def execRootLoss (s : State) : Res := if s.clk.aon then .next (settle (rootLost s)) else .next s

/-- ROOT_BACK (R404): the windlass is in FAULT with cause 0x9 once the clocks return (R275). -/
def execRootBack (s : State) : Res :=
  if !s.clk.holdover then .next s else
  let s := logRec 0x13 0 1 [] { s with clk := { s.clk with rootOk := true, holdover := false, supLock := true } }
  .next (settle (if faultable s then flyFault 9 0xF s else s))

/-- PLL_A_LOSS (R403). -/
def execPllALoss (s : State) : Res :=
  if !s.core ∨ !s.clk.aLock then .next s else
  let t := { s with clk := { s.clk with aLock := false } }
  if s.clk.bLock then
    .next ((logRec 0x13 0 2 [] { t with clk := { t.clk with mainSel := true } }).bump offCLK_CNT 31 0 1)
  else .next (settle (rootLost t))

/-- PLL_B_LOSS (R403). -/
def execPllBLoss (s : State) : Res :=
  if !s.core ∨ !s.clk.bLock then .next s else
  let t := { s with clk := { s.clk with bLock := false } }
  if s.clk.aLock then .next (logRec 0x13 0 3 [] t) else .next (settle (rootLost t))

/-! Events (R304 to R309) -/

/-- The item index of a detail word. -/
def causeOf (d : BitVec 48) : Nat := d.toNat / 2 ^ 40 % 64

/-- What the source's own chapter does on its event, before the keeper decides (R25, R132, R161, R305, R355, R364). -/
def ownEffect (n : Nat) (severe : Bool) (d : BitVec 48) (s : State) : State :=
  let c := causeOf d
  if n < 0x100 then
    if severe then (if c = 4 then portRetire 2 n s else s)
    else if c = 1 then s.bump (offPORT_CNT + 0x1000 * n) 31 16 1 else s
  else if !severe then s
  else if n < 0x140 then engineRetire (n - 0x100) s
  else if n < 0x14C then (if 1 ≤ c ∧ c ≤ 3 then channelRetire c (n - 0x140) s else s)
  else if n < 0x150 then s
  else if n < 0x1B0 then flashChannelLost (n - 0x150) s
  else if n < 0x400 then s
  else if n < 0xA00 then dieLost (n - 0x400) s
  else s

/-- An event of a source reaches the keeper (R309). The keeper's own items (domains, ROOT, rails, windlass sets) take the path their
chapter gives. -/
def raise (n : Nat) (severe : Bool) (d : BitVec 48) (s : State) : State :=
  let off := match srcDomain n with | some k => !s.seq.lines.getLsbD k | none => false
  if off then s
  else if 0x1C0 ≤ n ∧ n < 0x1D8 then (if severe ∧ s.seq.pg.getLsbD (n - 0x1C0) then domainLost (n - 0x1C0) s else s)
  else if n = 0x1D8 then (if severe then rootLost s else s)
  else if n = 0x1E9 ∧ severe then loseSet 0 0xF s
  else if n = 0x1EA ∧ severe then loseSet 1 0xF s
  else if 0x200 ≤ n ∧ n < 0x240 then railDown (n - 0x200) s
  else report n severe d (ownEffect n severe d s)

/-- KEEPER_EVENT (R304, R309). -/
def execKeeperEvent (src : BitVec 12) (severe : Bool) (detail : BitVec 48) (s : State) : Res :=
  if s.clk.aon then .next (settle (raise src.toNat severe detail s)) else .next s

/-- A line fault of a DUAL source (R306): a severe event that names no item; it stops KEEP_ALIVE (R319), and its pair is ignored until
program 0 next starts. -/
def lineFaulted (n : Nat) (s : State) : State :=
  if eMode (keepEntry s n) ≠ 1 ∨ !heard s n then s else
  let s := decideEvent n true noItem true (s.bump offKEEP_CNT 15 0 1)
  let s := if s.keep.stopped then s else stopAlive s
  s.updSrc n (fun x => { x with lineFault := true })

/-- LINE_FAULT (R306). -/
def execLineFault (src : BitVec 12) (s : State) : Res :=
  if s.clk.aon then .next (settle (lineFaulted src.toNat s)) else .next s

/-- SHUTDOWN_GRACE_EXPIRY (R209, R311): an orderly power-down; the handling that waited for it ends (R315). -/
def execShutdownGraceExpiry (s : State) : Res :=
  match s.seq.graceEnd with
  | none => .next s
  | some t =>
    if s.now < t then .next s
    else .next (settle (trigger 6 { s with seq := { s.seq with graceEnd := none }, keep := { s.keep with
      handling := s.keep.handling.filter (fun h => !h.2.2) } }))

/-! KEEP_ALIVE (R319) -/

/-- ALIVE_HOLD_END (R319). -/
def execAliveHoldEnd (s : State) : Res :=
  match s.keep.heldUntil with
  | none => .next s
  | some t =>
    if s.now < t then .next s
    else .next { s with keep := { s.keep with heldUntil := none, stopped := !s.keep.acked } }

/-! KEEP_CTRL (R310, R313, R319, R323) -/

/-- KEEP_CTRL is reached through BAR0. -/
def keepCommand (key : Byte) (f : State → State) (s : State) : Res :=
  if s.bar0 && key == 0x4B then .next (settle (cmdStart kKeep f s)) else .next s

def doAckAlive (s : State) : State :=
  if !s.keep.stopped then cmdEnd kKeep 2 s else
  cmdEnd kKeep 0 { s with keep := { s.keep with
    acked := true, stopped := s.keep.heldUntil.isSome, firstSrc := 0xFFF, firstOutcome := 0, firstDetail := 0, firstTime := 0,
    rootLost := false } }

/-- ACK_ALIVE (R319). -/
def execAckAlive (key : Byte) (s : State) : Res :=
  viaPort (.ackAlive key) false (fun s => keepCommand key doAckAlive s) s

/-- A source back to OK with its count cleared (R310). -/
def restoreSrc (n : Nat) (s : State) : State :=
  let s := s.updSrc n (fun x => { x with severe := false, times := [], items := [] })
  { s with keep := { s.keep with handling := s.keep.handling.filter (fun h => h.1 != n) } }

def doRestore (n : Nat) (s : State) : State :=
  if eMode (keepEntry s n) = 3 then cmdEnd kKeep 3 s
  else if !(s.src n).severe then cmdEnd kKeep 2 s
  else cmdEnd kKeep 0 (restoreSrc n s)

/-- RESTORE (R310). -/
def execRestore (key : Byte) (src : BitVec 12) (s : State) : Res :=
  viaPort (.restore key src) false (fun s => keepCommand key (doRestore src.toNat) s) s

def doRestoreAll (s : State) : State :=
  cmdEnd kKeep 0 (forEach ((s.keep.srcs.filter (fun p => p.2.severe)).map (·.1)) s restoreSrc)

/-- RESTORE_ALL (R310). -/
def execRestoreAll (key : Byte) (s : State) : Res :=
  viaPort (.restoreAll key) false (fun s => keepCommand key doRestoreAll s) s

def doAckWarn (s : State) : State :=
  if s.pins.warn && !s.keep.warnTill then cmdEnd kKeep 0 { s with pins := { s.pins with warn := false } } else cmdEnd kKeep 2 s

/-- ACK_WARN (R313). -/
def execAckWarn (key : Byte) (s : State) : Res :=
  viaPort (.ackWarn key) false (fun s => keepCommand key doAckWarn s) s

/-- An injection (R322), in factory test mode only: what the detail word holds is open, a free value (log 2). -/
def inject (w : Word) (s : State) : State :=
  if !s.keep.testMode ∨ fld w 63 63 = 0 then s else
  let n := fld w 11 0
  if fld w 62 62 = 1 then lineFaulted n s
  else
    let d := s.draw
    raise n (fld w 61 61 == 1) (d.2.truncate 48) d.1

/-- KEEP_INJECT (R322). -/
def execKeepInject (data : Word) (s : State) : Res :=
  viaPort (.keepInject data) false (fun s => if s.bar0 then .next (settle (inject data s)) else .next s) s

end Sys2Proof.Machine
end

