-- ==== Sys2Proof/Machine/Manifests.lean ====
section
/-! DEFINITION. Manifests (R221, R222), the opening of a run (R225, R228), and what a sluice writes: SLUICE_OPEN, the pound, the flush and
SEALED (R211). -/

namespace Sys2Proof.Machine

/-! Manifests (R221) -/

/-- The body of a manifest that carries contexts (R221), and its counters. -/
def ctxManifest (kind : Nat) (ctxs : Tbl Berth) (s : State) : Manifest :=
  { kind := kind, parts := [], runId := s.refloat.runId, first := 0, mask := 0, bseqHw := s.fmm.bseq, ckptSeq := s.fmm.ckptSeq,
    pageHw := s.fmm.pageSeq, tEvent := s.now, sbs := [], fails := [], ctxs := ctxs, tokens := [] }

/-- n barges of a manifest are formed, with their BSEQs; none where one of them cannot be. -/
def formParts (st : Stream) : Nat → State → Option (State × List (List Nat))
  | 0, s => some (s, [])
  | n + 1, s =>
    (formBarge st (quadsUp s) 5 [] none s).bind (fun t => (formParts st n t).map (fun x => (x.1, [t.fmm.bseq] :: x.2)))

/-- A manifest's PARTS barges are formed and it joins those on flash; without room for all of them nothing is formed. -/
def writeManifest (st : Stream) (m : Manifest) (s : State) : State :=
  match formParts st (partsOf m) s with
  | none => s
  | some (t, ps) => { t with fmm := { t.fmm with manifests := t.fmm.manifests ++ [{ m with parts := ps, bseqHw := t.fmm.bseq }] } }

/-- The registered tokens, by port (R357). -/
def tokensOf (s : State) : Tbl Word := s.ports.filterMap (fun p => if p.2.token = 0 then none else some (p.1, p.2.token))

/-- The contexts of the berths that are not FREE with generation 0. -/
def contexts (s : State) : Tbl Berth := s.berths.map (fun p => (p.1, { p.2 with chain := [], flights := [] }))

/-- A manifest of a sluice. -/
def sluiceManifest (kind : Nat) (s : State) : Manifest :=
  { ctxManifest kind [] s with first := s.sluice.first, mask := s.sluice.mask, tEvent := s.sluice.tTrigger }

/-- The newest good manifest, by BSEQ, of those that can be read now (R222, R223). -/
def newestManifest (ok : Nat → Nat → Bool) (s : State) : Option Manifest :=
  minBy (fun m => 2 ^ 56 - m.bseq) (s.fmm.manifests.filter (fun m => m.good ok s))

/-- No header and no CRC fails. -/
def allOk (_ _ : Nat) : Bool := true

/-- The manifest of a kind of the run. -/
def ofRun (s : State) (kind : Nat) : Option Manifest := s.fmm.manifests.find? (fun m => m.kind == kind && m.runId == s.refloat.runId)

/-! The new run (R225, R228) -/

def State.setRefloat (s : State) (r : Refloat) : State := { s with refloat := r }

/-- The refloat segment and RUN_OPEN of the new run. Both are formed, or neither while the blocks that they would open await their
blank checks (R179, R225). -/
def openTry (s : State) : State :=
  let t := writeSegment .control s
  let m := { ctxManifest 1 (contexts t) t with tokens := tokensOf t }
  let u := writeManifest .control m t
  if t.fmm.segs.length = s.fmm.segs.length ∨ u.fmm.manifests.length = t.fmm.manifests.length then s
  else u.setRefloat { u.refloat with opened := true }

/-- Run r + 1 is opened (R225). -/
def openRun (s : State) : State := openTry (s.setRefloat { s.refloat with stage := 4, runId := s.refloat.runId + 1 })

/-- The run has its new number, its verification is done, and its segment and manifest are still to be formed. -/
def openWaits (s : State) : Bool :=
  s.refloat.stage == 4 && !s.refloat.opened && (newestManifest allOk s).map (·.runId) != some s.refloat.runId

/-! SLUICE_OPEN and the pound (R211) -/

/-- SLUICE_OPEN (R211, R221). -/
def writeOpen (s : State) : State :=
  writeManifest .sluice { sluiceManifest 2 s with ckptSeq := newestCkpt s, ctxs := contexts s, tokens := tokensOf s } s

/-- The key of the sluice stream's barge in assembly for the pair or couple of a record: all of them drain at once (R211). -/
def pairKey (p : Place) : Nat := 16 + p.chs.headD 0 % 6

/-- Each pair's records that are only in the pound are placed into its sluice barge, oldest commitment first (R211). -/
def sluicePound (s : State) : State :=
  forEach (sortBy (fun x => x.2.1.tCommit) (unspilled s)) s (fun x s =>
    match x.2.1.place with
    | some p => asmAdd .sluice (pairKey p) (entOf x.1 x.2.1 none) (dramRead .sluice p x.2.1.len s)
    | none => s)

/-- The last barge of each stream closes (R211). -/
def closeStreams (s : State) : State := forEach (s.fmm.asm.map (·.1)) s (closeAsm .sluice)

/-! The flush and SEALED (R211, R221) -/

/-- The superblocks that SEALED lists (R221): those of the sluice with records, and those of running not VERIFIED. -/
def sealedSbs (s : State) : List Nat :=
  (s.fmm.sbs.filter (fun p => (p.2.st == 1 || p.2.st == 2) &&
    (p.2.stream != .sluice || (rowsOf s p.1).any (fun r => r.2.kind == 1)))).map (·.1)

/-- Every row that the sluice has formed is programmed, its parity too, and no barge waits to be moved. -/
def sluiceProgrammed (s : State) : Bool :=
  s.fmm.asm.isEmpty && (leaving s).isEmpty && (openSbs s).all (fun p => decide (p.2.issued ≤ p.2.rows))

def setFlush (n : Nat) (s : State) : State := { s with sluice := { s.sluice with flush := n } }

/-- Dirty chain pages of the flush (R168): all of them formed, or it is tried again. -/
def flushPages (s : State) : State :=
  let t := writePages .sluice false (dirtyPages s) s
  if t.fmm.bseq = s.fmm.bseq + ceilDiv (dirtyPages s).length 256 then setFlush 1 t else t

/-- The sluice checkpoint segment. -/
def flushSegment (s : State) : State :=
  let t := writeSegment .sluice s
  if t.fmm.segs.length = s.fmm.segs.length then t else setFlush 2 t

/-- SEALED; never without SLUICE_OPEN (R222). -/
def flushSealed (s : State) : State :=
  let m := { sluiceManifest 3 s with ckptSeq := s.fmm.ckptSeq, sbs := sealedSbs s, fails := s.fmm.failed }
  let t := if (ofRun s 2).isSome then writeManifest .sluice m s else s
  if t.fmm.manifests.length = s.fmm.manifests.length then t else setFlush 3 t

/-- Records are only in the pound again, after a loss: what the flush has formed of SEALED does not stand (R218). -/
def flushBack (s : State) : State :=
  let keep := s.fmm.manifests.filter (fun m => !(m.kind == 3 && m.runId == s.refloat.runId))
  closeStreams (sluicePound (setFlush 0 { s with fmm := { s.fmm with manifests := keep } }))

/-- A step of the flush: it begins only when the steps before it have ended (R211). -/
def flushStep (s : State) : State :=
  if !(unspilled s).isEmpty ∨ !s.fmm.asm.isEmpty then flushBack s
  else if !sluiceProgrammed s then s
  else match s.sluice.flush with
    | 0 => flushPages s
    | 1 => flushSegment s
    | 2 => flushSealed s
    | _ => s

/-- SLUICE_OPEN is still to be formed. -/
def sluiceWaits (s : State) : Bool := s.sluice.phase == 2 && (ofRun s 2).isNone

/-- SLUICE_OPEN stands: the pound follows (R211, R312). -/
def openWritten (s : State) : Bool := match ofRun s 2 with | some m => m.written s | none => false

/-- A sluice goes on as its rows are programmed, its moves made and its blocks checked (R179, R211, R312, log 52). -/
def sluiceGo (s : State) : State :=
  if s.weir.st ≠ .sluice then s else
  let s := moveWaiting s
  match s.sluice.phase with
  | 2 =>
    if sluiceWaits s then writeOpen s
    else if openWritten s then sluicePound { s with sluice := { s.sluice with phase := 3, openWritten := true } } else s
  | 3 => sluicePound s
  | 4 => flushStep (flushStep (flushStep s))
  | _ => s

/-- What waited for a block to be checked goes on: the sluice, the new run, the spill engine (R179, log 52). -/
def blankGo (s : State) : State :=
  if s.weir.st = .sluice then sluiceGo s else if openWaits s then openTry s else spillRun (spillFlags s)

end Sys2Proof.Machine
end

