-- ==== Sys2Proof/Machine/Sanitizing.lean ====
section
/-! DEFINITION. Shared operations of sanitize (R201 to R204): its marker, its steps and what takes it from one to the next. -/

namespace Sys2Proof.Machine

def State.setSan (s : State) (x : San) : State := { s with fmm := { s.fmm with san := x } }

/-! The marker (R201, R202) -/

/-- The bytes that a marker copy's CRC-32C covers: their layout is not given (log 59). -/
def markBytes (m : SanMark) : List Byte :=
  leBytes 8 m.n ++ leBytes 4 m.state ++ leBytes 4 m.step ++ leBytes 8 m.start ++ leBytes 8 m.bseq ++ leBytes 8 m.ckpt ++ leBytes 8 m.page ++
    leBytes 4 m.run ++ m.progress.flatMap (fun p => leBytes 4 p.1 ++ leBytes 4 p.2) ++ m.wearSbs.flatMap (leBytes 4) ++
    m.failed.flatMap (leBytes 4)

def SanMark.good (m : SanMark) : Bool := m.crc == crc32c (markBytes m)

/-- The copy that stands: the good one written last. -/
def San.standing (x : San) : Option SanMark :=
  match x.copy0.filter (·.good), x.copy1.filter (·.good) with
  | some a, some b => some (if a.n < b.n then b else a)
  | some a, none => some a
  | none, b => b

/-- Write the marker: over the other copy, under the next number (R202). -/
def markWrite (s : State) : State :=
  let x := s.fmm.san
  let n := (match x.standing with | some m => m.n | none => 0) + 1
  let m : SanMark := ⟨n, x.marker, x.mStep, x.mStart, x.mProgress, x.mBseq, x.mCkpt, x.mPage, x.mRun, x.wearSbs, x.failed, 0⟩
  let m := { m with crc := crc32c (markBytes m) }
  s.setSan (if n % 2 = 0 then { x with copy0 := some m } else { x with copy1 := some m })

/-- Read the marker at a start (R203). -/
def markRead (s : State) : State :=
  let x := s.fmm.san
  match x.standing with
  | none => s.setSan { x with marker := 0 }
  | some m => s.setSan { x with
      marker := m.state, mStep := m.step, mStart := m.start, mProgress := m.progress, mBseq := m.bseq, mCkpt := m.ckpt, mPage := m.page,
      mRun := m.run, wearSbs := m.wearSbs, failed := m.failed }

/-- The marker moves to a step and is written. -/
def markStep (n : Nat) (s : State) : State := markWrite (s.setSan { s.fmm.san with mStep := n })

/-! Erases (R201, R202) -/

/-- Blocks of the wear record (R201). -/
def isWear (s : State) (die block : Nat) : Bool := s.fmm.san.wearSbs.any (fun k => (tget [] s.fmm.laid k).contains (die, block))

/-- The block at a place of a channel's order. -/
def sanPlace (s : State) (c j : Nat) : Nat × Nat := (16 * c + j / max s.FMM_GEOM0_BLOCKS 1, j % max s.FMM_GEOM0_BLOCKS 1)

/-- The block of a channel whose turn it is (R178, R202): one at a time, the wear record's passed over. -/
def sanTurn (s : State) (c : Nat) : Option Nat :=
  if flashChan s c ≠ 1 then none else
  (List.range (s.FMM_GEOM0_TARGETS * s.FMM_GEOM0_BLOCKS)).find? (fun j =>
    let p := sanPlace s c j
    decide (tget 0 s.fmm.san.turn c ≤ j) && dieUp s p.1 && !isWear s p.1 p.2)

/-- An erase of sanitize is issued: EC + 1 first (R176). -/
def sanCount (p : Nat × Nat) (s : State) : State :=
  let n := blkNo s p.1 p.2
  flashCmd .erase p.1 p.2 0 (s.setBlk n { s.blk n with ec := sat 20 ((s.blk n).ec + 1) })

/-- Issue the next erase of a channel. -/
def sanIssue (c : Nat) (s : State) : State :=
  match sanTurn s c with
  | none => s
  | some j => sanCount (sanPlace s c j) (s.setSan { s.fmm.san with turn := tset 0 s.fmm.san.turn c j })

/-- A block as an erase of sanitize leaves it (R176). -/
def sanBlk (b : Blk) (pass : Bool) : Blk :=
  if b.st = 6 then b else if pass then ⟨0, b.ec, 0, 0, false, 0⟩ else { b with st := 6, cause := 2, blank := false }

/-- An erase of sanitize ends. -/
def sanErased (die block : Nat) (pass : Bool) (s : State) : State :=
  let n := blkNo s die block
  let b := s.blk n
  let s := clearBlock die block (if pass then s else s.bump offFMM_CNT_FAIL 31 0 1)
  let x := { s.fmm.san with
    doneBlocks := s.fmm.san.doneBlocks + 1, unerased := s.fmm.san.unerased + (if b.st = 6 ∧ !pass then 1 else 0),
    failed := if pass then s.fmm.san.failed else s.fmm.san.failed ++ [n] }
  lifeChecks ((s.setSan x).setBlk n (sanBlk b pass))

/-! The steps (R201) -/

/-- Step 1: collection, wear levelling and checkpoints stop; programs and erases in progress run to their end. -/
def sanBegin (s : State) : State :=
  let s := dropStreams s
  s.setSan { s.fmm.san with st := 1, result := 0, unerased := 0, doneBlocks := 0, total := blocksUp s, mStep := 1, wearSbs := [], failed := [] }

/-- No program and no erase is in progress. -/
def sanQuiet (s : State) : Bool :=
  (openSbs s).all (fun p => decide (p.2.started ≤ p.2.rows)) && s.fmm.blocks.all (fun p => p.2.st != 5)

/-- Step 2: the marker, in state RUNNING. What the wear record is to hold is taken. -/
def sanMark (s : State) : State :=
  let gens := s.berths.filterMap (fun p => if p.2.gen = 0 then none else some (p.1, p.2.gen))
  markStep 3 (s.setSan { s.fmm.san with
    marker := 1, mStart := s.now, mProgress := [], mBseq := s.fmm.bseq, mCkpt := s.fmm.ckptSeq, mPage := s.fmm.pageSeq, mRun := s.refloat.runId,
    wearSbs := [], failed := [], wear := s.fmm.blocks, wSpill := s.fmm.spillBytes, wFlash := s.fmm.flashBytes, gens := gens, turn := [] })

/-- Open a new superblock in the first quadrant of a list that can. -/
def sanOpen (qs : List Nat) (s : State) : Option (Nat × State) := qs.findSome? (fun q => openSb .control q s)

/-- Step 3: the wear record into two new superblocks, in different quadrants where two are in service. Nothing is done while they cannot
be opened. -/
def sanWear (s : State) : State :=
  let qs := quadsUp s
  let e : DirEnt := ⟨0, 0, 0, 0, 0, 0, none⟩
  match sanOpen qs s with
  | none => s
  | some (k, a) =>
    match sanOpen (if 1 < qs.length then qs.filter (fun q => q != (a.sb k).quadrant) else qs) a with
    | none => s
    | some (m, b) =>
      match formOn k .control 3 [e] none b with
      | none => s
      | some c =>
        match formOn m .control 3 [e] none c with
        | none => s
        | some d => issueNext m (issueNext k (d.setSan { d.fmm.san with wearSbs := [k, m] }))

/-- Step 4: every channel's first erase. -/
def sanErase (s : State) : State :=
  let s := markStep 4 (s.setSan { s.fmm.san with total := blocksUp s })
  forEach ((List.range 96).filter (fun c => flashChan s c == 1)) s sanIssue

/-- Step 5: a new checkpoint of an empty basin, then the SANITIZED manifest. -/
def sanEmpty (s : State) : State :=
  let keep := s.fmm.sbs.filter (fun p => s.fmm.san.wearSbs.contains p.1)
  let s := { s with fmm := { s.fmm with barges := [], pages := [], sbs := keep, segs := [], manifests := [] } }
  let ctxs : Tbl Berth := s.fmm.san.gens.map (fun p => (p.1, { Berth.none with gen := p.2 }))
  let s := writeSegment .control (markStep 5 (s.setSan { s.fmm.san with mProgress := s.fmm.san.turn }))
  writeManifest .control { ctxManifest 4 ctxs s with runId := s.fmm.san.mRun } s

/-- Step 6: the wear record's blocks. -/
def sanLast (s : State) : State :=
  let l := (s.fmm.san.wearSbs.flatMap (fun k => tget [] s.fmm.laid k)).filter (fun p => p != goneSlot)
  forEach l (markStep 6 s) sanCount

/-- Step 7: the marker DONE, the empty basin mounted; SANITIZED tells the end of sanitize (R221). Where no refloat has run, it begins
(R204). -/
def sanEnd (s : State) : State :=
  let sbs := s.fmm.sbs.filter (fun p => !s.fmm.san.wearSbs.contains p.1)
  let s := { s with fmm := { s.fmm with sbs := sbs, san := { s.fmm.san with st := 2, marker := 2, wearSbs := [], wear := [] } } }
  let s := markStep 7 s
  if s.refloat.stage = 0 then { s with refloat := { s.refloat with stage := 1 } } else s

/-- ERASE_DONE in step 4: the channel goes on, and step 5 follows the last channel (R201, R202). -/
def sanStep4 (die block : Nat) (pass : Bool) (s : State) : State :=
  let c := channelOfDie die
  match sanTurn s c with
  | none => s
  | some j =>
    if sanPlace s c j ≠ (die, block) then s else
    let s := sanErased die block pass s
    let s := sanIssue c (s.setSan { s.fmm.san with turn := tset 0 s.fmm.san.turn c (j + 1) })
    if (List.range 96).all (fun c => (sanTurn s c).isNone) then sanEmpty s else s

/-- ERASE_DONE in step 6. -/
def sanStep6 (die block : Nat) (pass : Bool) (s : State) : State :=
  if !isWear s die block then s else
  let s := sanErased die block pass s
  if s.fmm.san.wearSbs.all (fun k => (tget [] s.fmm.laid k).isEmpty) then sanEnd s else s

/-- Sanitize goes on where it waited: for what was in progress (step 1), or for blocks to be checked before they are opened (R179). -/
def sanGo (s : State) : State :=
  let x := s.fmm.san
  if x.st ≠ 1 then s
  else if x.mStep = 1 then (if sanQuiet s then sanWear (sanMark s) else s)
  else if x.mStep = 3 ∧ x.wearSbs.isEmpty then sanWear s
  else if x.mStep = 5 ∧ (s.fmm.segs.isEmpty ∨ s.fmm.manifests.isEmpty) then sanEmpty s
  else s

/-- A program fails in sanitize (R180): the wear record is written anew; what the empty basin holds is moved. -/
def sanProgramFailed (k n : Nat) (s : State) : State :=
  let s := retireBlock n 1 (closeSb k (s.bump offFMM_CNT_FAIL 63 32 1))
  if s.fmm.san.mStep = 3 then sanWear (s.setSan { s.fmm.san with wearSbs := [] })
  else if s.fmm.san.mStep = 5 then moveFrom k 0 s
  else sanGo s

/-- What a verified superblock brings in sanitize: step 4 after the wear record, step 6 after the checkpoint and the manifest; a
record that failed is written anew. -/
def sanVerified (failed : Bool) (s : State) : State :=
  let x := s.fmm.san
  if x.mStep = 3 then
    if failed then sanWear (s.setSan { x with wearSbs := [] })
    else if x.wearSbs.length = 2 ∧ x.wearSbs.all (fun k => (s.sb k).st == 3) then sanErase s else s
  else if x.mStep = 5 then
    (if (leaving s).isEmpty ∧ s.fmm.sbs.all (fun p => p.2.st == 3 || p.2.st == 0) then sanLast s else moveWaiting s)
  else s

end Sys2Proof.Machine
end

