-- ==== Sys2Proof/Machine/Barges.lean ====
section
/-! DEFINITION. The meanings of the basin's program, verification, read, checkpoint and chart commands (R146 to R182, R192,
R214). -/

namespace Sys2Proof.Machine

/-! Barges close (R151) -/

/-- BARGE_WAIT_EXPIRY (R151): in running, BARGE_WAIT after its first record. -/
def execBargeWaitExpiry (stream : Stream) (s : State) : Res :=
  let a := s.asmOf (streamKey stream)
  if !s.basinLive || s.weir.st == .sluice || a.dir.isEmpty || decide (s.now < a.since + s.FMM_GEOM1_BARGE_WAIT) then .next s
  else .next (settle (collModes (segmentDue (closeAsm stream (streamKey stream) s))))

/-! Programs (R156, R157, R176 to R182) -/

/-- The open superblock that holds a block. -/
def openOf (s : State) (die block : Nat) : Option (Nat × Sb) :=
  (openSbs s).find? (fun p => p.2.slots.contains (die, block))

/-- Record granules of a row in one of its chunks. -/
def recordIn (r : Row) (j : Nat) : Nat :=
  (r.dir.map (fun e => min (e.off + e.len) (128 * (j + 1)) - max e.off (128 * j))).sum

/-- All 16 data chunks of a row. -/
def rowWhole (c : BitVec 17) : Bool := (List.range 16).all (fun j => c.getLsbD j)

/-- A row of a superblock is programmed, parity and all: close at the 1,024th, or early where no row waits and the superblock is
finished with (R153, R157, R201, R225); else the next row's turn. -/
def rowDone (k : Nat) (s : State) : State :=
  let b := s.sb k
  let s := s.setSb k { b with rows := b.rows + 1 }
  let early := decide (b.issued ≤ b.rows + 1) && ((s.weir.st == .sluice && b.stream != .sluice) || s.fmm.san.st == 1 || s.refloat.stage == 4)
  if 1024 ≤ b.rows + 1 ∨ early then closeSb k s else issueNext k s

/-- The parity chunk of a row is programmed once its 16 data chunks have been (R156). -/
def parityTurn (k row : Nat) (s : State) : State :=
  let p := (s.sb k).slots.getD 16 (0, 0)
  flashCmd .program p.1 p.2 row s

/-- A row's data chunks are all programmed: its barge is WRITTEN, chain pages are on flash, and parity follows. -/
def rowWritten (k row : Nat) (s : State) : State :=
  let r := s.row k row
  let s := if rowCurrent s k row r then s.setBarge r.barge { s.barge r.barge with st := 2 } else s
  let s := if r.kind = 4 then framesOut (chartWrites [] (cleanPages r.barge r s)) else s
  parityTurn k row s

/-- A chunk of a row has been programmed: what the spill engine programmed counts as spilled, relocations apart (R198). -/
def chunkDone (k j row : Nat) (s : State) : State :=
  let b := s.sb k
  let p := b.slots.getD j (0, 0)
  let n := blkNo s p.1 p.2
  let s := s.setBlk n { s.blk n with nextRow := row + 1 }
  let r := s.row k row
  let r := { r with chunks := r.chunks ||| BitVec.ofNat 17 (2 ^ j) }
  let s := countChunk (if r.kind = 1 ∧ b.stream = .spill ∧ !r.moved then recordIn r j else 0) (s.setRow k row r)
  let s := if r.kind = 1 ∧ rowCurrent s k row r then persist r.barge r s else s
  let whole := rowWhole r.chunks
  let s := if whole ∧ j < 16 then rowWritten k row s else s
  sluiceGo (if whole ∧ r.chunks.getLsbD 16 then rowDone k s else s)

/-- The turn of a chunk: the row of the superblock that is being programmed, the block at that row, parity last (R156). -/
def chunkTurn (s : State) (k j row n : Nat) : Bool :=
  let b := s.sb k
  row == b.rows && decide (b.rows < b.started) && (s.blk n).st == 1 && (s.blk n).nextRow == row &&
    (decide (j < 16) || rowWhole (s.row k row).chunks)

/-- CHUNK_PROGRAM_DONE (R176). -/
def execChunkProgramDone (die : Fin 1536) (block : Fin 4096) (row : Fin 1024) (s : State) : Res :=
  match openOf s die.val block.val with
  | none => .next s
  | some (k, b) =>
    match slotOf b die.val block.val with
    | none => .next s
    | some j =>
      if !s.core || !chunkTurn s k j row.val (blkNo s die.val block.val) then .next s
      else if s.fmm.san.st = 1 then .next (settle (sanGo (chunkDone k j row.val s)))
      else .next (settle (collModes (upkeep (segmentDue (spillRun (spillFlags (chunkDone k j row.val s)))))))

/-- A program has failed at a row: in a sluice only the barges not yet whole are written again (R182), in running all of them (R180). Once
they have been moved and programmed elsewhere the superblock is garbage, which sweep finds. -/
def programFailed (k n row : Nat) (s : State) : State :=
  let s := retireBlock n 1 (closeSb k (s.bump offFMM_CNT_FAIL 63 32 1))
  let blocks := max s.FMM_GEOM0_BLOCKS 1
  if s.weir.st = .sluice then
    sluiceGo (moveFrom k row { s with fmm := { s.fmm with failed := s.fmm.failed ++ [(n / blocks, n % blocks)] } })
  else moveFrom k 0 s

/-- PROGRAM_FAIL (R180, R182). -/
def execProgramFail (die : Fin 1536) (block : Fin 4096) (s : State) : Res :=
  let n := blkNo s die.val block.val
  match openOf s die.val block.val with
  | none => .next s
  | some (k, b) =>
    if !s.core || decide (b.started ≤ b.rows) || (s.blk n).st != 1 || (s.blk n).nextRow != b.rows then .next s
    else if s.fmm.san.st = 1 then .next (settle (sanProgramFailed k n s))
    else .next (settle (collModes (upkeep (programFailed k n b.rows s))))

/-! Read-back (R20, R158, R159, R169, R192) -/

/-- A record of a verified barge: a collected copy takes over the chain entry if that still names the place copied from (R192);
then the pound copies of a record that stands here are released (R20). -/
def verifyEntry (g : Nat) (e : DirEnt) (s : State) : State :=
  match (s.berth e.berth).chain.find? (fun x => x.seq == e.seq) with
  | none => s
  | some x =>
    let moved := e.src.isSome && x.basin == e.src
    let here := moved || x.basin == some (g, e.off)
    let s := match e.src with
      | some o => if moved then bargeLess o.1 x.len s else s
      | none => s
    if !here then s
    else if !moved ∧ x.place.isNone then s
    else touchEntry e.berth e.seq (s.updBerth e.berth (fun b => { b with
      held := if x.place.isSome then b.held - x.len else b.held,
      chain := b.chain.map (fun y => if y.seq = e.seq then { y with place := none, basin := some (g, e.off) } else y) }))

/-- A chain page of a verified collection barge: its table entry takes the new place if it still names the old one (R192). -/
def verifyPage (g : Nat) (e : DirEnt) (s : State) : State :=
  let p := s.page e.berth
  match e.src with
  | none => s
  | some o => if 2 ≤ p.st ∧ (p.barge, p.slot) = o ∧ p.pageSeq = e.seq then s.setPage e.berth { p with barge := g, slot := e.off / 8 } else s

/-- Granules of a barge that the chains still name. -/
def liveOf (s : State) (g : Nat) (dir : List DirEnt) : Nat :=
  (dir.map (fun e => if (s.berth e.berth).chain.any (fun x => x.seq == e.seq && x.basin == some (g, e.off)) then e.len else 0)).sum

/-- A barge is VERIFIED. -/
def verifyBarge (r : Row) (s : State) : State :=
  let g := r.barge
  let s := if r.kind = 1 then forEach r.dir s (verifyEntry g) else if r.kind = 4 then forEach r.dir s (verifyPage g) else s
  s.setBarge g { s.barge g with st := 3, live := if r.kind = 1 then liveOf s g r.dir else 0 }

/-- Every chunk left passes (R158): its barges and the superblock VERIFIED, pound copies released, the parity block to
collection. A barge that waits to be moved is not verified here. -/
def verifySb (k : Nat) (s : State) : State :=
  let b := s.sb k
  let s := forEach ((rowsOf s k).filter (fun r => rowCurrent s k r.1 r.2 && !b.leave.contains r.1)) s (fun r s => verifyBarge r.2 s)
  let s := forEach (b.slots.drop 16) s (fun p s => toGarbage (blkNo s p.1 p.2) s)
  let segs := s.fmm.segs.map (fun g => if g.sb = k then { g with verified := true } else g)
  trimSegs (({ s with fmm := { s.fmm with segs := segs } }).setSb k { b with st := 3, slots := b.slots.take 16 })

/-- A codeword that passes read-back: decoded at step 1 with at most VERIFY_BITS corrected bits (R158). -/
def cwPasses (s : State) (c : CwRead) : Bool :=
  match c with
  | .bits n => decide (n ≤ s.FMM_GEOM1_VERIFY_BITS)
  | _ => false

/-- The slots of a row whose chunk has a codeword of a kind. -/
def badSlots (f : CwRead → Bool) (row : Nat) (cws : List (Fin 1024 × Fin 17 × Fin 16 × CwRead)) : List Nat :=
  ((cws.filter (fun x => x.1.val == row && f x.2.2.2)).map (fun x => x.2.1.val)).dedup

/-- Chunks of a row fail read-back (R159): the row's barge is written anew, from flash only where at most one chunk is lost, and the blocks are
retired, a parity block among them. -/
def readbackFail (k row : Nat) (cws : List (Fin 1024 × Fin 17 × Fin 16 × CwRead)) (s : State) : State :=
  let slots := badSlots (fun c => !cwPasses s c) row cws
  let lost := badSlots (fun c => c == .lost) row cws
  let s := if rowCurrent s k row (s.row k row) then rewriteRow k row (decide (lost.length ≤ 1)) s else s
  forEach slots s (fun j s =>
    let p := (s.sb k).slots.getD j (0, 0)
    let n := blkNo s p.1 p.2
    if (s.blk n).st = 2 then retireBlock n 3 s else s)

/-! Erases -/

/-- An erase has passed: ERASED, space that collection has produced (R197, log 14), or RETIRED at the limit (R176, R187). -/
def erasePassed (die block n : Nat) (s : State) : State :=
  let b := s.blk n
  let s := clearBlock die block s
  if s.FMM_WEAR_ERASE_LIMIT ≤ b.ec then retireBlock n 4 s
  else ({ s with fmm := { s.fmm with produced := s.fmm.produced + blkUnits } }).setBlk n { b with st := 0, nextRow := 0, cause := 0, blank := false }

/-- An erase has failed (R176, R183). -/
def eraseFailed (n : Nat) (s : State) : State := retireBlock n 2 (s.bump offFMM_CNT_FAIL 31 0 1)

/-! Basin reads (R146, R192, R193, R214) -/

/-- A FETCH's basin read ends, with what became of the codewords that the record occupies: in the drain of a sluice it is carried out only
when all decoded at the first step, and nothing is read again (R213, R214). -/
def fetchRead (i : Nat) (cws : List CwRead) (s : State) : State :=
  let b := s.berth i
  let f? := b.flights.find? (fun f => match f.stage with | .basin _ => true | _ => false)
  match f? with
  | none => s
  | some f =>
    match f.stage, f.desc with
    | .basin q, some d =>
      match b.chain.find? (fun r => r.seq == q) with
      | none => goOn i (finishFlight i f.idx (Cpl.now s lostMedium q) s)
      | some r =>
        let drain := s.weir.st == .sluice
        let defer := drain && !cwsFirst cws
        let s := match r.basin with
          | some (g, o) => if drain then s else reReads cws g o r.len s
          | none => s
        let r := if defer then { r with len := min r.len d.length } else r
        goOn i (endFetch i f d r defer (!defer && !cwsRead cws) s)
    | _, _ => s

/-- Wear levelling pauses while a quadrant is in foreground collection, and while WL_PAUSE is 1 (R189). -/
def wearPaused (s : State) : Bool := s.fmm.fg != 0 || s.FMM_CTRL_WL_PAUSE == 1

/-- The read of the record at the head of a move's list is issued (R192). -/
def collectNext (key : Nat) (s : State) : State :=
  match (tget Coll.none s.fmm.coll key).toRead with
  | [] => s
  | (i, n) :: _ =>
    match ((s.berth i).chain.find? (fun r => r.seq == n)).bind (fun r => r.basin.map (fun g => (g, r.len))) with
    | some ((g, o), len) => if g = lostBarge then s else readRun none g o len s
    | none => s

/-- A move's copy of the record at the head of its list, staged in the work slice (R192), or its loss (R193). -/
def collectRead (key : Nat) (cws : List CwRead) (s : State) : State :=
  let c := tget Coll.none s.fmm.coll key
  match c.toRead with
  | [] => s
  | (i, n) :: t =>
    let s := { s with fmm := { s.fmm with coll := tset Coll.none s.fmm.coll key { c with toRead := t } } }
    collectNext key (match (s.berth i).chain.find? (fun r => r.seq == n) with
    | none => s
    | some r =>
      match r.basin with
      | none => s
      | some (g, o) =>
        if g = lostBarge ∨ (s.barge g).sb ≠ c.victim.getD 0 then s
        else
          let st := if c.wear then Stream.wear else .collect
          let s := reReads cws g o r.len s
          if cwsRead cws then asmAdd st (streamKey st) (entOf i r r.basin) s
          else bargeLess g r.len (touchEntry i n (s.updBerth i (fun b => { b with
            chain := b.chain.map (fun y => if y.seq = n then { y with basin := some (lostBarge, 0) } else y) }))))

/-- The move of a quadrant that a read was for: collection's while it has records to read, else wear levelling's unless it pauses. -/
def readKey (s : State) (q : Nat) : Option Nat :=
  if !(tget Coll.none s.fmm.coll (collKey q false)).toRead.isEmpty then some (collKey q false)
  else if wearPaused s then none else some (collKey q true)

/-- BASIN_READ_DONE (R146): cws tells of each codeword that the record occupies. -/
def execBasinReadDone (who : ReadFor) (cws : List CwRead) (s : State) : Res :=
  match who with
  | .fetch b => .next (settle (fetchRead b.toNat cws s))
  | .collect q => if s.basinLive && s.weir.st != .sluice then
      match readKey s q.val with
      | some key => .next (settle (upkeep (collectRead key cws s)))
      | none => .next s
    else .next s

/-! Checkpoints and the chart (R168, R170, R171) -/

/-- CHECKPOINT_TIMER (R168). -/
def execCheckpointTimer (s : State) : Res :=
  if s.ready && s.basinLive && s.weir.st != .sluice && decide (s.fmm.tCkpt + 250000 ≤ s.now) then
    .next (settle (collModes (chartWrites [] (writeSegment .control s))))
  else .next s

/-- A chart page used, or missed: the read copy or the flash copy fills a frame and the slot is free; the 64th miss in a row stops
the chart, its other pages on flash (R170, R171, R173). -/
def chartPage (cpn : Nat) (hit : Bool) (s : State) : State :=
  let p := s.page cpn
  let s := s.setPage cpn { p with st := 2, loc := freeFrame s }
  let s := if hit then s else readRun none p.barge (8 * p.slot) 8 s
  let c : Chart := { s.chart with used := s.chart.used - 1, misses := if hit then 0 else s.chart.misses + 1 }
  let s := { s with chart := c }
  if hit then s.bump offCHART_CNT 63 32 1 else
  let s := s.bump offCHART_CNT 31 0 1
  if c.misses < 64 then s else
  let f := fun (_ : Nat) (p : Cpt) => if p.st = 3 then { p with st := 4 } else p
  { s with chart := { c with st := 2, used := 0 }, fmm := { s.fmm with pages := tmap Cpt.free f s.fmm.pages } }

/-- CHART_READ_DONE (R171, R368). -/
def execChartReadDone (cpn : BitVec 32) (ok crcOk : Bool) (pageBerth : BerthId) (pageCpn : BitVec 32) (pageSeq : Word) (s : State) : Res :=
  let p := s.page cpn.toNat
  if s.chart.st ≠ 1 ∨ p.st ≠ 3 then .next s else
  let hit := ok && hostReads s && crcOk && pageBerth.toNat == p.berth && pageCpn == cpn && pageSeq.toNat == p.pageSeq
  .next (settle (chartWrites [cpn.toNat] (framesOut (chartPage cpn.toNat hit s))))

end Sys2Proof.Machine
end

