-- ==== Sys2Proof/Machine/Upkeep.lean ====
section
/-! DEFINITION. The meanings of basin upkeep: blank checks, erases, collection, wear levelling, endurance, sanitize, and the end of a
read-back (R158, R176 to R204). -/

namespace Sys2Proof.Machine

/-! Collection and wear levelling (R189, R190, R192) -/

/-- Live granules of a superblock: LIVE of its barges, and 8 for each current control page (R192). -/
def sbLive (s : State) (k : Nat) : Nat :=
  let rows := (rowsOf s k).filter (fun r => rowCurrent s k r.1 r.2)
  (rows.map (fun r => (s.barge r.2.barge).live +
    8 * (s.fmm.pages.filter (fun p => decide (2 ≤ p.2.st) && p.2.barge == r.2.barge)).length)).sum

/-- The lowest BSEQ of a superblock. -/
def sbBseq (s : State) (k : Nat) : Nat := (((rowsOf s k).map (fun r => r.2.bseq)).min?).getD 0

/-- VERIFIED superblocks of a quadrant, lowest BSEQ first. -/
def verifiedSbs (s : State) (q : Nat) : List Nat :=
  sortBy (sbBseq s) ((s.fmm.sbs.filter (fun p => p.2.st == 3 && p.2.quadrant == q)).map (·.1))

/-- The records of a superblock still to be copied: named by the chains, and in no barge on its way. -/
def sbRecords (s : State) (k : Nat) : List (Nat × Nat) :=
  ((rowsOf s k).filter (fun r => r.2.kind == 1 && rowCurrent s k r.1 r.2)).flatMap (fun r =>
    (r.2.dir.filter (fun e =>
      (s.berth e.berth).chain.any (fun x => x.seq == e.seq && x.basin == some (r.2.barge, e.off)) &&
      !s.fmm.asm.any (fun p => p.2.dir.any (fun y => y.src == some (r.2.barge, e.off))) &&
      !s.fmm.rows.any (fun p => (s.barge p.2.barge).st < 3 && (s.barge p.2.barge).st != 0 &&
        p.2.dir.any (fun y => y.src == some (r.2.barge, e.off))))).map (fun e => (e.berth, e.seq)))

/-- The current chain pages of a superblock that no collection barge on its way copies. -/
def sbPages (s : State) (k : Nat) : List (Nat × Cpt) :=
  let gs := ((rowsOf s k).filter (fun r => rowCurrent s k r.1 r.2)).map (fun r => r.2.barge)
  let copied := fun (p : Cpt) => s.fmm.rows.any (fun x => x.2.kind == 4 && decide ((s.barge x.2.barge).st < 3) && (s.barge x.2.barge).st != 0 &&
    x.2.dir.any (fun e => e.src == some (p.barge, p.slot)))
  s.fmm.pages.filter (fun p => decide (2 ≤ p.2.st) && gs.contains p.2.barge && !copied p.2)

/-- Current control pages are moved as records are (R192): copied into a barge of the collection stream, their table entries updated when it
is VERIFIED. -/
def pagesOut (st : Stream) (k : Nat) (s : State) : State := writePages st true (sbPages s k) s

/-- A move takes up a superblock: its pages are copied and its first record is read. -/
def takeUp (key k : Nat) (wear : Bool) (s : State) : State :=
  let c : Coll := ⟨some k, sbRecords s k, wear⟩
  collectNext key (pagesOut (if wear then .wear else .collect) k { s with fmm := { s.fmm with coll := tset Coll.none s.fmm.coll key c } })

/-- Superblocks that no move of the quadrant has taken up. -/
def untaken (s : State) (q : Nat) : List Nat :=
  (verifiedSbs s q).filter (fun k => [false, true].all (fun w => (tget Coll.none s.fmm.coll (collKey q w)).victim != some k))

/-- Begin a move of a superblock's live content, or go on with one whose records have been read but not all moved. -/
def beginMove (q : Nat) (victim : Option Nat) (wear : Bool) (s : State) : State :=
  let key := collKey q wear
  let c := tget Coll.none s.fmm.coll key
  match c.victim with
  | some k => if c.toRead.isEmpty then takeUp key k wear s else if wear then collectNext key s else s
  | none =>
    match victim with
    | none => s
    | some k => takeUp key k wear s

/-- COLLECTION_MOVE (R190, R192). The rate of background collection is the sender's (log 14). -/
def execCollectionMove (q : Fin 4) (s : State) : Res :=
  let t := collModes s
  if !running s || !(fgOf s q.val || bgOf s q.val) then .next s
  else .next (settle (upkeep (beginMove q.val (minBy (sbLive t) (untaken t q.val)) false t)))

/-- EC of the blocks in service, unlisted ones at 0. -/
def ecList (s : State) : List Nat :=
  (s.fmm.blocks.filter (fun p => p.2.st != 6 && dieUp s (p.1 / max s.FMM_GEOM0_BLOCKS 1))).map (fun p => p.2.ec)

/-- max EC and min EC over blocks in service (R189). -/
def ecMax (s : State) : Nat := (ecList s).foldl max 0
def ecMin (s : State) : Nat := if (ecList s).length < blocksIn s then 0 else ((ecList s).min?).getD 0

/-- The lowest EC of a superblock's blocks. -/
def sbEc (s : State) (k : Nat) : Nat := (((s.sb k).slots.map (fun p => (s.blk (blkNo s p.1 p.2)).ec)).min?).getD 0

/-- WEAR_LEVEL_MOVE (R189). -/
def execWearLevelMove (q : Fin 4) (s : State) : Res :=
  if !running s || !quadUp s q.val || wearPaused s || decide (ecMax s - ecMin s ≤ s.FMM_WEAR_WL_SPREAD) then .next s
  else .next (settle (upkeep (beginMove q.val (minBy (sbEc s) (untaken s q.val)) true s)))

/-! Blank checks (R179) -/

/-- BLANK_CHECK_DONE (R176, R179). -/
def execBlankCheckDone (die : Fin 1536) (block : Fin 4096) (pass : Bool) (s : State) : Res :=
  let n := blkNo s die.val block.val
  let b := s.blk n
  if b.st ≠ 0 ∨ !b.blank ∨ !s.core then .next s
  else
    let s := s.setBlk n (if pass then { b with blank := false } else { b with blank := false, st := 3, gate := s.fmm.ckptSeq + 1 })
    .next (settle (sanGo (collModes (upkeep (blankGo s)))))

/-! Endurance (R199) -/

/-- The days that the window looks back on, and the totals (EC sum, flash, spill) at its beginning: those of the basin's first day are 0. -/
def lifeWindow (days : List (Nat × Nat × Nat)) (window : Nat) : Nat × (Nat × Nat × Nat) :=
  if window < days.length then (window, days.headD (0, 0, 0)) else (days.length, (0, 0, 0))

/-- LIFE_DAILY (R199): W per mille, R_e in milli-erases per block per day, SAFE_RATE in MB/s. Where nothing has ever been spilled, or W is 0,
the spec gives no value, and it is free (log 2). -/
def execLifeDaily (s : State) : Res :=
  if !running s then .next s else
  let ec := (ecList s).sum
  let n := max (blocksIn s) 1
  let keep := s.FMM_LIFE_CFG_WINDOW + 1
  let days := (((s.fmm.days ++ [(ec, s.fmm.flashBytes, s.fmm.spillBytes)]).reverse.take keep).reverse)
  let span := (lifeWindow days s.FMM_LIFE_CFG_WINDOW).1
  let first := (lifeWindow days s.FMM_LIFE_CFG_WINDOW).2
  let dEc := ec - first.1
  let dSpill := s.fmm.spillBytes - first.2.2
  let w := if dSpill = 0 then (s.fmm.flashBytes, s.fmm.spillBytes) else (s.fmm.flashBytes - first.2.1, dSpill)
  let d := s.draw
  let wr := if w.2 = 0 then d.2.toNat % 2 ^ 32 else w.1 * 1000 / w.2
  let left := s.FMM_WEAR_ERASE_LIMIT * n - ec
  let run := s.fmm.runDays + 1
  let life := if dEc = 0 then 0xFFFFFFFF else sat 32 (left * span / dEc)
  let dLeft := max (s.FMM_LIFE_CFG_TARGET_DAYS - run) 365
  let free := w.1 = 0 ∨ w.2 = 0
  let safe := if free then d.2.toNat / 2 ^ 32 else left * 67108864 * w.2 / (w.1 * 86400 * dLeft) / 1000000
  let s := if free then d.1 else s
  .next { s with fmm := { s.fmm with
    runDays := run, ecSum := ec, days := days, lifeDays := life, safeRate := sat 32 safe, wRatio := sat 32 wr,
    rE := sat 32 (dEc * 1000 / (n * span)), lifeShort := decide (life < s.FMM_LIFE_CFG_TARGET_DAYS - run) } }

/-! Sanitize (R200 to R204) -/

/-- The result of a START (R200): the first condition that fails. Before refloat ready no berth counts as FREE unless a sanitize runs (log
15). DESIGN CHOICE (log 26): the rule gives the key no place among the conditions, and BAD_KEY comes first. -/
def sanResult (s : State) (key : Byte) : Nat :=
  if key ≠ 0x5A then 5
  else if s.weir.st ≠ .shut then 1
  else if s.berths.any (fun p => p.2.st != .free) ∨ (!s.ready ∧ s.fmm.san.st ≠ 1) then 2
  else if s.sluiced then 3
  else if s.fmm.san.st = 1 then 4 else 0

/-- SANITIZE_START (R200). -/
def sanitizeWrite (key : Byte) (start : Bool) (s : State) : State :=
  if !start then s else
  let r := sanResult s key
  if r = 0 then sanGo (sanBegin s) else s.setSan { s.fmm.san with result := r }

def execSanitizeStart (key : Byte) (start : Bool) (s : State) : Res :=
  viaPort (.sanitizeStart key start) false (fun s => if charterReach s then .next (settle (sanitizeWrite key start s)) else .next s) s

/-- ERASE_DONE (R176, R183, R187, R201). -/
def execEraseDone (die : Fin 1536) (block : Fin 4096) (pass : Bool) (s : State) : Res :=
  let n := blkNo s die.val block.val
  if !s.core then .next s
  else if (s.blk n).st = 5 then
    let s := if pass then erasePassed die.val block.val n s else eraseFailed n s
    .next (settle (sanGo (weirEvent (collModes (upkeep s)))))
  else if s.fmm.san.st ≠ 1 then .next s
  else if s.fmm.san.mStep = 4 then .next (settle (sanStep4 die.val block.val pass s))
  else if s.fmm.san.mStep = 6 then .next (settle (sanStep6 die.val block.val pass s))
  else .next s

/-- SANITIZE_MARKER_UPDATE (R202): the marker records each channel's progress; what could not be placed is tried again. -/
def execSanitizeMarkerUpdate (s : State) : Res :=
  if s.fmm.san.st ≠ 1 then .next s
  else .next (settle (sanGo (if s.fmm.san.mStep = 4 then markWrite (s.setSan { s.fmm.san with mProgress := s.fmm.san.turn }) else s)))

/-! The end of a read-back (R158) -/

/-- VERIFY_READBACK_DONE (R158, R159): cws lists codewords that came out otherwise than clean, by row, slot and codeword. -/
def execVerifyReadbackDone (sb : BitVec 20) (cws : List (Fin 1024 × Fin 17 × Fin 16 × CwRead)) (s : State) : Res :=
  let k := sb.toNat
  if (s.sb k).st ≠ 2 ∨ !s.core ∨ s.weir.st = .sluice ∨ (s.refloat.stage = 4 ∧ !s.refloat.opened) then .next s else
  let rows := ((cws.filter (fun x => !cwPasses s x.2.2.2)).map (fun x => x.1.val)).dedup
  let s := verifySb k (forEach rows s (fun row s => readbackFail k row cws s))
  if s.fmm.san.st = 1 then .next (settle (sanVerified (!rows.isEmpty) s))
  else .next (settle (if s.ready then weirEval (collModes (upkeep s)) else s))

end Sys2Proof.Machine
end

