-- ==== Sys2Proof/Machine/Sluices.lean ====
section
/-! DEFINITION. The meanings of the sluice's commands (R209 to R222). -/

namespace Sys2Proof.Machine

/-! The trigger by command -/

/-- A write of WEIR_SLUICE_CTRL (R209): in the SLUICE state, or without the key, it has no effect. -/
def sluiceWrite (key : Byte) (start : Bool) (s : State) : State :=
  if key = 0xC3 ∧ start ∧ s.weir.st ≠ .sluice then trigger 6 s else s

/-- SLUICE_COMMAND (R209). -/
def execSluiceCommand (key : Byte) (start : Bool) (s : State) : Res :=
  viaPort (.sluiceCommand key start) false (fun s => if charterReach s then .next (settle (sluiceWrite key start s)) else .next s) s

/-! The drain (R213, R214) -/

/-- What DRAIN_LIMIT makes of a flight of berth i. -/
def drainFlight (i : Nat) (f : Flight) (s : State) : State :=
  match f.stage with
  | .fetching => finishFlight i f.idx (Cpl.now s dmaFault 0) (setFlight i f.idx (fun x => { x with tag := 0 }) s)
  | .reading => finishFlight i f.idx (Cpl.now s refusedDevice 0) (unreserve i f s)
  | .shaped => finishFlight i f.idx (Cpl.now s refusedDevice 0) (unreserve i f s)
  | .held => finishFlight i f.idx (Cpl.now s refusedDevice 0) s
  | .done c => setFlight i f.idx (fun x => { x with stage := .done { c with postAt := min c.postAt s.now } }) s
  | _ => s

/-- One round over a berth: what waits ends, what may go on goes on, a basin read that has not decoded is deferred. -/
def drainBerth (i : Nat) (s : State) : State :=
  let s := forEach (s.berth i).flights s (drainFlight i)
  fetchRead i [.lost] (goOn i s)

/-- Rounds until nothing is in flight. -/
def drainLoop (i : Nat) : Nat → State → State
  | 0, s => s
  | n + 1, s => if (s.berth i).flights.isEmpty then s else drainLoop i n (drainBerth i s)

/-- SLUICE_DRAIN_LIMIT (R213). -/
def execSluiceDrainLimit (s : State) : Res :=
  if s.sluice.phase ≠ 1 ∨ s.now < s.sluice.tTrigger + s.WEIR_SLUICE_CFG_DRAIN_LIMIT then .next s
  else .next (settle (forEach (s.berths.map (·.1)) s (fun i s => drainLoop i (2 * (s.berth i).flights.length + 1) s)))

/-! Contexts, pound, flush, seal (R211, R216, R219, R222) -/

/-- The port groups go off (R211). -/
def portsOff (s : State) : State := forEach (List.range 16) s (fun d s => if s.seq.on.getLsbD d then domainOff d s else s)

/-- SLUICE_DRAIN_END (R81, R211): every descriptor has completed, and every berth command accepted before the trigger; the port groups off, SLUICE_OPEN written. A sluice that met sanitize writes nothing and goes down
(R203). -/
def execSluiceDrainEnd (s : State) : Res :=
  if s.sluice.phase ≠ 1 ∨ s.berths.any (fun p => !p.2.flights.isEmpty) ∨ s.mgmt.fencing.isSome then .next s else
  let s := portsOff s
  if s.fmm.san.marker = 1 then .next (settle (wakeHeld { s with sluice := { s.sluice with phase := 6 } }))
  else
    .next (settle (wakeHeld (writeOpen { s with sluice := { s.sluice with phase := 2 } })))

/-- SLUICE_POUND_DRAINED (R211): no record is only in the pound; the last barges close and the flush begins. -/
def execSluicePoundDrained (s : State) : Res :=
  if s.sluice.phase ≠ 3 ∨ !(unspilled s).isEmpty then .next s
  else .next (settle (sluiceGo { s with sluice := { s.sluice with phase := 4, flush := 0 } }))

/-- The seal (R219, R222, R295). -/
def sealNow (s : State) : State :=
  let s := { s with sluice := { s.sluice with phase := 5 } }
  let s := forEach ((openSbs s).map (·.1)) s closeSb
  let s := raiseIrq 2 (logRec 0x09 s.sluice.first 0 [BitVec.ofNat 64 s.refloat.runId] s)
  if s.seq.run.isNone then sluiceDone s else wakeHeld s

/-- Every chunk of SEALED has been programmed, as has everything before it (R222). -/
def sealWritten (s : State) : Bool :=
  sluiceProgrammed s && (match ofRun s 3 with | some m => m.written s | none => false)

/-- SLUICE_SEAL (R222). -/
def execSluiceSeal (s : State) : Res :=
  if s.sluice.phase = 4 ∧ s.sluice.flush = 3 ∧ sealWritten s then .next (settle (sealNow s)) else .next s

/-- Stored energy has run out before the seal (R218): torn, the program ended, every domain off with its power-good lost. -/
def sluiceTorn (s : State) : State :=
  let s := abandonProgram { s with sluice := { s.sluice with torn := true } }
  let s := forEach (List.range 24).reverse s (fun d s =>
    if !s.seq.on.getLsbD d then s else domainOff d (if s.seq.pg.getLsbD d then logRec 0x07 d 0 [] s else s))
  sluiceDone s

/-- SLUICE_ENERGY_EXHAUSTED (R218). -/
def execSluiceEnergyExhausted (s : State) : Res :=
  if s.weir.st = .sluice ∧ 1 ≤ s.sluice.phase ∧ s.sluice.phase < 5 then .next (settle (sluiceTorn s)) else .next s

end Sys2Proof.Machine
end

