-- ==== Sys2Proof/Machine/Refloats.lean ====
section
/-! DEFINITION. The meanings of refloat's commands (R222 to R229). -/

namespace Sys2Proof.Machine

/-! The case (R224) -/

/-- CASE for a manifest's type. -/
def caseOf (m : Manifest) : Nat :=
  match m.kind with
  | 3 => 1
  | 2 => 2
  | 1 => 3
  | _ => 4

/-- The manifest the contexts come from: SLUICE_OPEN of the run for SEALED, else itself. -/
def ctxOf (s : State) (m : Manifest) : Manifest :=
  if m.kind = 3 then (s.fmm.manifests.find? (fun x => x.kind == 2 && x.runId == m.runId)).getD m else m

/-- A complete checkpoint whose segments can all be read; one that cannot gives way to an older one (R29, R169). -/
def ckptFound (ok : Nat → Nat → Bool) (s : State) (n : Nat) : Bool :=
  (s.fmm.segs.filter (fun h => decide (h.ckptSeq ≤ n) && decide (n < h.ckptSeq + 64))).all (segFound ok s)

/-- The checkpoint to load: the one SEALED or SANITIZED names, else the newest complete one. -/
def ckptOf (ok : Nat → Nat → Bool) (s : State) (m : Manifest) : Option Seg :=
  let named := s.fmm.segs.find? (fun g => (m.kind == 3 || m.kind == 4) && g.ckptSeq == m.ckptSeq && segFound ok s g)
  named.orElse (fun _ => ((completeCkpts s).find? (ckptFound ok s)).bind (fun n => s.fmm.segs.find? (fun g => g.ckptSeq == n)))

/-! The map (R176, R179, R225) -/

/-- A block as a restart takes it (R176). -/
def blkRestart (b : Blk) : Blk :=
  match b.st with
  | 1 => { b with st := 2 }
  | 5 => { b with st := 4 }
  | _ => b

/-- BLANK_CHK on every ERASED block of the dies in service (R179). -/
def setBlank (s : State) : State :=
  let ns := ((List.range 1536).filter (dieUp s)).flatMap (fun d => (List.range s.FMM_GEOM0_BLOCKS).map (blkNo s d))
  forEach ns s (fun n s => if (s.blk n).st = 0 then s.setBlk n { s.blk n with blank := true } else s)

/-- Superblocks in service that the medium holds and the loaded map does not know: their row-0 headers tell their blocks (R223, R225). -/
def foundSbs (s : State) : State :=
  forEach (s.fmm.laid.filter (fun p => (s.sb p.1).slots.isEmpty && seenChunks s p.1 (s.row p.1 0) != 0)) s (fun p s =>
    match (rowsOf s p.1).getLast? with
    | none => s
    | some r =>
      let st := if r.2.sluice then Stream.sluice else Stream.spill
      let s := s.setSb p.1 ⟨p.2, 2, r.1 + 1, r.1 + 1, r.1 + 1, quadOfDie ((p.2.headD (0, 0)).1), st, []⟩
      forEach (p.2.filter (fun x => x != goneSlot)) s (fun x s =>
        let n := blkNo s x.1 x.2
        if (s.blk n).st = 0 then s.setBlk n { s.blk n with st := 2, blank := false } else s))

/-- Load a checkpoint's map: open superblocks closed, chart slots empty, pound copies gone (R172, R225). -/
def loadMap (g : Seg) (s : State) : State :=
  let sbs := g.sbs.map (fun p => (p.1, if p.2.st = 1 then { p.2 with st := 2, leave := [] } else { p.2 with leave := [] }))
  let pages := g.pages.map (fun p => (p.1, if p.2.st = 3 then { p.2 with st := 4 } else p.2))
  let f := { s.fmm with
    barges := g.barges, sbs := sbs, blocks := tmap Blk.erased (fun _ b => blkRestart b) g.blocks, pages := pages,
    spillBytes := g.spillBytes, flashBytes := g.flashBytes }
  lifeChecks (setBlank (foundSbs ({ s with fmm := f }.setRefloat { s.refloat with loaded := some g.ckptSeq })))

/-- A chain entry as refloat takes it: WHERE 0x2 is 0x1, WHERE 0x0 unlocated. -/
def recRestart (r : Rec) : Rec := { r with place := none, front := false }

/-- A berth from its context and its chain at the checkpoint (R40): ring indexes 0, completion phase 1. -/
def berthRestart (ctx : Berth) (chain : List Rec) : Berth :=
  { ctx with
    sqHead := 0, sqTail := 0, cqTail := 0, cqHead := 0, phase := true, held := 0, unpers := 0, unret := 0, flights := [],
    chain := (chain.filter (fun r => decide (ctx.retirePoint < r.seq))).map recRestart,
    firstCpn := noCpn, lastCpn := noCpn, fetchCpn := noCpn }

/-- The chart, the berths and the registered tokens of a manifest (R357). -/
def loadBerths (m : Manifest) (chains : Tbl (List Rec)) (s : State) : State :=
  let bs := m.ctxs.foldl (fun t p => tset Berth.none t p.1 (berthRestart p.2 (tget [] chains p.1))) []
  let s := { s with berths := bs }
  forEach m.tokens s (fun p s => s.updPort p.1 (fun q => { q with token := p.2 }))

/-! Locating records (R150, R225) -/

/-- What the scan found wrong: header copies whose CRC fails, as (superblock, row, chunk, copy), and rows whose directory or, for a control
barge, pages or lines have a CRC that fails. -/
structure Scan where
  heads : List (Nat × Nat × Nat × Nat)
  dirs : List (Nat × Nat)
  deriving DecidableEq, Repr

/-- Some chunk header of a row's barge is found, and its content's CRC matches (R149, R222, R225). -/
def Scan.ok (x : Scan) (s : State) (k row : Nat) : Bool :=
  let c := seenChunks s k (s.row k row)
  (List.range 16).any (fun j => c.getLsbD j && headFound x.heads k row j) && !x.dirs.contains (k, row)

/-- Name a record's place: a barge of greater BSEQ stands over the one that an entry names already (R150). -/
def locate (g bseq : Nat) (e : DirEnt) (s : State) : State :=
  let b := s.berth e.berth
  let stands := b.chain.any (fun x => x.seq == e.seq &&
    (match x.basin with | some (h, _) => h != g && h != lostBarge && decide (bseq < (s.barge h).bseq) | none => false))
  if b.st = .free ∨ e.seq ≤ b.retirePoint ∨ stands then s else
  let r : Rec := ⟨e.seq, e.len, e.tag, e.payload, s.now, none, some (g, e.off), false⟩
  let rest := b.chain.filter (fun x => x.seq != e.seq)
  s.setBerth e.berth { b with chain := insertBy (·.seq) r rest }

/-- A superblock whose rows are gone through in a torn case (R225): the checkpoint shows it OPEN, or its row-0 headers carry the run. -/
def tornSb (s : State) (seg : Option Seg) (runId k : Nat) : Bool :=
  (match seg with | some g => (tget Sb.free g.sbs k).st == 1 | none => false) ||
    ((s.row k 0).runId == runId && seenChunks s k (s.row k 0) != 0)

/-- The barges to go through (R224, R225): those of the superblocks that SEALED lists, or those of the run that the checkpoint does not name
with the same BSEQ. -/
def barges (s : State) (seg : Option Seg) (m : Manifest) : List (Nat × Nat × Row) :=
  let mine := fun (x : Nat × Nat × Row) =>
    if m.kind = 3 then m.sbs.contains x.1
    else tornSb s seg m.runId x.1 && x.2.2.runId == m.runId &&
      !((s.barge x.2.2.barge).st != 0 && (s.barge x.2.2.barge).bseq == x.2.2.bseq)
  sortBy (fun x => x.2.2.bseq) ((rowsOfKind s 1).filter mine)

/-- Take up a barge: its table entry, and the records of its directory; one whose headers are not found or whose directory cannot be read is
skipped (R225). A barge of the same ID and a greater BSEQ is the same one, moved (R181). -/
def takeBarge (scan : Scan) (x : Nat × Nat × Row) (s : State) : State :=
  let r := x.2.2
  let b := s.barge r.barge
  if !scan.ok s x.1 x.2.1 ∨ !dirFound (seenChunks s x.1 r) ∨ (b.st ≠ 0 ∧ r.bseq < b.bseq) then s else
  let s := s.setBarge r.barge ⟨2, x.1, x.2.1, (r.dir.map (·.len)).sum, r.bseq⟩
  forEach r.dir s (locate r.barge r.bseq)

/-- BSEQ, CKPT_SEQ and PAGE_SEQ above every value seen (R150, R164, R225). -/
def countersAbove (m : Manifest) (s : State) : State :=
  let f := { s.fmm with
    bseq := (s.fmm.rows.map (fun p => p.2.bseq)).foldl max (max s.fmm.bseq m.bseqHw),
    ckptSeq := (s.fmm.segs.map (·.ckptSeq)).foldl max (max s.fmm.ckptSeq m.ckptSeq),
    pageSeq := (s.fmm.pages.map (fun p => p.2.pageSeq)).foldl max (max s.fmm.pageSeq m.pageHw) }
  { s with fmm := f }

/-! The scan (R223 to R225) -/

/-- A blank basin is mounted at its first start: its factory-marked blocks are RETIRED (R176, R184). -/
def factoryMarks (marks : List (Nat × Nat)) (s : State) : State :=
  lifeChecks (forEach marks s (fun p s => let n := blkNo s p.1 p.2; s.setBlk n { s.blk n with st := 6, cause := 5, blank := false }))

/-- REFLOAT_SCAN_DONE (R223 to R225): the case is chosen, the map loaded, the records located. The operands are what the scan found wrong, and
the blocks that carry a factory mark. -/
def execRefloatScanDone (s : State) (heads : List (BitVec 20 × Fin 1024 × Fin 17 × Fin 4) := [])
    (dirs : List (BitVec 20 × Fin 1024) := []) (marks : List (Fin 1536 × Fin 4096) := []) : Res :=
  if s.refloat.stage ≠ 1 ∨ !s.basinLive ∨ s.sluiced then .next s else
  let scan : Scan := ⟨heads.map (fun x => (x.1.toNat, x.2.1.val, x.2.2.1.val, x.2.2.2.val)), dirs.map (fun x => (x.1.toNat, x.2.val))⟩
  let ok := scan.ok s
  match newestManifest ok s with
  | none => .next (settle (openRun (factoryMarks (marks.map (fun x => (x.1.val, x.2.val))) (setBlank (foundSbs s)))))
  | some m =>
    let c := ctxOf s m
    let first := if m.kind = 2 ∨ m.kind = 3 then m.first else 0
    let s := s.setRefloat { s.refloat with kase := caseOf m, runId := m.runId, lastFirst := first }
    let seg := ckptOf ok s m
    let s := match seg with
      | some g => loadMap g s
      | none => setBlank (foundSbs s)
    let s := loadBerths c (match seg with | some g => g.chains | none => []) s
    if m.kind = 4 then .next (settle (openRun (countersAbove m s)))
    else
      let s := forEach (barges s seg m) s (takeBarge scan)
      .next (settle (countersAbove m (s.setRefloat { s.refloat with stage := 4 })))

/-! Verification (R226) -/

/-- The checkpoint that was loaded names a record's place in a barge. -/
def ckptNames (s : State) (i seq g : Nat) : Bool :=
  match s.refloat.loaded.bind (fun n => s.fmm.segs.find? (fun x => x.ckptSeq == n)) with
  | none => false
  | some x => (tget [] x.chains i).any (fun r => r.seq == seq && r.basin.map (·.1) == some g)

/-- The records of a row that cannot be rebuilt, with the chunks left: those on lost chunks are lost on the medium (R21, R193); where the
directory is among them, those that no map entry names cannot be found (R23, R226). -/
def rowUnbuilt (c : BitVec 17) (r : Row) (s : State) : State :=
  forEach r.dir s (fun e s =>
    let here := (s.berth e.berth).chain.any (fun x => x.seq == e.seq && x.basin == some (r.barge, e.off))
    let found := dirFound c || ckptNames s e.berth e.seq r.barge
    if !here ∨ (found ∧ spanSet c e.off e.len) then s else
    s.updBerth e.berth (fun b => { b with
      chain := b.chain.map (fun y => if y.seq = e.seq then { y with basin := if found then some (lostBarge, 0) else none } else y) }))

/-- The codewords of a superblock that came out otherwise than clean. -/
def cwsOf (cws : List (BitVec 20 × Fin 1024 × Fin 17 × Fin 16 × CwRead)) (k : Nat) : List (Fin 1024 × Fin 17 × Fin 16 × CwRead) :=
  (cws.filter (fun x => x.1.toNat == k)).map (·.2)

/-- The chunks of a row that decode: those in service without a codeword that no step decodes. -/
def decodes (s : State) (k row : Nat) (cws : List (Fin 1024 × Fin 17 × Fin 16 × CwRead)) : BitVec 17 :=
  (badSlots (fun c => c == .lost) row cws).foldl (fun (a : BitVec 17) j => a &&& ~~~ BitVec.ofNat 17 (2 ^ j)) (seenChunks s k (s.row k row))

/-- One row of a superblock under verification (R226): a row with a chunk that fails the margin, or that is rebuilt, has its barge moved; one
that cannot be rebuilt loses what its lost chunks hold. -/
def verifyRow (k row : Nat) (cws : List (Fin 1024 × Fin 17 × Fin 16 × CwRead)) (s : State) : State :=
  let r := s.row k row
  let c := decodes s k row cws
  if !rowFound c then rowUnbuilt c r (s.setRow k row { r with chunks := c })
  else if rowWhole c ∧ (badSlots (fun x => !cwPasses s x) row cws).isEmpty then s
  else s.setSb k { s.sb k with leave := (s.sb k).leave ++ [row] }

/-- A block that failed in the sluice does not decode: its superblock is moved (R182). -/
def failedLost (s : State) (k : Nat) (cws : List (Fin 1024 × Fin 17 × Fin 16 × CwRead)) : Bool :=
  let fails := match ofRun s 3 with | some m => m.fails | none => []
  (s.sb k).slots.zipIdx.any (fun x => fails.contains x.1 &&
    (rowsOf s k).any (fun r => rowCurrent s k r.1 r.2 && r.2.chunks.getLsbD x.2 && !(decodes s k r.1 cws).getLsbD x.2))

/-- A superblock under verification: its barges are moved with flash as their source as far as there is room, and it is VERIFIED. While one
waits for room it stays CLOSED with its parity (R226). -/
def verifyRefloat (cws : List (BitVec 20 × Fin 1024 × Fin 17 × Fin 16 × CwRead)) (k : Nat) (s : State) : State :=
  let mine := cwsOf cws k
  let all := failedLost s k mine
  let s := forEach ((rowsOf s k).filter (fun r => rowCurrent s k r.1 r.2)) s (fun r s => verifyRow k r.1 mine s)
  let s := if all then moveFrom k 0 s else moveOut k s
  let s := if (s.sb k).leave.isEmpty then verifySb k s else s
  s.setRefloat { s.refloat with verifiedSb := s.refloat.verifiedSb + 1 }

/-- The end of a berth's prefix: every sequence from the retire point on is located (R22, R23). -/
def prefixEnd (chain : List Rec) : Nat → Nat → Nat
  | 0, b => b
  | fuel + 1, b => if chain.any (fun r => r.seq == b + 1 && r.basin.isSome) then prefixEnd chain fuel (b + 1) else b

/-- The state a berth comes back in (R40, R225, R227, R312). After TORN_EARLY every chartered berth takes FENCE_REASON 0x6, one that was
FENCED before the run ended too: R40's row for it does not name FENCED, R225 and R227 except no chartered berth (DEDUCED, log 63). -/
def stateBack (kase : Nat) (b : Berth) (e : Nat) : BSt × Nat :=
  let live := b.st = .chartered ∨ b.st = .opened ∨ b.st = .exhausted ∨ b.st = .refloating
  if kase = 3 ∧ b.st ≠ .free then (.fenced, 6)
  else if b.quar ∧ live then (.fenced, 4)
  else if b.st = .opened ∨ b.st = .exhausted ∨ b.st = .refloating then
    (if b.retirePoint < e then .refloating else if e + 1 < 2 ^ 48 then .opened else .exhausted, b.reason)
  else (b.st, b.reason)

/-- The table entries of a berth's chain pages are written as refloat's requests (R122, R130). -/
def pagesLine (i : Nat) (s : State) : State :=
  let ls := ((s.fmm.pages.filter (fun p => p.2.berth == i)).map (fun p => Line.pages (p.1 / 3))).dedup
  forEach ls s (fun l s => forEach (lineDests s l) s (fun c s => dramAsk .refloat true l.no 1 c s))

/-- A berth's prefix, NEXT_SEQ, LAST_SURVIVOR and state (R41, R225), and its chain pages written anew. -/
def berthBack (i : Nat) (s : State) : State :=
  let b := s.berth i
  if b.st = .free then s else
  let e := prefixEnd b.chain b.chain.length b.retirePoint
  let keep := b.chain.filter (fun r => decide (r.seq ≤ e))
  let cut := b.chain.any (fun r => decide (e < r.seq) && r.basin.isSome)
  let back := stateBack s.refloat.kase b e
  let survivor := if b.retirePoint < e then e else 0
  let s := s.setBerth i { b with
    chain := keep, unret := (keep.map (·.len)).sum, nextSeq := e + 1, lastSurvivor := survivor, st := back.1, reason := back.2,
    quar := false }
  let s := pagesLine i (forEach keep s (fun r s => chainPageAdd i r.seq s))
  let x := s.refloat
  s.setRefloat { x with
    survivors := x.survivors + (if back.1 = .refloating then 1 else 0), truncated := x.truncated + (if cut then 1 else 0),
    lost := x.lost + (keep.filter (fun r => r.basin.map (·.1) == some lostBarge)).length }

/-- LIVE of every barge of records is what the chains name. -/
def recount (s : State) : State :=
  let named := s.berths.flatMap (fun p => p.2.chain.filterMap (fun r => r.basin.map (fun g => (g.1, r.len))))
  let f := fun (k : Nat) (g : Barge) => { g with live := ((named.filter (fun x => x.1 == k)).map (·.2)).sum }
  { s with fmm := { s.fmm with barges := tmap Barge.free f s.fmm.barges } }

/-- REFLOAT_VERIFY_DONE (R225 to R227): cws lists codewords that came out otherwise than clean, by superblock, row, slot and codeword. -/
def execRefloatVerifyDone (cws : List (BitVec 20 × Fin 1024 × Fin 17 × Fin 16 × CwRead)) (s : State) : Res :=
  if s.refloat.stage ≠ 4 ∨ s.refloat.opened ∨ !s.basinLive ∨ openWaits s then .next s else
  let s := forEach ((s.fmm.sbs.filter (fun p => p.2.st == 2 && quadUp s p.2.quadrant)).map (·.1)) s (verifyRefloat cws)
  let s := { s with fmm := { s.fmm with pages := [] } }
  let s := forEach (s.berths.map (·.1)) s berthBack
  .next (settle (openRun (recount s)))

/-! Refloat ready (R228) -/

/-- Every authentication asked for has passed, or failed its three attempts (R244). -/
def authSettled (s : State) : Bool := (List.range 8).all (fun i => !(s.str i).present || !(s.str i).due)

/-- Both conditions of R228. -/
def readyOk (s : State) : Bool :=
  s.refloat.stage == 4 && s.refloat.opened && (leaving s).isEmpty &&
    s.fmm.sbs.all (fun p => p.2.st == 3 || p.2.st == 0 || !quadUp s p.2.quadrant) &&
    decide (eNeed s 0 ≤ s.weir.budget.eAvail) && authSettled s && !s.sluiced

/-- What refloat ready brings (R228, R313, R355, R380). -/
def readyNow (s : State) : State :=
  let ms := (s.fmm.manifests.filter (fun m => m.runId == s.refloat.runId)).map (fun m => { m with tEvent := s.now })
  let s := { s with fmm := { s.fmm with manifests := ms, tCkpt := s.now } }
  let s := s.setRefloat { s.refloat with stage := 5, readyMs := sat 32 ((s.now - s.refloat.tStart) / 1000) }
  let s := { s with pins := { s.pins with warn := s.pins.warn && !s.keep.warnTill }, keep := { s.keep with warnTill := false } }
  let s := logRec 0x0A 0 0 [BitVec.ofNat 64 s.refloat.runId, BitVec.ofNat 64 s.refloat.kase] s
  forEach (List.range 256) (raiseIrq 3 s) portOpen

/-- REFLOAT_READY (R228). -/
def execRefloatReady (s : State) : Res :=
  if readyOk s then .next (settle (weirEval (collModes (readyNow s)))) else .next s

end Sys2Proof.Machine
end

