-- ==== Sys2Proof/WellFormed.lean ====
section
/-! DEFINITION. Which commands can reach the part at all: an access has a size that memory requests have, a frame its length, a
sample list one sample per string. A command that is not well formed is one that no access, link or medium can bring. -/

namespace Sys2Proof

/-- A BAR0 request's payload size in bytes (R370): 1 to 8. -/
def sizeOk (size : BitVec 4) : Bool := decide (1 ≤ size.toNat) && decide (size.toNat ≤ 8)

/-- No value twice. -/
def distinct {α : Type} [DecidableEq α] : List α → Bool
  | [] => true
  | x :: xs => !xs.contains x && distinct xs

/-- The check of each row's operands; true where every value can occur. -/
def Instr.wf : Instr → Bool
  | .putCommit _ payload => decide (payload < 2 ^ 2097152)
  | .verifyReadbackDone _ cws => distinct (cws.map (fun x => (x.1, x.2.1, x.2.2.1)))
  | .refloatVerifyDone cws => distinct (cws.map (fun x => (x.1, x.2.1, x.2.2.1, x.2.2.2.1)))
  | .refloatScanDone heads dirs marks => distinct heads && distinct dirs && distinct marks
  | .basinReadDone _ cws => decide (1 ≤ cws.length ∧ cws.length ≤ 65)
  | .selfTestDone _ _ odd readings => distinct (odd.map (·.1)) && distinct (readings.map (·.rail))
  | .gaugeUpdate sample => sample.strings.length == 8
  | .smbusPoll answers => answers.length == 8
  | .pmbusPoll readings => distinct (readings.map (·.rail))
  | .smbalert readings => distinct (readings.map (·.rail))
  | .beacon frame => frame.length == 16
  | .reply _ frame => frame.length == 8
  | .linkUp _ speed width => decide (1 ≤ speed.toNat ∧ speed.toNat ≤ 5) && (width == 1 || width == 2 || width == 4)
  | .maximumOpenTime _ bank => decide (bank < 256)
  | .urgencyStep _ _ => true
  | .imageReadDone _ host => decide (host.length ≤ 25165824)
  | .flagAccess _ _ size _ _ => sizeOk size
  | .rcRead _ size => sizeOk size
  | .registerWrite _ size _ => sizeOk size
  | _ => true

end Sys2Proof
end

