-- ==== Sys2Proof/Machine/Image.lean ====
section
/-! DEFINITION. The structure image as bytes (R325 to R331): its header, directory, sections, register lists and tables, and the
checks that the loader makes on it in order. Encodings that the spec leaves open stand in log 9. -/

namespace Sys2Proof.Machine

/-! Bytes -/

/-- n bytes from an offset. -/
def slice (b : List Byte) (off n : Nat) : List Byte := (b.drop off).take n

/-- The 64-bit little-endian word at an offset (R44, R325). -/
def wordAt (b : List Byte) (off : Nat) : Nat := ofLe (slice b off 8)

/-- Bits [hi:lo] of a number. -/
def bitsAt (w hi lo : Nat) : Nat := w / 2 ^ lo % 2 ^ (hi + 1 - lo)

/-- n entries of z bytes. -/
def chunkBy (z : Nat) : Nat → List Byte → List (List Byte)
  | 0, _ => []
  | n + 1, b => b.take z :: chunkBy z n (b.drop z)

/-! Header and directory (R325, R326) -/

def imgLen (b : List Byte) : Nat := bitsAt (wordAt b 8) 31 0
def imgVersion (b : List Byte) : Nat := bitsAt (wordAt b 16) 63 32
def imgRollback (b : List Byte) : Nat := bitsAt (wordAt b 16) 7 0
def imgBuild (b : List Byte) : Nat := wordAt b 24
def imgSled (b : List Byte) : Nat := wordAt b 40

/-- SHA-256 of bytes 0 to L + 7 (R327). -/
def imgDigest (b : List Byte) : Nat := sha256 (b.take (imgLen b + 8))

/-- The two words of directory entry k. -/
def dirEntry (b : List Byte) (k : Nat) : Nat × Nat := (wordAt b (64 + 16 * k), wordAt b (72 + 16 * k))

def dirType (e : Nat × Nat) : Nat := bitsAt e.1 63 56
def dirOff (e : Nat × Nat) : Nat := bitsAt e.1 31 0
def dirLen (e : Nat × Nat) : Nat := bitsAt e.2 63 32
def dirCrc (e : Nat × Nat) : Nat := bitsAt e.2 31 0

/-- The section directory. -/
def imgDir (b : List Byte) : List (Nat × Nat) := (List.range (bitsAt (wordAt b 0) 23 16)).map (dirEntry b)

/-- A section's bytes. -/
def imgDirBytes (b : List Byte) (e : Nat × Nat) : List Byte := slice b (dirOff e) (dirLen e)

/-- A section lies within the bytes and its SCRC matches. -/
def dirGood (b : List Byte) (e : Nat × Nat) : Bool :=
  dirOff e % 4096 == 0 && decide (dirOff e + dirLen e ≤ b.length) && crc32c (imgDirBytes b e) == dirCrc e

/-- The section of a type, as the supervisor die finds it: by the directory, checked by its SCRC alone (R326). -/
def sectionOf (b : List Byte) (kind : Nat) : Option (List Byte) :=
  match (imgDir b).find? (fun e => dirType e == kind) with
  | some e => if dirGood b e then some (imgDirBytes b e) else none
  | none => none

/-! Register lists and tables (R329; log 9) -/

/-- The entries of a register list: a count, then an offset and a value each; none when they do not fit the section. -/
def regList (sec : List Byte) : Option (List (Nat × Word)) :=
  let n := wordAt sec 0
  if sec.length < 8 + 16 * n then none
  else some ((chunkBy 16 n (sec.drop 8)).map (fun e => (wordAt e 0, BitVec.ofNat 64 (wordAt e 8))))

/-- The tables from an offset, each a count and its entries, of the entry sizes given. -/
def tablesFrom (sec : List Byte) : List Nat → Nat → Option (List (List (List Byte)))
  | [], _ => some []
  | z :: zs, p =>
    let n := wordAt sec p
    if sec.length < p + 8 + z * n then none
    else (tablesFrom sec zs (p + 8 + z * n)).map (fun t => chunkBy z n (sec.drop (p + 8)) :: t)

/-- The entry sizes of a section's tables, in bytes. -/
def tableSizes (kind : Nat) : List Nat :=
  match kind with
  | 2 => [2]
  | 6 => [4, 4, 4, 4, 16, 2, 2, 2]
  | 8 => [8]
  | 9 => [64]
  | _ => []

/-- A section's tables. -/
def tables (kind : Nat) (sec : List Byte) : Option (List (List (List Byte))) :=
  tablesFrom sec (tableSizes kind) (8 + 16 * wordAt sec 0)

/-- A table of a section, its entries as numbers. -/
def tableAt (kind k : Nat) (sec : List Byte) : List Nat := (((tables kind sec).getD []).getD k []).map ofLe

/-- The registers that R328 gives a section. -/
def ownsReg (kind off : Nat) : Bool :=
  match kind with
  | 1 => decide (0x100000 ≤ off) && decide (off < 0x200000)
  | 2 => decide (0x80000 ≤ off) && decide (off < 0x90000)
  | 3 => decide (0x90000 ≤ off) && decide (off < 0xA0000)
  | 4 => (decide (0x50100 ≤ off) && decide (off ≤ 0x50120)) || (decide (0x60000 ≤ off) && decide (off < 0x70000))
  | 5 => (decide (0x50130 ≤ off) && decide (off ≤ 0x50150)) || off == 0x50218
  | 6 => off == 0xB0010
  | 7 => decide (0x70100 ≤ off) && decide (off ≤ 0x70128)
  | 8 => decide (0x40000 ≤ off) && decide (off < 0x50000)
  | 10 => off == 0x10080 || off == 0x10088
  | _ => false

/-- R329 on a register list. -/
def regListGood (kind : Nat) (sec : List Byte) : Bool :=
  match regList sec with
  | none => false
  | some l => l.all (fun p => ownsReg kind p.1 && rwlOf p.1 != 0 && p.2 &&& ~~~ rwlOf p.1 == 0)

/-- The number of delays: a channel's 20 strobe groups with kinds 1 to 6, and CA and CS with kind 0 (R140 DRC_DLY_SEL). -/
def delayKeys : List Nat :=
  (List.range 12).flatMap (fun c =>
    (List.range 20).flatMap (fun l => (List.range 6).map (fun k => c * 4096 + l * 16 + k + 1)) ++ [c * 4096 + 255 * 16])

/-- Every table has a length that its contents allow, and RSV fields of its entries are 0 (R281, R286, R291, R318, R328). -/
def tablesGood (kind : Nat) (sec : List Byte) : Bool :=
  match tables kind sec with
  | none => false
  | some t =>
    let len := fun k => (t.getD k []).length
    match kind with
    | 2 => len 0 == 1452
    | 6 =>
      [0, 1, 2, 3].all (fun k => decide (len k ≤ 256)) && decide (len 4 ≤ 64) && len 5 == 16 && len 6 == 1 && len 7 == 1 &&
        (t.getD 4 []).all (fun e => bitsAt (wordAt e 8) 35 32 == 0)
    | 8 => len 0 == 0xA00 && (t.getD 0 []).all (fun e => bitsAt (wordAt e 0) 28 0 == 0)
    | 9 => decide (len 0 ≤ 4)
    | _ => true

/-! Steps 1 to 5 of R330 -/

/-- Step 1: MAGIC, FORMAT, LENGTH. -/
def step1 (b : List Byte) : Bool :=
  bitsAt (wordAt b 0) 63 32 == 0xC2561A6E && bitsAt (wordAt b 0) 31 24 == 1 && decide (64 ≤ imgLen b) &&
    decide (imgLen b ≤ 16777216 - 72) && imgLen b % 8 == 0 && decide (imgLen b + 72 ≤ b.length)

/-- Step 2: the check word. -/
def step2 (b : List Byte) : Bool := wordAt b (imgLen b) == crc32c (b.take (imgLen b))

/-- Step 3: the signature, by the fused key. -/
def step3 (b : List Byte) : Bool :=
  sigVerifies (imgDigest b) Config.imageKeyX Config.imageKeyY (ofBe (slice b (imgLen b + 8) 32)) (ofBe (slice b (imgLen b + 40) 32))

/-- Sections in directory order within L, free of overlaps with what comes before. -/
def dirOrder (l : Nat) : Nat → List (Nat × Nat) → Bool
  | _, [] => true
  | p, e :: t => decide (p ≤ dirOff e) && decide (dirOff e + dirLen e ≤ l) && dirOrder l (dirOff e + dirLen e) t

/-- Every RSV field of the header and the directory is 0. -/
def rsvZero (b : List Byte) : Bool :=
  bitsAt (wordAt b 0) 15 0 == 0 && bitsAt (wordAt b 8) 63 32 == 0 && bitsAt (wordAt b 16) 31 8 == 0 &&
    bitsAt (wordAt b 32) 47 42 == 0 && bitsAt (wordAt b 32) 39 0 == 0 && wordAt b 48 == 0 && wordAt b 56 == 0 &&
    (imgDir b).all (fun e => bitsAt e.1 47 32 == 0)

/-- A section's contents as R328 and R329 give them. -/
def contentsGood (kind : Nat) (sec : List Byte) : Bool := regListGood kind sec && tablesGood kind sec

/-- The register lists of an image's sections. -/
def imgRegs (b : List Byte) : List (Nat × Word) :=
  (imgDir b).flatMap (fun e => (regList (imgDirBytes b e)).getD [])

/-- A type has a section. -/
def hasSection (b : List Byte) (kind : Nat) : Bool := (imgDir b).any (fun e => dirType e == kind)

/-- A state's registers with the RWL fields of an image alone, for reading its fields by name. -/
def fieldsOf (b : List Byte) (s : State) : State :=
  forEach (imgRegs b) { s with regs := [] } (fun p s => s.setReg p.1 p.2)

/-- The sections required: BATTERY when strings are declared (R328). -/
def sectionsHere (b : List Byte) (t : State) : Bool :=
  [1, 2, 3, 4, 5, 6, 8, 10].all (hasSection b) && (t.WEIR_BATT_N_CFG == 0 || hasSection b 9)

/-- Step 4. -/
def step4 (b : List Byte) (t : State) : Bool :=
  let d := imgDir b
  let n := bitsAt (wordAt b 0) 23 16
  decide (1 ≤ n ∧ n ≤ 16) && bitsAt (wordAt b 32) 63 48 == 0x0256 &&
    bitsAt (wordAt b 32) (40 + Config.grade.toNat % 8) (40 + Config.grade.toNat % 8) == 1 && rsvZero b &&
    decide (64 + 16 * n ≤ imgLen b) && dirOrder (imgLen b) (64 + 16 * n) d && d.all (dirGood b) &&
    d.all (fun e => decide (1 ≤ dirType e ∧ dirType e ≤ 10) && bitsAt e.1 55 48 == 1 && contentsGood (dirType e) (imgDirBytes b e)) &&
    distinct (d.map dirType) && sectionsHere b t

/-! The sections' own contents -/

/-- The bytes of a section of a checked image; empty where it has none. -/
def secBytes (b : List Byte) (kind : Nat) : List Byte :=
  match (imgDir b).find? (fun e => dirType e == kind) with
  | some e => imgDirBytes b e
  | none => []

/-- A table as a sparse one: entry k at key base + k. -/
def tabulate (base : Nat) (l : List Nat) : List (Nat × Nat) := (l.zipIdx.map (fun p => (base + p.2, p.1))).filter (fun p => p.2 != 0)

/-- The sequencer section (R281, R285, R291, R293, R328). -/
def seqSection (sec : List Byte) : SeqSection :=
  let prog : Nat → Tbl (BitVec 32) := fun k => (tabulate (256 * k) (tableAt 6 k sec)).map (fun p => (p.1, BitVec.ofNat 32 p.2))
  { progs := prog 0 ++ prog 1 ++ prog 2 ++ prog 3,
    rails := (tabulate 0 (tableAt 6 4 sec)).map (fun p => (p.1, BitVec.ofNat 64 p.2, BitVec.ofNat 64 (p.2 / 2 ^ 64))),
    stretch := tabulate 0 (tableAt 6 5 sec),
    restartHold := (tableAt 6 6 sec).headD 0,
    pmbusKhz := (tableAt 6 7 sec).headD 0,
    tow := ((((regList sec).getD []).find? (fun p => p.1 == offTOW_CFG)).map (·.2)).getD 0 }

/-- The keeper section's entries that differ from ABSENT (R318). -/
def keepEntries (sec : List Byte) : Tbl Word :=
  ((tableAt 8 0 sec).zipIdx.map (fun p => (p.2, BitVec.ofNat 64 p.1))).filter (fun p => p.2 != absentEntry)

/-- The issuer keys, x and y as one number, big-endian (R328). -/
def issuerKeys (sec : List Byte) : List Nat := (((tables 9 sec).getD []).getD 0 []).map ofBe

/-- The delay table by DRC_DLY_SEL (R329). -/
def delayTable (sec : List Byte) : Tbl Nat := (delayKeys.zip (tableAt 2 0 sec)).filter (fun p => p.2 != 0)

/-! Consistency (R331) -/

/-- 0x01 PORTS (R8, R349). -/
def portsOk (t : State) : Bool :=
  decide (((List.range 256).map t.PORT_CFG_SLOTS).sum ≤ 1048576) &&
    (List.range 256).all (fun p =>
      let w := t.PORT_CFG_WIDTH p
      w != 3 && p % 2 ^ w == 0 && ((List.range (2 ^ w - 1)).all (fun k => t.PORT_CFG_SLOTS (p + 1 + k) == 0)))

/-- 0x02 shares (R119). -/
def sharesOk (t : State) : Bool :=
  (List.range 256).all (fun p => if t.PORT_CFG_SLOTS p = 0 then t.DRC_SHARE_SHARE p == 0 else decide (1024 ≤ t.DRC_SHARE_SHARE p))

/-- 0x03 layout and population (R111, R114), in 512-B units. -/
def layoutOk (t : State) : Bool :=
  decide (t.DRC_LAYOUT0_SPEED ≤ 1) && [1, 2].contains t.DRC_LAYOUT0_DIMMS && [1, 2].contains t.DRC_LAYOUT0_RANKS &&
    [16, 24, 32, 48, 64, 96, 128].contains t.DRC_LAYOUT0_DIMM_GIB && decide (recGran t ≤ t.DRC_LAYOUT0_CTL * 2048 * 16) &&
    decide (1024 ≤ t.DRC_LAYOUT0_WORK) && decide (t.DRC_POUND_DECL ≤ 6 * (recGran t - heldBack)) &&
    decide (t.WEIR_FLOOR_MAX_VALUE ≤ t.DRC_POUND_DECL)

/-- The peak DRAM bandwidth of 12 channels, MB/s. -/
def peakDram (t : State) : Nat := if t.DRC_LAYOUT0_SPEED = 0 then 614400 else 460800

/-- 0x04 bandwidth (R139). -/
def bandwidthOk (t : State) : Bool := decide ((2 * t.WEIR_INGRESS_RATE + t.WEIR_TIMING_SPILL_CEIL) * 4 ≤ 3 * peakDram t)

/-- The capacitor-only budget: B_energy of the nominal bank, without the guard (R94), in 512-B units. -/
def capBudget (t : State) : Nat :=
  let v := t.GAUGE_CFG_CAP0_V_FULL
  let m := t.GAUGE_CFG_CAP0_V_MIN
  let raw := t.GAUGE_CFG_CAP0_C_NOM * (v * v - m * m) / 2000000
  bEnergyOf t (derate raw t.WEIR_DERATE_ETA_CAP t.WEIR_DERATE_U_CAP) t.WEIR_MODEL2_RS

/-- 0x05 floor allowance, levels and timing (R94, R110, R230). -/
def weirOk (t : State) : Bool :=
  decide (t.WEIR_FLOOR_MAX_VALUE ≤ capBudget t) && decide (t.WEIR_FLOOR_MAX_VALUE ≤ t.DRC_POUND_DECL) && t.WEIR_LEVELS_LIM0 == 100 &&
    decide (t.WEIR_LEVELS_SPILL_LOW < t.WEIR_LEVELS_SPILL_THR) && decide (16 ≤ t.WEIR_TIMING_QUANT) &&
    decide (t.WEIR_TIMING_QUANT ≤ 10000) && decide (1 ≤ t.WEIR_TIMING_RISE_HOLD) && decide (t.WEIR_TIMING_RISE_HOLD ≤ 1000) &&
    decide (50 ≤ t.WEIR_SLUICE_CFG_DRAIN_LIMIT) && decide (t.WEIR_SLUICE_CFG_DRAIN_LIMIT ≤ 180)

/-- Blocks left after the parity and control-area reserves (R174, R185). -/
def blocksLeft (t : State) : Nat :=
  t.FMM_GEOM0_CHANNELS * t.FMM_GEOM0_TARGETS * t.FMM_GEOM0_BLOCKS - 2 * t.FMM_GEOM1_OPEN_MAX - t.FMM_JOURNAL_CTL_AREA

/-- The journal's blocks: 64 barges each. -/
def journalBlocks (t : State) : Nat := ceilDiv t.FMM_JOURNAL_BARGES 64

/-- RS at most 95 % of the bus-limited and of the die-limited payload rate (R174), in MB/s. -/
def rateOk (t : State) : Bool :=
  let mt := match t.FMM_GEOM0_RATE with | 0 => 3200 | 1 => 2400 | _ => 1600
  decide (t.WEIR_MODEL2_RS * 100 * 73728 * 17 ≤ 95 * (mt * t.FMM_GEOM0_CHANNELS * 65536 * 16)) &&
    decide (t.WEIR_MODEL2_RS * 100 * t.FMM_GEOM1_TPROG * 17 ≤ 95 * (t.FMM_GEOM0_CHANNELS * t.FMM_GEOM0_TARGETS * 65536 * 16))

/-- The population of R141. -/
def nandOk (t : State) : Bool :=
  [24, 48, 72, 96].contains t.FMM_GEOM0_CHANNELS && decide (1 ≤ t.FMM_GEOM0_TARGETS) && decide (t.FMM_GEOM0_TARGETS ≤ 16) &&
    decide (1 ≤ t.FMM_GEOM0_BLOCKS) && decide (t.FMM_GEOM0_BLOCKS ≤ 4096) && decide (t.FMM_GEOM0_RATE ≤ 2) && decide (t.FMM_GEOM1_TPROG ≤ 1000)

/-- The superblocks of a full pound of 512-B records, plus SLUICE_CTL (R205). -/
def sluiceNeed (t : State) : Nat := ceilDiv (t.DRC_POUND_DECL * 2048) (1985 * 2097152) + t.FMM_RESERVE_SLUICE_CTL

/-- 0x06 FLASH (R141, R174, R187, R205). -/
def flashOk (t : State) : Bool :=
  let q := t.FMM_GEOM0_CHANNELS / 24
  nandOk t && decide (t.FMM_JOURNAL_BARGES ≤ 50331648) && decide (journalBlocks t + t.FMM_RESERVE_RETIRE_RES ≤ blocksLeft t) &&
    t.FMM_GEOM1_OPEN_MAX % max q 1 == 0 && rateOk t && decide (sluiceNeed t ≤ t.FMM_RESERVE_SB_RES * max 1 (q - 1)) &&
    decide (t.FMM_RESERVE_SB_RES < t.FMM_GC_GC_LOW) && decide (t.FMM_GC_GC_LOW < t.FMM_GC_GC_HIGH) &&
    decide (t.FMM_WEAR_ERASE_LIMIT ≤ t.FMM_GEOM0_RATED_EC) && t.FMM_WEAR_WL_SPREAD != 0

/-- 0x07 ENERGY (R237, R252): U_TIME in 0.01 per mille per hour, NAMEPLATE in 0.1 Ah. -/
def energyOk (t : State) : Bool :=
  decide (50000 ≤ t.GAUGE_CFG_UNC_U_TIME * t.GAUGE_CFG_CAP1_NAMEPLATE) && decide (t.GAUGE_CFG_CURR_LEARN_I < t.GAUGE_CFG_CURR_ACLOSS_I) &&
    decide (t.WEIR_BATT_N_CFG ≤ 8)

/-- The sled draw at the image sluice rate, W, rounded up (R277). -/
def sledDraw (t : State) : Nat := ceilDiv (t.WEIR_MODEL0_EB * t.WEIR_MODEL2_RS + t.WEIR_MODEL1_PIDLE * 1000) 1000000

/-- 0x08 WINDLASS (R277), for an image with a flywheel. -/
def windlassOk (t : State) : Bool :=
  t.FLY_CFG0_PHASES == 0 ||
    (decide (t.FLY_CFG1_SPEED_MAX < t.FLY_CFG1_OVERSPEED) && decide (t.FLY_CFG2_KE * t.FLY_CFG1_OVERSPEED < t.FLY_CFG4_LINK_OV * 10000) &&
      decide (t.FLY_CFG4_LINK_MIN ≤ t.FLY_CFG4_LINK_TGT) && decide (t.FLY_CFG4_LINK_TGT + 10 * t.FLY_CFG5_REL_V ≤ t.FLY_CFG4_LINK_OV) &&
      decide (0 < t.FLY_CFG1_SPEED_MIN_E) && decide (t.FLY_CFG1_SPEED_MIN_E < t.FLY_CFG1_SPEED_MAX) &&
      decide (sledDraw t ≤ t.FLY_CFG2_P_SLUICE))

/-- A step's codes and reserved fields (R286, R287). -/
def stepOk (w : BitVec 32) : Bool :=
  match sOp w with
  | 1 =>
    sBits w 24 24 == 0 &&
      (match eKind w with
       | 0 => decide (eIndex w < 24)
       | 1 => decide (eIndex w < 64)
       | _ => decide (eIndex w < 16) && eTimeout w == 0)
  | 2 => sBits w 26 24 == 0
  | 3 => decide (sBits w 27 25 ≤ 4) && (sBits w 27 25 != 4 || decide (sBits w 23 16 ≤ 4))
  | 4 => sBits w 25 8 == 0
  | _ => false

/-- A WAIT of at least 1 ms. -/
def longWait (w : BitVec 32) : Bool :=
  sOp w == 2 && (if sBits w 27 27 = 1 then decide (1 ≤ sBits w 23 0) else decide (1000 ≤ sBits w 23 0))

/-- Every backward JUMP closes a loop with a WAIT of at least 1 ms (R286). -/
def loopsOk (l : List (BitVec 32)) : Bool :=
  l.zipIdx.all (fun p =>
    let back := sOp p.1 == 4 && !isEnd p.1 && decide (sBits p.1 7 0 ≤ p.2)
    !back || ((l.take (p.2 + 1)).drop (sBits p.1 7 0)).any longWait)

/-- An ENABLE step of a kind with a value. -/
def enables (w : BitVec 32) (kind : Nat) (on : Bool) : Bool := sOp w == 1 && eKind w == kind && eOn w == on

/-- Program p (R286). -/
def programOk (p : Nat) (l : List (BitVec 32)) : Bool :=
  l.all stepOk && loopsOk l &&
    (match p with
     | 0 =>
       let before := l.takeWhile (fun w => !(enables w 0 true && eIndex w == dCore))
       !before.any (fun w => enables w 0 true)
     | 3 => !l.any (fun w => sOp w == 1 && eKind w == 0 && (eIndex w == dCore || eIndex w == dMgmt))
     | _ => !l.any (fun w => enables w 0 true || enables w 1 true))

/-- 0x09 SEQUENCER (R281, R286, R287, R293). -/
def sequencerOk (t : State) (sec : List Byte) : Bool :=
  [0, 1, 2, 3].all (fun p => programOk p ((tableAt 6 p sec).map (BitVec.ofNat 32))) &&
    (tableAt 6 4 sec).all (fun e => decide (bitsAt e 31 16 ≤ bitsAt e 47 32) && decide (bitsAt e 47 32 ≤ bitsAt e 15 0)) &&
    (tableAt 6 6 sec).headD 0 == t.WEIR_SLUICE_CFG_RESTART_HOLD

/-- The table of R305 assigns the source. -/
def assigned (n : Nat) : Bool := romEntry n != absentEntry

/-- Whether the image populates a source's unit; none where no field of it tells (DEDUCED, log 9). -/
def unitHere (t : State) (rails n : Nat) : Option Bool :=
  if n < 0x100 then (if t.PORT_CFG_SLOTS n = 0 then none else some true)
  else if n < 0x150 then some true
  else if n < 0x1B0 then some (decide (n - 0x150 < t.FMM_GEOM0_CHANNELS))
  else if n < 0x1C0 then some true
  else if n < 0x1D0 then none
  else if n < 0x1D4 then some (decide ((n - 0x1D0) * 24 < t.FMM_GEOM0_CHANNELS))
  else if n < 0x1E0 then some true
  else if n < 0x1E8 then some (decide (n - 0x1E0 < t.WEIR_BATT_N_CFG))
  else if n = 0x1E8 then some true
  else if n = 0x1E9 then some (decide (1 ≤ t.FLY_CFG0_PHASES))
  else if n = 0x1EA then some (decide (2 ≤ t.FLY_CFG0_PHASES))
  else if n = 0x1EB then some (decide (1 ≤ t.FLY_CFG0_PHASES))
  else if n < 0x1F0 then none
  else if n < 0x200 then (if t.KEEP_FCMP_FUNC (n - 0x1F0) = 6 then some true else none)
  else if n < 0x240 then some (decide (n - 0x200 < rails))
  else if n < 0x248 then (if t.KEEP_ACMP_FUNC (n - 0x240) = 6 then some true else none)
  else some (decide (channelOfDie (n - 0x400) < t.FMM_GEOM0_CHANNELS) && decide ((n - 0x400) % 16 < t.FMM_GEOM0_TARGETS))

/-- A supervisor-die source (R305). -/
def supSource (n : Nat) : Bool := decide (0x1C0 ≤ n) && decide (n < 0x400)

/-- N and the window in range (R318). -/
def windowOk (e : Word) : Bool :=
  decide (1 ≤ eN e) && decide (1 ≤ fld e 52 37) && (fld e 53 53 == 0 || decide (fld e 52 37 ≤ 3600))

/-- One entry of the keeper section (R318). -/
def entryOk (t : State) (rails n : Nat) (e : Word) : Bool :=
  if !assigned n then eMode e == 3
  else if eMode e = 3 then unitHere t rails n != some true
  else
    unitHere t rails n != some false && decide (eMode e ≤ 1) && (!supSource n || eMode e == 0) &&
      (supSource n || eReact e / 64 % 2 == 0 || eMode e == 1) && (eReact e / 128 % 2 == 0 || eReact e / 64 % 2 == 1) && windowOk e &&
      (!fixedSource n || eReact e == 0)

/-- The comparators (R320): FILTER of a fast one counts 10 ns. -/
def comparatorsOk (t : State) : Bool :=
  let fast := (List.range 16).map t.KEEP_FCMP_FUNC
  fast.all (fun f => decide (f ≤ 6)) && (List.range 8).all (fun k => [0, 5, 6, 7].contains (t.KEEP_ACMP_FUNC k)) &&
    fast.count 1 == 1 && (List.range 16).all (fun k => t.KEEP_FCMP_FUNC k != 1 || t.KEEP_FCMP_FILTER k == 1000) &&
    decide (fast.count 2 ≤ 1) && decide (fast.count 3 ≤ 1)

/-- 0x0A KEEPER (R318, R320). -/
def keeperOk (t : State) (sec seqSec : List Byte) : Bool :=
  let rails := (tableAt 6 4 seqSec).length
  (tableAt 8 0 sec).zipIdx.all (fun p => entryOk t rails p.2 (BitVec.ofNat 64 p.1)) && comparatorsOk t

/-- 0x0B SELF_TEST. -/
def selfTestOk (t : State) : Bool :=
  decide (1 ≤ t.CFG_ST_CFG_CONFIRM_WIN) && decide (t.CFG_ST_CFG_CONFIRM_WIN ≤ 600) && decide (t.CFG_ST_CFG_DRAM_ALLOW ≤ 6)

/-- The checks in the table's order: FAIL_CHECK, FAIL_SECTION and whether the image passes. -/
def consistency (b : List Byte) (t : State) : List (Nat × Nat × Bool) :=
  [(1, 1, portsOk t), (2, 2, sharesOk t), (3, 2, layoutOk t), (4, 5, decide (t.WEIR_INGRESS_RATE ≤ 180000)), (4, 2, bandwidthOk t),
   (5, 5, weirOk t), (6, 3, flashOk t), (7, 4, energyOk t), (8, 7, !hasSection b 7 || windlassOk t),
   (9, 6, sequencerOk t (secBytes b 6)), (10, 8, keeperOk t (secBytes b 8) (secBytes b 6)), (11, 10, selfTestOk t)]

/-- A failure: CFG_STATUS.REASON, FAIL_SECTION, FAIL_CHECK; REASON 0 for none. -/
abbrev ImgFail := Nat × Nat × Nat

/-- Steps 1 to 5 of R330; the first failure decides. -/
def checkFive (b : List Byte) (s : State) : ImgFail :=
  if !step1 b then (1, 0, 0)
  else if !step2 b then (2, 0, 0)
  else if !step3 b then (3, 0, 0)
  else if !step4 b (fieldsOf b s) then (1, 0, 0)
  else if imgRollback b < fuseCounter s then (4, 0, 0) else (0, 0, 0)

/-- Step 6 of R330 (R331). -/
def checkSix (b : List Byte) (s : State) : ImgFail :=
  match (consistency b (fieldsOf b s)).find? (fun x => !x.2.2) with
  | some x => (5, x.2.1, x.1)
  | none => (0, 0, 0)

/-- Every check of R330, in order. -/
def checkImage (b : List Byte) (s : State) : ImgFail :=
  let five := checkFive b s
  if five.1 = 0 then checkSix b s else five

/-- CFG_CMD_STATUS.RESULT of a failed check (R344). -/
def resultOf (f : ImgFail) : Nat := if f.1 = 0 then 0 else f.1 + 3

end Sys2Proof.Machine
end

