-- ==== Sys2Proof/Machine/Loader.lean ====
section
/-! DEFINITION. The meanings of the configuration loader's commands (R332 to R343), of the always-on domain's start (R259, R260, R290,
R416) and of the collapse of the standby supply. -/

namespace Sys2Proof.Machine

def State.setCfg (s : State) (c : Cfg) : State := { s with cfg := c }

/-! Slots (R333, R334) -/

/-- The CONFIRMED slot: of two, the newer by RSEQ (R343). -/
def confirmedSlot (s : State) : Option Nat :=
  let q := fun n => match (s.slot n).standing with | some r => r.rseq | none => 0
  match (s.slot 0).state == 3, (s.slot 1).state == 3 with
  | true, true => some (if q 0 < q 1 then 1 else 0)
  | true, false => some 0
  | false, true => some 1
  | false, false => none

/-- A slot in a state, slot A first. -/
def slotIn (s : State) (st : Nat) : Option Nat := [0, 1].find? (fun n => (s.slot n).state == st)

/-- A slot's record takes a state. -/
def recordState (n st : Nat) (s : State) : State :=
  match (s.slot n).standing with
  | some r => s.setCfg (s.cfg.setSlot n ((s.slot n).write { r with st := st }))
  | none => s

/-- At most one slot stays CONFIRMED (R338, R343). -/
def oneConfirmed (n : Nat) (s : State) : State := if (s.slot (1 - n)).state = 3 then recordState (1 - n) 5 s else s

/-! Sections into registers (R328, R329, R332) -/

/-- A section's register list. -/
def listOf (sec : List Byte) : List (Nat × Word) := (regList sec).getD []

/-- The keeper section (R318, R328). -/
def loadKeeper (sec : List Byte) (s : State) : State :=
  let s := loadRegs (ownsReg 8) (listOf sec) s
  { s with keep := { s.keep with romDefaults := false, entries := keepEntries sec } }

/-- The windlass section: loaded when none was, or when it differs from the one in force (R260). -/
def loadWindlass (sec : List Byte) (s : State) : State :=
  let t := loadRegs (ownsReg 7) (listOf sec) s
  if s.fly.loaded ∧ t.regs = s.regs then s else flyLoaded (if s.fly.loaded then s.FLY_CFG0_PHASES else 0) t

/-! The always-on domain starts (R259, R260, R290, R293, R297, R319, R321, R416) -/

/-- The section of a type in the confirmed slot. -/
def slotSection (s : State) (kind : Nat) : Option (List Byte) := (confirmedSlot s).bind (fun n => sectionOf (s.slot n).image kind)

/-- A comparator's word: FUNC, INDEX, BELOW, THRESH, HYST, FILTER (R321). -/
def cmpWord (func index below filter : Nat) : Word :=
  at' func 60 ||| at' index 54 ||| at' below 53 ||| at' 1600 28 ||| at' 40 16 ||| at' filter 0

/-- The mask-ROM comparators and GRACE (R321). -/
def romKeeper (s : State) : State :=
  let s := (s.setReg offKEEP_FCMP (cmpWord 1 0 1 1000)).setReg (offKEEP_FCMP + 8) (cmpWord 2 0 1 10)
  let s := (s.setReg (offKEEP_FCMP + 16) (cmpWord 3 0 1 10)).setReg offKEEP_CFG (at' 500 48)
  let s := forEach (List.range 8) s (fun i s => s.setReg (offKEEP_FCMP + 8 * (3 + i)) (cmpWord 4 i 0 10))
  forEach (List.range 8) s (fun i s => s.setReg (offKEEP_ACMP + 8 * i) (cmpWord 7 i 0 10))

/-- The sequencer section of the confirmed slot, or the mask-ROM one (R290). -/
def aonSequencer (s : State) : State :=
  let x := match slotSection s 6 with | some sec => seqSection sec | none => romSection
  let q := { s.seq with sect := x, loaded := true, defaultProg := (slotSection s 6).isNone, st := 1, busGood := some s.now,
                        lowAt := forEach' s.now }
  ({ s with seq := q }).setReg offTOW_CFG x.tow
where
  forEach' (t : Nat) : Tbl Nat := (List.range 16).foldl (fun l n => tset 0 l n t) []

/-- The sections of the confirmed slot that the supervisor die takes. -/
def aonSections (s : State) : State :=
  let s := aonSequencer s
  let s := match slotSection s 7 with | some sec => loadWindlass sec s | none => s
  let s := match slotSection s 8 with | some sec => loadKeeper sec s | none => romKeeper s
  match slotSection s 4 with
  | some sec => gaugeValues (listOf sec) { s with gauge := { s.gauge with aonValues := some (listOf sec) } }
  | none => s

/-- AON_START: the power-on reset is released (R293, R407). -/
def execAonStart (towAddr : BitVec 3) (testEn : Bool) (s : State) : Res :=
  if s.clk.aon then .next s else
  let c := { s.clk with aon := true, rootOk := true, holdover := false, supLock := true }
  let k := { s.keep with stopped := false, testMode := testEn && !s.keep.fuseBlown }
  let s := aonSections { s with clk := c, keep := k, tow := { s.tow with addr := towAddr } }
  .next (settle (logRec 0x01 0 0 [] (logStart s)))

/-- The flash and the SPI NOR alone keep what they hold (R28, R203, R246, R294, R333). -/
def mediumKept (s : State) : State :=
  let z := State.reset
  let f := { z.fmm with rows := s.fmm.rows, laid := s.fmm.laid, segs := s.fmm.segs, manifests := s.fmm.manifests,
                        runDays := s.fmm.runDays, days := s.fmm.days, san := s.fmm.san.stopped }
  let d := s.cfg.dropWrite
  let c := { z.cfg with slotA := d.slotA, slotB := d.slotB, fuses := d.fuses }
  { z with
    pending := s.pending, out := s.out, free := s.free, fmm := f, cfg := c, gauge := { z.gauge with copy0 := s.gauge.copy0, copy1 := s.gauge.copy1 },
    log := { z.log with slots := s.log.slots }, keep := { z.keep with fuseBlown := s.keep.fuseBlown } }

/-- STANDBY_SUPPLY_COLLAPSE (R28, R296): everything without a medium of its own is lost; a record being programmed is torn. Whether
one was is open, a free value (log 2). -/
def execStandbySupplyCollapse (s : State) : Res :=
  let t := mediumKept s
  if s.log.queue.isEmpty then .next t else
  let d := t.draw
  let k := s.log.slot
  if d.2.getLsbD 0 then
    .next { d.1 with log := { d.1.log with slots := tset LogCell.erased (eraseAhead k s.log.slots) k .torn } }
  else .next d.1

/-! Safe harbour (R330, R336) -/

/-- An IMAGE record (R295). -/
def imageLog (detail : Nat) (data : List Word) (s : State) : State := logRec 0x11 0 detail data s

/-- The windlass stays in SAFE, or in OFF if no section was ever loaded (R260). -/
def flyHarbour (s : State) : State := if s.fly.st = .fault ∨ s.fly.st = .off then s else flyDrop (flySafe s)

/-- Safe harbour for a reason: the seal leaves every RWL field at its reset value, and refloat is HELD. The gauge goes back to the values
it took at the start of the always-on domain, where it took any (R416). -/
def safeHarbour (f : ImgFail) (s : State) : State :=
  let sig := f.1 == 3
  let s := s.setCfg { s.cfg with
    st := 5, trial := false, reason := f.1, failSection := f.2.1, failCheck := f.2.2, unsig := sig, defaulted := !sig, sealed := true,
    checking := none }
  let s := imageLog (if sig then 4 else 3) [] s
  let s := { s with gauge := { s.gauge with staged := s.gauge.aonValues } }
  flyHarbour { s with refloat := { s.refloat with stage := 6 } }

/-! The seal (R332) -/

/-- A DRAM channel at the seal: its interface comes up with the self-test. -/
def sealChannel (c : Nat) (s : State) : State := s.setChan c (if s.inService (domainOfChannel c) then ⟨1, 0⟩ else ⟨4, 0⟩)

/-- The populated flash channels at the seal (R141, R206): those of the quadrants that program 0 has switched on are in service (R418). -/
def sealFlash (s : State) : State :=
  forEach (List.range s.FMM_GEOM0_CHANNELS) s (fun c s =>
    let d := domainOfQuadrant (c / 24)
    let st := if s.inService d ∧ s.seq.startOn.getLsbD d then 1 else 3
    { s with fmm := { s.fmm with chans := tset 0 s.fmm.chans c st } })

/-- The dividers of R400, by their codes in CLK_STATUS (R413). -/
def sealClocks (s : State) : State :=
  let fl := match s.FMM_GEOM0_RATE with | 0 => 1 | 1 => 2 | _ => 3
  { s with clk := { s.clk with ddrDiv := if s.DRC_LAYOUT0_SPEED = 0 then 1 else 2, flDiv := fl } }

/-- A sequencer section that differs applies from the next program run (R290). -/
def stageSequencer (x : SeqSection) (s : State) : State :=
  if x = s.seq.sect ∧ !s.seq.defaultProg then { s with seq := { s.seq with staged := none, sectionNew := false } }
  else { s with seq := { s.seq with staged := some x, sectionNew := true } }

/-- The fields of every section are written, and the image is sealed; those of the gauge are in force from its next update (R416). -/
def sealImage (b : List Byte) (s : State) : State :=
  let main := fun off => [1, 2, 3, 4, 5, 10].any (fun k => ownsReg k off) && !gaugeCfg off
  let s := loadRegs main (imgRegs b) s
  let s := { s with gauge := { s.gauge with staged := some (listOf (secBytes b 4)) } }
  let s := loadKeeper (secBytes b 8) s
  let s := if hasSection b 7 then loadWindlass (secBytes b 7) s else s
  let s := stageSequencer (seqSection (secBytes b 6)) s
  let s := s.setCfg { s.cfg with
    st := 3, sealed := true, version := imgVersion b, rollback := imgRollback b, build := imgBuild b, sled := imgSled b,
    digest := imgDigest b, issuers := issuerKeys (secBytes b 9), checking := none }
  let s := { s with drc := { s.drc with delays := delayTable (secBytes b 2) } }
  authNext (forEach (List.range 12) (sealFlash (sealClocks s)) sealChannel)

/-! The wait and the choice of an image (R334) -/

/-- An image is read: from slot A (1), slot B (2) or the host buffer (3); cmd: a command runs the load. -/
def loadBegin (src : Nat) (cmd : Bool) (s : State) : State :=
  let trial := src != 3 && (s.slot (src - 1)).state != 3
  imageLog (src - 1) [] (s.setCfg { s.cfg with st := 2, source := src, trial := trial, checking := if cmd then some src else none })

/-- A TRIAL slot's record is written ATTEMPTED before the image is read; a CONFIRMED one changes none. -/
def loadSlotNow (n : Nat) (cmd : Bool) (s : State) : State :=
  loadBegin (n + 1) cmd (if (s.slot n).state = 1 then recordState n 2 s else s)

/-- The first row of R334's table that applies. -/
def chooseImage (s : State) : State :=
  let s := match confirmedSlot s with | some n => oneConfirmed n s | none => s
  match slotIn s 1, slotIn s 2, confirmedSlot s with
  | some t, _, _ => loadSlotNow t false s
  | none, some a, c =>
    let s := imageLog 6 [] (recordState a 4 (s.setCfg { s.cfg with reverted := true }))
    (match c with
     | some n => loadSlotNow n false s
     | none => safeHarbour (6, 0, 0) s)
  | none, none, some n => loadSlotNow n false s
  | none, none, none => safeHarbour (6, 0, 0) s

/-- PUSH_WAIT_EXPIRY (R334). -/
def execPushWaitExpiry (s : State) : Res :=
  match s.cfg.pushUntil with
  | none => .next s
  | some t => if s.cfg.st ≠ 1 ∨ s.now < t then .next s else .next (settle (chooseImage s))

/-! CFG_CTRL (R334, R341 to R344) -/

/-- CFG_CTRL is reached through BAR0; after a sluice trigger no write has effect (R218, R343). -/
def cfgCommand (key : Byte) (f : State → State) (s : State) : Res :=
  if s.bar0 && key == 0xB7 && !s.sluiced then .next (settle (cmdStart kCfg f s)) else .next s

def doPush (s : State) : State :=
  if s.cfg.st ≠ 1 then cmdEnd kCfg 2 s else if !hostReads s then cmdEnd kCfg 9 s else loadBegin 3 true s

/-- PUSH (R334). -/
def execPush (key : Byte) (s : State) : Res :=
  viaPort (.push key) false (fun s => cfgCommand key doPush s) s

def doLoadSlot (n : Nat) (s : State) : State :=
  if s.cfg.st = 1 ∧ ((s.slot n).state = 1 ∨ (s.slot n).state = 3) then loadSlotNow n true s else cmdEnd kCfg 2 s

/-- LOAD_SLOT (R334). -/
def execLoadSlot (key : Byte) (slot : Bool) (s : State) : Res :=
  viaPort (.loadSlot key slot) false (fun s => cfgCommand key (doLoadSlot slot.toNat) s) s

/-- A WRITE_SLOT ends; a failure leaves the target EMPTY (R341). -/
def writeFails (result : Nat) (s : State) : State := cmdEnd kCfg result (s.setCfg s.cfg.dropWrite)

def doWriteSlot (n : Nat) (s : State) : State :=
  let target := match confirmedSlot s with | some c => 1 - c | none => n
  let s := s.setCfg { s.cfg with writing := some (target, []) }
  if hostReads s then s else writeFails 9 s

/-- WRITE_SLOT (R341). -/
def execWriteSlot (key : Byte) (slot : Bool) (s : State) : Res :=
  viaPort (.writeSlot key slot) false (fun s => cfgCommand key (doWriteSlot slot.toNat) s) s

def doSetTrial (n : Nat) (s : State) : State :=
  if (s.slot n).state = 4 ∨ (s.slot n).state = 5 then s.setCfg { s.cfg with trialling := some n } else cmdEnd kCfg 2 s

/-- SET_TRIAL (R342). -/
def execSetTrial (key : Byte) (slot : Bool) (s : State) : Res :=
  viaPort (.setTrial key slot) false (fun s => cfgCommand key (doSetTrial slot.toNat) s) s

/-! Reads and writes end (R330, R341, R342) -/

/-- A load ends its command, if one runs it. -/
def endLoad (cmd : Option Nat) (result : Nat) (s : State) : State := if cmd.isSome then cmdEnd kCfg result s else s

/-- The image of a load has been read: checked, and sealed or refused. -/
def imageRead (b : List Byte) (s : State) : State :=
  let cmd := s.cfg.checking
  let f := checkImage b s
  if f.1 = 0 then endLoad cmd 0 (sealImage b s) else endLoad cmd (resultOf f) (safeHarbour f s)

/-- The image of a WRITE_SLOT has been read (R341 steps 1 and 2): the record EMPTY, then the slot erased and programmed. -/
def writeRead (n : Nat) (b : List Byte) (s : State) : State :=
  let f := checkImage b s
  if f.1 ≠ 0 then writeFails (resultOf f) s
  else s.setCfg { (s.cfg.setSlot n { (s.slot n).emptied with image := [] }) with writing := some (n, b) }

/-- IMAGE_READ_DONE (R330, R334, R341, R368): ok tells a read that failed; host is what the host buffer held. A load's read goes before a
WRITE_SLOT's. A failed read of a pushed image ends PUSH, and the wait goes on. -/
def execImageReadDone (ok : Bool) (host : List Byte) (s : State) : Res :=
  let b := host.take s.CFG_HOST_LEN_LEN
  if !s.inService dMgmt ∨ s.sluiced then .next s
  else if s.cfg.st = 2 then
    if s.cfg.source = 3 then
      if ok && hostReads s then .next (settle (imageRead b s))
      else .next (settle (cmdEnd kCfg 9 (s.setCfg { s.cfg with st := 1, source := 0, checking := none })))
    else if ok then .next (settle (imageRead (s.slot (s.cfg.source - 1)).image s))
    else .next (settle (endLoad s.cfg.checking 10 (safeHarbour (7, 0, 0) s)))
  else
    match s.cfg.writing with
    | some (n, []) => if ok && hostReads s then .next (settle (writeRead n b s)) else .next (settle (writeFails 9 s))
    | _ => .next s

/-- The record of an image placed in a slot (R333). -/
def recordOf (b : List Byte) : SlotRec := SlotRec.sealed ⟨0xC2565107, 1, imgRollback b, imgVersion b, imgLen b + 72, imgDigest b, 0, 0⟩

/-- SLOT_WRITE_DONE (R341 steps 3 to 5): ok tells that the read-back matches. -/
def execSlotWriteDone (ok : Bool) (s : State) : Res :=
  match s.cfg.writing with
  | none => .next s
  | some (n, b) =>
    if b.isEmpty then .next s
    else if !ok then .next (settle (writeFails 10 s))
    else
      let x := ({ s.slot n with image := b }).write (recordOf b)
      .next (settle (cmdEnd kCfg 0 (s.setCfg { (s.cfg.setSlot n x) with writing := none })))

/-- SET_TRIAL_DONE (R342): ok tells that the slot could be read. -/
def execSetTrialDone (ok : Bool) (s : State) : Res :=
  match s.cfg.trialling with
  | none => .next s
  | some n =>
    let t := s.setCfg { s.cfg with trialling := none }
    let f := checkFive (s.slot n).image s
    if !ok then .next (settle (cmdEnd kCfg 10 t))
    else if f.1 ≠ 0 then .next (settle (cmdEnd kCfg (resultOf f) t))
    else .next (settle (cmdEnd kCfg 0 (recordState n 1 t)))

/-! Sanitize resumes (R203, R204) -/

/-- The block table from the wear record, as a restart takes it, with the erases that the marker records: the wear record's 34 blocks are FULL,
those erased since are ERASED, those whose erase failed RETIRED (R176, R203); ERASED ones await a blank check (R179). -/
def wearCounts (s : State) : State :=
  let x := s.fmm.san
  let f := { s.fmm with blocks := tmap Blk.erased (fun _ b => blkRestart b) x.wear, spillBytes := x.wSpill, flashBytes := x.wFlash }
  let s := { s with fmm := f }
  let done := x.mProgress.flatMap (fun p => ((List.range p.2).map (sanPlace s p.1)).filter (fun y => !isWear s y.1 y.2))
  let s := forEach done s (fun y s =>
    let n := blkNo s y.1 y.2
    s.setBlk n (sanBlk { s.blk n with ec := sat 20 ((s.blk n).ec + 1) } (!x.failed.contains n)))
  let wear := (x.wearSbs.flatMap (fun k => tget [] s.fmm.laid k)).filter (fun y => y != goneSlot)
  let s := forEach wear s (fun y s => s.setBlk (blkNo s y.1 y.2) { s.blk (blkNo s y.1 y.2) with st := 2 })
  lifeChecks (setBlank (s.setSan { s.fmm.san with doneBlocks := done.length, total := blocksUp s, turn := x.mProgress }))

/-- The counters go on from the marker's high-water values. -/
def sanCounters (s : State) : State :=
  let x := s.fmm.san
  { s with fmm := { s.fmm with bseq := max s.fmm.bseq x.mBseq, ckptSeq := max s.fmm.ckptSeq x.mCkpt, pageSeq := max s.fmm.pageSeq x.mPage } }

/-- Step 3 again: the old checkpoint is mounted to be read. -/
def sanFromWear (s : State) : State :=
  let seg := (newestManifest allOk s).bind (ckptOf allOk s)
  let s := match seg with | some g => loadMap g s | none => setBlank (foundSbs s)
  let s := sanCounters s
  sanWear (markStep 3 (s.setSan { s.fmm.san with
    wearSbs := [], failed := [], wear := s.fmm.blocks, wSpill := s.fmm.spillBytes, wFlash := s.fmm.flashBytes, total := blocksUp s,
    mProgress := [], turn := [] }))

/-- Step 4 from the recorded progress, or step 5 when every channel has come to its end. -/
def sanFromErase (s : State) : State :=
  let s := sanCounters (wearCounts s)
  if (List.range 96).all (fun c => (sanTurn s c).isNone) then sanEmpty s
  else forEach ((List.range 96).filter (fun c => flashChan s c == 1)) (s.setSan { s.fmm.san with mStep := 4 }) sanIssue

/-- Step 6 again: the map is the new checkpoint's. -/
def sanFromLast (s : State) : State :=
  let seg := (newestManifest allOk s).bind (ckptOf allOk s)
  let s := sanCounters (match seg with | some g => loadMap g s | none => setBlank s)
  if s.fmm.san.wearSbs.all (fun k => (tget [] s.fmm.laid k).isEmpty) then sanEnd s else sanLast s

def sanResume (s : State) : State :=
  let s := s.setSan { s.fmm.san with st := 1, result := 0 }
  if s.fmm.san.mStep ≤ 3 then sanFromWear s else if s.fmm.san.mStep = 6 then sanFromLast s else sanFromErase s

/-! Self-test and confirmation (R337 to R340) -/

/-- CFG_SELFTEST (R344). -/
def selfTestWord (s : State) : Word :=
  at' s.cfg.dramFail.toNat 52 ||| at' (sat 16 s.cfg.dieFail) 32 ||| at' s.cfg.railFail 24 ||| bitAt s.cfg.testPass 1 ||| bitAt s.cfg.testDone 0

/-- Refloat begins (R223), or sanitize resumes where its marker is RUNNING (R203, R204). -/
def mountBasin (s : State) : State :=
  if s.sluiced then s else
  let s := markRead s
  if s.fmm.san.marker = 1 then sanResume { s with refloat := { s.refloat with tStart := s.seq.tProg0 } }
  else { s with refloat := { s.refloat with stage := 1, tStart := s.seq.tProg0 } }

/-- The image is confirmed: for a slot image an IMAGE record, then refloat (R338). -/
def confirmed (s : State) : State :=
  let s := if s.cfg.source = 3 then s else imageLog 5 [] s
  mountBasin (s.setCfg { s.cfg with st := 4, fuseTarget := 0 })

/-- The steps of R338 up to the fuses of R340. -/
def confirmImage (s : State) : State :=
  if s.cfg.source = 3 then confirmed s else
  let n := s.cfg.source - 1
  let s := oneConfirmed n (recordState n 3 s)
  let s := s.setCfg { s.cfg with trial := false }
  if fuseCounter s < min 64 s.cfg.rollback then s.setCfg { s.cfg with fuseTarget := min 64 s.cfg.rollback } else confirmed s

/-- The self-test failed, or the window ended first (R338, R339). -/
def testFails (s : State) : State :=
  let s := imageLog 7 [selfTestWord s] s
  if s.cfg.trial then resetRequest 4 s
  else { (s.setCfg { s.cfg with st := 6, reason := 8 }) with refloat := { s.refloat with stage := 6 } }

/-- The window of R338 has ended. -/
def windowOver (s : State) : Bool := decide (s.seq.tProg0 + s.CFG_ST_CFG_CONFIRM_WIN * 1000000 ≤ s.now)

/-- A die that the image populates. -/
def dieFitted (s : State) (d : Nat) : Bool := decide (channelOfDie d < s.FMM_GEOM0_CHANNELS) && decide (d % 16 < s.FMM_GEOM0_TARGETS)

/-- The passing condition of R337. -/
def testPasses (s : State) (channels : BitVec 12) (dies rails : Nat) : Bool :=
  decide ((bitsOf 12 channels.toNat).length ≤ s.CFG_ST_CFG_DRAM_ALLOW) &&
    (List.range 6).all (fun k => !(channels.getLsbD k && channels.getLsbD (k + 6))) && decide (dies ≤ s.CFG_ST_CFG_DIE_ALLOW) && rails == 0

/-- The die ID poll (R337): the populated targets whose first six ID bytes are not CFG_DIE_ID; id is what a die answers, odd names those that
answer another one. With CFG_DIE_ID 0 every die fails. -/
def diesBad (s : State) (id : BitVec 48) (odd : List (Fin 1536 × BitVec 48)) : List Nat :=
  ((List.range 1536).filter (dieFitted s)).filter (fun d =>
    let x := match odd.find? (fun y => y.1.val == d) with | some y => y.2 | none => id
    s.CFG_DIE_ID_ID == 0 || x.toNat != s.CFG_DIE_ID_ID)

/-- The last readings of a rail (R303). -/
def railRead (x : RailReading) (s : State) : State :=
  s.setRail x.rail.val { s.rail x.rail.val with status := x.status.toNat, vout := x.vout.toNat }

/-- The rail check (R337): a fault bit of STATUS_WORD, or a READ_VOUT outside VOUT ± RAIL_TOL per mille. -/
def railBad (s : State) (r : Nat) : Bool :=
  let v := railVout s r
  let x := (s.rail r).vout
  (s.rail r).status != 0 || decide (v * s.CFG_ST_CFG_RAIL_TOL < 1000 * (if x < v then v - x else x - v))

/-- The rails of the rail table that fail the check. -/
def railsBad (s : State) : List Nat := (List.range 64).filter (fun r => railEntry s r != (0, 0) && railBad s r)

/-- The channels that passed the walk and their first probe are in service (R138); control lines have their places in pairs that are
(R124). -/
def channelsReady (s : State) : State :=
  let s := forEach (List.range 12) s (fun c s => if (s.chan c).st = 1 then probeWrite c (s.setChan c ⟨2, 0⟩) else s)
  let out := (allUnits s).filter (fun u => !(units s).contains u)
  { s with drc := { s.drc with probedAt := s.now, homes := out.map (fun u => (u, units s)) } }

/-- SELF_TEST_DONE (R132, R161, R337): the channels that failed the walk, the IDs that the dies answered, and what the rails read. -/
def execSelfTestDone (channels : BitVec 12) (id : BitVec 48) (odd : List (Fin 1536 × BitVec 48)) (s : State)
    (readings : List RailReading := []) : Res :=
  if s.cfg.st ≠ 3 ∨ s.cfg.testDone ∨ s.sluiced then .next s else
  let s := forEach readings s railRead
  let bad := diesBad s id odd
  let bars := railsBad s
  let pass := testPasses s channels bad.length bars.length
  let s := s.setCfg { s.cfg with
    dramFail := channels, dieFail := bad.length, railFail := bars.length, testDone := true, testPass := pass }
  let s := channelsReady (forEach (bitsOf 12 channels.toNat) s (channelRetire 7))
  let s := forEach bad s dieLost
  .next (settle (if pass && !windowOver s then confirmImage s else testFails s))

/-- CONFIRM_WINDOW_EXPIRY (R338, R339). -/
def execConfirmWindowExpiry (s : State) : Res :=
  if s.cfg.st = 3 ∧ !s.cfg.testDone ∧ !s.sluiced ∧ windowOver s then .next (settle (testFails s)) else .next s

/-- FUSE_BLOW_DONE (R340): the counter rises by one; at the target the confirmation goes on. -/
def execFuseBlowDone (s : State) : Res :=
  if s.cfg.fuseTarget = 0 then .next s else
  let s := s.setCfg { s.cfg with fuses := s.cfg.fuses + 1 }
  if s.cfg.fuseTarget ≤ fuseCounter s then .next (settle (confirmed s)) else .next s

end Sys2Proof.Machine
end

