-- ==== Sys2Proof/Machine/Ports.lean ====
section
/-! DEFINITION. The meanings of the feeder ports' commands (R345 to R365, R417): links, resets, power states, presentations, the retry
timer, the lock cycle and MSI-X. -/

namespace Sys2Proof.Machine

/-! Targets (R360 to R363) -/

/-- A port of the cycle set: not RETIRED or MEMBER, lowest of its group, with slots. -/
def inCycle (s : State) (p : Nat) : Bool :=
  (s.port p).st != .retired && (s.port p).st != .member && !isMember s p && s.PORT_CFG_SLOTS p != 0

/-- A port that has applied the current target; the current epoch is 0 at each start. -/
def applied (s : State) (p : Nat) : Bool := inCycle s p && (s.port p).epoch == s.lock.epoch

/-- A pending port: not in UP, or in UP with TOKEN_NEEDED (R362). -/
def pendingPort (s : State) (p : Nat) : Bool :=
  inCycle s p && !applied s p && ((s.port p).st != .up || (s.port p).tokenNeeded)

/-- No descriptor of the port's berths waits for its completion. -/
def portQuiet (s : State) (p : Nat) : Bool := s.berths.all (fun x => x.2.port != p || x.2.flights.isEmpty)

/-- A port free to fetch takes the newest target (R361, R362): OPEN and DRAIN at once, HOLD and CLOSED once everything it fetched has
completed; STOPPING until then. -/
def applyTarget (p : Nat) (s : State) : State :=
  let q := s.port p
  if q.st ≠ .up ∨ q.tokenNeeded ∨ !s.lock.valid ∨ s.lock.frozen ∨ !inCycle s p ∨ applied s p then s
  else if s.lock.mode < 2 ∨ portQuiet s p then s.setPort p { q with mode := s.lock.mode, epoch := s.lock.epoch, stopping := false }
  else s.setPort p { q with stopping := true }

/-- PORT_MODE_APPLY (R361). -/
def execPortModeApply (port : Fin 256) (s : State) : Res := .next (applyTarget port.val s)

/-- The conditions of R360, as a RESULT. -/
def lockResult (s : State) (epoch : BitVec 16) : Nat :=
  let d := (epoch - s.lock.epoch).toNat
  if !s.ready ∨ s.sluiced then 2 else if 1 ≤ d ∧ d ≤ 32767 then 0 else 3

/-- LOCK_CTRL written with the key (R360, R362): a new target on every port; a STOPPING port given OPEN or DRAIN resumes. -/
def doLockCycle (mode : Nat) (epoch : BitVec 16) (s : State) : State :=
  let r := lockResult s epoch
  if r ≠ 0 then cmdEnd kLock r s else
  let s := { s with lock := ⟨epoch, mode, true, false⟩ }
  let resume := fun (_ : Nat) (q : Port) => if mode < 2 then { q with stopping := false } else q
  cmdEnd kLock 0 { s with ports := tmap Port.idle resume s.ports }

/-- A register of a block in PD_CORE is reached through BAR0 (R280, R369). -/
def coreReach (s : State) : Bool := s.bar0 && s.core

/-- LOCK_CYCLE (R360). -/
def execLockCycle (key : Byte) (mode : BitVec 2) (epoch : BitVec 16) (s : State) : Res :=
  viaPort (.lockCycle key mode epoch) false (fun s => if coreReach s && key == 0x1C then .next (settle (cmdStart kLock (doLockCycle mode.toNat epoch) s)) else .next s) s

/-! Links (R355, R356) -/

/-- A port in RETRY whose link is up and whose function is ready goes UP when no token is registered or its presentation was accepted;
before its first descriptor read it takes the newest target (R355, R362). -/
def tryUp (p : Nat) (s : State) : State :=
  let q := s.port p
  if q.st = .retry ∧ q.linkUp ∧ !q.d3 ∧ !q.flr ∧ !q.tokenNeeded then applyTarget p (s.setPort p { q with st := .up, retryEnd := none })
  else s

/-- A port trains a link: lowest of its group, in WAKE or RETRY, domain in service, no sluice triggered (R215, R355). -/
def mayTrain (s : State) (p : Nat) : Bool :=
  let q := s.port p
  (q.st == .wake || q.st == .retry) && !q.linkUp && s.inService (domainOfPort p) && !s.sluiced

/-- The rate and width that the port can train to (R345, R364). -/
def trainsTo (s : State) (p speed width : Nat) : Bool :=
  decide (1 ≤ speed) && decide (speed ≤ s.PORT_CFG_MAX_SPEED p) && [1, 2, 4].contains width && decide (width ≤ 2 ^ s.PORT_CFG_WIDTH p)

/-- LINK_UP (R355): WAKE goes UP; fetch waits for a presentation where a token is registered. -/
def execLinkUp (port : Fin 256) (speed width : BitVec 3) (s : State) : Res :=
  let p := port.val
  if !mayTrain s p || !trainsTo s p speed.toNat width.toNat then .next s else
  let q := s.port p
  let t := s.setPort p { q with
    linkUp := true, speed := speed.toNat, width := width.toNat, presented := false, tokenOk := false, warn := false,
    st := if q.st = .wake then .up else q.st }
  .next (settle (applyTarget p (tryUp p t)))

/-- The retry timer of a port in RETRY starts, unless it runs or a sluice has been triggered (R358, R417). -/
def timerStart (p : Nat) (s : State) : State :=
  let q := s.port p
  if q.st = .retry ∧ q.retryEnd.isNone ∧ !s.sluiced then s.setPort p { q with retryEnd := some (s.now + 1000 * s.PORT_CFG_RETRY_MS p) } else s

/-- A link goes down. -/
def linkLost (p : Nat) (s : State) : State :=
  if !(s.port p).linkUp then s else timerStart p (portLinkDown p (portDown true p s))

/-- LINK_DOWN (R355). -/
def execLinkDown (port : Fin 256) (s : State) : Res := .next (settle (linkLost port.val s))

/-- HOT_RESET (R355, R417): the step lasts until the link leaves the Hot Reset state, when the timer starts; the link trains again. -/
def execHotReset (port : Fin 256) (s : State) : Res := .next (settle (linkLost port.val s))

/-! Function resets and power states (R417) -/

/-- FLR (R355, R417): RETRY at once, and no fetch; the function's state is reset. After a sluice trigger the function's reset state
waits for its domain to go off (R218). -/
def execFlr (port : Fin 256) (s : State) : Res :=
  let p := port.val
  if !(s.port p).linkUp ∨ s.sluiced then .next s else
  .next (settle ((portDown false p s).updPort p (fun q => { q with
    flr := true, d3 := false, bme := false, msixEn := false, fnMask := true, unmasked := [], pendingVec := [], presented := false,
    tokenOk := false })))

/-- FLR_COMPLETE (R417). -/
def execFlrComplete (port : Fin 256) (s : State) : Res :=
  let p := port.val
  if !(s.port p).flr then .next s
  else .next (settle (tryUp p (timerStart p (s.updPort p (fun q => { q with flr := false })))))

/-- D3HOT_ENTRY (R355, R417). -/
def execD3hotEntry (port : Fin 256) (s : State) : Res :=
  let p := port.val
  if !(s.port p).linkUp then .next s else .next (settle ((portDown false p s).updPort p (fun q => { q with d3 := true })))

/-- D0_RETURN (R417). -/
def execD0Return (port : Fin 256) (s : State) : Res :=
  let p := port.val
  if !(s.port p).d3 then .next s
  else .next (settle (tryUp p (timerStart p (s.updPort p (fun q => { q with d3 := false })))))

/-- BUS_MASTER_ENABLE (R417): a configuration write; what waited for it can be sent. -/
def execBusMasterEnable (port : Fin 256) (on : Bool) (s : State) : Res :=
  let p := port.val
  if !(s.port p).linkUp then .next s else .next (portFlush p (s.updPort p (fun q => { q with bme := on })))

/-- MSIX_VECTOR_UNMASK (R352). -/
def execMsixVectorUnmask (port : Fin 256) (what : Unmask) (s : State) : Res :=
  let p := port.val
  if !(s.port p).linkUp then .next s else
  .next (portFlush p (s.updPort p (fun q => match what with
    | .vector v => { q with unmasked := if q.unmasked.contains v.val then q.unmasked else insertBy id v.val q.unmasked }
    | .function => { q with fnMask := false }
    | .enable => { q with msixEn := true })))

/-- RETRY_TIMER_EXPIRY (R355). -/
def execRetryTimerExpiry (port : Fin 256) (s : State) : Res :=
  let p := port.val
  match (s.port p).retryEnd with
  | none => .next s
  | some t =>
    if (s.port p).st ≠ .retry ∨ s.now < t then .next s
    else .next (settle (report p true (detailWord 0 3 p) (portRetire 1 p s)))

/-! Presentations (R356, R357) -/

/-- A presentation: registered, matched, or every berth of the port fenced. -/
def present (p : Nat) (t : Word) (s : State) : State :=
  let q := s.port p
  let s := s.setPort p { q with presented := true, tokenOk := true, token := t }
  let s := if q.token = 0 ∨ q.token = t then s else fencePort 2 p (s.bump (offPORT_CNT + 0x1000 * p) 15 0 1)
  applyTarget p (tryUp p s)

/-- TOKEN_PRESENTATION (R356, R417): the first full, nonzero write after a link-up, an FLR or a hot reset; in D3hot a write completes as
Unsupported Request. -/
def execTokenPresentation (port : Fin 256) (token : Word) (be : BitVec 8) (s : State) : Res :=
  let p := port.val
  let q := s.port p
  if q.linkUp ∧ q.d3 then .next (s.emit .unsupported)
  else if !q.linkUp ∨ q.d3 ∨ q.flr ∨ (q.st ≠ .up ∧ q.st ≠ .retry) ∨ be ≠ 0xFF ∨ token = 0 ∨ q.presented then .next s
  else .next (settle (present p token s))

/-! PORT_CTRL (R364) -/

def doPortRetire (p : Nat) (s : State) : State :=
  let q := (s.port p).st
  if s.sluiced ∨ !(q == .wake || q == .up || q == .retry) then cmdEnd (kPort p) 2 s else cmdEnd (kPort p) 0 (portRetire 4 p s)

/-- PORT_RETIRE (R355, R364). -/
def execPortRetire (key : Byte) (port : Fin 256) (s : State) : Res :=
  viaPort (.portRetire key port) false (fun s => if coreReach s && key == 0x2D then .next (settle (cmdStart (kPort port.val) (doPortRetire port.val) s)) else .next s) s

end Sys2Proof.Machine
end

