-- ==== Sys2Proof/Machine/Read.lean ====
section
/-! DEFINITION. What every register of the BAR0 map reads (R110, R140, R206, R230, R255, R278, R303, R323, R344, R364, R365, R377,
R382, R399, R413, R76): the stored fields, and the RO fields as live values of the block. WO and RSV fields read 0. -/

namespace Sys2Proof.Machine

/-! Codes -/

/-- WEIR_STATUS.STATE (R110). -/
def wstCode : WSt → Nat
  | .shut => 0 | .opened => 1 | .over => 2 | .sluice => 3

/-- FLY_STATUS.STATE (R261). -/
def fstCode : FSt → Nat
  | .off => 0 | .safe => 1 | .test => 2 | .sync => 3 | .run => 4 | .brake => 5 | .fault => 6

/-- PORT_STATUS.STATE (R355). -/
def pstCode : PSt → Nat
  | .off => 0 | .wake => 1 | .up => 2 | .retry => 3 | .retired => 4 | .member => 5

/-- A register group of the berth's status: DONE, TICKET, RESULT (R372, R373). -/
def cmdWord (s : State) (k : Nat) : Word :=
  let c := s.cmd k
  bitAt c.done 63 ||| at' c.ticket.toNat 32 ||| at' c.result 28

/-! GLB, CFG and CLK (R344, R377, R378, R413) -/

/-- Sources in SEVERE. -/
def severeCount (s : State) : Nat := (s.keep.srcs.filter (fun p => p.2.severe)).length

/-- GLB_STATUS (R377, R378). -/
def glbStatusWord (s : State) : Word :=
  bitAt (pairDegraded s != 0 || s.drc.coupled != 0) 15 ||| bitAt s.fmm.endOfLife 14 ||| bitAt s.fmm.lifeShort 13 |||
    bitAt (severeCount s != 0) 12 ||| bitAt s.keep.stopped 11 ||| bitAt (s.seq.st == 4) 10 ||| bitAt (s.fly.st == .fault) 9 |||
    bitAt s.gauge.capReq 8 ||| bitAt s.pins.warn 7 ||| bitAt s.sluiced 6 ||| bitAt s.ready 5 ||| bitAt (s.cfg.st == 5) 4 |||
    at' (wstCode s.weir.st) 0

def readGlb (s : State) (off : Nat) : Word :=
  if off = offGLB_ID then glbIdWord
  else if off = offGLB_SERIAL then Config.serial
  else if off = offGLB_STATUS then glbStatusWord s
  else if off = offGLB_CMD_STATUS then cmdWord s kGlb
  else if off = offGLB_TIME then at' s.now 0
  else 0

/-- CFG_SLOT_A, CFG_SLOT_B (R333, R344). -/
def slotWord (x : Slot) : Word :=
  match x.standing with
  | none => 0
  | some r => at' r.st 60 ||| at' r.rollback 52 ||| at' r.version 0

def readCfg (s : State) (off : Nat) : Word :=
  if off = offCFG_STATUS then cfgStatusWord s
  else if off = offCFG_CMD_STATUS then cmdWord s kCfg
  else if off = offCFG_IMAGE then at' s.cfg.version 32 ||| at' s.cfg.rollback 0
  else if off = offCFG_BUILD then at' s.cfg.build 0
  else if off = offCFG_SLED then at' s.cfg.sled 0
  else if offCFG_DIGEST ≤ off ∧ off < offCFG_DIGEST + 32 then (wordsBe s.cfg.digest).getD ((off - offCFG_DIGEST) / 8) 0
  else if off = offCFG_FUSE then at' (fuseCounter s) 0
  else if off = offCFG_SLOT_A then slotWord s.cfg.slotA
  else if off = offCFG_SLOT_B then slotWord s.cfg.slotB
  else if off = offCFG_SELFTEST then selfTestWord s
  else 0

def readClk (s : State) (off : Nat) : Word :=
  let c := s.clk
  if off = offCLK_STATUS then
    at' c.flDiv 10 ||| at' c.ddrDiv 8 ||| bitAt c.holdover 6 ||| bitAt c.mainSel 5 ||| bitAt c.bLock 4 ||| bitAt c.aLock 3 |||
      bitAt c.supLock 2 ||| bitAt c.rootOk 1
  else if off = offCLK_FREQ then at' (Config.rootDev s.now).toNat 0
  else if off = offCLK_TEMP then (if s.core then at' (Config.mainTemp s.now).toNat 16 else 0) ||| at' (Config.supTemp s.now).toNat 0
  else if off = offCLK_RESET_CAUSE then at' c.cause 0
  else 0

/-! SEQ, TOW and LOG (R303) -/

/-- SEQ_STATUS but DISCH_FAIL; STEP, PROG and C read 0 while no program runs. -/
def seqStatusWord (s : State) : Word :=
  let r := s.seq.run
  at' ((r.map (fun x => x.step % 256)).getD 0) 40 ||| at' ((r.map (·.prog)).getD 0) 38 ||| bitAt s.seq.defaultProg 8 |||
    bitAt s.seq.sectionNew 7 ||| bitAt s.seq.timedEnd.isSome 5 ||| bitAt ((r.map (·.c)).getD false) 4 ||| at' s.seq.st 0

/-- SEQ_RAIL of the selected rail (R283). -/
def railWord (s : State) (r : Nat) : Word :=
  let x := s.rail r
  at' (x.target % 65536) 48 ||| at' (x.vout % 65536) 32 ||| at' (x.status % 65536) 16 ||| bitAt (slewing s r) 3 ||| bitAt x.fault 2 |||
    bitAt x.pg 1 ||| bitAt x.on 0

def readSeq (s : State) (off : Nat) : Word :=
  if off = offSEQ_STATUS then seqStatusWord s
  else if off = offSEQ_CMD_STATUS then cmdWord s kSeq
  else if off = offSEQ_FIRST_FAIL then at' s.seq.failRail 56 ||| at' s.seq.failKind 52
  else if off = offSEQ_FIRST_TIME then at' s.seq.failTime 0
  else if off = offSEQ_DOMAINS then at' s.seq.pg.toNat 24 ||| at' s.seq.on.toNat 0
  else if off = offSEQ_RESETS then at' s.seq.relPending.toNat 16 ||| at' s.seq.asserted.toNat 0
  else if off = offSEQ_RAIL then railWord s s.SEQ_RAIL_SEL_RAIL
  else if off = offSEQ_STEP then at' (progWord s s.seq.defaultProg s.SEQ_STEP_SEL_PROG s.SEQ_STEP_SEL_STEP).toNat 0
  else 0

def readTow (s : State) (off : Nat) : Word :=
  let t := s.tow
  if off = offTOW_STATUS then
    at' t.members.toNat 16 ||| at' t.warn.toNat 8 ||| bitAt (t.addr == 0) 7 ||| bitAt t.lost 6 ||| at' t.addr.toNat 0
  else 0

def readLogRegs (s : State) (off : Nat) : Word :=
  if off = offLOG_STATUS then at' (s.log.head.getD 0).toNat 32 ||| at' s.log.queue.length 0
  else if off = offLOG_RD_STATUS then cmdWord s kLog
  else if offLOG_RD_DATA ≤ off ∧ off < offLOG_RD_DATA + 64 then s.log.rd.getD ((off - offLOG_RD_DATA) / 8) 0
  else 0

/-! KEEP (R323) -/

def keepStatusWord (s : State) : Word :=
  let k := s.keep
  at' (severeCount s) 20 ||| bitAt k.testMode 7 ||| bitAt k.fuseBlown 6 ||| bitAt k.rootLost 5 ||| bitAt k.fatal 4 |||
    bitAt (!k.handling.isEmpty) 3 ||| bitAt k.heldUntil.isSome 2 ||| bitAt k.stopped 1

/-- KEEP_SRC_STATE of a source: COUNT is of the transient events still in the window. -/
def srcStateWord (s : State) (n : Nat) : Word :=
  let e := keepEntry s n
  let x := s.src n
  let count := (x.times.filter (fun t => decide (s.now - t ≤ eWindow e))).length
  at' (if eMode e = 3 then 3 else if x.severe then 1 else 0) 62 ||| bitAt x.lineFault 61 ||| bitAt (s.keep.handling.any (fun h => h.1 == n)) 60 |||
    at' (sat 8 count) 52 ||| at' x.detail.toNat 0

/-- KEEP_SRC_CNT of a source. -/
def srcCntWord (x : Src) : Word := at' (sat 32 x.trans) 32 ||| at' (sat 16 x.sev) 16 ||| at' (sat 16 x.merged) 0

def readKeep (s : State) (off : Nat) : Word :=
  let n := s.KEEP_SRC_SEL_SRC
  if off = offKEEP_STATUS then keepStatusWord s
  else if off = offKEEP_CMD_STATUS then cmdWord s kKeep
  else if off = offKEEP_FIRST then at' s.keep.firstSrc 52 ||| at' s.keep.firstOutcome 48 ||| at' s.keep.firstDetail.toNat 0
  else if off = offKEEP_FIRST_TIME then at' s.keep.firstTime 0
  else if off = offKEEP_SRC_CFG then keepEntry s n
  else if off = offKEEP_SRC_STATE then srcStateWord s n
  else if off = offKEEP_SRC_CNT then srcCntWord (s.src n)
  else if off = offKEEP_CMP_TRIP then at' s.keep.acmp.toNat 16 ||| at' s.keep.fcmp.toNat 0
  else 0

/-! WEIR (R92, R110, R230) -/

/-- WEIR_E_CAP, WEIR_E_FLY, WEIR_E_BATT: TRIP while the term is held at 0, through its rise hold; the term as counted; the raw estimate. -/
def termWord (trip : Bool) (der raw : Nat) : Word := bitAt trip 63 ||| at' (sat 31 der) 32 ||| at' (sat 32 raw) 0

/-- At least one string's share is held at 0. -/
def battTrip (s : State) : Bool := s.weir.tripStr.any (fun p => p.2 != .clear)

/-- The strings' shares as counted; none while INDEP is 0 (R87). -/
def battCounted (s : State) : Nat := if s.WEIR_BATT_INDEP = 0 then 0 else ((List.range 8).map (fun i => guarded (tripStrOf s i) (s.weir.shares.getD i 0))).sum

def weirStatusWord (s : State) : Word :=
  let w := s.weir
  bitAt w.floorShort 7 ||| bitAt (w.tripCap != .clear || w.tripFly != .clear || battTrip s) 6 ||| bitAt w.spillFull 5 ||| bitAt w.spillOn 4 |||
    at' (wstCode w.st) 0

/-- Records with WHERE 0x0 still to move, in 512-B units (R163, R230). -/
def remainUnits (s : State) : Nat := tsum (fun _ b => ((b.chain.filter (fun r => r.basin.isNone)).map (·.len)).sum) s.berths

def readWeirLive (s : State) (off : Nat) : Word :=
  let w := s.weir
  if off = offWEIR_STATUS then weirStatusWord s
  else if off = offWEIR_E_CAP then termWord (w.tripCap != .clear) (guarded w.tripCap w.capDer) w.capRaw
  else if off = offWEIR_E_FLY then termWord (w.tripFly != .clear) (guarded w.tripFly w.flyDer) w.flyRaw
  else if off = offWEIR_E_BATT then termWord (battTrip s) (battCounted s) w.battRaw
  else if off = offWEIR_E_SUM then at' (sat 32 (eNeed s (totU s))) 32 ||| at' (sat 32 w.budget.eAvail) 0
  else if off = offWEIR_B_ENERGY then at' (sat 40 w.budget.bEnergy) 0
  else if off = offWEIR_B_EFF then at' (sat 40 w.budget.bEff) 0
  else if off = offWEIR_UNPERSISTED then at' (sat 40 (totU s)) 0
  else if off = offWEIR_HELD then at' (sat 40 (totH s)) 0
  else if off = offWEIR_POOL_USED then at' (sat 40 (poolUsed s)) 0
  else if off = offWEIR_FLOOR_SUM then at' (sat 40 (floorSum s)) 0
  else if off = offWEIR_WAITING then at' (sat 21 (waiting s)) 0
  else if off = offWEIR_MODEL2 then at' (sat 32 s.weir.rs) 32
  else if off = offWEIR_BATT then at' s.gauge.counted.toNat 0
  else if off = offWEIR_POUND_CAP then at' (sat 40 s.weir.bPound) 0
  else 0

/-- The sluice's and refloat's registers (R230); RUN_ID is the number begun at refloat ready. -/
def readSluice (s : State) (off : Nat) : Word :=
  let u := s.sluice
  let r := s.refloat
  if off = offWEIR_SLUICE_STATUS then
    at' u.phase 60 ||| at' u.first 56 ||| at' u.mask.toNat 48 ||| at' (if s.sluiced then sat 40 (remainUnits s) else 0) 0
  else if off = offWEIR_SLUICE_TIME then at' u.tTrigger 0
  else if off = offWEIR_REFLOAT_STATUS then
    at' r.stage 60 ||| at' r.kase 56 ||| at' r.lastFirst 52 ||| at' (if s.ready then sat 32 r.runId else 0) 0
  else if off = offWEIR_REFLOAT_CNT then at' (sat 21 r.survivors) 43 ||| at' (sat 21 r.truncated) 22
  else if off = offWEIR_REFLOAT_TIME then at' (sat 32 r.readyMs) 32 ||| at' (sat 32 r.verifiedSb) 0
  else if off = offWEIR_REFLOAT_LOST then at' r.lost 0
  else 0

/-! GAUGE (R255, R256) -/

/-- A captured register, or its reset value before the first capture. -/
def capture (s : State) (key : Nat) (reset : Word) : Word := (tget none s.gauge.captures key).getD reset

/-- Register k of string n's group; STATE is that of the last update, VI to ID are captured. -/
def readString (s : State) (n k : Nat) : Word :=
  if k = 0 then snapWord s (capKey n 0) 0 else if k < 7 then capture s (capKey n k) (strReset k) else 0

def readGauge (s : State) (off : Nat) : Word :=
  if off = offGAUGE_STATUS then gaugeStatusWord s
  else if off = offGAUGE_CMD_STATUS then cmdWord s kGauge
  else if off = offGAUGE_BATT_SUM then capture s battKey 0
  else if off = offGAUGE_CAP then capture s bankKey 0
  else if offGAUGE_S_STATE ≤ off ∧ off < offGAUGE_S_STATE + 0x200 then
    readString s ((off - offGAUGE_S_STATE) / 64) ((off - offGAUGE_S_STATE) % 64 / 8)
  else 0

/-! FLY (R276, R278) -/

def flyStatusWord (s : State) : Word :=
  let f := s.fly
  bitAt (decide (3000 < f.link) || decide (3000 < f.peak)) 15 ||| bitAt f.set1 14 ||| bitAt f.set0 13 ||| bitAt (tempWarn s && f.loaded) 12 |||
    bitAt (flyCounts s) 11 ||| bitAt f.motoring 10 ||| bitAt f.generating 9 ||| bitAt f.release 8 ||| at' (fstCode f.st) 0

def readFly (s : State) (off : Nat) : Word :=
  let f := s.fly
  let t := fun (k : Nat) => toTwos 16 (f.temps.getD k 0)
  if off = offFLY_STATUS then flyStatusWord s
  else if off = offFLY_FAULT then at' f.cause 60 ||| at' f.phase 56 ||| at' (f.tFault % 2 ^ 56) 0
  else if off = offFLY_SPEED then at' f.enc 48 ||| at' f.bemf 32 ||| at' f.used 16
  else if off = offFLY_LINK then at' (sat 16 (rampNow s)) 32 ||| at' f.link 16 ||| at' f.peak 0
  else if off = offFLY_POWER then at' (Config.flyPower s.now).toNat 48 ||| at' (sat 16 (limMot s)) 32 ||| at' (sat 16 (limGen s)) 16
  else if off = offFLY_PHASE_I then at' (Config.flyCurrents s.now).toNat 0
  else if off = offFLY_TRIM then (List.range 6).foldl (fun w n => w ||| at' (toTwos 8 (trimOf s n)) (8 * n)) 0
  else if off = offFLY_TEMP then at' (t 0) 48 ||| at' (t 1) 32 ||| at' (t 2) 16 ||| at' (t 3) 0
  else 0

/-! DRC (R140) -/

/-- A 4-bit field of each of twelve channels. -/
def chanFields (f : Nat → Nat) : Word := (List.range 12).foldl (fun w c => w ||| at' (f c) (4 * c)) 0

/-- DRC_DLY: the selection names a delay of a channel that the image populates. -/
def delayWord (s : State) : Word :=
  let k := s.DRC_DLY_SEL_CH * 4096 + s.DRC_DLY_SEL_LANE * 16 + s.DRC_DLY_SEL_KIND
  if delayKeys.contains k && (s.chan s.DRC_DLY_SEL_CH).st != 0 then bitAt true 63 ||| at' (tget 0 s.drc.delays k) 0 else 0

def readDrc (s : State) (off : Nat) : Word :=
  if off = offDRC_STATUS then
    bitAt s.drc.singleCtl 13 ||| bitAt s.drc.remirror 12 ||| at' s.drc.coupled 6 ||| at' (pairDegraded s).toNat 0
  else if off = offDRC_CH_STATE then chanFields (fun c => (s.chan c).st)
  else if off = offDRC_RETIRE_CAUSE then chanFields (fun c => (s.chan c).cause)
  else if off = offDRC_SINGLE then at' (sat 40 (singleQ s)) 0
  else if off = offDRC_DLY then delayWord s
  else if off = offDRC_BW then Config.dramBw s.now
  else if offDRC_PORT_HELD ≤ off ∧ off < offDRC_PORT_HELD + 0x800 then at' (sat 40 (portHeld s ((off - offDRC_PORT_HELD) / 8))) 0
  else 0

/-! FMM (R175, R206) -/

/-- The block table entry (R175). -/
def blkWord (b : Blk) : Word :=
  at' b.st 60 ||| at' (sat 20 b.ec) 40 ||| at' b.nextRow 29 ||| at' b.cause 26 ||| bitAt b.blank 25

def fmmStatusWord (s : State) : Word :=
  let f := s.fmm
  bitAt f.lifeShort 16 ||| bitAt f.endOfLife 15 ||| bitAt f.reserveOut 14 ||| bitAt (throttleStop s) 13 ||| bitAt (throttlePace s) 12 |||
    at' f.fg.toNat 8 ||| at' f.bg.toNat 4 ||| at' (quadMask (quadUp s)).toNat 0

/-- FMM_FREE: F_q of each quadrant. -/
def freeWord (s : State) : Word := (List.range 4).foldl (fun w q => w ||| at' (sat 16 (freeSbs s q)) (16 * q)) 0

/-- FMM_CH_STATEn. -/
def flashChanWord (s : State) (n : Nat) : Word := (List.range 32).foldl (fun w i => w ||| at' (flashChan s (32 * n + i)) (2 * i)) 0

/-- The selected block, where the image populates it. -/
def blkSelWord (s : State) : Word :=
  if dieFitted s s.FMM_BLK_SEL_DIE && decide (s.FMM_BLK_SEL_BLOCK < s.FMM_GEOM0_BLOCKS) then
    blkWord (s.blk (blkNo s s.FMM_BLK_SEL_DIE s.FMM_BLK_SEL_BLOCK))
  else 0

def readFmm (s : State) (off : Nat) : Word :=
  let f := s.fmm
  if off = offFMM_STATUS then fmmStatusWord s
  else if off = offFMM_FREE then freeWord s
  else if off = offFMM_BLOCKS then
    at' (retiredBlocks s) 32 ||| at' (f.blocks.filter (fun p => p.2.st == 3 || p.2.st == 4)).length 0
  else if off = offFMM_EC then
    at' (sat 20 (ecMax s)) 40 ||| at' (sat 20 (ecMin s)) 20 ||| at' (sat 20 ((ecList s).sum / max (blocksIn s) 1)) 0
  else if off = offFMM_LIFE then at' f.lifeDays 32 ||| at' f.safeRate 0
  else if off = offFMM_WEAR_RATE then at' f.wRatio 32 ||| at' f.rE 0
  else if off = offFMM_BYTES_SPILL then at' (f.spillBytes / 2048) 0
  else if off = offFMM_BYTES_FLASH then at' (f.flashBytes / 2048) 0
  else if offFMM_CH_STATE ≤ off ∧ off < offFMM_CH_STATE + 24 then flashChanWord s ((off - offFMM_CH_STATE) / 8)
  else if off = offFMM_SAN_STATUS then at' f.san.st 60 ||| at' f.san.result 56 ||| at' (sat 32 f.san.unerased) 0
  else if off = offFMM_SAN_PROG then at' (sat 32 f.san.doneBlocks) 32 ||| at' (sat 32 f.san.total) 0
  else if off = offFMM_BLK then blkSelWord s
  else 0

/-! PKE (R391, R399) -/

/-- The attestation public key (R395). -/
def attestPub : Nat × Nat := (curveMul Config.attestKey p256gx p256gy).getD (0, 0)

/-- Word k of a key's x and y. -/
def keyWord (x y k : Nat) : Word := (wordsBe x ++ wordsBe y).getD k 0

def readPke (s : State) (off : Nat) : Word :=
  let k := s.pke
  if off = offPKE_ISSUE then at' k.issue.toNat 0
  else if off = offPKE_RESULT then bitAt k.rDone 63 ||| at' k.rTicket.toNat 32 ||| at' k.rStatus 28 ||| bitAt k.rValid 27
  else if off = offPKE_RES_TIME then at' k.rTime 0
  else if off = offPKE_STATUS then
    bitAt (k.queue.any (fun o => o.who == .rack)) 2 ||| bitAt ((k.cur.map (fun o => o.who != .rack)).getD false) 1 ||| bitAt k.cur.isSome 0
  else if offPKE_RX ≤ off ∧ off < offPKE_RX + 64 then keyWord k.rx k.ry ((off - offPKE_RX) / 8)
  else if offPKE_IMG_PUB ≤ off ∧ off < offPKE_IMG_PUB + 64 then keyWord Config.imageKeyX Config.imageKeyY ((off - offPKE_IMG_PUB) / 8)
  else if offPKE_ATT_PUB ≤ off ∧ off < offPKE_ATT_PUB + 64 then keyWord attestPub.1 attestPub.2 ((off - offPKE_ATT_PUB) / 8)
  else 0

/-! LOCK, CHART, PORT and BERTH (R76, R363 to R365, R382) -/

/-- The ports of a predicate, counted, and as the bits of word k. -/
def portCount (f : Nat → Bool) : Nat := ((List.range 256).filter f).length

def portBits (f : Nat → Bool) (k : Nat) : Word := (List.range 64).foldl (fun w i => w ||| bitAt (f (64 * k + i)) i) 0

/-- LOCK_STATUS (R363): COMPLETE once a cycle has been accepted and every port of the set has applied it. -/
def lockStatusWord (s : State) : Word :=
  let n := portCount (inCycle s)
  let a := portCount (applied s)
  let p := portCount (pendingPort s)
  at' s.lock.epoch.toNat 48 ||| at' s.lock.mode 46 ||| bitAt s.lock.frozen 45 ||| bitAt (s.lock.valid && a == n) 44 ||| bitAt s.lock.valid 43 |||
    at' n 27 ||| at' a 18 ||| at' p 9 ||| at' (n - a - p) 0

def readLock (s : State) (off : Nat) : Word :=
  if off = offLOCK_CMD_STATUS then cmdWord s kLock
  else if off = offLOCK_STATUS then lockStatusWord s
  else if offLOCK_APPLIED ≤ off ∧ off < offLOCK_APPLIED + 32 then portBits (applied s) ((off - offLOCK_APPLIED) / 8)
  else if offLOCK_PENDING ≤ off ∧ off < offLOCK_PENDING + 32 then portBits (pendingPort s) ((off - offLOCK_PENDING) / 8)
  else 0

def readChart (s : State) (off : Nat) : Word :=
  if off = offCHART_STATUS then at' s.chart.st 62 ||| at' (sat 25 s.chart.used) 0
  else if off = offCHART_CMD_STATUS then cmdWord s kChart
  else 0

/-- PORT_STATUS (R364); RETRY_LEFT in whole ms, rounded up. -/
def portStatusWord (s : State) (p : Nat) : Word :=
  let q := s.port p
  let left := match q.retryEnd with | some t => ceilDiv (t - s.now) 1000 | none => 0
  at' (pstCode q.st) 60 ||| at' q.mode 58 ||| at' q.epoch.toNat 42 ||| bitAt q.stopping 41 ||| bitAt (q.token != 0) 40 |||
    bitAt q.tokenNeeded 39 ||| bitAt q.bme 38 ||| bitAt (q.msixEn && !q.fnMask) 37 ||| at' q.speed 34 ||| at' q.width 31 |||
    at' (sat 16 left) 15 ||| at' q.cause 11

/-- A register of port p's page. -/
def readPort (s : State) (p k : Nat) : Word :=
  if k = 0 then portStatusWord s p
  else if k = 0x10 then cmdWord s (kPort p)
  else if k = 0x20 then (s.port p).token
  else 0

/-- BERTH_STATUS (R76): the reason only while FENCED. -/
def berthStatusWord (s : State) (b : Berth) : Word :=
  cmdWord s kBerth ||| at' (if b.st = .fenced then b.reason else 0) 24 ||| at' (bstCode b.st) 20 ||| at' b.gen.toNat 0

/-- The counters of the selected berth; 0 while it is FREE. -/
def readBerth (s : State) (off : Nat) : Word :=
  let b := s.berth (selected s)
  if off = offBERTH_STATUS then berthStatusWord s b
  else if b.st = .free then 0
  else if off = offBERTH_SEQ then at' b.nextSeq 0
  else if off = offBERTH_RETIRED then at' b.retirePoint 0
  else if off = offBERTH_HELD then at' (sat 32 b.unret) 32 ||| at' (sat 32 b.held) 0
  else if off = offBERTH_SURVIVOR then at' b.lastSurvivor 0
  else 0

/-! The whole map (R369) -/

/-- The blocks of PD_CORE. -/
def coreBlock (off : Nat) : Bool :=
  (decide (0x50000 ≤ off) && decide (off < 0x60000)) || (decide (0x80000 ≤ off) && decide (off < 0xB0000)) ||
    (decide (0xD0000 ≤ off) && decide (off < 0xF0000)) || (decide (0x100000 ≤ off) && decide (off < 0x200080))

/-- The RO fields of the register at an offset. -/
def liveWord (s : State) (off : Nat) : Word :=
  if off < 0x10000 then readGlb s off
  else if off < 0x20000 then readCfg s off
  else if off < 0x30000 then readClk s off
  else if off < 0x40000 then readSeq s off
  else if off < 0x50000 then readKeep s off
  else if off < 0x50200 then readWeirLive s off
  else if off < 0x60000 then readSluice s off
  else if off < 0x70000 then readGauge s off
  else if off < 0x80000 then readFly s off
  else if off < 0x90000 then readDrc s off
  else if off < 0xA0000 then readFmm s off
  else if off < 0xB0000 then readPke s off
  else if off < 0xC0000 then readTow s off
  else if off < 0xD0000 then readLogRegs s off
  else if off < 0xE0000 then readLock s off
  else if off < 0x100000 then readChart s off
  else if off < 0x200000 then readPort s ((off - 0x100000) / 0x1000) (off % 0x1000)
  else readBerth s off

/-- The MSI-X table's word k (R369): vector control bit 0 of entry n is mgmt.masked's bit n. -/
def msixWord (s : State) (k : Nat) : Word :=
  tget 0 s.mgmt.msixTable k ||| (if k % 2 = 1 then bitAt (s.mgmt.masked.getLsbD (k / 2)) 32 else 0)

/-- A register's stored fields; a GAUGE_CFG register reads what the seal gave it, in force from the gauge's next update (R332, R416). -/
def storedWord (s : State) (off : Nat) : Word :=
  match s.gauge.staged with
  | some l => if gaugeCfg off then listed l off else s.reg off
  | none => s.reg off

/-- The value of the 8-byte register at an aligned offset; 0 where no block defines one, or the block's domain is off (R280, R369). -/
def readReg (s : State) (off : Nat) : Word :=
  if 0x3000000 ≤ off ∧ off < 0x3000080 then msixWord s ((off - 0x3000000) / 8)
  else if off = 0x3001000 then at' s.mgmt.pend.toNat 0
  else if coreBlock off && !s.core then 0
  else
    match regAt off with
    | none => 0
    | some r => (storedWord s off &&& (r.rw ||| r.rw1c ||| r.rc ||| r.rwl)) ||| liveWord s off

end Sys2Proof.Machine
end

