-- ==== Sys2Proof/Machine/Management.lean ====
section
/-! DEFINITION. The meanings of the management port's commands (R366 to R383): its link, its messages, the flag block, the chart's
commands, RESET, and any BAR0 read or write. -/

namespace Sys2Proof.Machine

/-! GLB_CTRL (R377, R379) -/

/-- RESET: held behind a sluice once refloat ready has been reached or a trigger taken, at once before. -/
def doReset (s : State) : State :=
  if s.ready ∨ s.sluiced then cmdEnd kGlb 4 (resetRequest 2 s) else resetRequest 2 (cmdEnd kGlb 0 s)

/-- A GLB_CTRL write with the key. -/
def glbOp (op : Nat) (s : State) : State := if op = 1 then doReset s else cmdEnd kGlb 1 s

/-- GLB_RESET (R379). -/
def execGlbReset (key : Byte) (s : State) : Res :=
  viaPort (.glbReset key) false (fun s => if s.bar0 && key == 0xE1 then .next (settle (cmdStart kGlb doReset s)) else .next s) s

/-! Messages (R368, R380) -/

/-- A due message of vector n is sent while its status bit and its enable are both 1. -/
def sendDue (n : Nat) (s : State) : State :=
  if s.mgmt.due.getLsbD n && fld (s.reg offGLB_IRQ_STATUS) n n == 1 && fld (s.reg offGLB_IRQ_ENABLE) n n == 1 then
    sendIrq n { s with mgmt := { s.mgmt with due := s.mgmt.due &&& ~~~ BitVec.ofNat 8 (2 ^ n) } }
  else s

/-- IRQ_DUE_SEND (R380): the step brings the clearing of every condition that held the message back: the link is up, the function in D0
with Bus Master Enable and MSI-X set (log 17). -/
def execIrqDueSend (vector : Fin 8) (s : State) : Res :=
  if !s.inService dMgmt then .next s
  else .next (sendDue vector.val { s with mgmt := { s.mgmt with link := true, bme := true, msixEn := true, d3 := false } })

/-- A pending message goes once its vector is unmasked (R380). -/
def sendPending (n : Nat) (s : State) : State :=
  if s.mgmt.pend.getLsbD n && !s.mgmt.masked.getLsbD n && hostReads s && s.mgmt.msixEn then
    ({ s with mgmt := { s.mgmt with pend := s.mgmt.pend &&& ~~~ BitVec.ofNat 8 (2 ^ n) } }).emit (.mgmtMsix n)
  else s

/-- What link loss, hot reset, FLR and D3hot leave of the function (R368): its configuration and its MSI-X table at reset. -/
def mgmtFunction (d3 : Bool) (m : Mgmt) : Mgmt :=
  { m with link := true, bme := false, msixEn := false, d3 := d3, masked := 0xFF, pend := 0, msixTable := [] }

/-- MGMT_LINK_RESET (R368): the step lasts until the link has trained again; no device state changes. -/
def execMgmtLinkReset (what : MgmtReset) (s : State) : Res :=
  if !s.inService dMgmt then .next s else .next { s with mgmt := mgmtFunction (what == .d3hot) s.mgmt }

/-! The chart's commands (R173, R382, R383) -/

/-- SLOTS from 1 to 16,777,216, and the buffer within 2^64. -/
def chartFieldsOk (s : State) : Bool :=
  decide (1 ≤ s.CHART_SIZE_SLOTS ∧ s.CHART_SIZE_SLOTS ≤ 16777216) &&
    decide ((s.CHART_BASE_ADDR + s.CHART_SIZE_SLOTS) * 4096 ≤ 2 ^ 64)

def doChartEnable (s : State) : State :=
  if s.chart.st ≠ 0 ∨ !s.ready ∨ s.sluiced then cmdEnd kChart 2 s
  else if !chartFieldsOk s then cmdEnd kChart 3 s
  else cmdEnd kChart 0 { s with chart := ⟨1, 0, 0⟩ }

/-- DISABLE: every CHART page is the one on flash. -/
def doChartDisable (s : State) : State := if s.sluiced then cmdEnd kChart 2 s else cmdEnd kChart 0 (chartOff s)

/-- CHART_CTRL is reached through BAR0, in PD_CORE. -/
def chartCommand (key : Byte) (f : State → State) (s : State) : Res :=
  if coreReach s && key == 0x8E then .next (settle (cmdStart kChart f s)) else .next s

/-- CHART_ENABLE (R383). -/
def execChartEnable (key : Byte) (s : State) : Res :=
  viaPort (.chartEnable key) false (fun s => chartCommand key doChartEnable s) s

/-- CHART_DISABLE (R173, R383). -/
def execChartDisable (key : Byte) (s : State) : Res :=
  viaPort (.chartDisable key) false (fun s => chartCommand key doChartDisable s) s

/-! Reads (R370, R371) -/

/-- A BAR0 request arrives: PD_MGMT in service, link up. -/
def mgmtUp (s : State) : Bool := s.inService dMgmt && s.mgmt.link

/-- 4 or 8 bytes, naturally aligned. -/
def accessOk (off size : Nat) : Bool := (size == 4 || size == 8) && off % size == 0

/-- The register's counters are cleared by a read (R9); KEEP_SRC_CNT's are the selected source's (R323). -/
def clearRc (off : Nat) (s : State) : State :=
  if off = offKEEP_SRC_CNT then s.updSrc s.KEEP_SRC_SEL_SRC (fun x => { x with trans := 0, sev := 0, merged := 0 })
  else
    match regAt off with
    | none => s
    | some r => if r.rc = 0 then s else s.setReg off (s.reg off &&& ~~~ r.rc)

/-- What a read of the register at an aligned offset does: counters cleared, a group captured. -/
def readSide (off : Nat) (s : State) : State :=
  if off = offGAUGE_STATUS then captureStatus s
  else if offGAUGE_S_STATE ≤ off ∧ off < offGAUGE_S_STATE + 0x200 ∧ (off - offGAUGE_S_STATE) % 64 = 0 then
    captureString ((off - offGAUGE_S_STATE) / 64) s
  else clearRc off s

/-- The part of a register's word that a read of size bytes at off returns. -/
def readPart (off size : Nat) (w : Word) : Word :=
  if size = 8 then w else if off % 8 = 0 then at' (fld w 31 0) 0 else at' (fld w 63 32) 0

/-- A read of BAR0: no answer while the link is down, Unsupported Request in D3hot or for a bad size (R368, R370). -/
def mgmtRead (off size : Nat) (s : State) : State :=
  if !mgmtUp s then s
  else if s.mgmt.d3 || !accessOk off size then s.emit .unsupported
  else
    let o := off / 8 * 8
    (readSide o s).emit (.mgmtData (readPart off size (readReg s o)))

/-- RC_READ (R9, R371). -/
def execRcRead (off : BitVec 26) (size : BitVec 4) (s : State) : Res :=
  viaPort (.rcRead off size) false (fun s => .next (mgmtRead off.toNat size.toNat s)) s

/-! Writes (R370, R372) -/

/-- The bits of a register that a request covers. -/
def laneMask (off size : Nat) : Word := if size = 8 then maskOf 63 0 else if off % 8 = 0 then maskOf 31 0 else maskOf 63 32

/-- The request's data in the register's bit places. -/
def laneData (off size : Nat) (d : Word) : Word :=
  if size = 8 then d else if off % 8 = 0 then at' (fld d 31 0) 0 else at' (fld d 31 0) 32

/-- RW fields take the data, RW1C fields are cleared where it is 1 (R9, R370). -/
def mergeWrite (r : RegInfo) (old lane data : Word) : Word :=
  let rw := r.rw &&& lane
  ((old &&& ~~~ rw) ||| (data &&& rw)) &&& ~~~ (data &&& lane &&& r.rw1c)

/-- A SEQ_CTRL write; whether a RAIL_CMD's PMBus transfer is answered comes from outside, a free value here (log 2). -/
def seqOp (op : Nat) (s : State) : State :=
  match op with
  | 1 => doClear s
  | 2 => doRunService s
  | 3 => let d := s.draw; doRailCmd (d.2.getLsbD 0) d.1
  | _ => cmdEnd kSeq 1 s

def keepOp (op src : Nat) (s : State) : State :=
  match op with
  | 1 => doAckAlive s
  | 2 => doRestore src s
  | 3 => doRestoreAll s
  | 4 => doAckWarn s
  | _ => cmdEnd kKeep 1 s

/-- A GAUGE_CTRL write; whether the shelf acknowledges a LEARN_START is a free value here (log 2). -/
def gaugeOp (op i : Nat) (s : State) : State :=
  match op with
  | 1 => let d := s.draw; doLearnStart i (d.2.getLsbD 0) d.1
  | 2 => doLearnAbort s
  | 3 => doAuth i s
  | 4 => doCapTest s
  | 5 => doForget i s
  | _ => cmdEnd kGauge 1 s

def cfgOp (op slot : Nat) (s : State) : State :=
  match op with
  | 1 => doPush s
  | 2 => doLoadSlot slot s
  | 3 => doWriteSlot slot s
  | 4 => doSetTrial slot s
  | _ => cmdEnd kCfg 1 s

/-- After a sluice trigger every CHART_CTRL write gives BAD_STATE (R383). -/
def chartOp (op : Nat) (s : State) : State :=
  match op with
  | 1 => doChartEnable s
  | 2 => doChartDisable s
  | _ => cmdEnd kChart (if s.sluiced then 2 else 1) s

/-- After a sluice trigger every PORT_CTRL write gives BAD_STATE (R218). -/
def portOp (p op : Nat) (s : State) : State :=
  if op = 1 then doPortRetire p s else cmdEnd (kPort p) (if s.sluiced then 2 else 1) s

/-- A TOW_CTRL write: the master sends START, SLUICE or CLEAR (R300, R303); another CMD sends nothing (log 18). -/
def towOp (op : Nat) (mask : Byte) (s : State) : State := if master s ∧ 1 ≤ op ∧ op ≤ 3 then towSend op mask s else s

/-- A FLY_CTRL write with the key: HOLD, then CLEAR (R261, R278). -/
def flyOp (hold clear : Bool) (s : State) : State :=
  let s := writeHold hold s
  if clear then clearFly s else s

/-- The KEY that each control register with DONE, TICKET and RESULT asks for at [15:8], its status key, and what an accepted write does
(R372). -/
def control (off : Nat) (d : Word) (s : State) : Option (Nat × Nat × (State → State)) :=
  let op := fld d 3 0
  if off = offGLB_CTRL then some (0xE1, kGlb, glbOp op)
  else if off = offCFG_CTRL then (if s.sluiced then none else some (0xB7, kCfg, cfgOp op (fld d 4 4)))
  else if off = offSEQ_CTRL then some (0x9D, kSeq, seqOp op)
  else if off = offKEEP_CTRL then some (0x4B, kKeep, keepOp op (fld d 27 16))
  else if off = offGAUGE_CTRL then some (0x6B, kGauge, gaugeOp (fld d 7 4) (fld d 2 0))
  else if off = offLOCK_CTRL then some (0x1C, kLock, doLockCycle (fld d 1 0) (BitVec.ofNat 16 (fld d 63 48)))
  else if off = offCHART_CTRL then some (0x8E, kChart, chartOp op)
  else if offPORT_STATUS ≤ off ∧ off < offBERTH_SEL ∧ off % 0x1000 = 8 then
    let p := (off - offPORT_STATUS) / 0x1000
    some (0x2D, kPort p, portOp p op)
  else none

/-- An 8-byte write of a register with a KEY or WO field; each acts as the commands of its own rows do. -/
def keyWrite (off : Nat) (d : Word) (s : State) : State :=
  let key := BitVec.ofNat 8 (fld d 15 8)
  match control off d s with
  | some (k, c, f) => if key.toNat = k then cmdStart c f s else s
  | none =>
    if off = offKEEP_INJECT then inject d s
    else if off = offWEIR_SLUICE_CTRL then sluiceWrite key (fld d 0 0 == 1) s
    else if off = offFLY_CTRL then (if key = 0x3E then flyOp (fld d 0 0 == 1) (fld d 1 1 == 1) s else s)
    else if off = offDRC_CTRL then
      (if retireAsked s key (fld d 4 4 == 1) (BitVec.ofNat 4 (fld d 3 0)) then channelRetire 5 (fld d 3 0) s else s)
    else if off = offFMM_SAN_CTRL then sanitizeWrite key (fld d 0 0 == 1) s
    else if off = offPKE_CTRL then pkeWrite key (fld d 3 0) (fld d 4 4 == 1) s
    else if off = offTOW_CTRL then (if fld d 23 16 = 0x47 then towOp (fld d 3 0) key s else s)
    else s

/-- GLB_IRQ_STATUS or GLB_IRQ_ENABLE written: a message stays due only while both bits are 1, and an enable written 1 while its bit is 1
sends (R380). -/
def irqWritten (off : Nat) (data : Word) (s : State) : State :=
  let both := BitVec.ofNat 8 (fld (s.reg offGLB_IRQ_STATUS &&& s.reg offGLB_IRQ_ENABLE) 7 0)
  let s := { s with mgmt := { s.mgmt with due := s.mgmt.due &&& both } }
  if off = offGLB_IRQ_ENABLE then
    forEach ((List.range 8).filter (fun n => both.getLsbD n && data.getLsbD n)) s sendIrq
  else s

/-- WEIR_CTRL.SHUT written (R107). -/
def shutWritten (old : Nat) (s : State) : State :=
  if s.WEIR_CTRL_SHUT = 1 then weirShut s else if old = 1 then weirEval s else s

/-- LOCK_ and CFG_ registers, which a write after a sluice trigger does not change (R218). -/
def lateIgnored (off : Nat) : Bool :=
  off == offCFG_HOST_ADDR || off == offCFG_HOST_LEN || (decide (offLOCK_FLAG ≤ off) && decide (off < offLOCK_FLAG + 2048))

/-- A write of a register with only RW and RW1C fields, data and lane in its bit places (R370). -/
def plainWrite (r : RegInfo) (off : Nat) (lane data : Word) (s : State) : State :=
  let w := mergeWrite r (s.reg off) lane data
  if s.sluiced ∧ lateIgnored off then s
  else if off = offGLB_IRQ_STATUS ∨ off = offGLB_IRQ_ENABLE then irqWritten off (data &&& lane) (s.setReg off w)
  else if off = offWEIR_CTRL then shutWritten s.WEIR_CTRL_SHUT (s.setReg off w)
  else if off = offFLY_LINK then (if lane &&& maskOf 63 48 = 0 then s else writeLinkTarget (fld w 63 48) s)
  else if off = offCHART_BASE ∨ off = offCHART_SIZE then (if s.chart.st = 0 then s.setReg off w else s)
  else if offPKE_OP ≤ off ∧ off < offPKE_OP + 160 then (if rackBusy s then s else s.setReg off w)
  else if off = offLOG_RD_SEL then (if lane &&& maskOf 31 0 = 0 then s else readLog (BitVec.ofNat 32 (fld w 31 0)) s)
  else s.setReg off w

/-- The way a charter-window write brings its data (R375): the whole, the low or the high four bytes. -/
def partKind (off size : Nat) : Nat := if size = 8 then 0 else if off % 8 = 0 then 1 else 2

/-- A write of the MSI-X table's word k: the mask bit of entry n has its home in mgmt.masked (R369, R380). -/
def msixWrite (k : Nat) (lane data : Word) (s : State) : State :=
  let keep := if k % 2 = 1 then lane &&& maskOf 31 0 else lane
  let t := tset 0 s.mgmt.msixTable k ((tget 0 s.mgmt.msixTable k &&& ~~~ keep) ||| (data &&& keep))
  let s := { s with mgmt := { s.mgmt with msixTable := t } }
  if k % 2 = 0 ∨ !lane.getLsbD 32 then s else
  let n := k / 2
  let bit := BitVec.ofNat 8 (2 ^ n)
  let m := if data.getLsbD 32 then s.mgmt.masked ||| bit else s.mgmt.masked &&& ~~~ bit
  sendPending n { s with mgmt := { s.mgmt with masked := m } }

/-- A write that reaches the registers: reserved offsets, blocks of a domain that is off, RO, RC, RWL and RSV fields ignore it (R10, R280,
R332, R369). -/
def regWrite (off size : Nat) (d : Word) (s : State) : State :=
  let o := off / 8 * 8
  let lane := laneMask off size
  let data := laneData off size d
  if 0x3000000 ≤ o ∧ o < 0x3000080 then msixWrite ((o - 0x3000000) / 8) lane data s
  else if coreBlock o && !s.core then s
  else
    match regAt o with
    | none => s
    | some r =>
      if offBERTH_SEL ≤ o then
        (if r.rw = 0 ∧ r.wo = 0 then s else stageNow o (partKind off size) (if size = 8 then d else at' (fld d 31 0) 0) s)
      else if r.wo ≠ 0 then (if size = 8 then keyWrite o d s else s)
      else if r.rw = 0 ∧ r.rw1c = 0 then s
      else plainWrite r o lane data s

/-- A write of BAR0 (R368, R370). -/
def mgmtWrite (off size : Nat) (d : Word) (s : State) : State :=
  if !mgmtUp s then s else if s.mgmt.d3 || !accessOk off size then s.emit .unsupported else regWrite off size d s

/-- An offset of the charter window that a write changes (R375). -/
def charterOff (off : Nat) : Bool :=
  let o := off / 8 * 8
  decide (offBERTH_SEL ≤ o) && (match regAt o with | some r => r.rw != 0 || r.wo != 0 | none => false)

/-- REGISTER_WRITE (R370). -/
def execRegisterWrite (off : BitVec 26) (size : BitVec 4) (data : Word) (s : State) : Res :=
  viaPort (.registerWrite off size data) (charterOff off.toNat) (fun s => .next (settle (mgmtWrite off.toNat size.toNat data s))) s

/-! The flag block (R34, R35, R381) -/

/-- FLAG_ACCESS: whole on its 8 bytes, or on the low or high 4. -/
def execFlagAccess (n : Fin 256) (write : Bool) (size : BitVec 4) (high : Bool) (data : Word) (s : State) : Res :=
  viaPort (.flagAccess n write size high data) false (fun s =>
    let off := offLOCK_FLAG + 8 * n.val + (if high && size != 8 then 4 else 0)
    .next (if write then settle (mgmtWrite off size.toNat data s) else mgmtRead off size.toNat s)) s

/-! Held accesses (R34, R80, R81, R375) -/

/-- What an access of BAR0 does. -/
def portRun (c : Instr) (s : State) : Res :=
  match c with
  | .berthSel value => execBerthSel value s
  | .charter => execCharter s
  | .modify => execModify s
  | .fence => execFence s
  | .recharter => execRecharter s
  | .release => execRelease s
  | .weirShutWrite shut => execWeirShutWrite shut s
  | .sanitizeStart key start => execSanitizeStart key start s
  | .drcRetire key retire ch => execDrcRetire key retire ch s
  | .sluiceCommand key start => execSluiceCommand key start s
  | .learnStart key i ack => execLearnStart key i ack s
  | .learnAbort key => execLearnAbort key s
  | .auth key i => execAuth key i s
  | .capTest key => execCapTest key s
  | .forget key i => execForget key i s
  | .gaugeStringCapture i => execGaugeStringCapture i s
  | .gaugeStatusCapture => execGaugeStatusCapture s
  | .linkTarget target => execLinkTarget target s
  | .flyHold key hold => execFlyHold key hold s
  | .flyClear key => execFlyClear key s
  | .clear key => execClear key s
  | .runService key => execRunService key s
  | .railCmd key ack => execRailCmd key ack s
  | .logRead seq => execLogRead seq s
  | .towSendStart key mask => execTowSendStart key mask s
  | .towSendSluice key mask => execTowSendSluice key mask s
  | .towSendClear key mask => execTowSendClear key mask s
  | .ackAlive key => execAckAlive key s
  | .restore key src => execRestore key src s
  | .restoreAll key => execRestoreAll key s
  | .ackWarn key => execAckWarn key s
  | .keepInject data => execKeepInject data s
  | .push key => execPush key s
  | .loadSlot key slot => execLoadSlot key slot s
  | .writeSlot key slot => execWriteSlot key slot s
  | .setTrial key slot => execSetTrial key slot s
  | .portRetire key port => execPortRetire key port s
  | .lockCycle key mode epoch => execLockCycle key mode epoch s
  | .glbReset key => execGlbReset key s
  | .flagAccess n write size high data => execFlagAccess n write size high data s
  | .chartEnable key => execChartEnable key s
  | .chartDisable key => execChartDisable key s
  | .rcRead off size => execRcRead off size s
  | .registerWrite off size data => execRegisterWrite off size data s
  | .mul key gen => execMul key gen s
  | .verify key => execVerify key s
  | .attest key => execAttest key s
  | .random key => execRandom key s
  | _ => .next s

/-- The state that an access of BAR0 leaves: none of them faults or is refused. -/
def afterPort (c : Instr) (s : State) : State :=
  match portRun c s with
  | .next t => t
  | _ => s

/-- Held accesses are applied in order, up to a write of the charter window behind a command that runs again (R375). -/
def drainHeld : Nat → State → State
  | 0, s => s
  | fuel + 1, s =>
    match s.mgmt.held with
    | [] => s
    | (c, accepted) :: l =>
      let t := afterPort c { s with mgmt := { s.mgmt with held := [], honoured := accepted } }
      if t.mgmt.held.isEmpty then
        drainHeld fuel { t with mgmt := { t.mgmt with held := if t.bar0 then l else [], honoured := false } }
      else s

/-- FENCE_DONE (R80, R375): every descriptor fetched before the fence has completed; the held accesses follow. -/
def execFenceDone (s : State) : Res :=
  match s.mgmt.fencing with
  | none => .next s
  | some (op, i) =>
    if !(s.berth i).flights.isEmpty then .next s else
    .next (settle (drainHeld s.mgmt.held.length (fenceEnds op i s)))

end Sys2Proof.Machine
end

