-- ==== Sys2Proof/Machine/Dispatch.lean ====
section
/-! DEFINITION. One arm per command: a direct call of its meaning, or a rejection by name. -/

namespace Sys2Proof.Machine

def exec (i : Instr) (s : State) : Host.Outcome State Fault Refusal :=
  match i with
  | .doorbellWrite port off data be => Sys2Proof.Machine.execDoorbellWrite port off data be s
  | .descriptorFetch b => Sys2Proof.Machine.execDescriptorFetch b s
  | .descriptorReadFail b why tag => Sys2Proof.Machine.execDescriptorReadFail b why tag s
  | .nop b d => Sys2Proof.Machine.execNop b d s
  | .put b d => Sys2Proof.Machine.execPut b d s
  | .retire b d => Sys2Proof.Machine.execRetire b d s
  | .fetch b d => Sys2Proof.Machine.execFetch b d s
  | .query b d => Sys2Proof.Machine.execQuery b d s
  | .shaperRelease b => Sys2Proof.Machine.execShaperRelease b s
  | .putCommit b payload => Sys2Proof.Machine.execPutCommit b payload s
  | .payloadReadFail b idx why => Sys2Proof.Machine.execPayloadReadFail b idx why s
  | .holdLimitExpiry b => Sys2Proof.Machine.execHoldLimitExpiry b s
  | .refusalPost b => Sys2Proof.Machine.execRefusalPost b s
  | .quantumPost b => Sys2Proof.Machine.execQuantumPost b s
  | .completionWriteFail b => Sys2Proof.Machine.execCompletionWriteFail b s
  | .berthMove b engine => Sys2Proof.Machine.execBerthMove b engine s
  | .berthSel value => Sys2Proof.Machine.execBerthSel value s
  | .charter => Sys2Proof.Machine.execCharter s
  | .modify => Sys2Proof.Machine.execModify s
  | .fence => Sys2Proof.Machine.execFence s
  | .fenceDone => Sys2Proof.Machine.execFenceDone s
  | .recharter => Sys2Proof.Machine.execRecharter s
  | .release => Sys2Proof.Machine.execRelease s
  | .budgetRecompute => Sys2Proof.Machine.execBudgetRecompute s
  | .budgetRise => Sys2Proof.Machine.execBudgetRise s
  | .weirShutWrite shut => Sys2Proof.Machine.execWeirShutWrite shut s
  | .comparatorTrip c => Sys2Proof.Machine.execComparatorTrip c s
  | .comparatorRelease c => Sys2Proof.Machine.execComparatorRelease c s
  | .residenceLimitExpiry b seq => Sys2Proof.Machine.execResidenceLimitExpiry b seq s
  | .bargeWaitExpiry stream => Sys2Proof.Machine.execBargeWaitExpiry stream s
  | .chunkProgramDone die block row => Sys2Proof.Machine.execChunkProgramDone die block row s
  | .programFail die block => Sys2Proof.Machine.execProgramFail die block s
  | .verifyReadbackDone sb cws => Sys2Proof.Machine.execVerifyReadbackDone sb cws s
  | .basinReadDone who cws => Sys2Proof.Machine.execBasinReadDone who cws s
  | .checkpointTimer => Sys2Proof.Machine.execCheckpointTimer s
  | .chartReadDone cpn ok crcOk pageBerth pageCpn pageSeq => Sys2Proof.Machine.execChartReadDone cpn ok crcOk pageBerth pageCpn pageSeq s
  | .blankCheckDone die block pass => Sys2Proof.Machine.execBlankCheckDone die block pass s
  | .eraseDone die block pass => Sys2Proof.Machine.execEraseDone die block pass s
  | .collectionMove q => Sys2Proof.Machine.execCollectionMove q s
  | .wearLevelMove q => Sys2Proof.Machine.execWearLevelMove q s
  | .throttleWindow => Sys2Proof.Machine.execThrottleWindow s
  | .lifeDaily => Sys2Proof.Machine.execLifeDaily s
  | .sanitizeStart key start => Sys2Proof.Machine.execSanitizeStart key start s
  | .sanitizeMarkerUpdate => Sys2Proof.Machine.execSanitizeMarkerUpdate s
  | .caParityAlert ch failed => Sys2Proof.Machine.execCaParityAlert ch failed s
  | .phyFault ch => Sys2Proof.Machine.execPhyFault ch s
  | .probeTimer mismatch => Sys2Proof.Machine.execProbeTimer mismatch s
  | .drcRetire key retire ch => Sys2Proof.Machine.execDrcRetire key retire ch s
  | .controlRemirrorDone => Sys2Proof.Machine.execControlRemirrorDone s
  | .compactionSwitch b seq => Sys2Proof.Machine.execCompactionSwitch b seq s
  | .refreshDue ch rank bank => Sys2Proof.Machine.execRefreshDue ch s rank bank
  | .zqCalDue ch => Sys2Proof.Machine.execZqCalDue ch s
  | .urgencyStep ch req => Sys2Proof.Machine.execUrgencyStep ch req s
  | .sluiceCommand key start => Sys2Proof.Machine.execSluiceCommand key start s
  | .sluiceDrainLimit => Sys2Proof.Machine.execSluiceDrainLimit s
  | .sluiceDrainEnd => Sys2Proof.Machine.execSluiceDrainEnd s
  | .sluicePoundDrained => Sys2Proof.Machine.execSluicePoundDrained s
  | .sluiceSeal => Sys2Proof.Machine.execSluiceSeal s
  | .sluiceEnergyExhausted => Sys2Proof.Machine.execSluiceEnergyExhausted s
  | .restartHoldExpiry => Sys2Proof.Machine.execRestartHoldExpiry s
  | .refloatScanDone heads dirs marks => Sys2Proof.Machine.execRefloatScanDone s heads dirs marks
  | .refloatVerifyDone cws => Sys2Proof.Machine.execRefloatVerifyDone cws s
  | .refloatReady => Sys2Proof.Machine.execRefloatReady s
  | .gaugeUpdate sample => Sys2Proof.Machine.execGaugeUpdate sample s
  | .endOfCharge j => Sys2Proof.Machine.execEndOfCharge j s
  | .endOfDischarge j => Sys2Proof.Machine.execEndOfDischarge j s
  | .smbusPoll answers => Sys2Proof.Machine.execSmbusPoll answers s
  | .authRetryTimer j => Sys2Proof.Machine.execAuthRetryTimer j s
  | .authVerdict j id r t => Sys2Proof.Machine.execAuthVerdict j id r t s
  | .learnSchedule j ack => Sys2Proof.Machine.execLearnSchedule j ack s
  | .acLostSet report => Sys2Proof.Machine.execAcLostSet report s
  | .acLostClear => Sys2Proof.Machine.execAcLostClear s
  | .hibernate => Sys2Proof.Machine.execHibernate s
  | .hibernateHour => Sys2Proof.Machine.execHibernateHour s
  | .gaugeWake => Sys2Proof.Machine.execGaugeWake s
  | .capTestPeriod => Sys2Proof.Machine.execCapTestPeriod s
  | .capTestEnd charge fall => Sys2Proof.Machine.execCapTestEnd charge fall s
  | .capTestTimeout => Sys2Proof.Machine.execCapTestTimeout s
  | .learnStart key j ack => Sys2Proof.Machine.execLearnStart key j ack s
  | .learnAbort key => Sys2Proof.Machine.execLearnAbort key s
  | .auth key j => Sys2Proof.Machine.execAuth key j s
  | .capTest key => Sys2Proof.Machine.execCapTest key s
  | .forget key j => Sys2Proof.Machine.execForget key j s
  | .gaugeStringCapture j => Sys2Proof.Machine.execGaugeStringCapture j s
  | .gaugeStatusCapture => Sys2Proof.Machine.execGaugeStatusCapture s
  | .windlassStart => Sys2Proof.Machine.execWindlassStart s
  | .legTestDone shorted => Sys2Proof.Machine.execLegTestDone shorted s
  | .syncLock => Sys2Proof.Machine.execSyncLock s
  | .syncTimeout => Sys2Proof.Machine.execSyncTimeout s
  | .flyRestartWaitEnd => Sys2Proof.Machine.execFlyRestartWaitEnd s
  | .flySpeedUpdate enc bemf link peak => Sys2Proof.Machine.execFlySpeedUpdate enc bemf link peak s
  | .brakeEnd => Sys2Proof.Machine.execBrakeEnd s
  | .brakeFail => Sys2Proof.Machine.execBrakeFail s
  | .flyTempShutdown ps0 ps1 w0 w1 => Sys2Proof.Machine.execFlyTempShutdown ps0 ps1 w0 w1 s
  | .speedDisagree => Sys2Proof.Machine.execSpeedDisagree s
  | .overcurrentTrip phase => Sys2Proof.Machine.execOvercurrentTrip phase s
  | .desatFault set => Sys2Proof.Machine.execDesatFault set s
  | .phaseImbalance phase => Sys2Proof.Machine.execPhaseImbalance phase s
  | .trimLimit phase => Sys2Proof.Machine.execTrimLimit phase s
  | .loadRelease => Sys2Proof.Machine.execLoadRelease s
  | .loadReleaseEnd => Sys2Proof.Machine.execLoadReleaseEnd s
  | .linkOvervoltage => Sys2Proof.Machine.execLinkOvervoltage s
  | .linkTarget target => Sys2Proof.Machine.execLinkTarget target s
  | .flyHold key hold => Sys2Proof.Machine.execFlyHold key hold s
  | .flyClear key => Sys2Proof.Machine.execFlyClear key s
  | .program0Start => Sys2Proof.Machine.execProgram0Start s
  | .enable => Sys2Proof.Machine.execEnable s
  | .wait => Sys2Proof.Machine.execWait s
  | .waitExpiry => Sys2Proof.Machine.execWaitExpiry s
  | .check => Sys2Proof.Machine.execCheck s
  | .checkTimeout => Sys2Proof.Machine.execCheckTimeout s
  | .jump => Sys2Proof.Machine.execJump s
  | .itemPowerGood => Sys2Proof.Machine.execItemPowerGood s
  | .enableTimeout => Sys2Proof.Machine.execEnableTimeout s
  | .railFault r => Sys2Proof.Machine.execRailFault r s
  | .timedGraceExpiry => Sys2Proof.Machine.execTimedGraceExpiry s
  | .railTransEnd r good => Sys2Proof.Machine.execRailTransEnd r good s
  | .pmbusPoll readings => Sys2Proof.Machine.execPmbusPoll readings s
  | .smbalert readings => Sys2Proof.Machine.execSmbalert readings s
  | .resetStretchEnd n => Sys2Proof.Machine.execResetStretchEnd n s
  | .clear key => Sys2Proof.Machine.execClear key s
  | .runService key => Sys2Proof.Machine.execRunService key s
  | .railCmd key ack => Sys2Proof.Machine.execRailCmd key ack s
  | .resetN ns => Sys2Proof.Machine.execResetN ns s
  | .aonStart towAddr testEn => Sys2Proof.Machine.execAonStart towAddr testEn s
  | .logRecordWrite => Sys2Proof.Machine.execLogRecordWrite s
  | .logRead seq => Sys2Proof.Machine.execLogRead seq s
  | .logReadDone => Sys2Proof.Machine.execLogReadDone s
  | .beaconSend => Sys2Proof.Machine.execBeaconSend s
  | .beacon frame => Sys2Proof.Machine.execBeacon frame s
  | .reply slot frame => Sys2Proof.Machine.execReply slot frame s
  | .towStaggerStart a => Sys2Proof.Machine.execTowStaggerStart a s
  | .towSendStart key mask => Sys2Proof.Machine.execTowSendStart key mask s
  | .towSendSluice key mask => Sys2Proof.Machine.execTowSendSluice key mask s
  | .towSendClear key mask => Sys2Proof.Machine.execTowSendClear key mask s
  | .towpathLost => Sys2Proof.Machine.execTowpathLost s
  | .memberAbsent a => Sys2Proof.Machine.execMemberAbsent a s
  | .joinWaitExpiry => Sys2Proof.Machine.execJoinWaitExpiry s
  | .keeperEvent src severe detail => Sys2Proof.Machine.execKeeperEvent src severe detail s
  | .lineFault src => Sys2Proof.Machine.execLineFault src s
  | .shutdownGraceExpiry => Sys2Proof.Machine.execShutdownGraceExpiry s
  | .aliveHoldEnd => Sys2Proof.Machine.execAliveHoldEnd s
  | .ackAlive key => Sys2Proof.Machine.execAckAlive key s
  | .restore key src => Sys2Proof.Machine.execRestore key src s
  | .restoreAll key => Sys2Proof.Machine.execRestoreAll key s
  | .ackWarn key => Sys2Proof.Machine.execAckWarn key s
  | .keepInject data => Sys2Proof.Machine.execKeepInject data s
  | .pushWaitExpiry => Sys2Proof.Machine.execPushWaitExpiry s
  | .push key => Sys2Proof.Machine.execPush key s
  | .loadSlot key slot => Sys2Proof.Machine.execLoadSlot key slot s
  | .writeSlot key slot => Sys2Proof.Machine.execWriteSlot key slot s
  | .setTrial key slot => Sys2Proof.Machine.execSetTrial key slot s
  | .imageReadDone ok host => Sys2Proof.Machine.execImageReadDone ok host s
  | .selfTestDone channels id odd readings => Sys2Proof.Machine.execSelfTestDone channels id odd s readings
  | .confirmWindowExpiry => Sys2Proof.Machine.execConfirmWindowExpiry s
  | .fuseBlowDone => Sys2Proof.Machine.execFuseBlowDone s
  | .linkUp port speed width => Sys2Proof.Machine.execLinkUp port speed width s
  | .linkDown port => Sys2Proof.Machine.execLinkDown port s
  | .hotReset port => Sys2Proof.Machine.execHotReset port s
  | .flr port => Sys2Proof.Machine.execFlr port s
  | .flrComplete port => Sys2Proof.Machine.execFlrComplete port s
  | .d3hotEntry port => Sys2Proof.Machine.execD3hotEntry port s
  | .d0Return port => Sys2Proof.Machine.execD0Return port s
  | .retryTimerExpiry port => Sys2Proof.Machine.execRetryTimerExpiry port s
  | .tokenPresentation port token be => Sys2Proof.Machine.execTokenPresentation port token be s
  | .portRetire key port => Sys2Proof.Machine.execPortRetire key port s
  | .lockCycle key mode epoch => Sys2Proof.Machine.execLockCycle key mode epoch s
  | .portModeApply port => Sys2Proof.Machine.execPortModeApply port s
  | .glbReset key => Sys2Proof.Machine.execGlbReset key s
  | .irqDueSend vector => Sys2Proof.Machine.execIrqDueSend vector s
  | .flagAccess n write size high data => Sys2Proof.Machine.execFlagAccess n write size high data s
  | .chartEnable key => Sys2Proof.Machine.execChartEnable key s
  | .chartDisable key => Sys2Proof.Machine.execChartDisable key s
  | .mgmtLinkReset what => Sys2Proof.Machine.execMgmtLinkReset what s
  | .rcRead off size => Sys2Proof.Machine.execRcRead off size s
  | .registerWrite off size data => Sys2Proof.Machine.execRegisterWrite off size data s
  | .mul key gen => Sys2Proof.Machine.execMul key gen s
  | .verify key => Sys2Proof.Machine.execVerify key s
  | .attest key => Sys2Proof.Machine.execAttest key s
  | .random key => Sys2Proof.Machine.execRandom key s
  | .pkeOpDone => Sys2Proof.Machine.execPkeOpDone s
  | .rootLoss => Sys2Proof.Machine.execRootLoss s
  | .rootBack => Sys2Proof.Machine.execRootBack s
  | .pllALoss => Sys2Proof.Machine.execPllALoss s
  | .pllBLoss => Sys2Proof.Machine.execPllBLoss s
  | .standbySupplyCollapse => Sys2Proof.Machine.execStandbySupplyCollapse s
  | .pwmPeriod link => Sys2Proof.Machine.execPwmPeriod link s
  | .maximumOpenTime ch bank => Sys2Proof.Machine.execMaximumOpenTime ch bank s
  | .busMasterEnable port on => Sys2Proof.Machine.execBusMasterEnable port on s
  | .msixVectorUnmask port what => Sys2Proof.Machine.execMsixVectorUnmask port what s
  | .slotWriteDone ok => Sys2Proof.Machine.execSlotWriteDone ok s
  | .setTrialDone ok => Sys2Proof.Machine.execSetTrialDone ok s
  | .entropyTestFail => Sys2Proof.Machine.execEntropyTestFail s
  | .entropyTestPass => Sys2Proof.Machine.execEntropyTestPass s

end Sys2Proof.Machine
end

