-- ==== Sys2Proof/Machine/Step.lean ====
section
/-! DEFINITION. One step of the block: the command at the front of the queue, or a tick of CK_AON when none waits. -/

namespace Sys2Proof.Machine

/-- A microsecond of CK_AON with no command: the time base goes on, and each DRAM channel takes a command slot. DESIGN CHOICE
(log 1). -/
def tick (s : State) : State := dramSlots { s with now := s.now + 1 }

/-- Take the command at the front of the queue and run it with the queue's rest; with none waiting, a tick. -/
def step (s : State) : Host.Outcome State Fault Refusal :=
  match s.pending with
  | [] => .next (tick s)
  | c :: rest => exec c { s with pending := rest }

/-- The state with the command that a word spells put at the front of its queue; no word spells one. -/
def State.withFetchWord (s : State) (nbits w : Nat) : State :=
  match decodeTableWord nbits w with
  | none => s
  | some c => { s with pending := c :: s.pending }

end Sys2Proof.Machine
end

