-- ==== Sys2Proof/Safety.lean ====
section
/-! DEFINITION. What counts as a safe run of the block (no command stops with a fault or a refusal), and the words that the statements
are written in. -/

namespace Sys2Proof.Safety

open Sys2Proof Sys2Proof.Machine

/-- A step that answers a next state. -/
def Steps (s : State) : Prop := ∃ t, step s = .next t

/-- Every command waiting is one that can reach the part. -/
def QueueWf (s : State) : Prop := ∀ c ∈ s.pending, Sys2Proof.Instr.wf c = true

/-- No report to the keeper waits, as between any two commands. -/
abbrev Settled (s : State) : Prop := s.keep.reports = []

/-- No access of BAR0 is held, and none of those that were is being applied (R34, R375): the next one acts at once, a berth command aside. -/
abbrev Clear (s : State) : Prop := s.mgmt.held = [] ∧ s.mgmt.honoured = false

/-- The commands that are accesses of BAR0; true: one that writes the charter window (R375). -/
def portAccess (c : Instr) : Option Bool :=
  match c with
  | .berthSel _ | .charter | .modify | .fence | .recharter | .release => some true
  | .registerWrite off _ _ => some (charterOff off.toNat)
  | .weirShutWrite _ | .sanitizeStart _ _ | .drcRetire _ _ _ | .sluiceCommand _ _ | .learnStart _ _ _ | .learnAbort _ | .auth _ _
  | .capTest _ | .forget _ _ | .gaugeStringCapture _ | .gaugeStatusCapture | .linkTarget _ | .flyHold _ _ | .flyClear _ | .clear _
  | .runService _ | .railCmd _ _ | .logRead _ | .towSendStart _ _ | .towSendSluice _ _ | .towSendClear _ _ | .ackAlive _ | .restore _ _
  | .restoreAll _ | .ackWarn _ | .keepInject _ | .push _ | .loadSlot _ _ | .writeSlot _ _ | .setTrial _ _ | .portRetire _ _
  | .lockCycle _ _ _ | .glbReset _ | .flagAccess _ _ _ _ _ | .chartEnable _ | .chartDisable _ | .rcRead _ _ | .mul _ _ | .verify _
  | .attest _ | .random _ => some false
  | _ => none

/-- The command answers a next state, of which P holds. -/
def Gives (c : Instr) (s : State) (P : State → Prop) : Prop := ∃ t, exec c s = .next t ∧ P t

/-- Berth i has one descriptor fetched, and its read is awaited; no berth has a descriptor that waits its turn. -/
def Awaits (i : Nat) (f : Flight) (s : State) : Prop := (s.berth i).flights = [f] ∧ f.stage = .fetching ∧ returnedCount s = 0

/-- The flight once its descriptor's words are here and its turn has come: from then on it is under the policy its berth has (R79). -/
def arrived (b : Berth) (f : Flight) (d : Desc) : Flight :=
  { f with desc := some d, tag := d.tag, len := d.length, stage := .returned, spillOk := b.spillOk, vector := b.vector }

/-- The flight once its completion is decided. -/
def decided (b : Berth) (f : Flight) (d : Desc) (c : Cpl) : Flight := { arrived b f d with stage := .done c }

/-- The berth with one descriptor in flight. -/
def alone (b : Berth) (f : Flight) : Berth := { b with flights := [f] }

/-- A control register with DONE, TICKET and RESULT, as a command writes it: the key written, the right key, the status register's
number, the register's offset, and the word. -/
def controlWrite (c : Instr) : Option (Byte × Byte × Nat × Nat × Word) :=
  let word := fun (hi mid : Nat) (k : Byte) (low : Nat) => BitVec.ofNat 64 (hi * 2 ^ 48 + mid * 2 ^ 16 + k.toNat * 2 ^ 8 + low)
  match c with
  | .glbReset k => some (k, 0xE1, kGlb, offGLB_CTRL, word 0 0 k 1)
  | .push k => some (k, 0xB7, kCfg, offCFG_CTRL, word 0 0 k 1)
  | .loadSlot k n => some (k, 0xB7, kCfg, offCFG_CTRL, word 0 0 k (n.toNat * 16 + 2))
  | .writeSlot k n => some (k, 0xB7, kCfg, offCFG_CTRL, word 0 0 k (n.toNat * 16 + 3))
  | .setTrial k n => some (k, 0xB7, kCfg, offCFG_CTRL, word 0 0 k (n.toNat * 16 + 4))
  | .clear k => some (k, 0x9D, kSeq, offSEQ_CTRL, word 0 0 k 1)
  | .runService k => some (k, 0x9D, kSeq, offSEQ_CTRL, word 0 0 k 2)
  | .ackAlive k => some (k, 0x4B, kKeep, offKEEP_CTRL, word 0 0 k 1)
  | .restore k src => some (k, 0x4B, kKeep, offKEEP_CTRL, word 0 src.toNat k 2)
  | .restoreAll k => some (k, 0x4B, kKeep, offKEEP_CTRL, word 0 0 k 3)
  | .ackWarn k => some (k, 0x4B, kKeep, offKEEP_CTRL, word 0 0 k 4)
  | .learnAbort k => some (k, 0x6B, kGauge, offGAUGE_CTRL, word 0 0 k 0x20)
  | .auth k i => some (k, 0x6B, kGauge, offGAUGE_CTRL, word 0 0 k (0x30 + i.val))
  | .capTest k => some (k, 0x6B, kGauge, offGAUGE_CTRL, word 0 0 k 0x40)
  | .forget k i => some (k, 0x6B, kGauge, offGAUGE_CTRL, word 0 0 k (0x50 + i.val))
  | .lockCycle k m e => some (k, 0x1C, kLock, offLOCK_CTRL, word e.toNat 0 k m.toNat)
  | .chartEnable k => some (k, 0x8E, kChart, offCHART_CTRL, word 0 0 k 1)
  | .chartDisable k => some (k, 0x8E, kChart, offCHART_CTRL, word 0 0 k 2)
  | .portRetire k p => some (k, 0x2D, kPort p.val, offPORT_CTRL + 0x1000 * p.val, word 0 0 k 1)
  | _ => none

/-! What holds of the machine between any two commands -/

/-- The clock words agree (R402, R403): in holdover both the board clock and the supervisor's loop are lost, and PLL_M runs from the
board's standby clock only where PLL_A has lost lock. -/
def ClocksOk (c : Clk) : Prop :=
  (c.holdover = true → c.rootOk = false ∧ c.supLock = false) ∧ (c.mainSel = true → c.aLock = false)

/-- The rack manager's operations that wait or run. -/
def rackOps (x : Pke) : Nat := ((x.cur.toList ++ x.queue).filter (fun o => o.who == .rack)).length

/-- The engine's result and the operations outstanding agree (R388, R391, R392): at most one operation of the rack manager's waits or
runs; while DONE is 1 none does; and while DONE is 0 every field of the result reads 0. -/
def ResultOk (x : Pke) : Prop :=
  rackOps x ≤ 1 ∧ (x.rDone = true → rackOps x = 0) ∧
  (x.rDone = false → x.rTicket = 0 ∧ x.rStatus = 0 ∧ x.rValid = false ∧ x.rx = 0 ∧ x.ry = 0 ∧ x.rTime = 0)

/-- The engine runs the operation at the head whenever one is queued (R388), and its result agrees. -/
def EngineOk (x : Pke) : Prop := (x.cur = none → x.queue = []) ∧ ResultOk x

/-- The machine's invariant; the last part: no held access is being applied between two commands. -/
def Inv (s : State) : Prop := Settled s ∧ ClocksOk s.clk ∧ EngineOk s.pke ∧ s.mgmt.honoured = false

/-! The canonical form of the sparse tables: keys rising, nothing listed at its default -/

def RegsWf (t : Tbl Word) : Prop := twf 0 t = true

def CmdsWf (t : Tbl CmdSt) : Prop := twf CmdSt.idle t = true

def BerthsWf (t : Tbl Berth) : Prop := twf Berth.none t = true

def PortsWf (t : Tbl Port) : Prop := twf Port.idle t = true

/-- Equal registers, command status, berths and ports are equal data. -/
def Canonical (s : State) : Prop := RegsWf s.regs ∧ CmdsWf s.cmds ∧ BerthsWf s.berths ∧ PortsWf s.ports

end Sys2Proof.Safety
end

