-- ==== Sys2Proof/Certificates/Slice0/Obligations.lean ====
section
/-! DEFINITION. The statements for the provers. Log n is notes/assumptions/<n>.md. -/

open Sys2Proof Sys2Proof.Machine Sys2Proof.Safety

/-- A step runs the command at the front of the queue; on an empty queue it is one tick (the tick: log 1). -/
def Obligations.StepRunsFront : Prop :=
  (∀ (c : Instr) (s : State), step { s with pending := c :: s.pending } = exec c s) ∧
  (∀ (c : Instr) (rest : List Instr) (s : State), s.pending = c :: rest → step s = exec c { s with pending := rest }) ∧
  (∀ s : State, s.pending = [] → step s = .next (dramSlots { s with now := s.now + 1 }))

/-- Every command answers a next state, but for two ill-formed operands; no command changes the queue or the time. That the time
stands still within a command is the model's choice (log 1), and so is the stop on operands that nothing can bring (log 6). -/
def Obligations.EveryCommandCompletes : Prop :=
  ∀ (c : Instr) (s : State),
    (∃ t, exec c s = .next t ∧ t.pending = s.pending ∧ (c = .standbySupplyCollapse ∨ t.now = s.now)) ∨
    (exec c s = .fault .malformedCommand ∧
      ((∃ m, c = .gaugeUpdate m ∧ m.strings.length ≠ 8) ∨
        ∃ b payload f p, c = .putCommit b payload ∧ committable s b.toNat = some (f, p) ∧ 2 ^ (4096 * f.len) ≤ payload))

/-- Every step keeps the clocks, the key engine, the keeper and the accesses of BAR0 consistent (R34, R304, R375, R388, R391, R392, R402,
R403). -/
def Obligations.InvariantKept : Prop := ∀ s t : State, Inv s → step s = .next t → Inv t

/-- Every step keeps the register store, the command status, the berths and the ports in their canonical form. -/
def Obligations.CanonicalKept : Prop := ∀ s t : State, Canonical s → step s = .next t → Canonical t

/-- What reset leaves: the invariant holds, every block is at its reset state and no command waits (R40, R107, R289, R360, R372,
R391). Register words without a reset value of the spec's are 0 by the model's choice (log 4, log 5). -/
def Obligations.ResetState : Prop :=
  Inv State.reset ∧ Canonical State.reset ∧ State.reset.pending = [] ∧
  (∀ k, State.reset.cmd k = ⟨true, 0, 0, false⟩) ∧ (∀ off, State.reset.reg off = 0) ∧
  (∀ i, (State.reset.berth i).st = .free) ∧ (∀ p, (State.reset.port p).st = .off ∧ (State.reset.port p).token = 0) ∧
  State.reset.lock.epoch = 0 ∧ State.reset.lock.valid = false ∧ State.reset.weir.st = .shut ∧ State.reset.sluice.phase = 0 ∧
  State.reset.sluiced = false ∧ State.reset.ready = false ∧ State.reset.seq.asserted = 0xFFFF ∧ State.reset.seq.on = 0 ∧
  State.reset.pke.cur = none ∧ State.reset.pke.queue = [] ∧ State.reset.pke.rDone = false ∧ State.reset.mgmt.held = []

/-- The two fields of a doorbell write are judged separately, an ignored field is counted and changes nothing (R40, R48, R49). -/
def Obligations.DoorbellFields : Prop :=
∀ (p : Fin 256) (off : BitVec 32) (data : Word) (be : BitVec 8) (s : State) (i : Nat),
    doorbellOpen s p.val = true → (doorbellSlot s p.val off.toNat).bind (berthAt s p.val) = some i →
    let b := s.berth i
    let tailOn := be.getLsbD 0 && be.getLsbD 1
    let headOn := be.getLsbD 2 && be.getLsbD 3
    let tail := fld data 15 0
    let head := fld data 31 16
    (headOk b head = true ↔
      head < 2 ^ b.log2 ∧ (head + 2 ^ b.log2 - b.cqHead) % 2 ^ b.log2 ≤ (b.cqTail + 2 ^ b.log2 - b.cqHead) % 2 ^ b.log2) ∧
    let counted := fun n => s.bump (offPORT_CNT + 0x1000 * p.val) 47 32 n
    (tailOn = true → headOn = false → tail < 2 ^ b.log2 →
      exec (.doorbellWrite p off data be) s = .next (s.setBerth i { b with sqTail := tail, st := firstDoorbell b })) ∧
    (tailOn = false → headOn = true → headOk b head = true →
      exec (.doorbellWrite p off data be) s = .next (s.setBerth i { b with cqHead := head, st := firstDoorbell b })) ∧
    (tailOn = true → headOn = true → tail < 2 ^ b.log2 → headOk b head = true →
      exec (.doorbellWrite p off data be) s =
        .next (s.setBerth i { b with sqTail := tail, cqHead := head, st := firstDoorbell b })) ∧
    (tailOn = true → headOn = true → tail < 2 ^ b.log2 → headOk b head = false →
      exec (.doorbellWrite p off data be) s = .next ((counted 1).setBerth i { b with sqTail := tail, st := firstDoorbell b })) ∧
    (tailOn = true → headOn = true → ¬ tail < 2 ^ b.log2 → headOk b head = true →
      exec (.doorbellWrite p off data be) s = .next ((counted 1).setBerth i { b with cqHead := head, st := firstDoorbell b })) ∧
    (tailOn = true → headOn = true → ¬ tail < 2 ^ b.log2 → headOk b head = false →
      exec (.doorbellWrite p off data be) s = .next (counted 2)) ∧
    (tailOn = true → headOn = false → ¬ tail < 2 ^ b.log2 → exec (.doorbellWrite p off data be) s = .next (counted 1)) ∧
    (tailOn = false → headOn = true → headOk b head = false → exec (.doorbellWrite p off data be) s = .next (counted 1)) ∧
    (tailOn = false → headOn = false → exec (.doorbellWrite p off data be) s = .next s)

/-- A doorbell write to a slot that holds no chartered berth, or beyond the slot count, has no effect (R51); one beyond the BAR, and any
write in D3hot, completes as Unsupported Request (R346, R417). -/
def Obligations.DoorbellNoSlot : Prop :=
∀ (p : Fin 256) (off : BitVec 32) (data : Word) (be : BitVec 8) (s : State),
    let q := s.port p.val
    (q.linkUp = true → q.d3 = true → exec (.doorbellWrite p off data be) s = .next (s.emit .unsupported)) ∧
    (q.linkUp = false ∨ q.d3 = false →
      (doorbellOpen s p.val = false → exec (.doorbellWrite p off data be) s = .next s) ∧
      (doorbellOpen s p.val = true → barSize s p.val ≤ 0x10000 + off.toNat →
        exec (.doorbellWrite p off data be) s = .next (s.emit .unsupported)) ∧
      (doorbellOpen s p.val = true → 0x10000 + off.toNat < barSize s p.val →
        (doorbellSlot s p.val off.toNat).bind (berthAt s p.val) = none → exec (.doorbellWrite p off data be) s = .next s))

/-- A descriptor is fetched only when the completion ring has a free entry; at most 2^k - 1 are outstanding (R43, R45, R359). -/
def Obligations.DescriptorFetch : Prop :=
∀ (b : BerthId) (s : State),
    let x := s.berth b.toNat
    let f : Flight := ⟨x.sqHead, s.now, (s.port x.port).mode, x.qos, x.floor, x.hold, x.spillOk, x.vector, none, 0, 0, none, false, false, .fetching⟩
    (mayFetch s b.toNat = true →
      exec (.descriptorFetch b) s =
        .next ((s.setBerth b.toNat { x with flights := x.flights ++ [f], sqHead := (x.sqHead + 1) % 2 ^ x.log2 }).emit
          (.readReq x.port (x.sqBase + BitVec.ofNat 64 (64 * x.sqHead)) 64))) ∧
    (mayFetch s b.toNat = false → exec (.descriptorFetch b) s = .next s) ∧
    (mayFetch s b.toNat = true → x.flights.length + (x.cqTail + 2 ^ x.log2 - x.cqHead) % 2 ^ x.log2 + 1 < 2 ^ x.log2)

/-- The checks of a descriptor in their order, and what NOP and QUERY do (R54, R55, R60, R69). -/
def Obligations.DescriptorOutcomes : Prop :=
  (∀ (b : BerthId) (d : Desc) (f : Flight) (s : State), Settled s → Awaits b.toNat f s →
    let x := s.berth b.toNat
    let ends := fun (c : Cpl) => postAll b.toNat (s.setBerth b.toNat (alone x (decided x f d c)))
    ∀ c ∈ [Instr.nop b d, Instr.put b d, Instr.retire b d, Instr.fetch b d, Instr.query b d],
      (d.crcOk = false → exec c s = .next (ends (Cpl.now s checkFail 0))) ∧
      (d.crcOk = true → badDesc d b.toNat x = true → exec c s = .next (ends (Cpl.now s malformed 0))) ∧
      (d.crcOk = true → badDesc d b.toNat x = false → x.st = .fenced →
        exec c s = .next (ends (Cpl.refuse refusedFenced f.tFetch))) ∧
      (d.crcOk = true → badDesc d b.toNat x = false → x.st ≠ .fenced → d.opcode = 1 → (f.mode = 1 ∨ x.st = .refloating) →
        exec c s = .next (ends (Cpl.refuse refusedMode f.tFetch))) ∧
      (d.crcOk = true → badDesc d b.toNat x = false → d.opcode = 1 → f.mode ≠ 1 → x.st = .exhausted →
        exec c s = .next (ends (Cpl.refuse refusedSeqEnd f.tFetch)))) ∧
  (∀ (b : BerthId) (d : Desc) (f : Flight) (s : State), Settled s → Awaits b.toNat f s →
    let x := s.berth b.toNat
    d.crcOk = true → badDesc d b.toNat x = false → x.st ≠ .fenced →
    (d.opcode = 0 →
      exec (.nop b d) s =
        .next (postAll b.toNat (s.setBerth b.toNat (alone x (decided x f d (Cpl.now s durable 0)))))) ∧
    (d.opcode = 5 → s.portSends x.port = true →
      exec (.query b d) s =
        .next (postAll b.toNat ((s.emit (.block x.port d.w4 (queryBlock b.toNat x))).setBerth b.toNat
          (alone x (decided x f d (Cpl.now s durable (x.nextSeq - 1))))))))

/-- RETIRE raises the retire point to the greater value and drops exactly the records at or below it (R40, R65). -/
def Obligations.RetireRaises : Prop :=
∀ (b : BerthId) (d : Desc) (f : Flight) (s : State), Settled s → Awaits b.toNat f s →
    let x := s.berth b.toNat
    let target := if d.flags / 2 % 2 = 1 then x.nextSeq - 1 else d.sequence
    let point := max x.retirePoint target
    let u := weirState (retireTo b.toNat target (s.setBerth b.toNat (alone x (arrived x f d))))
    d.crcOk = true → badDesc d b.toNat x = false → x.st ≠ .fenced → d.opcode = 2 →
    exec (.retire b d) s = .next (postAll b.toNat (grantAll (finishFlight b.toNat f.idx (Cpl.now s retired point) u))) ∧
    (u.berth b.toNat).retirePoint = point ∧
    (∀ r ∈ (u.berth b.toNat).chain, point < r.seq ∧ r ∈ x.chain) ∧
    (∀ r ∈ x.chain, point < r.seq → r ∈ (u.berth b.toNat).chain) ∧
    (x.st = .refloating → (u.berth b.toNat).st =
      (if x.lastSurvivor ≤ point then (if x.nextSeq < 2 ^ 48 then .opened else .exhausted) else .refloating)) ∧
    (∀ j, j ≠ b.toNat → u.berth j = s.berth j)

/-- FETCH: payload, information block and completion for each place where the record may be, and the reads that flash is asked for (R66,
R67, R68, R146, R161, R164). -/
def Obligations.FetchAnswers : Prop :=
∀ (b : BerthId) (d : Desc) (f : Flight) (s : State), Settled s → Awaits b.toNat f s →
    let i := b.toNat
    let x := s.berth i
    let page := fun (r : Rec) => pageOf s r.seq s.fmm.pages.length
      (if x.fetchCpn ≠ noCpn ∧ (s.page x.fetchCpn).firstSeq ≤ d.sequence then x.fetchCpn else x.firstCpn)
    let asked := fun (r : Rec) => match page r with
      | some k => if (s.page k).st = 3 ∧ s.chart.st = 1 then [Out.chart (s.page k).loc false] else []
      | none => []
    let after := fun (r : Rec) (y : Flight) (os : List Out) (u : State) =>
      u.out = s.out ++ asked r ++ os ∧ u.berth i = { alone x y with fetchCpn := (page r).getD x.fetchCpn } ∧
        ∀ j, j ≠ i → u.berth j = s.berth j
    let reads := fun (r : Rec) (g o : Nat) => (readRun none g o r.len s).out.drop s.out.length
    let block := fun (r : Rec) (deferred lost written : Bool) => Out.block x.port d.w4 (infoBlock r.tag r.seq r.len deferred lost written)
    d.crcOk = true → badDesc d i x = false → x.st ≠ .fenced → d.opcode = 3 → s.portSends x.port = true →
    (findRec x d.sequence = none →
      exec (.fetch b d) s = .next (postAll i (s.setBerth i (alone x (decided x f d (Cpl.now s fetchEnd d.sequence)))))) ∧
    (∀ r p, findRec x d.sequence = some r → r.place = some p → r.len ≤ d.length →
      ∃ u, exec (.fetch b d) s = .next (settle (postAll i u)) ∧
        after r (decided x f d (Cpl.now s fetched r.seq)) [Out.payload x.port d.w1 (r.len * 512) r.payload, block r false false true] u) ∧
    (∀ r p, findRec x d.sequence = some r → r.place = some p → d.length < r.len →
      ∃ u, exec (.fetch b d) s = .next (settle (postAll i u)) ∧
        after r (decided x f d (Cpl.now s fetched r.seq)) [block r false false false] u) ∧
    (∀ r, findRec x d.sequence = some r → r.place = none → r.basin.all (fun g => g.1 == lostBarge) = true →
      ∃ u, exec (.fetch b d) s = .next (settle (postAll i u)) ∧
        after r (decided x f d (Cpl.now s lostMedium r.seq)) [block r false true false] u) ∧
    (∀ r g o, findRec x d.sequence = some r → r.place = none → r.basin = some (g, o) → g ≠ lostBarge →
      quadUp s (quadOfBarge s g) = false →
      ∃ u, exec (.fetch b d) s = .next (settle (postAll i u)) ∧
        after r (decided x f d (Cpl.now s fetched r.seq)) [block r true false false] u) ∧
    (∀ r g o, findRec x d.sequence = some r → r.place = none → r.basin = some (g, o) → g ≠ lostBarge →
      quadUp s (quadOfBarge s g) = true →
      ∃ u, exec (.fetch b d) s = .next (settle u) ∧ after r { arrived x f d with stage := .basin r.seq } (reads r g o) u)

/-- PUT: quota, then the weir; a granted PUT reserves its length and reads, an ungranted one is held or refused (R61, R95 to R99,
R109). The grant may bring the weir to OVER, with its message (R107, R380). -/
def Obligations.PutAdmission : Prop :=
∀ (b : BerthId) (d : Desc) (f : Flight) (s : State), Settled s → Awaits b.toNat f s → waiters s = [] →
    let i := b.toNat
    let x := s.berth i
    let w : Flight := { arrived x f d with stage := .held }
    let v := judge (s.setBerth i (alone x w)) i w false false
    let ends := fun (c : Cpl) => postAll i (s.setBerth i (alone x (decided x f d c)))
    let reserved := fun (y : Flight) (t : State) =>
      t.berth i = { alone x y with held := x.held + d.length, unret := x.unret + d.length, unpers := x.unpers + d.length } ∧
        ∀ j, j ≠ i → t.berth j = s.berth j
    let excess := x.ceil < x.held + d.length ∨ x.retain < x.unret + d.length
    d.crcOk = true → badDesc d i x = false → d.opcode = 1 → x.st = .opened → f.mode ≠ 1 →
    (excess → exec (.put b d) s = .next (ends (Cpl.refuse refusedQuota f.tFetch))) ∧
    (¬ excess → s.weir.st = .sluice → exec (.put b d) s = .next (ends (Cpl.now s refusedDevice 0))) ∧
    (¬ excess → s.weir.st ≠ .sluice →
      (∀ pl, v.grant = some pl → shaperLets s d.length = true → Gives (.put b d) s (fun t =>
        reserved { w with place := some pl, stage := .reading } t ∧
          ∃ irq, (irq = [] ∨ irq = [Out.mgmtMsix 4]) ∧ t.out = s.out ++ irq ++ [.readReq x.port d.w1 (d.length * 512)])) ∧
      (∀ pl, v.grant = some pl → shaperLets s d.length = false → Gives (.put b d) s (fun t =>
        reserved { w with place := some pl, stage := .shaped, wasShaped := true } t ∧ (t.out = s.out ∨ t.out = s.out ++ [.mgmtMsix 4]))) ∧
      (v.grant = none → f.tFetch + f.hold ≤ s.now →
        exec (.put b d) s = .next (ends (Cpl.refuse refusedDevice (f.tFetch + f.hold)))) ∧
      (v.grant = none → s.now < f.tFetch + f.hold →
        exec (.put b d) s = .next (s.setBerth i (alone x { w with wasHeld := true }))))

/-- PUT_COMMIT takes NEXT_SEQ and stores the record; shaped reads start; failed reads complete DMA_FAULT (R12, R13, R29, R40, R62 to
R64, R72, R98, R109, R354). A payload longer than its PUT is no command that can arrive (log 6). -/
def Obligations.PutReadsAndCommits : Prop :=
  ((∀ (b : BerthId) (payload : Nat) (f : Flight) (p : Place) (s : State),
    let i := b.toNat
    let x := s.berth i
    let front := match f.desc with | some d => d.flags % 2 == 1 && f.spillOk | none => false
    let r : Rec := ⟨x.nextSeq, f.len, f.tag, payload, s.now, some p, none, front⟩
    let u := commit i f p payload s
    committable s i = some (f, p) →
    (payload < 2 ^ (4096 * f.len) → exec (.putCommit b payload) s = .next (settle (goOn i (spillRun (spillFlags u))))) ∧
    (2 ^ (4096 * f.len) ≤ payload → exec (.putCommit b payload) s = .fault .malformedCommand) ∧
    (∀ c ∈ p.chs, dramRoom s c p.off = true) ∧
    (u.berth i).chain = x.chain ++ [r] ∧ (u.berth i).nextSeq = x.nextSeq + 1 ∧
    (u.berth i).st = (if x.st = .opened ∧ x.nextSeq + 1 = 2 ^ 48 then .exhausted else x.st) ∧
    (u.berth i).flights = x.flights.map (fun (y : Flight) => if y.idx = f.idx then { y with stage := .done (durableCpl s f x.nextSeq) } else y) ∧
    (∀ j, j ≠ i → u.berth j = s.berth j)) ∧
  (∀ (b : BerthId) (payload : Nat) (s : State), committable s b.toNat = none → exec (.putCommit b payload) s = .next s) ∧
  (∀ (b : BerthId) (f : Flight) (d : Desc) (s : State),
    let i := b.toNat
    let x := s.berth i
    x.flights.find? (fun y => y.stage == .shaped) = some f → f.desc = some d →
    (shaperLets s f.len = true → exec (.shaperRelease b) s =
      .next ((({ s with weir := { s.weir with tokens := bucket s - (f.len * 512 : Nat), tokensAt := s.now } }).setBerth i
        { x with flights := x.flights.map (fun (y : Flight) => if y.idx = f.idx then { y with stage := .reading } else y) }).emit
        (.readReq x.port d.w1 (f.len * 512)))) ∧
    (shaperLets s f.len = false → exec (.shaperRelease b) s = .next s))) ∧
  ((∀ (b : BerthId) (why : ReadFail) (tag : BitVec 16) (f : Flight) (s : State), Settled s → Awaits b.toNat f s →
    let i := b.toNat
    let x := s.berth i
    let u := s.setBerth i (alone x { f with tag := tag.toNat, stage := .done (Cpl.now s dmaFault 0) })
    exec (.descriptorReadFail b why tag) s =
      .next (postAll i ((countRead x.port why u).bump (offPORT_ERR + 0x1000 * x.port) 63 32 1))) ∧
  (∀ (b : BerthId) (idx : BitVec 12) (why : ReadFail) (f : Flight) (s : State),
    let i := b.toNat
    let x := s.berth i
    let y : Flight := { f with place := none, stage := .done (Cpl.now s dmaFault 0) }
    let u := s.setBerth i { alone x y with held := x.held - f.len, unret := x.unret - f.len, unpers := x.unpers - f.len }
    x.flights = [f] → f.idx = idx.toNat → f.stage = .reading → why ≠ .ecrc →
    exec (.payloadReadFail b idx why) s =
      .next (settle (weirEval (goOn i ((countRead x.port why u).bump (offPORT_ERR + 0x1000 * x.port) 63 32 1))))) ∧
  (∀ (b : BerthId) (idx : BitVec 12) (s : State), exec (.payloadReadFail b idx .ecrc) s = .next s) ∧
  (∀ (p : Nat) (why : ReadFail) (s : State),
    let u := s.updPort p (fun q => { q with aer := q.aer ||| aerBits why })
    countRead p why s = (match why with
      | .timeout => u.bump (offPORT_ERR + 0x1000 * p) 15 0 1
      | .ecrc => u.bump (offPORT_ERR + 0x1000 * p) 31 16 1
      | _ => u)))

/-- A completion is posted at its time: entry at the tail, phase, tail moved on, then one message (R46, R57, R58, R100, R101).
Before its time a timed command changes nothing: the model's choice (log 1). -/
def Obligations.PostingTimes : Prop :=
∀ (b : BerthId) (f : Flight) (c : Cpl) (s : State), Settled s → returnedCount s = 0 →
    let i := b.toNat
    let x := s.berth i
    let n := 2 ^ x.log2
    let w := cplWords i f.tag c.status c.seq c.delayed x.phase
    x.st ≠ .free → x.flights = [f] → f.stage = .done c →
    ∀ cmd ∈ [Instr.refusalPost b, Instr.quantumPost b],
      (s.now < c.postAt → exec cmd s = .next s) ∧
      (c.postAt ≤ s.now → s.portSends x.port = true → (s.port x.port).msixEn = true → (s.port x.port).fnMask = false →
        (s.port x.port).unmasked.contains f.vector = true → Gives cmd s (fun t =>
          t.out = s.out ++ [.cpl x.port (x.cqBase + BitVec.ofNat 64 (16 * x.cqTail)) w.1 w.2, .msix x.port f.vector] ∧
          t.berth i = { x with flights := [], cqTail := (x.cqTail + 1) % n, phase := if x.cqTail + 1 = n then !x.phase else x.phase } ∧
          ∀ j, j ≠ i → t.berth j = s.berth j))

/-- A failed completion write fences, a berth moves engine only at a descriptor boundary, hold limits refuse (R59, R75, R97, R99,
R103). -/
def Obligations.FenceAndMove : Prop :=
(∀ (b : BerthId) (s : State),
    let x := s.berth b.toNat
    let held := fun (f : Flight) => if f.stage = .held then { f with stage := .done (Cpl.refuse refusedFenced s.now) } else f
    Settled s → x.st ≠ .free → x.st ≠ .fenced →
    exec (.completionWriteFail b) s =
      .next (goOn b.toNat (s.setBerth b.toNat { x with st := .fenced, reason := 3, flights := x.flights.map held }))) ∧
  (∀ (b : BerthId) (e : Fin 64) (s : State),
    let x := s.berth b.toNat
    (x.st ≠ .free → atBoundary x = true → s.enginesOut.getLsbD e.val = false →
      exec (.berthMove b e) s = .next (s.setBerth b.toNat { x with engine := e.val })) ∧
    ((x.st = .free ∨ atBoundary x = false ∨ s.enginesOut.getLsbD e.val = true) → exec (.berthMove b e) s = .next s)) ∧
  (∀ (b : BerthId) (f : Flight) (s : State),
    let x := s.berth b.toNat
    let due := fun (y : Flight) => y.stage == .held && decide (y.tFetch + y.hold ≤ s.now)
    let refused := fun (y : Flight) => if due y then { y with stage := .done (Cpl.refuse refusedDevice (y.tFetch + y.hold)) } else y
    (f ∈ x.flights → due f = true →
      exec (.holdLimitExpiry b) s =
        .next (settle (weirEvent (goOn b.toNat (s.setBerth b.toNat { x with flights := x.flights.map refused }))))) ∧
    (x.flights.any due = false → exec (.holdLimitExpiry b) s = .next s))

/-- When the charter fields are valid; otherwise the command ends with RESULT BAD_FIELD (R78). -/
def Obligations.CharterFields : Prop :=
  ∀ s : State, Settled s → Clear s → charterReach s = true → (s.cmd kBerth).done = true → s.sluiced = false →
    let i := s.BERTH_SEL_ID
    let b := s.berth i
    let slots := s.PORT_CFG_SLOTS s.BERTH_PORT_PORT
    let valid := 0 < slots ∧ s.BERTH_PORT_SLOT < slots ∧ 4 ≤ s.BERTH_RING_LOG2 ∧ s.BERTH_RING_LOG2 ≤ 12 ∧
      s.BERTH_FLOOR_FLOOR ≤ s.BERTH_CEIL_CEIL ∧ s.BERTH_CEIL_CEIL ≤ s.BERTH_RETAIN_RETAIN ∧ 1 ≤ s.BERTH_CEIL_CEIL ∧
      s.BERTH_POLICY_HOLD ≤ 100000 ∧ floorSum s - b.floor + s.BERTH_FLOOR_FLOOR ≤ s.WEIR_FLOOR_MAX_VALUE
    let bad := cmdEnd kBerth 3 (cmdTake kBerth s)
    (fieldsOk s i = true ↔ valid) ∧
    (¬ valid →
      (b.st = .free → s.fmm.san.marker ≠ 1 → exec .charter s = .next bad) ∧
      (b.st ≠ .free → exec .modify s = .next bad) ∧
      (b.st = .fenced → exec .recharter s = .next bad) ∧
      (bad.cmd kBerth).done = true ∧ (bad.cmd kBerth).result = 3 ∧ (bad.cmd kBerth).ticket = (s.cmd kBerth).ticket + 1 ∧
      ∀ j, bad.berth j = s.berth j)

/-- CHARTER, MODIFY, RECHARTER and RELEASE: states, checks in order, and the fields they set (R40, R73, R77); the last two wait for
descriptors of the berth that are in flight (R80; that they wait, after a fence that no FENCE made, is the model's choice, log 11). -/
def Obligations.CharterCommands : Prop :=
  (∀ s : State, Settled s → Clear s → charterReach s = true → (s.cmd kBerth).done = true →
    let i := s.BERTH_SEL_ID
    let b := s.berth i
    let u := cmdTake kBerth s
    let answer := fun (r : Nat) => Host.Outcome.next (cmdEnd kBerth r u)
    (s.sluiced = true ∨ b.st ≠ .free ∨ s.fmm.san.marker = 1 → exec .charter s = answer 2) ∧
    (s.sluiced = false → b.st = .free → s.fmm.san.marker ≠ 1 →
      (fieldsOk s i = false → exec .charter s = answer 3) ∧
      (fieldsOk s i = true → slotFree s i = false → exec .charter s = answer 4) ∧
      (fieldsOk s i = true → slotFree s i = true →
        exec .charter s = .next (settle (cmdEnd kBerth 0 (weirEval (u.setBerth i { withStaged s b with
          st := .chartered, gen := b.gen + 1, nextSeq := 1, retirePoint := 0, sqHead := 0, sqTail := 0, cqTail := 0, cqHead := 0,
          phase := true, engine := (Config.engineOf i).toNat })))))) ∧
    (s.sluiced = true ∨ b.st = .free → exec .modify s = answer 2) ∧
    (s.sluiced = false → b.st ≠ .free →
      (fieldsOk s i = false → exec .modify s = answer 3) ∧
      (fieldsOk s i = true → b.st = .chartered → slotFree s i = false → exec .modify s = answer 4) ∧
      (fieldsOk s i = true → b.st = .chartered → slotFree s i = true → b.port = s.BERTH_PORT_PORT →
        exec .modify s = .next (settle (cmdEnd kBerth 0 (weirEval (u.setBerth i (withStaged s b)))))) ∧
      (fieldsOk s i = true → b.st ≠ .chartered →
        exec .modify s = .next (settle (cmdEnd kBerth 0 (weirEval (u.setBerth i { b with
          floor := s.BERTH_FLOOR_FLOOR, ceil := s.BERTH_CEIL_CEIL, retain := s.BERTH_RETAIN_RETAIN, hold := s.BERTH_POLICY_HOLD,
          qos := s.BERTH_POLICY_QOS, spillOk := s.BERTH_POLICY_SPILL_OK == 1, vector := s.BERTH_POLICY_VECTOR }))))))) ∧
  (∀ s : State, Settled s → Clear s → charterReach s = true → (s.cmd kBerth).done = true →
    let i := s.BERTH_SEL_ID
    let b := s.berth i
    let u := cmdTake kBerth s
    let answer := fun (r : Nat) => Host.Outcome.next (cmdEnd kBerth r u)
    (s.sluiced = true ∨ b.st ≠ .fenced → exec .recharter s = answer 2 ∧ exec .release s = answer 2) ∧
    (s.sluiced = false → b.st = .fenced →
      (b.flights = [] → exec .release s = .next (settle (cmdEnd kBerth 0 (weirEval (releaseEffect i u))))) ∧
      (b.flights ≠ [] → exec .release s = .next { u with mgmt := { u.mgmt with fencing := some (5, i) } }) ∧
      (fieldsOk s i = false → exec .recharter s = answer 3) ∧
      (fieldsOk s i = true → slotFree s i = false → exec .recharter s = answer 4) ∧
      (fieldsOk s i = true → slotFree s i = true →
        (s.reg offBERTH_OWNER ≠ b.owner → b.unret ≠ 0 → exec .recharter s = answer 6) ∧
        (s.reg offBERTH_OWNER = b.owner → b.nextSeq = 2 ^ 48 → b.unret ≠ 0 → exec .recharter s = answer 5) ∧
        (b.unret = 0 ∨ s.reg offBERTH_OWNER = b.owner ∧ b.nextSeq ≠ 2 ^ 48 →
          (b.flights ≠ [] → exec .recharter s = .next { u with mgmt := { u.mgmt with fencing := some (4, i) } }) ∧
          (b.flights = [] → exec .recharter s = .next (settle (cmdEnd kBerth 0 (weirEval (recharterEffect i u))))) ∧
          (b.flights = [] → b.port = s.BERTH_PORT_PORT → (recharterEffect i u).berth i = { withStaged s b with
            st := .chartered, gen := b.gen + 1, reason := 0, sqHead := 0, sqTail := 0, cqTail := 0, cqHead := 0, phase := true,
            nextSeq := if b.nextSeq = 2 ^ 48 then 1 else b.nextSeq,
            retirePoint := if b.nextSeq = 2 ^ 48 then 0 else b.retirePoint })))))

/-- BERTH_SEL stages a berth; accesses of BAR0 wait in order behind a charter-window write that waits for a running command; FENCE and
its end (R34, R76, R80, R81, R375). That reads and other writes wait too is the model's reading of R34 (log 60). -/
def Obligations.FenceAndSelect : Prop :=
(∀ (c : Instr) (charter : Bool) (s : State), portAccess c = some charter → s.bar0 = true →
    s.mgmt.held ≠ [] ∨ charter = true ∧ s.core = true ∧ (s.cmd kBerth).done = false →
    exec c s = .next { s with mgmt := { s.mgmt with held := s.mgmt.held ++ [(c, !s.sluiced)] } }) ∧
  (∀ (w : Word) (s : State), Settled s → Clear s → charterReach s = true → (s.cmd kBerth).done = true →
    exec (.berthSel w) s = .next (forEach (stageOf (s.berth (fld w 19 0)))
      (s.setReg offBERTH_SEL (w &&& maskOf 19 0)) (fun x s => s.setReg x.1 x.2))) ∧
  (∀ s : State, Settled s → Clear s → charterReach s = true → (s.cmd kBerth).done = true →
    let i := s.BERTH_SEL_ID
    let u := cmdTake kBerth s
    (s.sluiced = true ∨ (s.berth i).st = .free ∨ (s.berth i).st = .fenced → exec .fence s = .next (cmdEnd kBerth 2 u)) ∧
    (s.sluiced = false → (s.berth i).st ≠ .free → (s.berth i).st ≠ .fenced →
      exec .fence s = .next (settle (goOn i (fenceBerth 1 i { u with mgmt := { u.mgmt with fencing := some (3, i) } }))))) ∧
  (∀ (op i : Nat) (s : State), s.mgmt.fencing = some (op, i) →
    ((s.berth i).flights ≠ [] → exec .fenceDone s = .next s) ∧
    ((s.berth i).flights = [] → exec .fenceDone s = .next (settle (drainHeld s.mgmt.held.length (fenceEnds op i s)))) ∧
    ((s.berth i).flights = [] → op = 3 → Clear s → Settled s →
      exec .fenceDone s = .next (cmdEnd kBerth 0 { s with mgmt := { s.mgmt with fencing := none } }))) ∧
  (∀ s : State, s.mgmt.fencing = none → exec .fenceDone s = .next s) ∧
  (∀ s : State, Clear s → charterReach s = false → ∀ w,
    ∀ c ∈ [Instr.berthSel w, .charter, .modify, .fence, .recharter, .release], exec c s = .next s)

/-- BUDGET_RECOMPUTE only lowers the budget and tests overtop, BUDGET_RISE only raises it, within the guarded values of the window (R91,
R92, R108). That the free slabs are looked at too is the model's choice (log 58). -/
def Obligations.BudgetFallsAndRises : Prop :=
(∀ s : State,
    let u := recompute (compactAll s)
    let strict := budgetOf u (eAvailBy guarded u)
    (s.core = true → exec .budgetRecompute s = .next (settle (weirEval (overtop u)))) ∧
    (s.core = false → exec .budgetRecompute s = .next s) ∧
    u.weir.budget.eAvail = min s.weir.budget.eAvail strict.eAvail ∧
    u.weir.budget.bEnergy = min s.weir.budget.bEnergy strict.bEnergy ∧
    u.weir.budget.bEff = min s.weir.budget.bEff strict.bEff ∧
    u.weir.window.head? = some (s.now, budgetOf u (eAvailBy unheld u))) ∧
  (∀ s : State,
    let u := rise s
    (s.core = true → exec .budgetRise s = .next (settle (weirEval u))) ∧
    (s.core = false → exec .budgetRise s = .next s) ∧
    s.weir.budget.eAvail ≤ u.weir.budget.eAvail ∧ s.weir.budget.bEnergy ≤ u.weir.budget.bEnergy ∧
    s.weir.budget.bEff ≤ u.weir.budget.bEff ∧
    (∀ x ∈ s.weir.window, s.weir.budget.bEff < u.weir.budget.bEff → u.weir.budget.bEff ≤ x.2.bEff) ∧
    (s.now < riseHold s → u = s))

/-- WEIR_CTRL.SHUT, the throttle window and the residence limit (R104, R107, R190, R197). Ingress is taken over the last window by the
model's choice (log 14). -/
def Obligations.WeirShutAndThrottle : Prop :=
(∀ s : State, Clear s → charterReach s = true →
    let set := fun (v : Nat) => s.setReg offWEIR_CTRL (setFld (s.reg offWEIR_CTRL) 0 0 v)
    (s.weir.st = .opened ∨ s.weir.st = .over → exec (.weirShutWrite true) s = .next (settle (setWeir .shut (set 1)))) ∧
    (s.weir.st = .shut ∨ s.weir.st = .sluice → exec (.weirShutWrite true) s = .next (settle (set 1))) ∧
    exec (.weirShutWrite false) s = .next (settle (weirEval (set 0)))) ∧
  (∀ (v : Bool) (s : State), Clear s → charterReach s = false → exec (.weirShutWrite v) s = .next s) ∧
  (∀ s : State,
    (s.core = true → exec .throttleWindow s = .next (settle (weirEvent (collModes { s with fmm := { s.fmm with
      paceLeft := s.fmm.produced * s.FMM_GC_FG_PACE / 100, produced := 0, ingressLast := s.fmm.ingress, ingress := 0 } })))) ∧
    (s.core = false → exec .throttleWindow s = .next s)) ∧
  (∀ (b : BerthId) (seq : BitVec 48) (s : State),
    let x := s.berth b.toNat
    (x.spillOk = true → residenceOf s x.qos ≠ 0 →
      x.chain.any (fun r => r.seq == seq.toNat && r.basin.isNone && decide (r.tCommit + residenceOf s x.qos ≤ s.now)) = true →
      exec (.residenceLimitExpiry b seq) s = .next (settle (spillRun (spillFlags s)))) ∧
    (x.spillOk = false ∨ residenceOf s x.qos = 0 → exec (.residenceLimitExpiry b seq) s = .next s))

/-- Chunk programs end or fail on the open superblock they belong to; basin reads for FETCH and collection end, with what became of each
codeword (R146, R157, R161, R180, R190, R214). -/
def Obligations.ProgramsAndReads : Prop :=
(∀ (die : Fin 1536) (block : Fin 4096) (row : Fin 1024) (k j : Nat) (b : Sb) (s : State),
    s.core = true → openOf s die.val block.val = some (k, b) → slotOf b die.val block.val = some j →
    (chunkTurn s k j row.val (blkNo s die.val block.val) = true →
      (s.fmm.san.st ≠ 1 → exec (.chunkProgramDone die block row) s =
        .next (settle (collModes (upkeep (segmentDue (spillRun (spillFlags (chunkDone k j row.val s)))))))) ∧
      (s.fmm.san.st = 1 → exec (.chunkProgramDone die block row) s = .next (settle (sanGo (chunkDone k j row.val s))))) ∧
    (chunkTurn s k j row.val (blkNo s die.val block.val) = false → exec (.chunkProgramDone die block row) s = .next s)) ∧
  (∀ (die : Fin 1536) (block : Fin 4096) (k : Nat) (b : Sb) (s : State), s.core = true →
    let n := blkNo s die.val block.val
    openOf s die.val block.val = some (k, b) → b.rows < b.started → (s.blk n).st = 1 → (s.blk n).nextRow = b.rows →
    (s.fmm.san.st ≠ 1 → exec (.programFail die block) s = .next (settle (collModes (upkeep (programFailed k n b.rows s))))) ∧
    (s.fmm.san.st = 1 → exec (.programFail die block) s = .next (settle (sanProgramFailed k n s)))) ∧
  (∀ (die : Fin 1536) (block : Fin 4096) (row : Fin 1024) (s : State), openOf s die.val block.val = none →
    exec (.chunkProgramDone die block row) s = .next s ∧ exec (.programFail die block) s = .next s) ∧
  (∀ (b : BerthId) (cws : List CwRead) (f : Flight) (d : Desc) (r : Rec) (q g o : Nat) (s : State),
    let i := b.toNat
    let x := s.berth i
    x.flights = [f] → f.stage = .basin q → f.desc = some d → x.chain.find? (fun r => r.seq == q) = some r → r.basin = some (g, o) →
    (s.weir.st ≠ .sluice → exec (.basinReadDone (.fetch b) cws) s =
      .next (settle (goOn i (endFetch i f d r false (!cwsRead cws) (reReads cws g o r.len s))))) ∧
    (s.weir.st = .sluice → cwsFirst cws = true → exec (.basinReadDone (.fetch b) cws) s =
      .next (settle (goOn i (endFetch i f d r false false s)))) ∧
    (s.weir.st = .sluice → cwsFirst cws = false → exec (.basinReadDone (.fetch b) cws) s =
      .next (settle (goOn i (endFetch i f d { r with len := min r.len d.length } true false s))))) ∧
  (∀ (q : Fin 4) (cws : List CwRead) (s : State), s.basinLive = true → s.weir.st ≠ .sluice →
    (∀ key, readKey s q.val = some key →
      exec (.basinReadDone (.collect q) cws) s = .next (settle (upkeep (collectRead key cws s)))) ∧
    (readKey s q.val = none → exec (.basinReadDone (.collect q) cws) s = .next s))

/-- Barges close at their wait, verified superblocks release their pound copies, checkpoints and chart reads (R20, R151, R158,
R171, R174). Before its time a timed command changes nothing: the model's choice (log 1). -/
def Obligations.BargesAndVerify : Prop :=
(∀ (stream : Stream) (s : State),
    let a := s.asmOf (streamKey stream)
    s.basinLive = true → s.weir.st ≠ .sluice → a.dir ≠ [] →
    (a.since + s.FMM_GEOM1_BARGE_WAIT ≤ s.now →
      exec (.bargeWaitExpiry stream) s = .next (settle (collModes (segmentDue (closeAsm stream (streamKey stream) s))))) ∧
    (s.now < a.since + s.FMM_GEOM1_BARGE_WAIT → exec (.bargeWaitExpiry stream) s = .next s)) ∧
  (∀ (sb : BitVec 20) (cws : List (Fin 1024 × Fin 17 × Fin 16 × CwRead)) (s : State),
    let fails := fun (c : CwRead) => match c with | .bits n => decide (s.FMM_GEOM1_VERIFY_BITS < n) | _ => true
    let rows := ((cws.filter (fun x => fails x.2.2.2)).map (fun x => x.1.val)).dedup
    let u := verifySb sb.toNat (forEach rows s (fun row s => readbackFail sb.toNat row cws s))
    (s.sb sb.toNat).st = 2 → s.core = true → s.weir.st ≠ .sluice → (s.refloat.stage ≠ 4 ∨ s.refloat.opened = true) →
    (u.fmm.san.st = 1 → exec (.verifyReadbackDone sb cws) s = .next (settle (sanVerified (!rows.isEmpty) u))) ∧
    (u.fmm.san.st ≠ 1 → u.ready = true → exec (.verifyReadbackDone sb cws) s = .next (settle (weirEval (collModes (upkeep u))))) ∧
    (u.fmm.san.st ≠ 1 → u.ready = false → exec (.verifyReadbackDone sb cws) s = .next (settle u))) ∧
  (∀ s : State, s.ready = true → s.basinLive = true → s.weir.st ≠ .sluice →
    (s.fmm.tCkpt + 250000 ≤ s.now →
      exec .checkpointTimer s = .next (settle (collModes (chartWrites [] (writeSegment .control s))))) ∧
    (s.now < s.fmm.tCkpt + 250000 → exec .checkpointTimer s = .next s)) ∧
  (∀ (cpn : BitVec 32) (ok crcOk : Bool) (pb : BerthId) (pc : BitVec 32) (ps : Word) (s : State),
    let p := s.page cpn.toNat
    let hit := ok && hostReads s && crcOk && pb.toNat == p.berth && pc == cpn && ps.toNat == p.pageSeq
    (s.chart.st = 1 → p.st = 3 → exec (.chartReadDone cpn ok crcOk pb pc ps) s =
      .next (settle (chartWrites [cpn.toNat] (framesOut (chartPage cpn.toNat hit s))))) ∧
    (s.chart.st ≠ 1 ∨ p.st ≠ 3 → exec (.chartReadDone cpn ok crcOk pb pc ps) s = .next s))

/-- Blank checks, erases, collection and wear levelling (R176, R179, R183, R186 to R194). That what waited for a checked block goes
on in the same step is the model's reading (log 52). -/
def Obligations.EraseAndCollect : Prop :=
(∀ (die : Fin 1536) (block : Fin 4096) (pass : Bool) (s : State),
    let n := blkNo s die.val block.val
    let b := s.blk n
    (b.st = 0 → b.blank = true → s.core = true →
      exec (.blankCheckDone die block pass) s = .next (settle (sanGo (collModes (upkeep (blankGo (s.setBlk n
        (if pass then { b with blank := false } else { b with blank := false, st := 3, gate := s.fmm.ckptSeq + 1 })))))))) ∧
    (b.st ≠ 0 ∨ b.blank = false ∨ s.core = false → exec (.blankCheckDone die block pass) s = .next s)) ∧
  (∀ (die : Fin 1536) (block : Fin 4096) (s : State),
    let n := blkNo s die.val block.val
    let ends := fun (u : State) => Host.Outcome.next (settle (sanGo (weirEvent (collModes (upkeep u)))))
    s.core = true → (s.blk n).st = 5 →
    exec (.eraseDone die block true) s = ends (erasePassed die.val block.val n s) ∧
    exec (.eraseDone die block false) s = ends (retireBlock n 2 (s.bump offFMM_CNT_FAIL 31 0 1))) ∧
  (∀ (q : Fin 4) (s : State), running s = true →
    let t := collModes s
    (fgOf s q.val = true ∨ bgOf s q.val = true → exec (.collectionMove q) s =
      .next (settle (upkeep (beginMove q.val (minBy (sbLive t) (untaken t q.val)) false t)))) ∧
    (fgOf s q.val = false → bgOf s q.val = false → exec (.collectionMove q) s = .next s) ∧
    (quadUp s q.val = true → s.fmm.fg = 0 → s.FMM_CTRL_WL_PAUSE ≠ 1 → s.FMM_WEAR_WL_SPREAD < ecMax s - ecMin s →
      exec (.wearLevelMove q) s = .next (settle (upkeep (beginMove q.val (minBy (sbEc s) (untaken s q.val)) true s)))) ∧
    (s.fmm.fg ≠ 0 ∨ s.FMM_CTRL_WL_PAUSE = 1 ∨ ecMax s - ecMin s ≤ s.FMM_WEAR_WL_SPREAD → exec (.wearLevelMove q) s = .next s))

/-- SANITIZE starts or answers its result, its steps, marker and erases go on; the daily life figures (R198 to R205). BAD_KEY comes before
the other conditions by the model's choice (log 26), and where nothing has been spilled the figures that need it are free (log 2). -/
def Obligations.SanitizeAndLife : Prop :=
  ((∀ (key : Byte) (s : State), Clear s → charterReach s = true →
    (sanResult s key = 0 → exec (.sanitizeStart key true) s = .next (settle (sanGo (sanBegin s)))) ∧
    (sanResult s key ≠ 0 → Settled s →
      exec (.sanitizeStart key true) s = .next (s.setSan { s.fmm.san with result := sanResult s key })) ∧
    (key = 0x5A → s.weir.st = .shut → s.ready = true → (∀ p ∈ s.berths, p.2.st = .free) → s.sluiced = false → s.fmm.san.st ≠ 1 →
      sanResult s key = 0)) ∧
  (∀ (key : Byte) (start : Bool) (s : State), Settled s → Clear s → (charterReach s = false ∨ start = false) →
    exec (.sanitizeStart key start) s = .next s) ∧
  (∀ s : State, s.fmm.san.st = 1 →
    (s.fmm.san.mStep = 1 → sanQuiet s = true → exec .sanitizeMarkerUpdate s = .next (settle (sanWear (sanMark s)))) ∧
    (s.fmm.san.mStep = 1 → sanQuiet s = false → Settled s → exec .sanitizeMarkerUpdate s = .next s) ∧
    (s.fmm.san.mStep = 3 → s.fmm.san.wearSbs = [] → exec .sanitizeMarkerUpdate s = .next (settle (sanWear s))) ∧
    (s.fmm.san.mStep = 4 → Settled s → exec .sanitizeMarkerUpdate s =
      .next (markWrite (s.setSan { s.fmm.san with mProgress := s.fmm.san.turn })))) ∧
  (∀ s : State, s.fmm.san.st ≠ 1 → exec .sanitizeMarkerUpdate s = .next s) ∧
  (∀ (die : Fin 1536) (block : Fin 4096) (pass : Bool) (s : State), s.core = true →
    (s.blk (blkNo s die.val block.val)).st ≠ 5 → s.fmm.san.st = 1 →
    (s.fmm.san.mStep = 4 → exec (.eraseDone die block pass) s = .next (settle (sanStep4 die.val block.val pass s))) ∧
    (s.fmm.san.mStep = 6 → exec (.eraseDone die block pass) s = .next (settle (sanStep6 die.val block.val pass s))))) ∧
  (∀ s : State,
    (running s = true → Gives .lifeDaily s (fun t =>
      let n := max (blocksIn s) 1
      let ec := (ecList s).sum
      let win := lifeWindow t.fmm.days s.FMM_LIFE_CFG_WINDOW
      let dEc := ec - win.2.1
      let dSpill := s.fmm.spillBytes - win.2.2.2
      let w := if dSpill = 0 then (s.fmm.flashBytes, s.fmm.spillBytes) else (s.fmm.flashBytes - win.2.2.1, dSpill)
      t.fmm.runDays = s.fmm.runDays + 1 ∧ t.fmm.ecSum = ec ∧
      t.fmm.days.getLast? = some (ec, s.fmm.flashBytes, s.fmm.spillBytes) ∧ t.fmm.days.length ≤ s.FMM_LIFE_CFG_WINDOW + 1 ∧
      t.fmm.rE = sat 32 (dEc * 1000 / (n * win.1)) ∧
      t.fmm.lifeDays = (if dEc = 0 then 0xFFFFFFFF else sat 32 ((s.FMM_WEAR_ERASE_LIMIT * n - ec) * win.1 / dEc)) ∧
      (w.2 ≠ 0 → t.fmm.wRatio = sat 32 (w.1 * 1000 / w.2)) ∧ t.free ≤ s.free + 1 ∧ (w.1 ≠ 0 → w.2 ≠ 0 → t.free = s.free) ∧
      t = { s with free := t.free, fmm := { s.fmm with
        runDays := t.fmm.runDays, ecSum := t.fmm.ecSum, days := t.fmm.days, lifeDays := t.fmm.lifeDays, safeRate := t.fmm.safeRate,
        wRatio := t.fmm.wRatio, rE := t.fmm.rE, lifeShort := t.fmm.lifeShort } })) ∧
    (running s = false → exec .lifeDaily s = .next s))

/-- PHY faults, probe failures, CA parity alerts and DRC_CTRL retire a DRAM channel (R131 to R138). -/
def Obligations.ChannelsRetire : Prop :=
∀ (ch : Fin 12) (s : State),
    let n := 0x140 + ch.val
    let due := s.core = true ∧ s.drc.probedAt + 1000 * s.DRC_PROBE_PERIOD ≤ s.now
    let w := forEach ((List.range 12).filter (inSvc s)) { s with drc := { s.drc with probedAt := s.now } } probeWrite
    ((s.chan ch.val).st ≠ 0 → (s.chan ch.val).st ≠ 3 →
      exec (.phyFault ch) s = .next (settle (report n true (detailWord 0 3 ch.val) (channelRetire 3 ch.val s))) ∧
      (Clear s → s.bar0 = true → s.core = true →
        exec (.drcRetire 0xA5 true (BitVec.ofNat 4 ch.val)) s = .next (settle (channelRetire 5 ch.val s)))) ∧
    ((s.chan ch.val).st = 0 ∨ (s.chan ch.val).st = 3 → exec (.phyFault ch) s = .next s ∧
      (Clear s → exec (.drcRetire 0xA5 true (BitVec.ofNat 4 ch.val)) s = .next s)) ∧
    (due → (Settled s → exec (.probeTimer 0) s = .next w) ∧
      (inSvc s ch.val = true → exec (.probeTimer (BitVec.ofNat 12 (2 ^ ch.val))) s =
        .next (settle (report n true (detailWord 0 2 ch.val) (channelRetire 2 ch.val w))))) ∧
    (¬ due → ∀ m, exec (.probeTimer m) s = .next s) ∧
    (inSvc s ch.val = true →
      exec (.caParityAlert ch 0) s =
        .next (settle (report n false (detailWord 0 0 ch.val) (s.bump (offDRC_CH_CNT + 8 * ch.val) 63 48 1))) ∧
      (heard s n = false → exec (.caParityAlert ch 8) s =
        .next (settle (report n true (detailWord 0 1 ch.val) (channelRetire 1 ch.val s))))) ∧
    (inSvc s ch.val = false → ∀ k, exec (.caParityAlert ch k) s = .next s) ∧
    (∀ (key : Byte) (c : BitVec 4), Clear s → key ≠ 0xA5 → exec (.drcRetire key true c) s = .next s)

/-- Refresh, ZQ calibration, open-row limit, urgency, control re-mirror and compaction (R118, R122 to R130). Which banks a REFsb covers and
the number of banks are the model's choice (log 56). -/
def Obligations.DramUpkeep : Prop :=
(∀ (ch : Fin 12) (s : State),
    let x := s.sched ch.val
    (inSvc s ch.val = true →
      (∀ rank : Fin 8, let y := refreshed ch.val (refreshBanks s rank.val none) x
        exec (.refreshDue ch rank none) s = .next (s.setSched ch.val { y with refAll := y.refAll + 1 })) ∧
      (∀ (rank : Fin 8) (bank : Fin 4), let y := refreshed ch.val (refreshBanks s rank.val (some bank)) x
        exec (.refreshDue ch rank (some bank)) s = .next (s.setSched ch.val { y with refBank := y.refBank + 1 })) ∧
      exec (.zqCalDue ch) s = .next (s.setSched ch.val { x with zqCals := x.zqCals + 1 })) ∧
    (inSvc s ch.val = false → (∀ rank bank, exec (.refreshDue ch rank bank) s = .next s) ∧ exec (.zqCalDue ch) s = .next s) ∧
    (∀ bank, exec (.maximumOpenTime ch bank) s = .next (s.setSched ch.val { x with openRows := tset none x.openRows bank none })) ∧
    (∀ (r : DramReq), x.reqs = [r] → r.urgency < 3 →
      (urgencyStepOf s r.urgency * latencyTarget s r.who ≤ (s.now - r.arrival) * 10000 →
        exec (.urgencyStep ch r.id) s = .next (s.setSched ch.val { x with reqs := [{ r with urgency := r.urgency + 1 }] })) ∧
      ((s.now - r.arrival) * 10000 < urgencyStepOf s r.urgency * latencyTarget s r.who →
        exec (.urgencyStep ch r.id) s = .next (s.setSched ch.val x)))) ∧
  (∀ s : State,
    (s.drc.remirror = true → units s ≠ [] → exec .controlRemirrorDone s = .next { s with drc := { s.drc with
      remirror := false, singleCtl := false, homes := s.drc.homes ++ s.drc.evac.map (fun u => (u, units s)), evac := [] } }) ∧
    (s.drc.remirror = false ∨ units s = [] → exec .controlRemirrorDone s = .next s)) ∧
  (∀ (b : BerthId) (seq : BitVec 48) (m : Move) (s : State),
    let x := s.berth b.toNat
    let taken := fun (r : Rec) => if r.seq = seq.toNat ∧ r.place.isSome then { r with place := some m.place } else r
    let left := s.drc.moving.filter (fun y => !(y.berth == b.toNat && y.seq == seq.toNat))
    s.drc.moving.find? (fun y => y.berth == b.toNat && y.seq == seq.toNat) = some m →
    (copiesIn s m = true → exec (.compactionSwitch b seq) s = .next (settle (weirEvent (compactAll
      (({ s with drc := { s.drc with moving := left } } : State).setBerth b.toNat { x with chain := x.chain.map taken }))))) ∧
    (copiesIn s m = false → exec (.compactionSwitch b seq) s = .next s)) ∧
  (∀ (b : BerthId) (seq : BitVec 48) (s : State), s.drc.moving = [] → exec (.compactionSwitch b seq) s = .next s)

/-- A COMMAND sluice needs its key and a weir not yet in SLUICE; a later trigger only joins the mask (R207 to R210). -/
def Obligations.SluiceTriggers : Prop :=
(∀ (key : Byte) (start : Bool) (s : State), Settled s → Clear s →
    (charterReach s = true → key = 0xC3 → start = true → s.weir.st ≠ .sluice →
      exec (.sluiceCommand key start) s = .next (settle (trigger 6 s))) ∧
    (charterReach s = false ∨ key ≠ 0xC3 ∨ start = false ∨ s.weir.st = .sluice → exec (.sluiceCommand key start) s = .next s)) ∧
  (∀ (c : Nat) (s : State), s.seq.st = 2 ∨ s.seq.st = 3 → s.seq.downLatch = false →
    let t := trigger c s
    (s.sluiced = true → t.keep = { s.keep with warnTill := true } ∧
      (s.sluice.phase < 5 ∨ s.sluice.early = true → t.sluice = { s.sluice with
        mask := s.sluice.mask ||| trigBit c, first := if s.now = s.sluice.tTrigger then min s.sluice.first c else s.sluice.first }) ∧
      (5 ≤ s.sluice.phase → s.sluice.early = false → t = { s with keep := t.keep }) ∧
      t.berths = s.berths ∧ t.weir = s.weir ∧ t.fmm = s.fmm ∧ t.drc = s.drc ∧ t.seq = s.seq ∧ t.ports = s.ports ∧ t.gauge = s.gauge ∧
      t.fly = s.fly ∧ t.cfg = s.cfg ∧ t.tow = s.tow) ∧
    (s.sluiced = false → t.sluiced = true ∧ t.weir.st = .sluice ∧ t.pins.warn = true ∧ t.sluice.first = c ∧ t.sluice.tTrigger = s.now ∧
      t.sluice.early = !s.ready)) ∧
  (∀ (c : Nat) (s : State), (s.seq.st ≠ 2 ∧ s.seq.st ≠ 3) ∨ s.seq.downLatch = true → trigger c s = s)

/-- The sluice goes from drain to manifests to seal, or is torn, and the restart hold ends it (R211 to R222, R293). Before its time
a timed command changes nothing: the model's choice (log 1). What flash cannot take yet waits (log 52). -/
def Obligations.SluicePhases : Prop :=
(∀ s : State, s.sluice.phase = 1 →
    (s.sluice.tTrigger + s.WEIR_SLUICE_CFG_DRAIN_LIMIT ≤ s.now → exec .sluiceDrainLimit s =
      .next (settle (forEach (s.berths.map (·.1)) s (fun i s => drainLoop i (2 * (s.berth i).flights.length + 1) s)))) ∧
    (s.now < s.sluice.tTrigger + s.WEIR_SLUICE_CFG_DRAIN_LIMIT → exec .sluiceDrainLimit s = .next s) ∧
    (s.berths.any (fun p => !p.2.flights.isEmpty) = true ∨ s.mgmt.fencing ≠ none → exec .sluiceDrainEnd s = .next s) ∧
    (s.berths.any (fun p => !p.2.flights.isEmpty) = false → s.mgmt.fencing = none → (portsOff s).fmm.san.marker ≠ 1 →
      let u := { portsOff s with sluice := { (portsOff s).sluice with phase := 2 } }
      let m := { sluiceManifest 2 u with ckptSeq := newestCkpt u, ctxs := contexts u, tokens := tokensOf u }
      exec .sluiceDrainEnd s = .next (settle (wakeHeld (writeManifest .sluice m u))))) ∧
  (∀ s : State, s.sluice.phase = 3 →
    (unspilled s = [] → exec .sluicePoundDrained s =
      .next (settle (sluiceGo { s with sluice := { s.sluice with phase := 4, flush := 0 } }))) ∧
    (unspilled s ≠ [] → exec .sluicePoundDrained s = .next s)) ∧
  (∀ s : State, s.weir.st = .sluice → s.sluice.phase = 4 → unspilled s = [] → s.fmm.asm = [] → sluiceProgrammed s = true →
    let m := { sluiceManifest 3 s with ckptSeq := s.fmm.ckptSeq, sbs := sealedSbs s, fails := s.fmm.failed }
    (s.sluice.flush = 2 → ofRun s 2 ≠ none → ∃ f, flushStep s = { writeManifest .sluice m s with
      sluice := { (writeManifest .sluice m s).sluice with flush := f } }) ∧
    (s.sluice.flush = 2 → ofRun s 2 = none → flushStep s = s)) ∧
  (∀ s : State, s.sluice.phase = 4 → s.sluice.flush = 3 →
    (sealWritten s = true → exec .sluiceSeal s = .next (settle (sealNow s))) ∧
    (sealWritten s = false → exec .sluiceSeal s = .next s)) ∧
  (∀ s : State, s.sluice.phase ≠ 4 ∨ s.sluice.flush ≠ 3 → exec .sluiceSeal s = .next s) ∧
  (∀ s : State,
    (s.weir.st = .sluice → 1 ≤ s.sluice.phase → s.sluice.phase < 5 →
      exec .sluiceEnergyExhausted s = .next (settle (sluiceTorn s))) ∧
    (s.weir.st ≠ .sluice ∨ 5 ≤ s.sluice.phase → exec .sluiceEnergyExhausted s = .next s)) ∧
  (∀ s : State,
    (s.sluiced = true → startOk s = true → exec .restartHoldExpiry s = .next (settle (programStart s))) ∧
    (s.now < s.sluice.tTrigger + restartHold s → s.sluiced = true → exec .restartHoldExpiry s = .next s))

/-- Refloat: scan, load or open a run, verify, and ready when the energy is there (R22 to R24, R223 to R231). A new run whose blocks
await their blank checks (R179) waits for them (log 52). -/
def Obligations.RefloatStages : Prop :=
(∀ (heads : List (BitVec 20 × Fin 1024 × Fin 17 × Fin 4)) (dirs : List (BitVec 20 × Fin 1024)) (marks : List (Fin 1536 × Fin 4096))
    (s : State), s.refloat.stage = 1 → s.basinLive = true → s.sluiced = false →
    let scan : Scan := ⟨heads.map (fun x => (x.1.toNat, x.2.1.val, x.2.2.1.val, x.2.2.2.val)), dirs.map (fun x => (x.1.toNat, x.2.val))⟩
    let ok := scan.ok s
    (newestManifest ok s = none → exec (.refloatScanDone heads dirs marks) s =
      .next (settle (openRun (factoryMarks (marks.map (fun x => (x.1.val, x.2.val))) (setBlank (foundSbs s)))))) ∧
    (∀ m, newestManifest ok s = some m →
      let first := if m.kind = 2 ∨ m.kind = 3 then m.first else 0
      let u := s.setRefloat { s.refloat with kase := caseOf m, runId := m.runId, lastFirst := first }
      let seg := ckptOf ok u m
      let loaded := loadBerths (ctxOf s m) (match seg with | some g => g.chains | none => [])
        (match seg with | some g => loadMap g u | none => setBlank (foundSbs u))
      (m.kind = 4 → exec (.refloatScanDone heads dirs marks) s = .next (settle (openRun (countersAbove m loaded)))) ∧
      (m.kind ≠ 4 →
        let taken := forEach (barges loaded seg m) loaded (takeBarge scan)
        exec (.refloatScanDone heads dirs marks) s =
          .next (settle (countersAbove m (taken.setRefloat { taken.refloat with stage := 4 })))))) ∧
  (∀ heads dirs marks (s : State), s.refloat.stage ≠ 1 ∨ s.sluiced = true → exec (.refloatScanDone heads dirs marks) s = .next s) ∧
  (∀ (cws : List (BitVec 20 × Fin 1024 × Fin 17 × Fin 16 × CwRead)) (s : State), s.refloat.stage = 4 → s.refloat.opened = false →
    s.basinLive = true → openWaits s = false →
    let u := forEach ((s.fmm.sbs.filter (fun p => p.2.st == 2 && quadUp s p.2.quadrant)).map (·.1)) s (verifyRefloat cws)
    let v := { u with fmm := { u.fmm with pages := [] } }
    exec (.refloatVerifyDone cws) s = .next (settle (openRun (recount (forEach (v.berths.map (·.1)) v berthBack))))) ∧
  (∀ (cws : List (BitVec 20 × Fin 1024 × Fin 17 × Fin 16 × CwRead)) (s : State), openWaits s = true ∨ s.refloat.opened = true →
    exec (.refloatVerifyDone cws) s = .next s) ∧
  (∀ s : State,
    (readyOk s = true → exec .refloatReady s = .next (settle (weirEval (collModes (readyNow s)))) ∧
      (readyNow s).refloat.stage = 5 ∧ (s.keep.warnTill = true → (readyNow s).pins.warn = false) ∧
      ∀ m ∈ (readyNow s).fmm.manifests, m.runId = s.refloat.runId ∧ m.tEvent = s.now) ∧
    (s.weir.budget.eAvail < eNeed s 0 ∨ s.refloat.opened = false → exec .refloatReady s = .next s))

/-- The sequencer program: ENABLE, WAIT, CHECK, JUMP and their time limits (R285 to R288). Before its time a timed command changes
nothing: the model's choice (log 1). -/
def Obligations.ProgramSteps : Prop :=
(∀ (r : Run) (w : BitVec 32) (s : State),
    let on := { r with turnedOn := if eOn w then r.turnedOn ++ [w] else r.turnedOn }
    atStep s 1 = some (r, w) →
    (heldOff s r w = true → exec .enable s = .next (setRun (some { r with wait := .seal }) s)) ∧
    (heldOff s r w = false → eTimeout w = 0 ∨ itemReached (setItem w (eOn w) s) w = true →
      exec .enable s = .next (settle (setStep on (r.step + 1) .none (setItem w (eOn w) s)))) ∧
    (heldOff s r w = false → eTimeout w ≠ 0 → itemReached (setItem w (eOn w) s) w = false →
      exec .enable s = .next (settle (setStep on r.step (.item w ((setItem w (eOn w) s).now + 1000 * eTimeout w)) (setItem w (eOn w) s))))) ∧
  (∀ (r : Run) (w : BitVec 32) (s : State), atStep s 2 = some (r, w) →
    exec .wait s = .next (setStep r r.step (.time (s.now + sBits w 23 0 * (if sBits w 27 27 = 1 then 1000 else 1))) s)) ∧
  (∀ (r : Run) (t : Nat) (s : State), s.seq.run = some r → r.wait = .time t →
    (t ≤ s.now → exec .waitExpiry s = .next (setStep r (r.step + 1) .none s)) ∧
    (s.now < t → exec .waitExpiry s = .next s)) ∧
  (∀ (r : Run) (w : BitVec 32) (s : State), atStep s 3 = some (r, w) →
    (condition s w = true ∨ eTimeout w = 0 → exec .check s = .next (setStep { r with c := condition s w } (r.step + 1) .none s)) ∧
    (condition s w = false → eTimeout w ≠ 0 →
      exec .check s = .next (setStep { r with c := false } r.step (.cond w (s.now + 1000 * eTimeout w)) s))) ∧
  (∀ (r : Run) (w : BitVec 32) (t : Nat) (s : State), s.seq.run = some r → r.wait = .cond w t →
    (t ≤ s.now → exec .checkTimeout s = .next (setStep { r with c := condition s w } (r.step + 1) .none s)) ∧
    (s.now < t → exec .checkTimeout s = .next s)) ∧
  (∀ (r : Run) (s : State), s.seq.run = some r → r.wait = .none →
    let w := progWord s r.rom r.prog r.step
    (sOp w = 4 → isEnd w = false → exec .jump s = .next (setStep r (jumpTo r w) .none s)) ∧
    (isEnd w = true → sOp w = 0 ∨ 4 ≤ sOp w → exec .jump s = .next (settle (endProgram r.prog s))))

/-- Items arrive or time out, rails fail, slew and are read, the timed grace ends (R282 to R286, R309). Before its time a timed
command changes nothing: the model's choice (log 1). -/
def Obligations.RailsAndItems : Prop :=
(∀ (r : Run) (w : BitVec 32) (t : Nat) (s : State), s.seq.run = some r → r.wait = .item w t →
    exec .itemPowerGood s = .next (settle (resumeWait (itemArrives w s))) ∧
    (s.now < t → exec .enableTimeout s = .next s) ∧
    (t ≤ s.now → itemReached s w = true → exec .enableTimeout s = .next (setStep r (r.step + 1) .none s)) ∧
    (t ≤ s.now → itemReached s w = false → eOn w = true → exec .enableTimeout s = .next (settle (latchFail w r s))) ∧
    (t ≤ s.now → itemReached s w = false → eOn w = false →
      exec .enableTimeout s = .next (setStep r (r.step + 1) .none (dischargeLate w s)))) ∧
  (∀ s : State, s.seq.run = none → s.seq.downWait = none →
    exec .itemPowerGood s = .next (settle (nextUp s)) ∧ exec .enableTimeout s = .next s) ∧
  (∀ (w : BitVec 32) (t : Nat) (s : State), s.seq.run = none → s.seq.downWait = some (w, t) →
    exec .itemPowerGood s = .next (settle (downTurn (itemArrives w s))) ∧
    (s.now < t → exec .enableTimeout s = .next s) ∧
    (t ≤ s.now → itemReached s w = true → exec .enableTimeout s = .next (goDown s.seq.downs s)) ∧
    (t ≤ s.now → itemReached s w = false → exec .enableTimeout s = .next (goDown s.seq.downs (dischargeLate w s)))) ∧
  (∀ (w : BitVec 32) (s : State),
    let u := logRec 0x06 (itemCode w) 0 [] (s.bump offSEQ_CNT 31 16 1)
    dischargeLate w s = u.setReg offSEQ_STATUS (setFld (u.reg offSEQ_STATUS) 6 6 1)) ∧
  (∀ (r : Fin 64) (s : State),
    (railSrc s r.val = 1 → exec (.railFault r) s = .next (settle (railDown r.val
      { s with seq := { s.seq with pgPins := s.seq.pgPins &&& ~~~ BitVec.ofNat 16 (2 ^ railIdx s r.val) } }))) ∧
    (railSrc s r.val ≠ 1 → exec (.railFault r) s = .next (settle (railDown r.val s)))) ∧
  (∀ (r : Fin 64) (good : Bool) (t : Nat) (s : State), (s.rail r.val).slewEnd = some t →
    let u := s.setRail r.val { s.rail r.val with slewEnd := none }
    (t ≤ s.now → exec (.railTransEnd r true) s = .next (settle (resumeWait (railUp r.val u))) ∧
      exec (.railTransEnd r false) s = .next (settle (resumeWait (railDown r.val u)))) ∧
    (s.now < t → exec (.railTransEnd r good) s = .next s)) ∧
  (∀ (l : List RailReading) (s : State), Settled s →
    (s.aonRuns = true → exec (.pmbusPoll l) s = .next (settle (resumeWait (forEach l s takeReading))) ∧
      exec (.smbalert l) s = .next (settle (resumeWait (forEach l s takeReading)))) ∧
    (s.aonRuns = false → exec (.pmbusPoll l) s = .next s ∧ exec (.smbalert l) s = .next s)) ∧
  (∀ (t : Nat) (s : State), s.seq.timedEnd = some t →
    (t ≤ s.now → exec .timedGraceExpiry s = .next (settle (trigger 6 { s with seq := { s.seq with timedEnd := none } }))) ∧
    (s.now < t → exec .timedGraceExpiry s = .next s))

/-- Program 0 starts, resets are released after their stretch, RESET_N and the comparators (R92, R289, R292, R293, R312, R413). -/
def Obligations.StartsAndResets : Prop :=
(∀ s : State,
    (startOk s = true → exec .program0Start s = .next (settle (programStart s))) ∧
    (startOk s = false → exec .program0Start s = .next s) ∧
    (s.clk.rootOk = false ∨ s.seq.st ≠ 1 ∨ s.seq.downWait ≠ none → startOk s = false)) ∧
  (∀ (n : Fin 16) (s : State),
    let m := BitVec.ofNat 16 (2 ^ n.val)
    (s.seq.relPending.getLsbD n.val = true → stretched s n.val = true → exec (.resetStretchEnd n) s =
      .next { s with seq := { s.seq with asserted := s.seq.asserted &&& ~~~ m, relPending := s.seq.relPending &&& ~~~ m } }) ∧
    (s.seq.relPending.getLsbD n.val = false ∨ stretched s n.val = false → exec (.resetStretchEnd n) s = .next s)) ∧
  (∀ (ns : Nat) (s : State), s.clk.aon = true →
    (1000 ≤ ns → exec (.resetN ns) s = .next (settle (resetRequest 1 s))) ∧
    (ns < 100 → exec (.resetN ns) s = .next s) ∧
    (100 ≤ ns → ns < 1000 →
      exec (.resetN ns) s = .next (settle (resetRequest 1 { s with free := s.free + 1 })) ∨
      exec (.resetN ns) s = .next { s with free := s.free + 1 })) ∧
  (∀ (c : Cmp) (s : State), s.clk.aon = true →
    (cmpTripped s c = false → exec (.comparatorTrip c) s = .next (settle (resumeWait
      (tripEffect (cmpFunc s c).1 (cmpFunc s c).2.1 (cmpFunc s c).2.2 (cmpIndex c) (setCmp c true s))))) ∧
    (cmpTripped s c = true → exec (.comparatorRelease c) s = .next (settle (resumeWait
      (releaseEffectOf (cmpFunc s c).1 (cmpFunc s c).2.1 (setCmp c false s))))) ∧
    (cmpTripped s c = true → exec (.comparatorTrip c) s = .next s) ∧
    (cmpTripped s c = false → exec (.comparatorRelease c) s = .next s)) ∧
  (∀ (i k n : Nat) (s : State),
    tripEffect 2 i k n s = stopCapTest (tripTerm (fun w => { w with tripCap := .held }) s) ∧
    tripEffect 3 i k n s = tripTerm (fun w => { w with tripFly := .held }) s ∧
    releaseEffectOf 2 i s = { s with weir := { s.weir with tripCap := if s.weir.tripCap = .held then .released s.now else s.weir.tripCap } } ∧
    releaseEffectOf 3 i s = { s with weir := { s.weir with tripFly := if s.weir.tripFly = .held then .released s.now else s.weir.tripFly } })

/-- SEQ_CTRL: CLEAR, RUN_SERVICE and RAIL_CMD, their states and results (R284, R287, R372). -/
def Obligations.SequencerCommands : Prop :=
∀ s : State, Clear s → s.bar0 = true → (s.cmd kSeq).done = true →
    let u := cmdTake kSeq s
    let answer := fun (r : Nat) (t : State) => Host.Outcome.next (settle (cmdEnd kSeq r t))
    (s.seq.st = 4 → exec (.clear 0x9D) s = answer 0 (logRec 0x10 0 0 [] { u with
      seq := { u.seq with st := 1, failRail := 0xFF, failKind := 0, failTime := 0, latchCleared := true } })) ∧
    (s.seq.st ≠ 4 → exec (.clear 0x9D) s = answer 2 u) ∧
    (s.seq.run = none → s.seq.st = 3 → s.weir.st = .shut → totH s = 0 →
      exec (.runService 0x9D) s = answer 0 (startProgram 3 u)) ∧
    (s.seq.run ≠ none ∨ s.seq.st ≠ 3 ∨ s.weir.st ≠ .shut ∨ totH s ≠ 0 → exec (.runService 0x9D) s = answer 2 u) ∧
    (∀ ack : Bool,
      let r := s.SEQ_RAIL_SEL_RAIL
      let v := s.SEQ_RAIL_CMD_VOUT
      ((s.rail r).on = false → exec (.railCmd 0x9D ack) s = answer 2 u) ∧
      ((s.rail r).on = true →
        (v < railVmin s r ∨ railVmax s r < v → exec (.railCmd 0x9D ack) s = answer 3 u) ∧
        (railVmin s r ≤ v → v ≤ railVmax s r →
          exec (.railCmd 0x9D true) s = answer 0 ((u.setRail r { s.rail r with
            target := v, slewEnd := some (s.now + 1000 * railTrans s r) }).emit (.pmbus r 0x21 v)) ∧
          exec (.railCmd 0x9D false) s = answer 5 (u.bump offSEQ_CNT 15 0 1)))) ∧
    ∀ (k : Byte) (ack : Bool), k ≠ 0x9D → exec (.railCmd k ack) s = .next s

/-- The gauge counts charge within 0 and capacity, judges its end points over their times, and brings an anchor into force in one step at
the next update (R234, R238, R239). Before its time a timed command changes nothing: the model's choice (log 1). A sample list of another
length is no command that can arrive (log 6). -/
def Obligations.GaugeCounting : Prop :=
(∀ (m : GaugeSample) (s : State),
    (m.strings.length ≠ 8 → exec (.gaugeUpdate m) s = .fault .malformedCommand) ∧
    (m.strings.length = 8 → s.aonRuns = true → s.gauge.hibernating = false → (∀ t, s.gauge.updated = some t → t + 100 ≤ s.now) →
      exec (.gaugeUpdate m) s = .next (settle (gaugeStep m s))) ∧
    (m.strings.length = 8 → s.aonRuns = false ∨ s.gauge.hibernating = true ∨ (∃ t, s.gauge.updated = some t ∧ s.now < t + 100) →
      exec (.gaugeUpdate m) s = .next s)) ∧
  (∀ (x : StringSample) (g : GStr) (s : State),
    (s.gauge.loaded = true → g.present = true →
      ((strSample s x g).q : Int) = min ((g.cap * nCmAh : Nat) : Int) (max 0 ((g.q : Int) + x.i * 100)) ∧
      (strSample s x g).thru = g.thru + x.i.natAbs * 100 ∧
      (strSample s x g).eoc = (if atEoc s (strSense s x g) then some (g.eoc.getD (s.now, false)) else none) ∧
      (strSample s x g).eod = (if atEod s (strSense s x g) then some (g.eod.getD (s.now, false)) else none)) ∧
    (s.gauge.loaded = false ∨ g.present = false →
      (strSample s x g).q = g.q ∧ (strSample s x g).eoc = none ∧ (strSample s x g).eod = none) ∧
    (strSample s x g).v = x.v ∧ (strSample s x g).i = x.i ∧ (strSample s x g).cap = g.cap) ∧
  (∀ (i : Fin 8) (s : State),
    let g := s.str i.val
    let taper := s.GAUGE_CFG_CURR_T_TAPER * 1000000
    (counting s i.val = false ∨ (∀ t, g.eoc = some (t, false) → s.now < t + taper) → exec (.endOfCharge i) s = .next s) ∧
    (counting s i.val = false ∨ (∀ t, g.eod = some (t, false) → s.now < t + 100000) → exec (.endOfDischarge i) s = .next s) ∧
    (∀ t, counting s i.val = true → g.eoc = some (t, false) → t + taper ≤ s.now → exec (.endOfCharge i) s =
      .next ((s.setStr i.val { g with
        anchor := some ⟨true, s.now, g.anchor.bind (·.cap)⟩, eoc := some (t, true), tFull := some s.now, sinceAnchor := some (0, 0)
        outOfTemp := !tempOk s g }).bump (offGAUGE_S_CNT + 0x40 * i.val) 31 16 1)) ∧
    (∀ t, counting s i.val = true → g.eod = some (t, false) → t + 100000 ≤ s.now →
      let u := s.setStr i.val { g with anchor := some ⟨false, s.now, learns g⟩, eod := some (t, true), sinceAnchor := none }
      let v := if (learns g).isSome then logRec 0x0C i.val 3 [] u else u
      (s.gauge.learning = some i.val → exec (.endOfDischarge i) s = .next (stopLearning v)) ∧
      (s.gauge.learning ≠ some i.val → exec (.endOfDischarge i) s = .next v))) ∧
  (∀ (g : GStr) (out back : Nat),
    (g.sinceAnchor = none → learns g = none) ∧
    (g.sinceAnchor = some (out, back) →
      (back * 50 ≤ g.cap * nCmAh → g.outOfTemp = false → learns g = some (out / nCmAh)) ∧
      (g.cap * nCmAh < back * 50 ∨ g.outOfTemp = true → learns g = none))) ∧
  (∀ (i : Nat) (s : State),
    ((s.str i).anchor = none → takeAnchor i s = s) ∧
    (∀ a, (s.str i).anchor = some a →
      let g := s.str i
      let c := a.cap.getD g.cap
      takeAnchor i s = jump i (s.setStr i { g with
        anchor := none, cap := c, learned := g.learned || a.cap.isSome, q := if a.full then c * nCmAh else 0, anchored := true
        tAnchor := a.at_, thru := 0, tLearned := if a.cap.isSome then a.at_ else g.tLearned })))

/-- GAUGE_CTRL: LEARN_START, LEARN_ABORT, AUTH, CAP_TEST and FORGET under key 0x6B, with their RESULTs and effects (R239 to R246, R250,
R257). The model's choices: of several failing conditions the lowest RESULT (log 26), LEARN_START without the shelf's acknowledgement ends
ABORTED (log 20), LEARN_ABORT with nothing to abort and AUTH without issuer keys end CONDITION (log 53), FORGET leaves Q_rem (log 12). -/
def Obligations.GaugeCommands : Prop :=
(∀ (i : Fin 8) (ack : Bool) (s : State), Clear s → s.bar0 = true → (s.cmd kGauge).done = true →
    let u := cmdTake kGauge s
    (declared s i.val = false →
      exec (.learnStart 0x6B i ack) s = .next (settle (cmdEnd kGauge 2 u)) ∧
      exec (.auth 0x6B i) s = .next (settle (cmdEnd kGauge 2 u)) ∧
      exec (.forget 0x6B i) s = .next (settle (cmdEnd kGauge 2 u))) ∧
    (declared s i.val = true → learnOk s i.val = false → exec (.learnStart 0x6B i ack) s = .next (settle (cmdEnd kGauge 4 u))) ∧
    (learnOk s i.val = true →
      let b := (u.emit (.shelf s.GAUGE_CFG_LEARN_PMBUS_CMD i.val (10 * s.GAUGE_CFG_CURR_LEARN_I))).updStr i.val
        (fun g => { g with learning := true, learnDrawn := 0 })
      let v := { b with gauge := { b.gauge with learning := some i.val } }
      exec (.learnStart 0x6B i true) s =
        .next (settle (cmdEnd kGauge 0 { v with gauge := { v.gauge with counted := countedMask v } })) ∧
      exec (.learnStart 0x6B i false) s = .next (settle (cmdEnd kGauge 7 (stopLearning v)))) ∧
    (declared s i.val = true → s.core = false ∨ s.cfg.sealed = false ∨ s.harbour = true →
      exec (.auth 0x6B i) s = .next (settle (cmdEnd kGauge 4 u))) ∧
    (declared s i.val = true → s.core = true → s.cfg.sealed = true → s.harbour = false →
      ((s.str i.val).present = false → exec (.auth 0x6B i) s = .next (settle (cmdEnd kGauge 6 u))) ∧
      ((s.str i.val).present = true →
        let v := { u with gauge := { u.gauge with runCmd := some i.val } }
        exec (.auth 0x6B i) s = .next (settle (authNext (v.updStr i.val (fun g => { g with
          auth := if g.auth = 2 then 2 else 1, authAt := if g.authAt = 0 then s.now + 1 else min g.authAt (s.now + 1), attempts := 0
          due := true })))))) ∧
    (declared s i.val = true → (s.str i.val).present = false → exec (.forget 0x6B i) s = .next (settle (cmdEnd kGauge 6 u))) ∧
    (declared s i.val = true → (s.str i.val).present = true →
      let v := if s.gauge.learning = some i.val then stopLearning u else u
      exec (.forget 0x6B i) s = .next (settle (cmdEnd kGauge 0 (authNext (authAsk i.val s.now
        (v.updStr i.val (fun g => swapped v (decide (0 < g.nameplate)) g)))))))) ∧
  (∀ s : State, Clear s → s.bar0 = true → (s.cmd kGauge).done = true →
    let u := cmdTake kGauge s
    (s.gauge.learning = none → exec (.learnAbort 0x6B) s = .next (settle (cmdEnd kGauge 4 u))) ∧
    (s.gauge.learning ≠ none → exec (.learnAbort 0x6B) s = .next (settle (cmdEnd kGauge 0 (stopLearning u)))) ∧
    (capTestOk s = false → exec (.capTest 0x6B) s = .next (settle (cmdEnd kGauge 4 u))) ∧
    (capTestOk s = true → exec (.capTest 0x6B) s = .next (settle { u with
      gauge := { u.gauge with runCmd := some 8, testing := true, testStart := s.now, testFrom := s.gauge.bank, tCapTest := s.now }
      pins := { u.pins with capTest := true, charger := false } }))) ∧
  (∀ (k : Byte) (i : Fin 8) (ack : Bool) (s : State), Clear s →
    (s.bar0 = false ∨ k ≠ 0x6B →
      exec (.learnStart k i ack) s = .next s ∧ exec (.learnAbort k) s = .next s ∧ exec (.auth k i) s = .next s ∧
      exec (.capTest k) s = .next s ∧ exec (.forget k i) s = .next s) ∧
    (s.bar0 = true → (s.cmd kGauge).done = false →
      exec (.learnStart 0x6B i ack) s = .next (settle (cmdTake kGauge s)) ∧ exec (.learnAbort 0x6B) s = .next (settle (cmdTake kGauge s)) ∧
      exec (.auth 0x6B i) s = .next (settle (cmdTake kGauge s)) ∧ exec (.capTest 0x6B) s = .next (settle (cmdTake kGauge s)) ∧
      exec (.forget 0x6B i) s = .next (settle (cmdTake kGauge s)))) ∧
  (∀ (i : Nat) (s : State), s.gauge.learning = some i →
    let v := s.updStr i (fun g => { g with learning := false })
    let w := { v with gauge := { v.gauge with learning := none } }
    (s.gauge.acLost = false → stopLearning s = w.emit (.shelf s.GAUGE_CFG_LEARN_PMBUS_CMD i 0)) ∧
    (s.gauge.acLost = true → stopLearning s = w))

/-- Module polls, swaps, authentication verdicts and the learning schedule (R232, R233, R241 to R246). That a gauge asleep reads no
module, and that a swapped module keeps Q_rem within its capacity, are the model's choices (logs 53, 12). -/
def Obligations.GaugeModules : Prop :=
(∀ (l : List (Option (BitVec 128 × BitVec 8))) (s : State),
    (s.aonRuns = true → s.gauge.hibernating = false → exec (.smbusPoll l) s =
      .next (settle (authNext (forEach ((l.take 8).zipIdx) s (fun p s => pollOne p.2 p.1 s))))) ∧
    (s.aonRuns = false ∨ s.gauge.hibernating = true → exec (.smbusPoll l) s = .next s)) ∧
  (∀ (i : Nat) (s : State), (s.str i).present = true → (s.str i).silent = 2 →
    ∃ t, pollOne i none s = moduleGone i t ∧ (t.str i).present = true ∧ (t.str i).silent = 3) ∧
  (∀ (i : Nat) (serial : BitVec 128) (temp : BitVec 8) (s : State), (s.str i).present = true → (s.str i).serial = serial →
    pollOne i (some (serial, temp)) s = s.setStr i { s.str i with silent := 0, temp := temp }) ∧
  (∀ (s : State) (known : Bool) (g : GStr),
    let w := swapped s known g
    w.cap = (if known then g.nameplate else s.GAUGE_CFG_CAP1_NAMEPLATE * 100) ∧ w.q = min g.q (w.cap * nCmAh) ∧ uAnch s w = 1000 ∧
    uCap s w = s.GAUGE_CFG_UNC_U_NAMEPLATE ∧ rInt s w = s.GAUGE_CFG_RINT_R_NOM ∧ w.retired = false) ∧
  (∀ (i : Fin 8) (s : State),
    (authWanted s i.val = true → exec (.authRetryTimer i) s = .next (settle (authNext s))) ∧
    (authWanted s i.val = false → exec (.authRetryTimer i) s = .next s)) ∧
  (∀ (i : Fin 8) (d : Identity) (r t : BitVec 256) (s : State),
    ((s.str i.val).nonce = none → exec (.authVerdict i d r t) s = .next s) ∧
    (∀ n, (s.str i.val).nonce = some n →
      (identityOk s n d r.toNat t.toNat = true → exec (.authVerdict i d r t) s = .next (settle (authNext (bindModule i.val d s)))) ∧
      (identityOk s n d r.toNat t.toNat = false → exec (.authVerdict i d r t) s = .next (settle (authNext (authFail i.val s)))))) ∧
  (∀ (i : Fin 8) (ack : Bool) (s : State),
    let t := s.updStr i.val (fun g => { g with learnRetry := s.now + 3600000000 })
    (learnTurn s = some i.val → s.gauge.hibernating = false →
      (learnOk s i.val = true → exec (.learnSchedule i ack) s = .next (learnBegin i.val ack t)) ∧
      (learnOk s i.val = false → exec (.learnSchedule i ack) s = .next t)) ∧
    (learnTurn s ≠ some i.val ∨ s.gauge.hibernating = true → exec (.learnSchedule i ack) s = .next s))

/-- AC loss is set and cleared, the gauge hibernates, charges its hours asleep and wakes (R247, R252). Before its time a timed
command changes nothing: the model's choice (log 1). -/
def Obligations.AcLossAndHibernation : Prop :=
(∀ (report : Bool) (s : State),
    let drawn := ∃ t, s.gauge.drawSince = some t ∧ t + 100000 ≤ s.now
    (s.aonRuns = true → s.gauge.acLost = false → report = true ∨ drawn → exec (.acLostSet report) s = .next (settle (acLost s))) ∧
    (s.aonRuns = true → s.gauge.acLost = true → report = true ∨ drawn → exec (.acLostSet report) s =
      .next { s with gauge := { s.gauge with quietAcSince := s.now } }) ∧
    (s.aonRuns = false ∨ report = false ∧ ¬ drawn → exec (.acLostSet report) s = .next s) ∧
    (s.gauge.learning = none → s.gauge.testing = false → s.seq.st ≠ 2 → s.seq.st ≠ 3 →
      acLost s = logRec 0x0B 0 1 [] (({ s with gauge := { s.gauge with acLost := true, quietAcSince := s.now } } : State).setFly
        { s.fly with motoring := false }))) ∧
  (∀ s : State,
    let drawn := ∃ t, s.gauge.drawSince = some t ∧ t + 100000 ≤ s.now
    (s.gauge.acLost = true → ¬ drawn → s.gauge.quietAcSince + 10000000 ≤ s.now →
      exec .acLostClear s = .next (logRec 0x0B 0 0 [] { s with gauge := { s.gauge with acLost := false } })) ∧
    (s.gauge.acLost = false ∨ drawn ∨ s.now < s.gauge.quietAcSince + 10000000 → exec .acLostClear s = .next s)) ∧
  (∀ s : State, s.aonRuns = true → s.gauge.loaded = true → s.gauge.hibernating = false →
    (s.seq.on = 0 → (∀ i < s.gauge.nCfg, i < 8 →
        (s.str i).quietSince + s.GAUGE_CFG_LEARN_HIB_DELAY * 1000000 ≤ s.now) →
      exec .hibernate s = .next { s with gauge := { s.gauge with hibernating := true, sleepQuiet := s.now } }) ∧
    (s.seq.on ≠ 0 ∨ (∃ i < 8, i < s.gauge.nCfg ∧ s.now < (s.str i).quietSince + s.GAUGE_CFG_LEARN_HIB_DELAY * 1000000) →
      exec .hibernate s = .next s)) ∧
  (∀ s : State, s.gauge.hibernating = true →
    (s.now < s.gauge.sleepQuiet + 3600000000 → exec .hibernateHour s = .next s) ∧
    (s.gauge.sleepQuiet + 3600000000 ≤ s.now → Gives .hibernateHour s (fun t =>
      t.gauge.hibernating = true ∧ t.gauge.sleepQuiet = s.gauge.sleepQuiet + 3600000000 ∧
      t = { s with gauge := { s.gauge with sleepQuiet := t.gauge.sleepQuiet, strings := t.gauge.strings } } ∧
      ∀ p ∈ t.gauge.strings, ∃ g, (p.1, g) ∈ s.gauge.strings ∧
        p.2 = { g with q := g.q - s.GAUGE_CFG_CURR_I_WAKE * nCmAh, thru := g.thru + s.GAUGE_CFG_CURR_I_WAKE * nCmAh })) ∧
    Gives .gaugeWake s (fun t => t.gauge.hibernating = false ∧
      t = { s with gauge := { s.gauge with hibernating := false, updated := none, strings := t.gauge.strings } } ∧
      ∀ p ∈ t.gauge.strings, ∃ g, (p.1, g) ∈ s.gauge.strings ∧
        p.2 = { g with quietSince := s.now, hist := [], eoc := none, eod := none })) ∧
  (∀ s : State, s.gauge.hibernating = false → exec .hibernateHour s = .next s ∧ exec .gaugeWake s = .next s)

/-- The capacitance test and the gauge captures (R250, R251, R256). Before its time a timed command changes nothing: the model's
choice (log 1). -/
def Obligations.BankTestAndCaptures : Prop :=
(∀ s : State,
    (capTestOk s = true → s.gauge.tCapTest + s.GAUGE_CFG_CAP1_CAP_PERIOD * 3600000000 ≤ s.now →
      exec .capTestPeriod s = .next { s with
        gauge := { s.gauge with testing := true, testStart := s.now, testFrom := s.gauge.bank, tCapTest := s.now }
        pins := { s.pins with capTest := true, charger := false } }) ∧
    (capTestOk s = false ∨ s.now < s.gauge.tCapTest + s.GAUGE_CFG_CAP1_CAP_PERIOD * 3600000000 →
      exec .capTestPeriod s = .next s) ∧
    (s.weir.st = .sluice ∨ s.gauge.acLost = true ∨ s.gauge.testing = true → capTestOk s = false)) ∧
  (∀ (charge fall : Nat) (s : State), s.gauge.testing = true → 0 < fall →
    (fall < s.GAUGE_CFG_CAP1_DV_TEST → exec (.capTestEnd charge fall) s = .next s) ∧
    (s.GAUGE_CFG_CAP1_DV_TEST ≤ fall →
      let t := fun (low : Bool) => endGaugeCmd 8 0 (({ s with
        gauge := { s.gauge with testing := false, cTest := some (charge / fall), capLow := low }
        pins := { s.pins with capTest := false, charger := true } } : State).bump offGAUGE_CAP_CNT 63 32 1)
      (charge / fall < s.GAUGE_CFG_CAP0_C_LOW → exec (.capTestEnd charge fall) s =
        .next (settle (report 0x1E8 true (detailWord 0 1 (charge / fall)) (t true)))) ∧
      (s.GAUGE_CFG_CAP0_C_LOW ≤ charge / fall → exec (.capTestEnd charge fall) s = .next (settle (t false))))) ∧
  (∀ s : State,
    (s.gauge.testing = true → s.gauge.testStart + 5000000 < s.now → exec .capTestTimeout s = .next (stopCapTest s) ∧
      (stopCapTest s).gauge.cTest = s.gauge.cTest ∧ (stopCapTest s).pins = { s.pins with capTest := false, charger := true }) ∧
    (s.gauge.testing = false ∨ s.now ≤ s.gauge.testStart + 5000000 → exec .capTestTimeout s = .next s)) ∧
  (∀ (i : Fin 8) (s : State), Clear s → s.bar0 = true → Gives (.gaugeStringCapture i) s (fun t =>
    t.out = s.out ++ [.mgmtData (snapWord s (capKey i.val 0) 0)] ∧
    t = { s with gauge := { s.gauge with captures := t.gauge.captures }, out := t.out } ∧
    (∀ k, 1 ≤ k → k ≤ 6 → tget none t.gauge.captures (capKey i.val k) = some (snapWord s (capKey i.val k) (strReset k))) ∧
    ∀ n, (∀ k, 1 ≤ k → k ≤ 6 → n ≠ capKey i.val k) → tget none t.gauge.captures n = tget none s.gauge.captures n)) ∧
  (∀ s : State, Clear s → s.bar0 = true → Gives .gaugeStatusCapture s (fun t =>
    t.out = s.out ++ [.mgmtData (gaugeStatusWord s)] ∧
    t = { s with gauge := { s.gauge with captures := t.gauge.captures }, out := t.out } ∧
    tget none t.gauge.captures battKey = some (snapWord s battKey 0) ∧ tget none t.gauge.captures bankKey = some (snapWord s bankKey 0) ∧
    ∀ n, n ≠ battKey → n ≠ bankKey → tget none t.gauge.captures n = tget none s.gauge.captures n)) ∧
  (∀ (i : Fin 8) (k : Fin 7) (r : Word) (s : State),
    snapWord (takeSnap s) (capKey i.val k.val) r = strWord s i.val k.val ∧
    snapWord (takeSnap s) battKey r = battSumWord s ∧ snapWord (takeSnap s) bankKey r = gaugeCapWord s) ∧
  (∀ (i : Fin 8) (s : State), s.bar0 = false → exec (.gaugeStringCapture i) s = .next s ∧ exec .gaugeStatusCapture s = .next s)

/-- The windlass starts through TEST and SYNC to RUN, or falls back to SAFE, and its gate outputs follow its state (R258, R259, R261, R266
to R268). Before its time a timed command changes nothing, and an alignment stands outside SYNC's 20 ms: the model's choices (logs 1, 54). -/
def Obligations.WindlassStarting : Prop :=
(∀ s : State,
    (windlassMay s = true →
      (s.FLY_CFG0_PHASES = 2 → exec .windlassStart s = .next (s.setFly { s.fly with st := .test })) ∧
      (s.FLY_CFG0_PHASES ≠ 2 → exec .windlassStart s =
        .next (s.setFly { s.fly with st := .sync, sync := .measure, syncAt := s.now }))) ∧
    (windlassMay s = false → exec .windlassStart s = .next s) ∧
    (s.fly.st ≠ .safe ∨ s.FLY_CTRL_HOLD ≠ 0 ∨ s.fly.link < s.FLY_CFG4_LINK_MIN ∨ s.fly.waitUntil ≠ none ∨
      (s.FLY_CFG0_PHASES ≠ 1 ∧ s.FLY_CFG0_PHASES ≠ 2) ∨ s.cfg.st = 5 → windlassMay s = false)) ∧
  (∀ (p : Fin 6) (s : State), s.fly.st = .test →
    exec (.legTestDone none) s = .next (s.setFly { s.fly with st := .sync, sync := .measure, syncAt := s.now }) ∧
    exec (.legTestDone (some p)) s = .next (settle (flyFault 2 p.val s))) ∧
  (∀ s : State, s.fly.st = .sync →
    let v := syncTurn s
    (syncDrives v = true → exec .syncLock s = .next ((v.setFly { v.fly with
      st := .run, measured := true, ocRun0 := 0, ocRun1 := 0, ocHit := 0 }).bump offFLY_CNT 63 48 1)) ∧
    (syncDrives v = false → exec .syncLock s = .next v) ∧
    (s.fly.sync = .measure → s.FLY_CFG1_BEMF_MIN ≤ s.fly.bemf → v = s.setFly { s.fly with sync := .matched } ∧ syncDrives v = true) ∧
    (s.fly.sync = .measure → s.fly.bemf < s.FLY_CFG1_BEMF_MIN →
      v = s.setFly { s.fly with sync := .align s.now } ∧ syncDrives v = false) ∧
    (∀ t, s.fly.sync = .align t →
      (t + 200000 ≤ s.now →
        v = s.setFly { s.fly with sync := .encoder (Config.flyAngle s.now), syncAt := s.now } ∧ syncDrives v = true) ∧
      (s.now < t + 200000 → v = s ∧ syncDrives v = false)) ∧
    (s.fly.sync = .matched ∨ (∃ a, s.fly.sync = .encoder a) → v = s ∧ syncDrives v = true)) ∧
  (∀ s : State, s.fly.st = .sync →
    let l := s.now :: s.fly.syncFails.filter (fun t => decide (s.now - t ≤ 3600000000))
    ((∀ t, s.fly.sync ≠ .align t) → s.fly.syncAt + 20000 ≤ s.now →
      (2 < l.length → exec .syncTimeout s = .next (settle (flyFault 3 0xF (s.setFly { s.fly with syncFails := l })))) ∧
      (l.length < 3 → exec .syncTimeout s = .next (s.setFly { s.fly with
        st := .safe, gatesCut := false, dump := false, motoring := false, generating := false, release := false, measured := false
        syncFails := l, waitUntil := some (s.now + 1000000) }))) ∧
    ((∃ t, s.fly.sync = .align t) ∨ s.now < s.fly.syncAt + 20000 → exec .syncTimeout s = .next s)) ∧
  (∀ (t : Nat) (s : State), s.fly.waitUntil = some t →
    (t ≤ s.now → exec .flyRestartWaitEnd s = .next (s.setFly { s.fly with waitUntil := none })) ∧
    (s.now < t → exec .flyRestartWaitEnd s = .next s)) ∧
  (∀ (x : Option (Fin 6)) (s : State),
    (s.fly.st ≠ .test → exec (.legTestDone x) s = .next s) ∧
    (s.fly.st ≠ .sync → exec .syncLock s = .next s ∧ exec .syncTimeout s = .next s)) ∧
  (∀ f : Fly,
    (f.gatesCut = true ∨ f.st = .off ∨ f.st = .safe ∨ f.st = .fault → f.driven = { f with gateEn := 0, pwmH := 0, pwmL := 0 }) ∧
    (f.gatesCut = false → f.st = .test → f.driven = { f with gateEn := f.enables, pwmH := 0, pwmL := f.live }) ∧
    (f.gatesCut = false → (f.st = .sync ∧ f.sync = .measure) ∨ (f.st = .run ∧ f.release = true) →
      f.driven = { f with gateEn := f.enables, pwmH := 0, pwmL := 0 }) ∧
    (f.gatesCut = false → (f.st = .sync ∧ f.sync ≠ .measure) ∨ (f.st = .run ∧ f.release = false) ∨ f.st = .brake →
      f.driven = { f with gateEn := f.enables, pwmH := f.live, pwmL := f.live }))

/-- Speed in use, overspeed and braking, the link, faults, overtemperature and encoder disagreement (R262, R271 to R276). A link above
LINK_OV is judged before an overspeed: the model's choice (log 62). -/
def Obligations.WindlassSpeedAndFaults : Prop :=
(∀ (cause phase : Nat) (s : State), ∃ b r l m o,
    flyFault cause phase s = { s with
      fly := { s.fly with
               st := .fault, cause := cause, phase := phase, tFault := s.now, gatesCut := false, dump := false, motoring := false
               generating := false, release := false, gateEn := 0, pwmH := 0, pwmL := 0 }
      weir := { s.weir with flyRaw := 0, flyDer := 0, budget := b }, regs := r, log := l, mgmt := m, out := o } ∧
    b.eAvail ≤ s.weir.budget.eAvail ∧ b.bEff ≤ s.weir.budget.bEff) ∧
  (∀ (enc bemf link peak : BitVec 16) (s : State),
    (s.fly.st = .off → exec (.flySpeedUpdate enc bemf link peak) s = .next s) ∧
    (s.fly.st ≠ .off →
      let b := if s.FLY_CFG1_BEMF_MIN ≤ bemf.toNat then bemf.toNat else 0
      let u := if s.fly.encFailed then b else if s.FLY_CFG1_BEMF_MIN ≤ bemf.toNat then min enc.toNat bemf.toNat else enc.toNat
      let v := s.setFly { s.fly with enc := enc.toNat, bemf := b, used := u, link := link.toNat, peak := peak.toNat }
      let high := faultable s = true ∧ s.FLY_CFG4_LINK_OV < link.toNat
      (high → exec (.flySpeedUpdate enc bemf link peak) s = .next (settle (flyFault 6 0xF v))) ∧
      (¬ high → s.fly.st = .run → s.FLY_CFG1_OVERSPEED ≤ u → exec (.flySpeedUpdate enc bemf link peak) s =
        .next (settle (flyDrop (v.setFly { v.fly with
          st := .brake, dump := true, motoring := false, generating := false, release := false })))) ∧
      (¬ high → s.fly.st ≠ .run ∨ u < s.FLY_CFG1_OVERSPEED → exec (.flySpeedUpdate enc bemf link peak) s = .next (syncTurn v)))) ∧
  (∀ s : State, s.fly.st = .brake →
    (s.fly.used ≤ s.FLY_CFG1_SPEED_MAX → exec .brakeEnd s = .next (settle (flyFault 4 0xF s))) ∧
    (s.FLY_CFG1_SPEED_MAX < s.fly.used → exec .brakeEnd s = .next s) ∧
    exec .brakeFail s = .next (settle (flyFault 0xA 0xF s))) ∧
  (∀ s : State,
    (s.fly.st ≠ .brake → exec .brakeEnd s = .next s ∧ exec .brakeFail s = .next s) ∧
    (s.fly.st = .test ∨ s.fly.st = .sync ∨ s.fly.st = .run →
      faultable s = true ∧ exec .linkOvervoltage s = .next (settle (flyFault 6 0xF s))) ∧
    (s.fly.st = .off ∨ s.fly.st = .safe ∨ s.fly.st = .brake ∨ s.fly.st = .fault →
      faultable s = false ∧ exec .linkOvervoltage s = .next s)) ∧
  (∀ (a b c d : BitVec 16) (s : State),
    let u := s.setFly { s.fly with temps := [a, b, c, d].map (fun t => ofTwos 16 t.toNat) }
    let l := s.now :: s.fly.shuts.filter (fun t => decide (s.now - t ≤ 3600000000))
    let v := (u.setFly { u.fly with shuts := l }).bump offFLY_CNT 15 0 1
    (s.fly.st ≠ .run ∨ (∀ t ∈ u.fly.temps, t < tShut s) → exec (.flyTempShutdown a b c d) s = .next u) ∧
    (s.fly.st = .run → (∃ t ∈ u.fly.temps, tShut s ≤ t) →
      (2 < l.length → exec (.flyTempShutdown a b c d) s = .next (settle (flyFault 5 0xF v))) ∧
      (l.length < 3 → exec (.flyTempShutdown a b c d) s = .next (settle (flyDrop (flySafe v)))))) ∧
  (∀ s : State, s.fly.st ≠ .off → s.fly.encFailed = false →
    let u := if s.FLY_CFG1_BEMF_MIN ≤ s.fly.bemf then s.fly.bemf else 0
    let v := report 0x1EB false (detailWord 3 1 0) (s.setFly { s.fly with encFailed := true, used := u })
    (s.FLY_CFG1_BEMF_MIN ≤ s.fly.bemf ∨ faultable s = false → exec .speedDisagree s = .next (settle v)) ∧
    (s.fly.bemf < s.FLY_CFG1_BEMF_MIN → faultable s = true → exec .speedDisagree s = .next (settle (flyFault 7 0xF v)))) ∧
  (∀ s : State, s.fly.st = .off ∨ s.fly.encFailed = true → exec .speedDisagree s = .next s)

/-- Overcurrent trips, desaturation, phase imbalance and trims take phase sets out (R264, R265, R270). -/
def Obligations.WindlassPhases : Prop :=
(∀ (p : Fin 6) (s : State), switching s = true → setIn s (setOf p) = true →
    let k := setOf p
    let u := s.bump offFLY_CNT 31 16 1
    let v := setOcRun k (ocRun s k + 1) (u.setFly { s.fly with ocHit := s.fly.ocHit ||| BitVec.ofNat 2 (2 ^ k.val) })
    (s.fly.ocHit.getLsbD k.val = true → exec (.overcurrentTrip p) s = .next u) ∧
    (s.fly.ocHit.getLsbD k.val = false → ocRun s k < 15 → exec (.overcurrentTrip p) s = .next v) ∧
    (s.fly.ocHit.getLsbD k.val = false → 15 ≤ ocRun s k → exec (.overcurrentTrip p) s = .next (settle (loseSet k p.val v)))) ∧
  (∀ (p : Fin 6) (s : State), switching s = false ∨ setIn s (setOf p) = false → exec (.overcurrentTrip p) s = .next s) ∧
  (∀ (k : Fin 2) (s : State),
    (s.fly.st = .brake → exec (.desatFault k) s = .next (settle (flyFault 0xA 0xF (loseSet k 0xF s)))) ∧
    (s.fly.st = .run ∨ s.fly.st = .sync → exec (.desatFault k) s = .next (settle (loseSet k 0xF s))) ∧
    (s.fly.st ≠ .run → s.fly.st ≠ .sync → s.fly.st ≠ .brake → exec (.desatFault k) s = .next s)) ∧
  (∀ (p : Fin 6) (s : State), s.fly.st = .run →
    exec (.phaseImbalance p) s = .next (settle (loseSet (setOf p) p.val s)) ∧
    (setIn s (setOf p) = true → exec (.trimLimit p) s =
      .next (settle (report (0x1E9 + (setOf p).val) false (detailWord 0 1 (setOf p).val) s))) ∧
    (setIn s (setOf p) = false → exec (.trimLimit p) s = .next s)) ∧
  (∀ (p : Fin 6) (s : State), s.fly.st ≠ .run → exec (.phaseImbalance p) s = .next s ∧ exec (.trimLimit p) s = .next s) ∧
  (∀ (k : Fin 2) (phase : Nat) (s : State),
    let t := s.setFly (if k = 0 then { s.fly with set0 := false } else { s.fly with set1 := false })
    let told := report (0x1E9 + k.val) true (detailWord 0 2 k.val)
    (setIn s k = false → loseSet k phase s = s) ∧
    (setIn s k = true → setIn s (if k = 0 then 1 else 0) = true →
      (flyCounts t = true → loseSet k phase s = told t) ∧ (flyCounts t = false → loseSet k phase s = told (flyDrop t))) ∧
    (setIn s k = true → setIn s (if k = 0 then 1 else 0) = false →
      (s.fly.st = .run ∨ s.fly.st = .sync ∨ s.fly.st = .test → loseSet k phase s = told (flyFault 8 phase t)) ∧
      (s.fly.st = .off ∨ s.fly.st = .safe ∨ s.fly.st = .brake ∨ s.fly.st = .fault → loseSet k phase s = told t)))

/-- Load release, the link target, the PWM period, HOLD and CLEAR (R261, R262, R265, R269, R271, R278). -/
def Obligations.WindlassLink : Prop :=
(∀ s : State,
    (s.fly.st = .run → s.fly.generating = true → s.fly.release = false → exec .loadRelease s =
      .next ((s.setFly { s.fly with release := true }).bump offFLY_CNT 47 32 1)) ∧
    (s.fly.st ≠ .run ∨ s.fly.generating = false ∨ s.fly.release = true → exec .loadRelease s = .next s) ∧
    exec .loadReleaseEnd s = .next (s.setFly { s.fly with release := false })) ∧
  (∀ (t : BitVec 16) (s : State), Clear s → s.bar0 = true →
    let ok := s.fly.loaded = true ∧ s.FLY_CFG4_LINK_MIN ≤ t.toNat ∧ t.toNat + 10 * s.FLY_CFG5_REL_V ≤ s.FLY_CFG4_LINK_OV
    (ok → exec (.linkTarget t) s = .next ((s.setFly { s.fly with ramp := rampNow s, rampAt := s.now }).setReg
      offFLY_LINK (setFld (s.reg offFLY_LINK) 63 48 t.toNat))) ∧
    (¬ ok → exec (.linkTarget t) s = .next s)) ∧
  (∀ (link : BitVec 16) (s : State), switching s = true →
    let f := { s.fly with
               link := link.toNat, ocHit := 0, ocRun0 := if s.fly.ocHit.getLsbD 0 then s.fly.ocRun0 else 0,
               ocRun1 := if s.fly.ocHit.getLsbD 1 then s.fly.ocRun1 else 0 }
    let high := faultable s = true ∧ s.FLY_CFG4_LINK_OV < link.toNat
    (high → exec (.pwmPeriod link) s = .next (settle (flyFault 6 0xF (s.setFly f)))) ∧
    (¬ high → s.fly.st ≠ .run ∨ s.fly.release = true → exec (.pwmPeriod link) s = .next (syncTurn (s.setFly f))) ∧
    (¬ high → s.fly.st = .run → s.fly.release = false → exec (.pwmPeriod link) s = .next (s.setFly { f with
      generating := decide (link.toNat < genEdge s)
      motoring := decide (genEdge s ≤ link.toNat ∧ s.fly.used < s.FLY_CFG1_SPEED_MAX ∧ s.sluiced = false ∧ s.gauge.acLost = false) }))) ∧
  (∀ (link : BitVec 16) (s : State), switching s = false → exec (.pwmPeriod link) s = .next s) ∧
  (∀ (hold : Bool) (s : State), Clear s → s.bar0 = true →
    let u := s.setReg offFLY_CTRL (if hold then 1 else 0)
    (hold = false ∨ s.fly.st ≠ .run → Settled s → exec (.flyHold 0x3E hold) s = .next u) ∧
    (hold = true → s.fly.st = .run → exec (.flyHold 0x3E hold) s = .next (settle (flyDrop (flySafe u))))) ∧
  (∀ s : State, Clear s → s.bar0 = true →
    (s.fly.st = .fault → exec (.flyClear 0x3E) s = .next (s.setFly { s.fly with
      st := .safe, gatesCut := false, cause := 0, phase := 0, tFault := 0, encFailed := false
      set0 := decide (0 < s.FLY_CFG0_PHASES), set1 := decide (s.FLY_CFG0_PHASES = 2) })) ∧
    (s.fly.st ≠ .fault → exec (.flyClear 0x3E) s = .next s)) ∧
  (∀ (k : Byte) (hold : Bool) (s : State), Clear s → k ≠ 0x3E ∨ s.bar0 = false →
    exec (.flyHold k hold) s = .next s ∧ exec (.flyClear k) s = .next s)

/-- The event log: queueing, writing, reading, and the start of the always-on domain (R294 to R297). -/
def Obligations.EventLog : Prop :=
(∀ (r : LogRec) (t : List LogRec) (s : State), s.log.queue = r :: t → s.log.dropped = 0 →
    Gives .logRecordWrite s (fun u =>
      u.log = { s.log with
        slots := tset LogCell.erased (eraseAhead s.log.slot s.log.slots) s.log.slot (.good r), queue := t, head := some r.seq
        slot := (s.log.slot + 1) % logSlots } ∧
      u = { s with log := u.log, regs := u.regs } ∧ u.logCell s.log.slot = .good r ∧
      (s.log.slot % sectorSlots ≠ 0 → ∀ k, k ≠ s.log.slot → u.logCell k = s.logCell k))) ∧
  (∀ s : State, s.log.queue = [] → exec .logRecordWrite s = .next s) ∧
  (∀ (kind source detail : Nat) (first : Bool) (d : List Word) (s : State),
    (256 ≤ s.log.queue.length → queueLog kind source detail first d s =
      ({ s with log := { s.log with dropped := s.log.dropped + 1 } } : State).bump offLOG_CNT 31 16 1) ∧
    (s.log.queue.length < 256 → (queueLog kind source detail first d s).log = { s.log with
      queue := s.log.queue ++ [⟨s.log.nextSeq, kind, source, first, detail, s.now, d⟩], nextSeq := s.log.nextSeq + 1 })) ∧
  (∀ (q : BitVec 32) (s : State), Clear s → s.bar0 = true →
    let zero : List Word := [0, 0, 0, 0, 0, 0, 0, 0]
    ((s.cmd kLog).done = true → exec (.logRead q) s = .next (cmdTake kLog
      { s.setReg offLOG_RD_SEL (BitVec.ofNat 64 q.toNat) with log := { s.log with rd := zero, reading := some q } })) ∧
    ((s.cmd kLog).done = false → exec (.logRead q) s = .next (cmdTake kLog { s with log := { s.log with rd := zero } }))) ∧
  (∀ (q : BitVec 32) (s : State), s.log.reading = some q →
    let u := { s with log := { s.log with reading := none } }
    (∀ r, findLog s q = some r →
      ((s.cmd kLog).refused = false →
        exec .logReadDone s = .next (cmdEnd kLog 0 { s with log := { s.log with reading := none, rd := logWords r } })) ∧
      ((s.cmd kLog).refused = true → exec .logReadDone s = .next (cmdEnd kLog 0 u))) ∧
    (findLog s q = none → tornAt s q = true → exec .logReadDone s = .next (cmdEnd kLog 2 (u.bump offLOG_CNT 15 0 1))) ∧
    (findLog s q = none → tornAt s q = false → exec .logReadDone s = .next (cmdEnd kLog 1 u))) ∧
  (∀ s : State, s.log.reading = none → exec .logReadDone s = .next s) ∧
  (∀ (a : BitVec 3) (te : Bool) (s : State),
    (s.clk.aon = true → exec (.aonStart a te) s = .next s) ∧
    (s.clk.aon = false → exec (.aonStart a te) s = .next (settle (logRec 0x01 0 0 [] (logStart (aonSections { s with
      clk := { s.clk with aon := true, rootOk := true, holdover := false, supLock := true }
      keep := { s.keep with stopped := false, testMode := te && !s.keep.fuseBlown }
      tow := { s.tow with addr := a } }))))))

/-- The towpath master: beacons, replies, absent members, staggered starts and commands (R298 to R303). Before its time a timed
command changes nothing: the model's choice (log 1). -/
def Obligations.TowpathMaster : Prop :=
(∀ s : State, master s = true → (∀ t, s.tow.tBeacon = some t → t + 80 ≤ s.now) →
    let u := towAdvance (countMissed s)
    Gives .beaconSend s (fun v => v.out = s.out ++ [.frame (beaconFrame u)] ∧
      v = { u with
            out := v.out
            tow := { u.tow with cycle := u.tow.cycle + 1, repeats := u.tow.repeats - 1, tBeacon := some s.now } })) ∧
  (∀ (t : Nat) (s : State), s.tow.tBeacon = some t → s.now < t + 80 → exec .beaconSend s = .next s) ∧
  (∀ s : State, (beaconFrame s).length = 16 ∧ frameOk 16 (beaconFrame s) = true) ∧
  (∀ s : State, (replyFrame s).length = 8 ∧ frameOk 8 (replyFrame s) = true) ∧
  (∀ (a : Fin 8) (f : List Byte) (s : State), master s = true → a.val ≠ 0 →
    (frameOk 8 f = false → exec (.reply a f) s = .next (s.bump offTOW_CNT 63 32 1)) ∧
    (frameOk 8 f = true → f.getD 0 0 ≠ BitVec.ofNat 8 (0x30 + a.val) → exec (.reply a f) s = .next s) ∧
    (frameOk 8 f = true → f.getD 0 0 = BitVec.ofNat 8 (0x30 + a.val) → exec (.reply a f) s = .next (settle (replyIn a.val f s)))) ∧
  (∀ (a : Fin 8) (s : State), master s = true →
    let m := BitVec.ofNat 8 (2 ^ a.val)
    (s.tow.members.getLsbD a.val = true → tget 0 s.tow.missed a.val = 8 → exec (.memberAbsent a) s =
      .next (logRec 0x0F a.val 0 [] { s with tow := { s.tow with members := s.tow.members &&& ~~~ m, warn := s.tow.warn &&& ~~~ m } })) ∧
    (s.tow.members.getLsbD a.val = false ∨ tget 0 s.tow.missed a.val < 8 → exec (.memberAbsent a) s = .next s)) ∧
  (∀ (a : Fin 8) (s : State), master s = true → a.val ≠ 0 →
    let m := BitVec.ofNat 8 (2 ^ a.val)
    (s.seq.st = 2 ∨ s.seq.st = 3 → s.tow.staggered &&& m = 0 → s.seq.tProg0 + 1000 * s.TOW_CFG_STAGGER * a.val ≤ s.now →
      exec (.towStaggerStart a) s = .next (towSend 1 m { s with tow := { s.tow with staggered := s.tow.staggered ||| m } })) ∧
    (s.tow.staggered &&& m ≠ 0 ∨ s.now < s.seq.tProg0 + 1000 * s.TOW_CFG_STAGGER * a.val →
      exec (.towStaggerStart a) s = .next s)) ∧
  (∀ (k m : Byte) (s : State), Clear s → s.bar0 = true →
    ∀ c n, (c, n) ∈ [(Instr.towSendStart k m, 1), (.towSendSluice k m, 2), (.towSendClear k m, 3)] →
      (k = 0x47 → master s = true → exec c s = .next (towSend n m s)) ∧
      (k ≠ 0x47 ∨ master s = false → exec c s = .next s)) ∧
  (∀ (n : Nat) (m : Byte) (s : State),
    let sent := { s with tow := { s.tow with cmd := n, mask := m, cmdNo := s.tow.cmdNo + 1, repeats := 4 } }
    (n = 2 ∨ s.tow.repeats = 0 → towSend n m s = logRec 0x0F m.toNat 2 [] sent) ∧
    (n ≠ 2 → s.tow.repeats ≠ 0 → towSend n m s =
      logRec 0x0F m.toNat 2 [] { s with tow := { s.tow with waiting := s.tow.waiting ++ [(n, m)] } }))

/-- The towpath member: beacons, commands, loss and the join wait (R298 to R303). Before its time a timed command changes nothing:
the model's choice (log 1). -/
def Obligations.TowpathMember : Prop :=
(∀ (f : List Byte) (s : State), member s = true →
    (frameOk 16 f = false → exec (.beacon f) s = .next (s.bump offTOW_CNT 63 32 1)) ∧
    (frameOk 16 f = true → f.getD 0 0 ≠ 0xC6 → exec (.beacon f) s = .next s) ∧
    (frameOk 16 f = true → f.getD 0 0 = 0xC6 → exec (.beacon f) s = .next (settle (beaconIn f s)))) ∧
  (∀ (f : List Byte) (s : State), s.tow.lost = false → (f.getD 2 0 = 0 ∨ s.tow.lastNo = some (f.getD 4 0)) →
    ∃ r, beaconIn f s = ({ s with
      regs := r, tow := { s.tow with lost := false, cycle := f.getD 1 0, tBeacon := some s.now } } : State).emit
        (.frame (replyFrame { s with regs := r, tow := { s.tow with lost := false, cycle := f.getD 1 0, tBeacon := some s.now } }))) ∧
  (∀ (n : Nat) (s : State), s.gauge.hibernating = false →
    let u := logRec 0x0F s.tow.addr.toNat 3 [] (s.bump offTOW_CNT 15 0 1)
    towAct 1 s = { u with tow := { u.tow with started := true } } ∧ towAct 2 s = trigger 5 u ∧
    (s.seq.st = 4 → towAct 3 s = clearLatch 1 u) ∧ (s.seq.st ≠ 4 → towAct 3 s = u) ∧ (3 < n → towAct n s = u)) ∧
  (∀ s : State, member s = true → s.tow.lost = false →
    (s.tow.tBeacon.getD 0 + 1000 ≤ s.now → exec .towpathLost s = .next (settle (report 0x1EC false (detailWord 3 1 0)
      (logRec 0x0F s.tow.addr.toNat 0 [] { s with tow := { s.tow with lost := true } })))) ∧
    (s.now < s.tow.tBeacon.getD 0 + 1000 → exec .towpathLost s = .next s)) ∧
  (∀ s : State,
    (s.TOW_CFG_JOIN = 1 → s.tow.tBeacon.getD 0 + 1000000 * s.TOW_CFG_JOIN_WAIT ≤ s.now →
      exec .joinWaitExpiry s = .next { s with tow := { s.tow with joinDone := true } }) ∧
    (s.TOW_CFG_JOIN ≠ 1 ∨ s.now < s.tow.tBeacon.getD 0 + 1000000 * s.TOW_CFG_JOIN_WAIT → exec .joinWaitExpiry s = .next s)) ∧
  (∀ (f : List Byte) (a : Fin 8) (s : State),
    (member s = false → exec (.beacon f) s = .next s ∧ exec .towpathLost s = .next s) ∧
    (master s = false → exec .beaconSend s = .next s ∧ exec (.reply a f) s = .next s ∧ exec (.memberAbsent a) s = .next s))

/-- Keeper events, lines, graces and injection; ACK_ALIVE, RESTORE, RESTORE_ALL and ACK_WARN under key 0x4B (R304 to R323). The model's
choices: before its time a timed command changes nothing (log 1); of several failing conditions the lowest RESULT is given, but an ABSENT
source's BAD_FIELD before BAD_STATE (log 26); an injected event's detail word is free (log 2). -/
def Obligations.KeeperEventsAndCommands : Prop :=
  (∀ (n : BitVec 12) (sev : Bool) (d : BitVec 48) (s : State),
    (s.clk.aon = true → exec (.keeperEvent n sev d) s = .next (settle (raise n.toNat sev d s))) ∧
    (s.clk.aon = false → exec (.keeperEvent n sev d) s = .next s)) ∧
  (∀ (n : BitVec 12) (s : State),
    (s.clk.aon = false → exec (.lineFault n) s = .next s) ∧
    (s.clk.aon = true → eMode (keepEntry s n.toNat) ≠ 1 ∨ heard s n.toNat = false → exec (.lineFault n) s = .next (settle s)) ∧
    (s.clk.aon = true → eMode (keepEntry s n.toNat) = 1 → heard s n.toNat = true →
      let u := decideEvent n.toNat true noItem true (s.bump offKEEP_CNT 15 0 1)
      let v := if u.keep.stopped then u else stopAlive u
      exec (.lineFault n) s = .next (settle (v.updSrc n.toNat (fun x => { x with lineFault := true }))))) ∧
  (∀ (n : Nat) (sev : Bool) (d : BitVec 48) (s : State), 0x400 ≤ n → n < 0xA00 →
    (∀ k, srcDomain n = some k → s.seq.lines.getLsbD k = false → raise n sev d s = s) ∧
    ((∀ k, srcDomain n = some k → s.seq.lines.getLsbD k = true) →
      raise n false d s = report n false d s ∧ raise n true d s = report n true d (dieLost (n - 0x400) s))) ∧
  (∀ (n : Nat) (sev line : Bool) (d : BitVec 48) (s : State), heard s n = false → decideEvent n sev d line s = s) ∧
  (∀ s : State, s.seq.graceEnd = none → exec .shutdownGraceExpiry s = .next s) ∧
  (∀ (t : Nat) (s : State), s.seq.graceEnd = some t →
    (t ≤ s.now → exec .shutdownGraceExpiry s = .next (settle (trigger 6 { s with
      seq := { s.seq with graceEnd := none }, keep := { s.keep with handling := s.keep.handling.filter (fun h => !h.2.2) } }))) ∧
    (s.now < t → exec .shutdownGraceExpiry s = .next s)) ∧
  (∀ s : State, s.keep.heldUntil = none → exec .aliveHoldEnd s = .next s) ∧
  (∀ (t : Nat) (s : State), s.keep.heldUntil = some t →
    (t ≤ s.now → exec .aliveHoldEnd s = .next { s with keep := { s.keep with heldUntil := none, stopped := !s.keep.acked } }) ∧
    (s.now < t → exec .aliveHoldEnd s = .next s)) ∧
  (∀ (w : Word) (s : State), Clear s → s.bar0 = true →
    let n := fld w 11 0
    (s.keep.testMode = false ∨ fld w 63 63 = 0 → exec (.keepInject w) s = .next (settle s)) ∧
    (s.keep.testMode = true → fld w 63 63 = 1 → fld w 62 62 = 1 → exec (.keepInject w) s = .next (settle (lineFaulted n s))) ∧
    (s.keep.testMode = true → fld w 63 63 = 1 → fld w 62 62 = 0 → ∃ d, exec (.keepInject w) s =
      .next (settle (raise n (fld w 61 61 == 1) d { s with free := s.free + 1 })))) ∧
  (∀ s : State, Clear s → s.bar0 = true → (s.cmd kKeep).done = true →
    let u := cmdTake kKeep s
    (s.keep.stopped = false → exec (.ackAlive 0x4B) s = .next (settle (cmdEnd kKeep 2 u))) ∧
    (s.keep.stopped = true → exec (.ackAlive 0x4B) s = .next (settle (cmdEnd kKeep 0 { u with keep := { u.keep with
      acked := true, stopped := u.keep.heldUntil.isSome, firstSrc := 0xFFF, firstOutcome := 0, firstDetail := 0, firstTime := 0,
      rootLost := false } }))) ∧
    (∀ n : BitVec 12,
      (eMode (keepEntry s n.toNat) = 3 → exec (.restore 0x4B n) s = .next (settle (cmdEnd kKeep 3 u))) ∧
      (eMode (keepEntry s n.toNat) ≠ 3 → (s.src n.toNat).severe = false →
        exec (.restore 0x4B n) s = .next (settle (cmdEnd kKeep 2 u))) ∧
      (eMode (keepEntry s n.toNat) ≠ 3 → (s.src n.toNat).severe = true →
        exec (.restore 0x4B n) s = .next (settle (cmdEnd kKeep 0 (restoreSrc n.toNat u))))) ∧
    exec (.restoreAll 0x4B) s = .next (settle (cmdEnd kKeep 0
      (forEach ((s.keep.srcs.filter (fun p => p.2.severe)).map (·.1)) u restoreSrc))) ∧
    (s.pins.warn = true → s.keep.warnTill = false →
      exec (.ackWarn 0x4B) s = .next (settle (cmdEnd kKeep 0 { u with pins := { u.pins with warn := false } }))) ∧
    (s.pins.warn = false ∨ s.keep.warnTill = true → exec (.ackWarn 0x4B) s = .next (settle (cmdEnd kKeep 2 u)))) ∧
  (∀ (k : Byte) (n : BitVec 12) (w : Word) (s : State), Clear s →
    (k ≠ 0x4B ∨ s.bar0 = false →
      exec (.ackAlive k) s = .next s ∧ exec (.restore k n) s = .next s ∧ exec (.restoreAll k) s = .next s ∧ exec (.ackWarn k) s = .next s) ∧
    (s.bar0 = false → exec (.keepInject w) s = .next s)) ∧
  (∀ (n : Nat) (t : State), (t.src n).sev ≠ 0 →
    (restoreSrc n t).src n = { t.src n with severe := false, times := [], items := [] } ∧
    ∀ h ∈ (restoreSrc n t).keep.handling, h.1 ≠ n)

/-- CFG_CTRL under key 0xB7: PUSH, LOAD_SLOT, SET_TRIAL and WRITE_SLOT, their states and results (R218, R334, R338, R341 to R344). -/
def Obligations.LoaderCommands : Prop :=
(∀ s : State, Clear s → s.bar0 = true → s.sluiced = false → (s.cmd kCfg).done = true →
    let u := cmdTake kCfg s
    (s.cfg.st ≠ 1 → exec (.push 0xB7) s = .next (settle (cmdEnd kCfg 2 u))) ∧
    (s.cfg.st = 1 → hostReads s = false → exec (.push 0xB7) s = .next (settle (cmdEnd kCfg 9 u))) ∧
    (s.cfg.st = 1 → hostReads s = true → exec (.push 0xB7) s = .next (settle (logRec 0x11 0 2 [] { u with
      cfg := { u.cfg with st := 2, source := 3, trial := false, checking := some 3 } }))) ∧
    (∀ b : Bool,
      let n := b.toNat
      (s.cfg.st = 1 → (s.slot n).state = 3 → exec (.loadSlot 0xB7 b) s = .next (settle (logRec 0x11 0 n [] { u with
        cfg := { u.cfg with st := 2, source := n + 1, trial := false, checking := some (n + 1) } }))) ∧
      (s.cfg.st = 1 → (s.slot n).state = 1 → exec (.loadSlot 0xB7 b) s = .next (settle (loadBegin (n + 1) true (recordState n 2 u)))) ∧
      (s.cfg.st ≠ 1 ∨ (s.slot n).state ≠ 1 ∧ (s.slot n).state ≠ 3 →
        exec (.loadSlot 0xB7 b) s = .next (settle (cmdEnd kCfg 2 u))) ∧
      ((s.slot n).state = 4 ∨ (s.slot n).state = 5 →
        exec (.setTrial 0xB7 b) s = .next (settle { u with cfg := { u.cfg with trialling := some n } })) ∧
      ((s.slot n).state ≠ 4 → (s.slot n).state ≠ 5 → exec (.setTrial 0xB7 b) s = .next (settle (cmdEnd kCfg 2 u))) ∧
      (∀ c, confirmedSlot s = some c → hostReads s = true →
        exec (.writeSlot 0xB7 b) s = .next (settle { u with cfg := { u.cfg with writing := some (1 - c, []) } })) ∧
      (confirmedSlot s = none → hostReads s = true →
        exec (.writeSlot 0xB7 b) s = .next (settle { u with cfg := { u.cfg with writing := some (n, []) } })) ∧
      (hostReads s = false → exec (.writeSlot 0xB7 b) s = .next (settle (writeFails 9 { u with
        cfg := { u.cfg with writing := some (match confirmedSlot s with | some c => 1 - c | none => n, []) } }))))) ∧
  (∀ (k : Byte) (b : Bool) (s : State), Clear s → k ≠ 0xB7 ∨ s.bar0 = false ∨ s.sluiced = true →
    exec (.push k) s = .next s ∧ exec (.loadSlot k b) s = .next s ∧ exec (.setTrial k b) s = .next s ∧ exec (.writeSlot k b) s = .next s)

/-- Image reads are checked and sealed or refused; slot writes and trial marks end (R327 to R341). A push
whose read fails goes back to the wait by the model's reading (log 21). -/
def Obligations.ImageReadsAndWrites : Prop :=
(∀ (ok : Bool) (host : List Byte) (s : State),
    let b := host.take s.CFG_HOST_LEN_LEN
    (s.inService dMgmt = false ∨ s.sluiced = true → exec (.imageReadDone ok host) s = .next s) ∧
    (s.inService dMgmt = true → s.sluiced = false →
      (s.cfg.st = 2 → s.cfg.source = 3 →
        (ok = true → hostReads s = true → exec (.imageReadDone ok host) s = .next (settle (imageRead b s))) ∧
        (ok = false ∨ hostReads s = false → exec (.imageReadDone ok host) s =
          .next (settle (cmdEnd kCfg 9 { s with cfg := { s.cfg with st := 1, source := 0, checking := none } })))) ∧
      (s.cfg.st = 2 → s.cfg.source ≠ 3 →
        exec (.imageReadDone true host) s = .next (settle (imageRead (s.slot (s.cfg.source - 1)).image s)) ∧
        exec (.imageReadDone false host) s = .next (settle (endLoad s.cfg.checking 10 (safeHarbour (7, 0, 0) s)))) ∧
      (∀ n, s.cfg.st ≠ 2 → s.cfg.writing = some (n, []) →
        (ok = true → hostReads s = true → exec (.imageReadDone ok host) s = .next (settle (writeRead n b s))) ∧
        (ok = false ∨ hostReads s = false → exec (.imageReadDone ok host) s = .next (settle (writeFails 9 s)))) ∧
      (s.cfg.st ≠ 2 → s.cfg.writing = none → exec (.imageReadDone ok host) s = .next s))) ∧
  (∀ (b : List Byte) (s : State),
    ((checkImage b s).1 = 0 → imageRead b s = endLoad s.cfg.checking 0 (sealImage b s)) ∧
    ((checkImage b s).1 ≠ 0 →
      imageRead b s = endLoad s.cfg.checking (resultOf (checkImage b s)) (safeHarbour (checkImage b s) s) ∧
      ∀ n, writeRead n b s = writeFails (resultOf (checkImage b s)) s)) ∧
  (∀ (n : Nat) (b : List Byte) (s : State), b ≠ [] → s.cfg.writing = some (n, b) →
    exec (.slotWriteDone false) s = .next (settle (writeFails 10 s)) ∧
    exec (.slotWriteDone true) s = .next (settle (cmdEnd kCfg 0 { s with
      cfg := { s.cfg.setSlot n (({ s.slot n with image := b } : Slot).write (recordOf b)) with writing := none } }))) ∧
  (∀ (n : Nat) (s : State), s.cfg.trialling = some n →
    let t := { s with cfg := { s.cfg with trialling := none } }
    let f := checkFive (s.slot n).image s
    exec (.setTrialDone false) s = .next (settle (cmdEnd kCfg 10 t)) ∧
    (f.1 ≠ 0 → exec (.setTrialDone true) s = .next (settle (cmdEnd kCfg (resultOf f) t))) ∧
    (f.1 = 0 → exec (.setTrialDone true) s = .next (settle (cmdEnd kCfg 0 (recordState n 1 t))))) ∧
  (∀ (ok : Bool) (s : State),
    (s.cfg.writing = none → exec (.slotWriteDone ok) s = .next s) ∧
    (s.cfg.trialling = none → exec (.setTrialDone ok) s = .next s))

/-- The choice of image, the self-test, the confirm window and the rollback fuses (R334 to R340). The model's choices: before its time a
timed command changes nothing (log 1); a nonzero STATUS_WORD is a fault (log 38); a rail without a reading is judged by its last one (log 62). -/
def Obligations.SelfTestAndWindow : Prop :=
(∀ (t : Nat) (s : State), s.cfg.pushUntil = some t →
    (s.cfg.st = 1 → t ≤ s.now → exec .pushWaitExpiry s = .next (settle (chooseImage s))) ∧
    (s.cfg.st ≠ 1 ∨ s.now < t → exec .pushWaitExpiry s = .next s)) ∧
  (∀ s : State, confirmedSlot s = none → slotIn s 1 = none → slotIn s 2 = none → chooseImage s = safeHarbour (6, 0, 0) s) ∧
  (∀ (n : Nat) (s : State), confirmedSlot s = none → slotIn s 1 = some n → chooseImage s = loadSlotNow n false s) ∧
  (∀ (ch : BitVec 12) (id : BitVec 48) (odd : List (Fin 1536 × BitVec 48)) (l : List RailReading) (s : State),
    (s.cfg.st ≠ 3 ∨ s.cfg.testDone = true ∨ s.sluiced = true → exec (.selfTestDone ch id odd l) s = .next s) ∧
    (s.cfg.st = 3 → s.cfg.testDone = false → s.sluiced = false →
      let read := forEach l s railRead
      let bad := diesBad read id odd
      let bars := railsBad read
      let pass := testPasses read ch bad.length bars.length
      let u := forEach bad (channelsReady (forEach (bitsOf 12 ch.toNat) { read with cfg := { read.cfg with
        dramFail := ch, dieFail := bad.length, railFail := bars.length, testDone := true, testPass := pass } } (channelRetire 7))) dieLost
      (pass = true → windowOver u = false → exec (.selfTestDone ch id odd l) s = .next (settle (confirmImage u))) ∧
      (pass = false ∨ windowOver u = true → exec (.selfTestDone ch id odd l) s = .next (settle (testFails u))))) ∧
  (∀ (ch : BitVec 12) (dies rails : Nat) (s : State), testPasses s ch dies rails = true ↔
    (bitsOf 12 ch.toNat).length ≤ s.CFG_ST_CFG_DRAM_ALLOW ∧ dies ≤ s.CFG_ST_CFG_DIE_ALLOW ∧ rails = 0 ∧
    ∀ k < 6, ¬ (ch.getLsbD k = true ∧ ch.getLsbD (k + 6) = true)) ∧
  (∀ (id : BitVec 48) (odd : List (Fin 1536 × BitVec 48)) (d : Nat) (s : State), d ∈ diesBad s id odd ↔
    d < 1536 ∧ dieFitted s d = true ∧
    (s.CFG_DIE_ID_ID = 0 ∨ ((odd.find? (fun y => y.1.val == d)).elim id (·.2)).toNat ≠ s.CFG_DIE_ID_ID)) ∧
  (∀ (s : State), s.cfg.st = 3 → s.cfg.testDone = false → s.sluiced = false →
    (s.seq.tProg0 + s.CFG_ST_CFG_CONFIRM_WIN * 1000000 ≤ s.now → exec .confirmWindowExpiry s = .next (settle (testFails s))) ∧
    (s.now < s.seq.tProg0 + s.CFG_ST_CFG_CONFIRM_WIN * 1000000 → exec .confirmWindowExpiry s = .next s)) ∧
  (∀ s : State, s.cfg.st ≠ 3 ∨ s.cfg.testDone = true → exec .confirmWindowExpiry s = .next s) ∧
  (∀ s : State,
    (s.cfg.fuseTarget = 0 → exec .fuseBlowDone s = .next s) ∧
    (s.cfg.fuseTarget ≠ 0 →
      let u := { s with cfg := { s.cfg with fuses := s.cfg.fuses + 1 } }
      (s.cfg.fuseTarget ≤ fuseCounter u → exec .fuseBlowDone s = .next (settle (confirmed u))) ∧
      (fuseCounter u < s.cfg.fuseTarget → exec .fuseBlowDone s = .next u)))

/-- A lock cycle is accepted only when ready, with no sluice triggered and a fresh epoch (R360). -/
def Obligations.LockCycle : Prop :=
  (∀ (m : BitVec 2) (e : BitVec 16) (s : State), Clear s → coreReach s = true → (s.cmd kLock).done = true → Settled s → PortsWf s.ports →
    let u := cmdTake kLock s
    let d := (e - s.lock.epoch).toNat
    (s.ready = true → s.sluiced = false → 1 ≤ d → d ≤ 32767 →
      ∃ ps, (∀ p, ∃ x, tget Port.idle ps p = { s.port p with stopping := x }) ∧
        exec (.lockCycle 0x1C m e) s = .next (cmdEnd kLock 0 { u with lock := ⟨e, m.toNat, true, false⟩, ports := ps })) ∧
    (s.ready = false ∨ s.sluiced = true → 1 ≤ d → d ≤ 32767 → exec (.lockCycle 0x1C m e) s = .next (cmdEnd kLock 2 u)) ∧
    (s.ready = true → s.sluiced = false → d = 0 ∨ 32767 < d → exec (.lockCycle 0x1C m e) s = .next (cmdEnd kLock 3 u))) ∧
  (State.reset.lock.epoch = 0 ∧ ∀ s : State, (coreReset s).lock.epoch = 0) ∧
  (∀ (r : Nat) (s : State), CmdsWf s.cmds → ((cmdEnd kLock r s).cmd kLock).done = true)

/-- Links up and down, hot reset, FLR, D3hot and back, the retry timer, and a port applying its mode (R347, R351 to R362). Before
its time a timed command changes nothing: the model's choice (log 1). -/
def Obligations.PortLinks : Prop :=
  ((∀ (p : Fin 256) (sp w : BitVec 3) (s : State),
    let q := s.port p.val
    (mayTrain s p.val = true → trainsTo s p.val sp.toNat w.toNat = true → exec (.linkUp p sp w) s =
      .next (settle (applyTarget p.val (tryUp p.val (s.setPort p.val { q with
        linkUp := true, speed := sp.toNat, width := w.toNat, presented := false, tokenOk := false, warn := false,
        st := if q.st = .wake then .up else q.st }))))) ∧
    (mayTrain s p.val = false ∨ trainsTo s p.val sp.toNat w.toNat = false → exec (.linkUp p sp w) s = .next s)) ∧
  (∀ (p : Fin 256) (s : State), (s.port p.val).linkUp = true → ∀ c ∈ [Instr.linkDown p, .hotReset p],
    exec c s = .next (settle (timerStart p.val (portLinkDown p.val (portDown true p.val s))))) ∧
  (∀ (p : Fin 256) (s : State), (s.port p.val).linkUp = true →
    (s.sluiced = false → exec (.flr p) s = .next (settle ((portDown false p.val s).updPort p.val (fun q => { q with
      flr := true, d3 := false, bme := false, msixEn := false, fnMask := true, unmasked := [], pendingVec := [], presented := false,
      tokenOk := false })))) ∧
    exec (.d3hotEntry p) s = .next (settle ((portDown false p.val s).updPort p.val (fun q => { q with d3 := true })))) ∧
  (∀ (p : Fin 256) (s : State), (s.port p.val).linkUp = false → Settled s →
    ∀ c ∈ [Instr.linkDown p, .hotReset p, .flr p, .d3hotEntry p], exec c s = .next s) ∧
  (∀ (p : Fin 256) (s : State),
    ((s.port p.val).flr = true → exec (.flrComplete p) s =
      .next (settle (tryUp p.val (timerStart p.val (s.updPort p.val (fun q => { q with flr := false })))))) ∧
    ((s.port p.val).flr = false → exec (.flrComplete p) s = .next s) ∧
    ((s.port p.val).d3 = true → exec (.d0Return p) s =
      .next (settle (tryUp p.val (timerStart p.val (s.updPort p.val (fun q => { q with d3 := false })))))) ∧
    ((s.port p.val).d3 = false → exec (.d0Return p) s = .next s)) ∧
  (∀ (p : Fin 256) (t : Nat) (s : State), (s.port p.val).retryEnd = some t →
    ((s.port p.val).st = .retry → t ≤ s.now →
      exec (.retryTimerExpiry p) s = .next (settle (report p.val true (detailWord 0 3 p.val) (portRetire 1 p.val s)))) ∧
    ((s.port p.val).st ≠ .retry ∨ s.now < t → exec (.retryTimerExpiry p) s = .next s)) ∧
  (∀ (timer : Bool) (p : Nat) (s : State), (s.port p).st = .up →
    (portDown timer p s).port p = { s.port p with
      st := .retry, stopping := false
      retryEnd := if timer && !s.sluiced then some (s.now + 1000 * s.PORT_CFG_RETRY_MS p) else none } ∧
    (∀ j, j ≠ p → (portDown timer p s).port j = s.port j) ∧
    (portDown timer p s).keep.reports = s.keep.reports ++ [(p, false, detailWord 0 2 p)])) ∧
  (∀ (p : Fin 256) (s : State),
    let q := s.port p.val
    (q.st = .up → q.tokenNeeded = false → s.lock.valid = true → s.lock.frozen = false → inCycle s p.val = true →
      q.epoch ≠ s.lock.epoch →
      (s.lock.mode < 2 ∨ (∀ x ∈ s.berths, x.2.port = p.val → x.2.flights = []) →
        exec (.portModeApply p) s = .next (s.setPort p.val { q with mode := s.lock.mode, epoch := s.lock.epoch, stopping := false })) ∧
      (1 < s.lock.mode → (∃ x ∈ s.berths, x.2.port = p.val ∧ x.2.flights ≠ []) →
        exec (.portModeApply p) s = .next (s.setPort p.val { q with stopping := true }))) ∧
    (q.st ≠ .up ∨ q.tokenNeeded = true ∨ s.lock.valid = false ∨ s.lock.frozen = true ∨ q.epoch = s.lock.epoch →
      exec (.portModeApply p) s = .next s) ∧
    (s.PORT_CFG_SLOTS p.val = 0 → exec (.portModeApply p) s = .next s))

/-- Token presentation and PORT_RETIRE under key 0x2D (R355 to R358, R364, R417). That an accepted presentation that does not match takes the
place of the token registered is the model's reading (log 62). -/
def Obligations.TokensAndRetire : Prop :=
(∀ (p : Fin 256) (tok : Word) (be : BitVec 8) (s : State),
    let q := s.port p.val
    let u := s.setPort p.val { q with presented := true, tokenOk := true, token := tok }
    (q.linkUp = true → q.d3 = true → exec (.tokenPresentation p tok be) s = .next (s.emit .unsupported)) ∧
    (q.linkUp = false ∨ q.d3 = false →
      be ≠ 0xFF ∨ tok = 0 ∨ q.presented = true ∨ q.linkUp = false ∨ q.flr = true ∨ q.st = .wake ∨ q.st = .retired ∨ q.st = .off ∨
        q.st = .member → exec (.tokenPresentation p tok be) s = .next s) ∧
    (q.linkUp = true → q.d3 = false → q.flr = false → q.st = .up ∨ q.st = .retry → be = 0xFF → tok ≠ 0 → q.presented = false →
      (q.token = 0 ∨ q.token = tok →
        exec (.tokenPresentation p tok be) s = .next (settle (applyTarget p.val (tryUp p.val u)))) ∧
      (q.token ≠ 0 → q.token ≠ tok → exec (.tokenPresentation p tok be) s =
        .next (settle (applyTarget p.val (tryUp p.val (fencePort 2 p.val (u.bump (offPORT_CNT + 0x1000 * p.val) 15 0 1)))))) ∧
      (u.port p.val).tokenNeeded = false ∧ (u.port p.val).token = tok)) ∧
  (∀ (p : Fin 256) (s : State), Clear s → coreReach s = true → (s.cmd (kPort p.val)).done = true →
    let u := cmdTake (kPort p.val) s
    let st := (s.port p.val).st
    (s.sluiced = false → st = .wake ∨ st = .up ∨ st = .retry → exec (.portRetire 0x2D p) s =
      .next (settle (cmdEnd (kPort p.val) 0 (fencePort 5 p.val (u.setPort p.val { s.port p.val with
        st := .retired, cause := 4, retryEnd := none, stopping := false }))))) ∧
    (s.sluiced = true ∨ st = .off ∨ st = .retired ∨ st = .member →
      exec (.portRetire 0x2D p) s = .next (settle (cmdEnd (kPort p.val) 2 u)))) ∧
  (∀ (cause p : Nat) (s : State), (s.port p).st = .off ∨ (s.port p).st = .retired ∨ (s.port p).st = .member →
    portRetire cause p s = s)

/-- Bus Master Enable, MSI-X enables and masks, and pending messages (R351, R352). -/
def Obligations.PortMessages : Prop :=
(∀ (p : Fin 256) (on : Bool) (v : Fin 2048) (s : State), (s.port p.val).linkUp = false →
    exec (.busMasterEnable p on) s = .next s ∧ exec (.msixVectorUnmask p (.vector v)) s = .next s ∧
    exec (.msixVectorUnmask p .function) s = .next s ∧ exec (.msixVectorUnmask p .enable) s = .next s) ∧
  (∀ (p : Fin 256) (v : Fin 2048) (s : State), (s.port p.val).linkUp = true →
    let q := s.port p.val
    exec (.busMasterEnable p false) s = .next (s.setPort p.val { q with bme := false }) ∧
    exec (.busMasterEnable p true) s = .next (portFlush p.val (s.setPort p.val { q with bme := true })) ∧
    exec (.msixVectorUnmask p (.vector v)) s = .next (portFlush p.val (s.setPort p.val { q with
      unmasked := if q.unmasked.contains v.val then q.unmasked else insertBy id v.val q.unmasked })) ∧
    exec (.msixVectorUnmask p .function) s = .next (portFlush p.val (s.setPort p.val { q with fnMask := false })) ∧
    exec (.msixVectorUnmask p .enable) s = .next (portFlush p.val (s.setPort p.val { q with msixEn := true }))) ∧
  (∀ (p : Nat) (s : State),
    let q := s.port p
    (s.portSends p = false ∨ q.msixEn = false ∨ q.fnMask = true → portFlush p s = s) ∧
    (s.portSends p = true → q.msixEn = true → q.fnMask = false → portFlush p s = { s with
      ports := tset Port.idle s.ports p { q with pendingVec := q.pendingVec.filter (fun v => !q.unmasked.contains v) }
      out := s.out ++ (q.pendingVec.filter (fun v => q.unmasked.contains v)).map (Out.msix p) })) ∧
  (∀ (p v : Nat) (s : State),
    let q := s.port p
    (s.portSends p = false → portMsix p v s = s) ∧
    (s.portSends p = true → q.msixEn = true → q.fnMask = false → q.unmasked.contains v = true →
      portMsix p v s = { s with out := s.out ++ [.msix p v] }) ∧
    (s.portSends p = true → q.msixEn = false ∨ q.fnMask = true ∨ q.unmasked.contains v = false →
      (q.pendingVec.contains v = true → portMsix p v s = s) ∧
      (q.pendingVec.contains v = false →
        portMsix p v s = { s with ports := tset Port.idle s.ports p { q with pendingVec := q.pendingVec ++ [v] } })))

/-- GLB RESET, the chart commands, management link resets, due interrupts, and LOCK_CTRL with two failing conditions (log 23) (R173,
R368, R380 to R383). -/
def Obligations.FunctionsAndFlags : Prop :=
(∀ s : State, Clear s → s.bar0 = true → (s.cmd kGlb).done = true →
    let u := cmdTake kGlb s
    (s.ready = true ∨ s.sluiced = true → exec (.glbReset 0xE1) s = .next (settle (cmdEnd kGlb 4 (resetRequest 2 u)))) ∧
    (s.ready = false → s.sluiced = false → exec (.glbReset 0xE1) s = .next (settle (resetRequest 2 (cmdEnd kGlb 0 u))))) ∧
  (∀ s : State, Clear s → coreReach s = true → (s.cmd kChart).done = true →
    let u := cmdTake kChart s
    let answer := fun (r : Nat) (t : State) => Host.Outcome.next (settle (cmdEnd kChart r t))
    (s.chart.st ≠ 0 ∨ s.ready = false ∨ s.sluiced = true → exec (.chartEnable 0x8E) s = answer 2 u) ∧
    (s.chart.st = 0 → s.ready = true → s.sluiced = false →
      (chartFieldsOk s = false → exec (.chartEnable 0x8E) s = answer 3 u) ∧
      (chartFieldsOk s = true → exec (.chartEnable 0x8E) s = answer 0 { u with chart := ⟨1, 0, 0⟩ })) ∧
    (s.sluiced = true → exec (.chartDisable 0x8E) s = answer 2 u) ∧
    (s.sluiced = false → exec (.chartDisable 0x8E) s = answer 0 (chartOff u))) ∧
  (∀ (what : MgmtReset) (s : State),
    (s.inService dMgmt = false → exec (.mgmtLinkReset what) s = .next s) ∧
    (s.inService dMgmt = true → exec (.mgmtLinkReset what) s = .next { s with mgmt := { s.mgmt with
      link := true, bme := false, msixEn := false, d3 := decide (what = .d3hot), masked := 0xFF, pend := 0, msixTable := [] } })) ∧
  (∀ (m : BitVec 2) (e : BitVec 16) (s : State), Clear s → coreReach s = true → (s.cmd kLock).done = true → Settled s →
    s.ready = false ∨ s.sluiced = true → exec (.lockCycle 0x1C m e) s = .next (cmdEnd kLock 2 (cmdTake kLock s))) ∧
  (∀ (n : Fin 8) (s : State),
    let u := { s with mgmt := { s.mgmt with link := true, bme := true, msixEn := true, d3 := false } }
    (s.inService dMgmt = false → exec (.irqDueSend n) s = .next s) ∧
    (s.inService dMgmt = true → s.mgmt.due.getLsbD n.val = false ∨ fld (s.reg offGLB_IRQ_STATUS) n.val n.val = 0 ∨
        fld (s.reg offGLB_IRQ_ENABLE) n.val n.val = 0 → exec (.irqDueSend n) s = .next u) ∧
    (s.inService dMgmt = true → s.mgmt.due.getLsbD n.val = true → fld (s.reg offGLB_IRQ_STATUS) n.val n.val = 1 →
      fld (s.reg offGLB_IRQ_ENABLE) n.val n.val = 1 →
      let v := { u with mgmt := { u.mgmt with due := u.mgmt.due &&& ~~~ BitVec.ofNat 8 (2 ^ n.val) } }
      (s.mgmt.masked.getLsbD n.val = true → exec (.irqDueSend n) s =
        .next { v with mgmt := { v.mgmt with pend := v.mgmt.pend ||| BitVec.ofNat 8 (2 ^ n.val) } }) ∧
      (s.mgmt.masked.getLsbD n.val = false → exec (.irqDueSend n) s = .next (v.emit (.mgmtMsix n.val)))))

/-- A read changes no device state, but for RC counters and capture registers (R256, R370, R371). -/
def Obligations.RegisterReads : Prop :=
(∀ (off : BitVec 26) (size : BitVec 4) (s : State), mgmtUp s = false → exec (.rcRead off size) s = .next s) ∧
  (∀ (off : BitVec 26) (size : BitVec 4) (s : State), Clear s → mgmtUp s = true →
    s.mgmt.d3 = true ∨ size ≠ 4 ∧ size ≠ 8 ∨ off.toNat % size.toNat ≠ 0 → exec (.rcRead off size) s = .next (s.emit .unsupported)) ∧
  (∀ (off : BitVec 26) (size : BitVec 4) (s : State), Clear s → s.bar0 = true → size = 4 ∨ size = 8 → off.toNat % size.toNat = 0 →
    let o := off.toNat / 8 * 8
    let got := Out.mgmtData (readPart off.toNat size.toNat (readReg s o))
    let inString := fun (i : Nat) => o = offGAUGE_S_STATE + 64 * i ∧ i < 8
    (o = offGAUGE_STATUS → exec (.rcRead off size) s = .next ((captureStatus s).emit got)) ∧
    (∀ i, inString i → exec (.rcRead off size) s = .next ((captureString i s).emit got)) ∧
    (o ≠ offGAUGE_STATUS → (∀ i, ¬ inString i) → o ≠ offKEEP_SRC_CNT →
      (∀ r, regAt o = some r → r.rc ≠ 0 →
        exec (.rcRead off size) s = .next ((s.setReg o (s.reg o &&& ~~~ r.rc)).emit got)) ∧
      ((∀ r, regAt o = some r → r.rc = 0) → exec (.rcRead off size) s = .next (s.emit got))) ∧
    (o = offKEEP_SRC_CNT → exec (.rcRead off size) s =
      .next ((s.updSrc s.KEEP_SRC_SEL_SRC (fun x => { x with trans := 0, sev := 0, merged := 0 })).emit got)))

/-- Which register writes have no effect, which bits the others change, and the flag block (R9, R35, R218, R370, R379). -/
def Obligations.RegisterWrites : Prop :=
(∀ (off : BitVec 26) (size : BitVec 4) (d : Word) (s : State), Settled s → mgmtUp s = false →
    exec (.registerWrite off size d) s = .next s) ∧
  (∀ (off : BitVec 26) (size : BitVec 4) (d : Word) (s : State), Settled s → Clear s → mgmtUp s = true →
    charterOff off.toNat = false ∨ (s.cmd kBerth).done = true →
    s.mgmt.d3 = true ∨ size ≠ 4 ∧ size ≠ 8 ∨ off.toNat % size.toNat ≠ 0 →
      exec (.registerWrite off size d) s = .next (s.emit .unsupported)) ∧
  (∀ (off : BitVec 26) (size : BitVec 4) (d : Word) (s : State), Settled s → Clear s → s.bar0 = true → size = 4 ∨ size = 8 →
    off.toNat % size.toNat = 0 →
    let o := off.toNat / 8 * 8
    ¬ (0x3000000 ≤ o ∧ o < 0x3000080) →
    (regAt o = none → exec (.registerWrite off size d) s = .next s) ∧
    (coreBlock o = true → s.core = false → exec (.registerWrite off size d) s = .next s) ∧
    (∀ r, regAt o = some r → o < offBERTH_SEL →
      (r.wo ≠ 0 → size = 4 → exec (.registerWrite off size d) s = .next s) ∧
      (r.wo = 0 → r.rw = 0 → r.rw1c = 0 → exec (.registerWrite off size d) s = .next s))) ∧
  (∀ (r : RegInfo) (old lane data : Word) (i : Nat),
    (mergeWrite r old lane data).getLsbD i =
      if lane.getLsbD i = true ∧ data.getLsbD i = true ∧ r.rw1c.getLsbD i = true then false
      else if lane.getLsbD i = true ∧ r.rw.getLsbD i = true then data.getLsbD i else old.getLsbD i) ∧
  (∀ (n : Fin 256) (d : Word) (s : State), Settled s → Clear s → s.bar0 = true → s.core = true →
    let o := offLOCK_FLAG + 8 * n.val
    let w := s.reg o
    (∀ h : Bool, (s.sluiced = false → exec (.flagAccess n true 8 h d) s = .next (s.setReg o d)) ∧
      (s.sluiced = true → exec (.flagAccess n true 8 h d) s = .next s ∧ exec (.flagAccess n true 4 h d) s = .next s) ∧
      exec (.flagAccess n false 8 h d) s = .next (s.emit (.mgmtData w))) ∧
    (s.sluiced = false → exec (.flagAccess n true 4 false d) s = .next (s.setReg o (setFld w 31 0 d.toNat)) ∧
      exec (.flagAccess n true 4 true d) s = .next (s.setReg o (setFld w 63 32 d.toNat))) ∧
    exec (.flagAccess n false 4 false d) s = .next (s.emit (.mgmtData (BitVec.ofNat 64 (w.toNat % 2 ^ 32)))) ∧
    exec (.flagAccess n false 4 true d) s = .next (s.emit (.mgmtData (BitVec.ofNat 64 (w.toNat / 2 ^ 32)))))

/-- Each keyed command is the write of its control word; a wrong key does nothing, a running command refuses it (R372 to R374). -/
def Obligations.ControlRegisters : Prop :=
∀ (c : Instr) (k right : Byte) (reg off : Nat) (w : Word) (s : State), Settled s → Clear s → s.bar0 = true →
    controlWrite c = some (k, right, reg, off, w) →
    exec c s = exec (.registerWrite (BitVec.ofNat 26 off) 8 w) s ∧
    (k ≠ right → exec c s = .next s) ∧
    (k = right → (s.cmd reg).done = false → s.core = true → s.sluiced = false → exec c s = .next (cmdTake reg s) ∧
      (cmdTake reg s).cmd reg = { s.cmd reg with ticket := (s.cmd reg).ticket + 1, refused := true })

/-- A PKE_CTRL write is accepted only with the key and no command outstanding, else only counted (R386, R392). -/
def Obligations.KeyEngineWrites : Prop :=
∀ (k : Byte) (gen : Bool) (s : State), Clear s → charterReach s = true →
    ∀ c op g, (c, op, g) ∈ [(Instr.mul k gen, 1, gen), (.verify k, 2, false), (.attest k, 3, false), (.random k, 4, false)] →
      let x := { s.pke with
                 issue := s.pke.issue + 1, rDone := false, rTicket := 0, rStatus := 0, rValid := false, rx := 0, ry := 0, rTime := 0 }
      let o : POp := ⟨.rack, op, g, 0, []⟩
      (k ≠ 0xA9 ∨ rackBusy s = true → exec c s = .next (s.bump offPKE_CNT 31 16 1)) ∧
      (k = 0xA9 → rackBusy s = false →
        (∀ r, s.pke.cur = some r → exec c s = .next { s with pke := { x with queue := s.pke.queue ++ [o] } }) ∧
        (s.pke.cur = none → s.pke.queue = [] → Gives c s (fun t =>
          t = { s with pke := t.pke } ∧ t.pke.queue = [] ∧ t.pke.issue = s.pke.issue + 1 ∧ t.pke.rDone = false ∧
          ∃ r, t.pke.cur = some r ∧ r.who = .rack ∧ r.op = op ∧ r.gen = g ∧ r.tStart = s.now)))

/-- Operations end at their fixed times with the results and statuses; the entropy tests (R386 to R391, R394). Before its time a
timed command changes nothing: the model's choice (log 1). -/
def Obligations.KeyEngineResults : Prop :=
(∀ (o : POp) (s : State), s.pke.cur = some o →
    let u := { s with pke := { s.pke with cur := none } }
    (s.now < o.tStart + opTime o.op → exec .pkeOpDone s = .next s) ∧
    (o.tStart + opTime o.op ≤ s.now →
      (o.who = .rack → exec .pkeOpDone s = .next (settle (pkeStart (rackOutcome o u)))) ∧
      (o.who = .gauge → exec .pkeOpDone s = .next (settle (pkeStart (gaugeOutcome o u)))) ∧
      (o.who = .loader → exec .pkeOpDone s = .next (settle (pkeStart u))))) ∧
  (opTime 1 = 130 ∧ opTime 2 = 260 ∧ opTime 3 = 140 ∧ opTime 4 = 4) ∧
  (∀ s : State, s.pke.cur = none → exec .pkeOpDone s = .next s) ∧
  (∀ (o : POp) (s : State), o.who = .rack → o.op = 1 → o.gen = false →
    let k := operand s 0
    let x := operand s 1
    let y := operand s 2
    (rackOutcome o s).pke.rDone = true ∧ (rackOutcome o s).pke.rTicket = s.pke.issue ∧
    (p256p ≤ x ∨ p256p ≤ y → (rackOutcome o s).pke.rStatus = 2 ∧ (rackOutcome o s).pke.rx = 0 ∧ (rackOutcome o s).pke.ry = 0) ∧
    (x < p256p → y < p256p → onCurve x y = true → 0 < k → k < p256n → (rackOutcome o s).pke.rStatus = 0 ∧
      ∀ a b, curveMul k x y = some (a, b) → (rackOutcome o s).pke.rx = a ∧ (rackOutcome o s).pke.ry = b)) ∧
  (∀ (o : POp) (s : State), o.op = 3 ∨ o.op = 4 → s.pke.failing = true →
    (rackOutcome o s).pke.rStatus = 7 ∧ (rackOutcome o s).pke.rx = 0 ∧ (rackOutcome o s).pke.ry = 0 ∧
    (rackOutcome o s).free = s.free ∧ (rackOutcome o s).pke.drbg = s.pke.drbg) ∧
  (∀ s : State,
    (s.core = true → exec .entropyTestFail s =
      .next (({ s with pke := { s.pke with failing := true } } : State).bump offPKE_CNT 15 0 1)) ∧
    (s.core = true → s.pke.failing = true → Gives .entropyTestPass s (fun t =>
      t = { s with pke := t.pke, free := s.free + 1 } ∧ t.pke = { s.pke with failing := false, drbg := t.pke.drbg } ∧
      t.pke.drbg.requests = 0 ∧ t.pke.drbg.seeds = s.pke.drbg.seeds + 1)) ∧
    (s.core = false ∨ s.pke.failing = false → exec .entropyTestPass s = .next s) ∧
    (s.core = false → exec .entropyTestFail s = .next s))

/-- Root loss and return, PLL loss, and the collapse of the standby supply (R28, R400 to R404). The
second PLL's loss is a root loss by the model's reading (log 25). -/
def Obligations.ClocksAndSupply : Prop :=
(∀ s : State,
    (s.clk.aon = true → s.clk.holdover = false → exec .rootLoss s = .next (settle (rootLost s))) ∧
    (s.clk.aon = false → exec .rootLoss s = .next s) ∧
    (s.clk.holdover = true → Settled s → exec .rootLoss s = .next s) ∧
    (s.clk.holdover = false → (rootLost s).clk.holdover = true ∧ (rootLost s).clk.rootOk = false ∧ (rootLost s).pins.warn = true)) ∧
  (∀ s : State, s.clk.holdover = true →
    let u := logRec 0x13 0 1 [] { s with clk := { s.clk with rootOk := true, holdover := false, supLock := true } }
    (s.fly.st = .test ∨ s.fly.st = .sync ∨ s.fly.st = .run → exec .rootBack s = .next (settle (flyFault 9 0xF u))) ∧
    (Settled s → s.fly.st ≠ .test → s.fly.st ≠ .sync → s.fly.st ≠ .run → exec .rootBack s = .next u)) ∧
  (∀ s : State, s.clk.holdover = false → exec .rootBack s = .next s) ∧
  (∀ s : State, s.core = true →
    (s.clk.aLock = true → s.clk.bLock = true →
      exec .pllALoss s = .next ((logRec 0x13 0 2 [] { s with clk := { s.clk with aLock := false, mainSel := true } }).bump offCLK_CNT 31 0 1) ∧
      exec .pllBLoss s = .next (logRec 0x13 0 3 [] { s with clk := { s.clk with bLock := false } })) ∧
    (s.clk.aLock = true → s.clk.bLock = false → exec .pllALoss s =
      .next (settle (rootLost { s with clk := { s.clk with aLock := false } })) ∧ exec .pllBLoss s = .next s) ∧
    (s.clk.aLock = false → s.clk.bLock = true → exec .pllBLoss s =
      .next (settle (rootLost { s with clk := { s.clk with bLock := false } })) ∧ exec .pllALoss s = .next s)) ∧
  (∀ s : State,
    (s.log.queue = [] → exec .standbySupplyCollapse s = .next (mediumKept s)) ∧
    (s.log.queue ≠ [] → Gives .standbySupplyCollapse s (fun t =>
      t = { mediumKept s with free := s.free + 1, log := t.log } ∧
      (t.log = (mediumKept s).log ∨ t.log = { (mediumKept s).log with
        slots := tset LogCell.erased (eraseAhead s.log.slot s.log.slots) s.log.slot .torn }))) ∧
    (mediumKept s).berths = [] ∧ (mediumKept s).clk = State.reset.clk ∧ (mediumKept s).fly = State.reset.fly ∧
    (mediumKept s).fmm.rows = s.fmm.rows ∧ (mediumKept s).fmm.manifests = s.fmm.manifests ∧
    (mediumKept s).fmm.segs = s.fmm.segs ∧ (mediumKept s).cfg.fuses = s.cfg.fuses ∧
    (mediumKept s).gauge.copy0 = s.gauge.copy0 ∧ (mediumKept s).gauge.copy1 = s.gauge.copy1 ∧ (mediumKept s).log.slots = s.log.slots ∧ (mediumKept s).log.queue = [])
end

