-- ==== Sys2Proof/Laws/State.lean ====
section
/-! SUPPORT. What each plain update of State leaves as it was: one lemma per update and field, true by unfolding. -/

namespace Sys2Proof.Machine

open Sys2Proof

@[simp] theorem State.setBerth_now (s : State) (i : Nat) (b : Berth) : (s.setBerth i b).now = s.now := by cases s; rfl
@[simp] theorem State.setBerth_free (s : State) (i : Nat) (b : Berth) : (s.setBerth i b).free = s.free := by cases s; rfl
@[simp] theorem State.setBerth_pending (s : State) (i : Nat) (b : Berth) : (s.setBerth i b).pending = s.pending := by cases s; rfl
@[simp] theorem State.setBerth_regs (s : State) (i : Nat) (b : Berth) : (s.setBerth i b).regs = s.regs := by cases s; rfl
@[simp] theorem State.setBerth_cmds (s : State) (i : Nat) (b : Berth) : (s.setBerth i b).cmds = s.cmds := by cases s; rfl
@[simp] theorem State.setBerth_out (s : State) (i : Nat) (b : Berth) : (s.setBerth i b).out = s.out := by cases s; rfl
@[simp] theorem State.setBerth_ports (s : State) (i : Nat) (b : Berth) : (s.setBerth i b).ports = s.ports := by cases s; rfl
@[simp] theorem State.setBerth_lock (s : State) (i : Nat) (b : Berth) : (s.setBerth i b).lock = s.lock := by cases s; rfl
@[simp] theorem State.setBerth_weir (s : State) (i : Nat) (b : Berth) : (s.setBerth i b).weir = s.weir := by cases s; rfl
@[simp] theorem State.setBerth_sluice (s : State) (i : Nat) (b : Berth) : (s.setBerth i b).sluice = s.sluice := by cases s; rfl
@[simp] theorem State.setBerth_refloat (s : State) (i : Nat) (b : Berth) : (s.setBerth i b).refloat = s.refloat := by cases s; rfl
@[simp] theorem State.setBerth_drc (s : State) (i : Nat) (b : Berth) : (s.setBerth i b).drc = s.drc := by cases s; rfl
@[simp] theorem State.setBerth_fmm (s : State) (i : Nat) (b : Berth) : (s.setBerth i b).fmm = s.fmm := by cases s; rfl
@[simp] theorem State.setBerth_chart (s : State) (i : Nat) (b : Berth) : (s.setBerth i b).chart = s.chart := by cases s; rfl
@[simp] theorem State.setBerth_gauge (s : State) (i : Nat) (b : Berth) : (s.setBerth i b).gauge = s.gauge := by cases s; rfl
@[simp] theorem State.setBerth_fly (s : State) (i : Nat) (b : Berth) : (s.setBerth i b).fly = s.fly := by cases s; rfl
@[simp] theorem State.setBerth_seq (s : State) (i : Nat) (b : Berth) : (s.setBerth i b).seq = s.seq := by cases s; rfl
@[simp] theorem State.setBerth_log (s : State) (i : Nat) (b : Berth) : (s.setBerth i b).log = s.log := by cases s; rfl
@[simp] theorem State.setBerth_tow (s : State) (i : Nat) (b : Berth) : (s.setBerth i b).tow = s.tow := by cases s; rfl
@[simp] theorem State.setBerth_keep (s : State) (i : Nat) (b : Berth) : (s.setBerth i b).keep = s.keep := by cases s; rfl
@[simp] theorem State.setBerth_cfg (s : State) (i : Nat) (b : Berth) : (s.setBerth i b).cfg = s.cfg := by cases s; rfl
@[simp] theorem State.setBerth_pke (s : State) (i : Nat) (b : Berth) : (s.setBerth i b).pke = s.pke := by cases s; rfl
@[simp] theorem State.setBerth_clk (s : State) (i : Nat) (b : Berth) : (s.setBerth i b).clk = s.clk := by cases s; rfl
@[simp] theorem State.setBerth_mgmt (s : State) (i : Nat) (b : Berth) : (s.setBerth i b).mgmt = s.mgmt := by cases s; rfl
@[simp] theorem State.setBerth_pins (s : State) (i : Nat) (b : Berth) : (s.setBerth i b).pins = s.pins := by cases s; rfl
@[simp] theorem State.setBerth_enginesOut (s : State) (i : Nat) (b : Berth) : (s.setBerth i b).enginesOut = s.enginesOut := by cases s; rfl

@[simp] theorem State.updBerth_now (s : State) (i : Nat) (f : Berth → Berth) : (s.updBerth i f).now = s.now := by cases s; rfl
@[simp] theorem State.updBerth_free (s : State) (i : Nat) (f : Berth → Berth) : (s.updBerth i f).free = s.free := by cases s; rfl
@[simp] theorem State.updBerth_pending (s : State) (i : Nat) (f : Berth → Berth) : (s.updBerth i f).pending = s.pending := by cases s; rfl
@[simp] theorem State.updBerth_regs (s : State) (i : Nat) (f : Berth → Berth) : (s.updBerth i f).regs = s.regs := by cases s; rfl
@[simp] theorem State.updBerth_cmds (s : State) (i : Nat) (f : Berth → Berth) : (s.updBerth i f).cmds = s.cmds := by cases s; rfl
@[simp] theorem State.updBerth_out (s : State) (i : Nat) (f : Berth → Berth) : (s.updBerth i f).out = s.out := by cases s; rfl
@[simp] theorem State.updBerth_ports (s : State) (i : Nat) (f : Berth → Berth) : (s.updBerth i f).ports = s.ports := by cases s; rfl
@[simp] theorem State.updBerth_lock (s : State) (i : Nat) (f : Berth → Berth) : (s.updBerth i f).lock = s.lock := by cases s; rfl
@[simp] theorem State.updBerth_weir (s : State) (i : Nat) (f : Berth → Berth) : (s.updBerth i f).weir = s.weir := by cases s; rfl
@[simp] theorem State.updBerth_sluice (s : State) (i : Nat) (f : Berth → Berth) : (s.updBerth i f).sluice = s.sluice := by cases s; rfl
@[simp] theorem State.updBerth_refloat (s : State) (i : Nat) (f : Berth → Berth) : (s.updBerth i f).refloat = s.refloat := by cases s; rfl
@[simp] theorem State.updBerth_drc (s : State) (i : Nat) (f : Berth → Berth) : (s.updBerth i f).drc = s.drc := by cases s; rfl
@[simp] theorem State.updBerth_fmm (s : State) (i : Nat) (f : Berth → Berth) : (s.updBerth i f).fmm = s.fmm := by cases s; rfl
@[simp] theorem State.updBerth_chart (s : State) (i : Nat) (f : Berth → Berth) : (s.updBerth i f).chart = s.chart := by cases s; rfl
@[simp] theorem State.updBerth_gauge (s : State) (i : Nat) (f : Berth → Berth) : (s.updBerth i f).gauge = s.gauge := by cases s; rfl
@[simp] theorem State.updBerth_fly (s : State) (i : Nat) (f : Berth → Berth) : (s.updBerth i f).fly = s.fly := by cases s; rfl
@[simp] theorem State.updBerth_seq (s : State) (i : Nat) (f : Berth → Berth) : (s.updBerth i f).seq = s.seq := by cases s; rfl
@[simp] theorem State.updBerth_log (s : State) (i : Nat) (f : Berth → Berth) : (s.updBerth i f).log = s.log := by cases s; rfl
@[simp] theorem State.updBerth_tow (s : State) (i : Nat) (f : Berth → Berth) : (s.updBerth i f).tow = s.tow := by cases s; rfl
@[simp] theorem State.updBerth_keep (s : State) (i : Nat) (f : Berth → Berth) : (s.updBerth i f).keep = s.keep := by cases s; rfl
@[simp] theorem State.updBerth_cfg (s : State) (i : Nat) (f : Berth → Berth) : (s.updBerth i f).cfg = s.cfg := by cases s; rfl
@[simp] theorem State.updBerth_pke (s : State) (i : Nat) (f : Berth → Berth) : (s.updBerth i f).pke = s.pke := by cases s; rfl
@[simp] theorem State.updBerth_clk (s : State) (i : Nat) (f : Berth → Berth) : (s.updBerth i f).clk = s.clk := by cases s; rfl
@[simp] theorem State.updBerth_mgmt (s : State) (i : Nat) (f : Berth → Berth) : (s.updBerth i f).mgmt = s.mgmt := by cases s; rfl
@[simp] theorem State.updBerth_pins (s : State) (i : Nat) (f : Berth → Berth) : (s.updBerth i f).pins = s.pins := by cases s; rfl
@[simp] theorem State.updBerth_enginesOut (s : State) (i : Nat) (f : Berth → Berth) : (s.updBerth i f).enginesOut = s.enginesOut := by cases s; rfl

@[simp] theorem State.setPort_now (s : State) (p : Nat) (q : Port) : (s.setPort p q).now = s.now := by cases s; rfl
@[simp] theorem State.setPort_free (s : State) (p : Nat) (q : Port) : (s.setPort p q).free = s.free := by cases s; rfl
@[simp] theorem State.setPort_pending (s : State) (p : Nat) (q : Port) : (s.setPort p q).pending = s.pending := by cases s; rfl
@[simp] theorem State.setPort_regs (s : State) (p : Nat) (q : Port) : (s.setPort p q).regs = s.regs := by cases s; rfl
@[simp] theorem State.setPort_cmds (s : State) (p : Nat) (q : Port) : (s.setPort p q).cmds = s.cmds := by cases s; rfl
@[simp] theorem State.setPort_out (s : State) (p : Nat) (q : Port) : (s.setPort p q).out = s.out := by cases s; rfl
@[simp] theorem State.setPort_berths (s : State) (p : Nat) (q : Port) : (s.setPort p q).berths = s.berths := by cases s; rfl
@[simp] theorem State.setPort_lock (s : State) (p : Nat) (q : Port) : (s.setPort p q).lock = s.lock := by cases s; rfl
@[simp] theorem State.setPort_weir (s : State) (p : Nat) (q : Port) : (s.setPort p q).weir = s.weir := by cases s; rfl
@[simp] theorem State.setPort_sluice (s : State) (p : Nat) (q : Port) : (s.setPort p q).sluice = s.sluice := by cases s; rfl
@[simp] theorem State.setPort_refloat (s : State) (p : Nat) (q : Port) : (s.setPort p q).refloat = s.refloat := by cases s; rfl
@[simp] theorem State.setPort_drc (s : State) (p : Nat) (q : Port) : (s.setPort p q).drc = s.drc := by cases s; rfl
@[simp] theorem State.setPort_fmm (s : State) (p : Nat) (q : Port) : (s.setPort p q).fmm = s.fmm := by cases s; rfl
@[simp] theorem State.setPort_chart (s : State) (p : Nat) (q : Port) : (s.setPort p q).chart = s.chart := by cases s; rfl
@[simp] theorem State.setPort_gauge (s : State) (p : Nat) (q : Port) : (s.setPort p q).gauge = s.gauge := by cases s; rfl
@[simp] theorem State.setPort_fly (s : State) (p : Nat) (q : Port) : (s.setPort p q).fly = s.fly := by cases s; rfl
@[simp] theorem State.setPort_seq (s : State) (p : Nat) (q : Port) : (s.setPort p q).seq = s.seq := by cases s; rfl
@[simp] theorem State.setPort_log (s : State) (p : Nat) (q : Port) : (s.setPort p q).log = s.log := by cases s; rfl
@[simp] theorem State.setPort_tow (s : State) (p : Nat) (q : Port) : (s.setPort p q).tow = s.tow := by cases s; rfl
@[simp] theorem State.setPort_keep (s : State) (p : Nat) (q : Port) : (s.setPort p q).keep = s.keep := by cases s; rfl
@[simp] theorem State.setPort_cfg (s : State) (p : Nat) (q : Port) : (s.setPort p q).cfg = s.cfg := by cases s; rfl
@[simp] theorem State.setPort_pke (s : State) (p : Nat) (q : Port) : (s.setPort p q).pke = s.pke := by cases s; rfl
@[simp] theorem State.setPort_clk (s : State) (p : Nat) (q : Port) : (s.setPort p q).clk = s.clk := by cases s; rfl
@[simp] theorem State.setPort_mgmt (s : State) (p : Nat) (q : Port) : (s.setPort p q).mgmt = s.mgmt := by cases s; rfl
@[simp] theorem State.setPort_pins (s : State) (p : Nat) (q : Port) : (s.setPort p q).pins = s.pins := by cases s; rfl
@[simp] theorem State.setPort_enginesOut (s : State) (p : Nat) (q : Port) : (s.setPort p q).enginesOut = s.enginesOut := by cases s; rfl

@[simp] theorem State.updPort_now (s : State) (p : Nat) (f : Port → Port) : (s.updPort p f).now = s.now := by cases s; rfl
@[simp] theorem State.updPort_free (s : State) (p : Nat) (f : Port → Port) : (s.updPort p f).free = s.free := by cases s; rfl
@[simp] theorem State.updPort_pending (s : State) (p : Nat) (f : Port → Port) : (s.updPort p f).pending = s.pending := by cases s; rfl
@[simp] theorem State.updPort_regs (s : State) (p : Nat) (f : Port → Port) : (s.updPort p f).regs = s.regs := by cases s; rfl
@[simp] theorem State.updPort_cmds (s : State) (p : Nat) (f : Port → Port) : (s.updPort p f).cmds = s.cmds := by cases s; rfl
@[simp] theorem State.updPort_out (s : State) (p : Nat) (f : Port → Port) : (s.updPort p f).out = s.out := by cases s; rfl
@[simp] theorem State.updPort_berths (s : State) (p : Nat) (f : Port → Port) : (s.updPort p f).berths = s.berths := by cases s; rfl
@[simp] theorem State.updPort_lock (s : State) (p : Nat) (f : Port → Port) : (s.updPort p f).lock = s.lock := by cases s; rfl
@[simp] theorem State.updPort_weir (s : State) (p : Nat) (f : Port → Port) : (s.updPort p f).weir = s.weir := by cases s; rfl
@[simp] theorem State.updPort_sluice (s : State) (p : Nat) (f : Port → Port) : (s.updPort p f).sluice = s.sluice := by cases s; rfl
@[simp] theorem State.updPort_refloat (s : State) (p : Nat) (f : Port → Port) : (s.updPort p f).refloat = s.refloat := by cases s; rfl
@[simp] theorem State.updPort_drc (s : State) (p : Nat) (f : Port → Port) : (s.updPort p f).drc = s.drc := by cases s; rfl
@[simp] theorem State.updPort_fmm (s : State) (p : Nat) (f : Port → Port) : (s.updPort p f).fmm = s.fmm := by cases s; rfl
@[simp] theorem State.updPort_chart (s : State) (p : Nat) (f : Port → Port) : (s.updPort p f).chart = s.chart := by cases s; rfl
@[simp] theorem State.updPort_gauge (s : State) (p : Nat) (f : Port → Port) : (s.updPort p f).gauge = s.gauge := by cases s; rfl
@[simp] theorem State.updPort_fly (s : State) (p : Nat) (f : Port → Port) : (s.updPort p f).fly = s.fly := by cases s; rfl
@[simp] theorem State.updPort_seq (s : State) (p : Nat) (f : Port → Port) : (s.updPort p f).seq = s.seq := by cases s; rfl
@[simp] theorem State.updPort_log (s : State) (p : Nat) (f : Port → Port) : (s.updPort p f).log = s.log := by cases s; rfl
@[simp] theorem State.updPort_tow (s : State) (p : Nat) (f : Port → Port) : (s.updPort p f).tow = s.tow := by cases s; rfl
@[simp] theorem State.updPort_keep (s : State) (p : Nat) (f : Port → Port) : (s.updPort p f).keep = s.keep := by cases s; rfl
@[simp] theorem State.updPort_cfg (s : State) (p : Nat) (f : Port → Port) : (s.updPort p f).cfg = s.cfg := by cases s; rfl
@[simp] theorem State.updPort_pke (s : State) (p : Nat) (f : Port → Port) : (s.updPort p f).pke = s.pke := by cases s; rfl
@[simp] theorem State.updPort_clk (s : State) (p : Nat) (f : Port → Port) : (s.updPort p f).clk = s.clk := by cases s; rfl
@[simp] theorem State.updPort_mgmt (s : State) (p : Nat) (f : Port → Port) : (s.updPort p f).mgmt = s.mgmt := by cases s; rfl
@[simp] theorem State.updPort_pins (s : State) (p : Nat) (f : Port → Port) : (s.updPort p f).pins = s.pins := by cases s; rfl
@[simp] theorem State.updPort_enginesOut (s : State) (p : Nat) (f : Port → Port) : (s.updPort p f).enginesOut = s.enginesOut := by cases s; rfl

@[simp] theorem State.setReg_now (s : State) (off : Nat) (w : Word) : (s.setReg off w).now = s.now := by cases s; rfl
@[simp] theorem State.setReg_free (s : State) (off : Nat) (w : Word) : (s.setReg off w).free = s.free := by cases s; rfl
@[simp] theorem State.setReg_pending (s : State) (off : Nat) (w : Word) : (s.setReg off w).pending = s.pending := by cases s; rfl
@[simp] theorem State.setReg_cmds (s : State) (off : Nat) (w : Word) : (s.setReg off w).cmds = s.cmds := by cases s; rfl
@[simp] theorem State.setReg_out (s : State) (off : Nat) (w : Word) : (s.setReg off w).out = s.out := by cases s; rfl
@[simp] theorem State.setReg_berths (s : State) (off : Nat) (w : Word) : (s.setReg off w).berths = s.berths := by cases s; rfl
@[simp] theorem State.setReg_ports (s : State) (off : Nat) (w : Word) : (s.setReg off w).ports = s.ports := by cases s; rfl
@[simp] theorem State.setReg_lock (s : State) (off : Nat) (w : Word) : (s.setReg off w).lock = s.lock := by cases s; rfl
@[simp] theorem State.setReg_weir (s : State) (off : Nat) (w : Word) : (s.setReg off w).weir = s.weir := by cases s; rfl
@[simp] theorem State.setReg_sluice (s : State) (off : Nat) (w : Word) : (s.setReg off w).sluice = s.sluice := by cases s; rfl
@[simp] theorem State.setReg_refloat (s : State) (off : Nat) (w : Word) : (s.setReg off w).refloat = s.refloat := by cases s; rfl
@[simp] theorem State.setReg_drc (s : State) (off : Nat) (w : Word) : (s.setReg off w).drc = s.drc := by cases s; rfl
@[simp] theorem State.setReg_fmm (s : State) (off : Nat) (w : Word) : (s.setReg off w).fmm = s.fmm := by cases s; rfl
@[simp] theorem State.setReg_chart (s : State) (off : Nat) (w : Word) : (s.setReg off w).chart = s.chart := by cases s; rfl
@[simp] theorem State.setReg_gauge (s : State) (off : Nat) (w : Word) : (s.setReg off w).gauge = s.gauge := by cases s; rfl
@[simp] theorem State.setReg_fly (s : State) (off : Nat) (w : Word) : (s.setReg off w).fly = s.fly := by cases s; rfl
@[simp] theorem State.setReg_seq (s : State) (off : Nat) (w : Word) : (s.setReg off w).seq = s.seq := by cases s; rfl
@[simp] theorem State.setReg_log (s : State) (off : Nat) (w : Word) : (s.setReg off w).log = s.log := by cases s; rfl
@[simp] theorem State.setReg_tow (s : State) (off : Nat) (w : Word) : (s.setReg off w).tow = s.tow := by cases s; rfl
@[simp] theorem State.setReg_keep (s : State) (off : Nat) (w : Word) : (s.setReg off w).keep = s.keep := by cases s; rfl
@[simp] theorem State.setReg_cfg (s : State) (off : Nat) (w : Word) : (s.setReg off w).cfg = s.cfg := by cases s; rfl
@[simp] theorem State.setReg_pke (s : State) (off : Nat) (w : Word) : (s.setReg off w).pke = s.pke := by cases s; rfl
@[simp] theorem State.setReg_clk (s : State) (off : Nat) (w : Word) : (s.setReg off w).clk = s.clk := by cases s; rfl
@[simp] theorem State.setReg_mgmt (s : State) (off : Nat) (w : Word) : (s.setReg off w).mgmt = s.mgmt := by cases s; rfl
@[simp] theorem State.setReg_pins (s : State) (off : Nat) (w : Word) : (s.setReg off w).pins = s.pins := by cases s; rfl
@[simp] theorem State.setReg_enginesOut (s : State) (off : Nat) (w : Word) : (s.setReg off w).enginesOut = s.enginesOut := by cases s; rfl

@[simp] theorem State.bump_now (s : State) (off : Nat) (hi : Nat) (lo : Nat) (k : Nat) : (s.bump off hi lo k).now = s.now := by cases s; rfl
@[simp] theorem State.bump_free (s : State) (off : Nat) (hi : Nat) (lo : Nat) (k : Nat) : (s.bump off hi lo k).free = s.free := by cases s; rfl
@[simp] theorem State.bump_pending (s : State) (off : Nat) (hi : Nat) (lo : Nat) (k : Nat) : (s.bump off hi lo k).pending = s.pending := by cases s; rfl
@[simp] theorem State.bump_cmds (s : State) (off : Nat) (hi : Nat) (lo : Nat) (k : Nat) : (s.bump off hi lo k).cmds = s.cmds := by cases s; rfl
@[simp] theorem State.bump_out (s : State) (off : Nat) (hi : Nat) (lo : Nat) (k : Nat) : (s.bump off hi lo k).out = s.out := by cases s; rfl
@[simp] theorem State.bump_berths (s : State) (off : Nat) (hi : Nat) (lo : Nat) (k : Nat) : (s.bump off hi lo k).berths = s.berths := by cases s; rfl
@[simp] theorem State.bump_ports (s : State) (off : Nat) (hi : Nat) (lo : Nat) (k : Nat) : (s.bump off hi lo k).ports = s.ports := by cases s; rfl
@[simp] theorem State.bump_lock (s : State) (off : Nat) (hi : Nat) (lo : Nat) (k : Nat) : (s.bump off hi lo k).lock = s.lock := by cases s; rfl
@[simp] theorem State.bump_weir (s : State) (off : Nat) (hi : Nat) (lo : Nat) (k : Nat) : (s.bump off hi lo k).weir = s.weir := by cases s; rfl
@[simp] theorem State.bump_sluice (s : State) (off : Nat) (hi : Nat) (lo : Nat) (k : Nat) : (s.bump off hi lo k).sluice = s.sluice := by cases s; rfl
@[simp] theorem State.bump_refloat (s : State) (off : Nat) (hi : Nat) (lo : Nat) (k : Nat) : (s.bump off hi lo k).refloat = s.refloat := by cases s; rfl
@[simp] theorem State.bump_drc (s : State) (off : Nat) (hi : Nat) (lo : Nat) (k : Nat) : (s.bump off hi lo k).drc = s.drc := by cases s; rfl
@[simp] theorem State.bump_fmm (s : State) (off : Nat) (hi : Nat) (lo : Nat) (k : Nat) : (s.bump off hi lo k).fmm = s.fmm := by cases s; rfl
@[simp] theorem State.bump_chart (s : State) (off : Nat) (hi : Nat) (lo : Nat) (k : Nat) : (s.bump off hi lo k).chart = s.chart := by cases s; rfl
@[simp] theorem State.bump_gauge (s : State) (off : Nat) (hi : Nat) (lo : Nat) (k : Nat) : (s.bump off hi lo k).gauge = s.gauge := by cases s; rfl
@[simp] theorem State.bump_fly (s : State) (off : Nat) (hi : Nat) (lo : Nat) (k : Nat) : (s.bump off hi lo k).fly = s.fly := by cases s; rfl
@[simp] theorem State.bump_seq (s : State) (off : Nat) (hi : Nat) (lo : Nat) (k : Nat) : (s.bump off hi lo k).seq = s.seq := by cases s; rfl
@[simp] theorem State.bump_log (s : State) (off : Nat) (hi : Nat) (lo : Nat) (k : Nat) : (s.bump off hi lo k).log = s.log := by cases s; rfl
@[simp] theorem State.bump_tow (s : State) (off : Nat) (hi : Nat) (lo : Nat) (k : Nat) : (s.bump off hi lo k).tow = s.tow := by cases s; rfl
@[simp] theorem State.bump_keep (s : State) (off : Nat) (hi : Nat) (lo : Nat) (k : Nat) : (s.bump off hi lo k).keep = s.keep := by cases s; rfl
@[simp] theorem State.bump_cfg (s : State) (off : Nat) (hi : Nat) (lo : Nat) (k : Nat) : (s.bump off hi lo k).cfg = s.cfg := by cases s; rfl
@[simp] theorem State.bump_pke (s : State) (off : Nat) (hi : Nat) (lo : Nat) (k : Nat) : (s.bump off hi lo k).pke = s.pke := by cases s; rfl
@[simp] theorem State.bump_clk (s : State) (off : Nat) (hi : Nat) (lo : Nat) (k : Nat) : (s.bump off hi lo k).clk = s.clk := by cases s; rfl
@[simp] theorem State.bump_mgmt (s : State) (off : Nat) (hi : Nat) (lo : Nat) (k : Nat) : (s.bump off hi lo k).mgmt = s.mgmt := by cases s; rfl
@[simp] theorem State.bump_pins (s : State) (off : Nat) (hi : Nat) (lo : Nat) (k : Nat) : (s.bump off hi lo k).pins = s.pins := by cases s; rfl
@[simp] theorem State.bump_enginesOut (s : State) (off : Nat) (hi : Nat) (lo : Nat) (k : Nat) : (s.bump off hi lo k).enginesOut = s.enginesOut := by cases s; rfl

@[simp] theorem State.emit_now (s : State) (o : Out) : (s.emit o).now = s.now := by cases s; rfl
@[simp] theorem State.emit_free (s : State) (o : Out) : (s.emit o).free = s.free := by cases s; rfl
@[simp] theorem State.emit_pending (s : State) (o : Out) : (s.emit o).pending = s.pending := by cases s; rfl
@[simp] theorem State.emit_regs (s : State) (o : Out) : (s.emit o).regs = s.regs := by cases s; rfl
@[simp] theorem State.emit_cmds (s : State) (o : Out) : (s.emit o).cmds = s.cmds := by cases s; rfl
@[simp] theorem State.emit_berths (s : State) (o : Out) : (s.emit o).berths = s.berths := by cases s; rfl
@[simp] theorem State.emit_ports (s : State) (o : Out) : (s.emit o).ports = s.ports := by cases s; rfl
@[simp] theorem State.emit_lock (s : State) (o : Out) : (s.emit o).lock = s.lock := by cases s; rfl
@[simp] theorem State.emit_weir (s : State) (o : Out) : (s.emit o).weir = s.weir := by cases s; rfl
@[simp] theorem State.emit_sluice (s : State) (o : Out) : (s.emit o).sluice = s.sluice := by cases s; rfl
@[simp] theorem State.emit_refloat (s : State) (o : Out) : (s.emit o).refloat = s.refloat := by cases s; rfl
@[simp] theorem State.emit_drc (s : State) (o : Out) : (s.emit o).drc = s.drc := by cases s; rfl
@[simp] theorem State.emit_fmm (s : State) (o : Out) : (s.emit o).fmm = s.fmm := by cases s; rfl
@[simp] theorem State.emit_chart (s : State) (o : Out) : (s.emit o).chart = s.chart := by cases s; rfl
@[simp] theorem State.emit_gauge (s : State) (o : Out) : (s.emit o).gauge = s.gauge := by cases s; rfl
@[simp] theorem State.emit_fly (s : State) (o : Out) : (s.emit o).fly = s.fly := by cases s; rfl
@[simp] theorem State.emit_seq (s : State) (o : Out) : (s.emit o).seq = s.seq := by cases s; rfl
@[simp] theorem State.emit_log (s : State) (o : Out) : (s.emit o).log = s.log := by cases s; rfl
@[simp] theorem State.emit_tow (s : State) (o : Out) : (s.emit o).tow = s.tow := by cases s; rfl
@[simp] theorem State.emit_keep (s : State) (o : Out) : (s.emit o).keep = s.keep := by cases s; rfl
@[simp] theorem State.emit_cfg (s : State) (o : Out) : (s.emit o).cfg = s.cfg := by cases s; rfl
@[simp] theorem State.emit_pke (s : State) (o : Out) : (s.emit o).pke = s.pke := by cases s; rfl
@[simp] theorem State.emit_clk (s : State) (o : Out) : (s.emit o).clk = s.clk := by cases s; rfl
@[simp] theorem State.emit_mgmt (s : State) (o : Out) : (s.emit o).mgmt = s.mgmt := by cases s; rfl
@[simp] theorem State.emit_pins (s : State) (o : Out) : (s.emit o).pins = s.pins := by cases s; rfl
@[simp] theorem State.emit_enginesOut (s : State) (o : Out) : (s.emit o).enginesOut = s.enginesOut := by cases s; rfl

@[simp] theorem State.emits_now (s : State) (os : List Out) : (s.emits os).now = s.now := by cases s; rfl
@[simp] theorem State.emits_free (s : State) (os : List Out) : (s.emits os).free = s.free := by cases s; rfl
@[simp] theorem State.emits_pending (s : State) (os : List Out) : (s.emits os).pending = s.pending := by cases s; rfl
@[simp] theorem State.emits_regs (s : State) (os : List Out) : (s.emits os).regs = s.regs := by cases s; rfl
@[simp] theorem State.emits_cmds (s : State) (os : List Out) : (s.emits os).cmds = s.cmds := by cases s; rfl
@[simp] theorem State.emits_berths (s : State) (os : List Out) : (s.emits os).berths = s.berths := by cases s; rfl
@[simp] theorem State.emits_ports (s : State) (os : List Out) : (s.emits os).ports = s.ports := by cases s; rfl
@[simp] theorem State.emits_lock (s : State) (os : List Out) : (s.emits os).lock = s.lock := by cases s; rfl
@[simp] theorem State.emits_weir (s : State) (os : List Out) : (s.emits os).weir = s.weir := by cases s; rfl
@[simp] theorem State.emits_sluice (s : State) (os : List Out) : (s.emits os).sluice = s.sluice := by cases s; rfl
@[simp] theorem State.emits_refloat (s : State) (os : List Out) : (s.emits os).refloat = s.refloat := by cases s; rfl
@[simp] theorem State.emits_drc (s : State) (os : List Out) : (s.emits os).drc = s.drc := by cases s; rfl
@[simp] theorem State.emits_fmm (s : State) (os : List Out) : (s.emits os).fmm = s.fmm := by cases s; rfl
@[simp] theorem State.emits_chart (s : State) (os : List Out) : (s.emits os).chart = s.chart := by cases s; rfl
@[simp] theorem State.emits_gauge (s : State) (os : List Out) : (s.emits os).gauge = s.gauge := by cases s; rfl
@[simp] theorem State.emits_fly (s : State) (os : List Out) : (s.emits os).fly = s.fly := by cases s; rfl
@[simp] theorem State.emits_seq (s : State) (os : List Out) : (s.emits os).seq = s.seq := by cases s; rfl
@[simp] theorem State.emits_log (s : State) (os : List Out) : (s.emits os).log = s.log := by cases s; rfl
@[simp] theorem State.emits_tow (s : State) (os : List Out) : (s.emits os).tow = s.tow := by cases s; rfl
@[simp] theorem State.emits_keep (s : State) (os : List Out) : (s.emits os).keep = s.keep := by cases s; rfl
@[simp] theorem State.emits_cfg (s : State) (os : List Out) : (s.emits os).cfg = s.cfg := by cases s; rfl
@[simp] theorem State.emits_pke (s : State) (os : List Out) : (s.emits os).pke = s.pke := by cases s; rfl
@[simp] theorem State.emits_clk (s : State) (os : List Out) : (s.emits os).clk = s.clk := by cases s; rfl
@[simp] theorem State.emits_mgmt (s : State) (os : List Out) : (s.emits os).mgmt = s.mgmt := by cases s; rfl
@[simp] theorem State.emits_pins (s : State) (os : List Out) : (s.emits os).pins = s.pins := by cases s; rfl
@[simp] theorem State.emits_enginesOut (s : State) (os : List Out) : (s.emits os).enginesOut = s.enginesOut := by cases s; rfl

@[simp] theorem State.setCmd_now (s : State) (k : Nat) (c : CmdSt) : (s.setCmd k c).now = s.now := by cases s; rfl
@[simp] theorem State.setCmd_free (s : State) (k : Nat) (c : CmdSt) : (s.setCmd k c).free = s.free := by cases s; rfl
@[simp] theorem State.setCmd_pending (s : State) (k : Nat) (c : CmdSt) : (s.setCmd k c).pending = s.pending := by cases s; rfl
@[simp] theorem State.setCmd_regs (s : State) (k : Nat) (c : CmdSt) : (s.setCmd k c).regs = s.regs := by cases s; rfl
@[simp] theorem State.setCmd_out (s : State) (k : Nat) (c : CmdSt) : (s.setCmd k c).out = s.out := by cases s; rfl
@[simp] theorem State.setCmd_berths (s : State) (k : Nat) (c : CmdSt) : (s.setCmd k c).berths = s.berths := by cases s; rfl
@[simp] theorem State.setCmd_ports (s : State) (k : Nat) (c : CmdSt) : (s.setCmd k c).ports = s.ports := by cases s; rfl
@[simp] theorem State.setCmd_lock (s : State) (k : Nat) (c : CmdSt) : (s.setCmd k c).lock = s.lock := by cases s; rfl
@[simp] theorem State.setCmd_weir (s : State) (k : Nat) (c : CmdSt) : (s.setCmd k c).weir = s.weir := by cases s; rfl
@[simp] theorem State.setCmd_sluice (s : State) (k : Nat) (c : CmdSt) : (s.setCmd k c).sluice = s.sluice := by cases s; rfl
@[simp] theorem State.setCmd_refloat (s : State) (k : Nat) (c : CmdSt) : (s.setCmd k c).refloat = s.refloat := by cases s; rfl
@[simp] theorem State.setCmd_drc (s : State) (k : Nat) (c : CmdSt) : (s.setCmd k c).drc = s.drc := by cases s; rfl
@[simp] theorem State.setCmd_fmm (s : State) (k : Nat) (c : CmdSt) : (s.setCmd k c).fmm = s.fmm := by cases s; rfl
@[simp] theorem State.setCmd_chart (s : State) (k : Nat) (c : CmdSt) : (s.setCmd k c).chart = s.chart := by cases s; rfl
@[simp] theorem State.setCmd_gauge (s : State) (k : Nat) (c : CmdSt) : (s.setCmd k c).gauge = s.gauge := by cases s; rfl
@[simp] theorem State.setCmd_fly (s : State) (k : Nat) (c : CmdSt) : (s.setCmd k c).fly = s.fly := by cases s; rfl
@[simp] theorem State.setCmd_seq (s : State) (k : Nat) (c : CmdSt) : (s.setCmd k c).seq = s.seq := by cases s; rfl
@[simp] theorem State.setCmd_log (s : State) (k : Nat) (c : CmdSt) : (s.setCmd k c).log = s.log := by cases s; rfl
@[simp] theorem State.setCmd_tow (s : State) (k : Nat) (c : CmdSt) : (s.setCmd k c).tow = s.tow := by cases s; rfl
@[simp] theorem State.setCmd_keep (s : State) (k : Nat) (c : CmdSt) : (s.setCmd k c).keep = s.keep := by cases s; rfl
@[simp] theorem State.setCmd_cfg (s : State) (k : Nat) (c : CmdSt) : (s.setCmd k c).cfg = s.cfg := by cases s; rfl
@[simp] theorem State.setCmd_pke (s : State) (k : Nat) (c : CmdSt) : (s.setCmd k c).pke = s.pke := by cases s; rfl
@[simp] theorem State.setCmd_clk (s : State) (k : Nat) (c : CmdSt) : (s.setCmd k c).clk = s.clk := by cases s; rfl
@[simp] theorem State.setCmd_mgmt (s : State) (k : Nat) (c : CmdSt) : (s.setCmd k c).mgmt = s.mgmt := by cases s; rfl
@[simp] theorem State.setCmd_pins (s : State) (k : Nat) (c : CmdSt) : (s.setCmd k c).pins = s.pins := by cases s; rfl
@[simp] theorem State.setCmd_enginesOut (s : State) (k : Nat) (c : CmdSt) : (s.setCmd k c).enginesOut = s.enginesOut := by cases s; rfl

@[simp] theorem report_now (src : Nat) (severe : Bool) (detail : BitVec 48) (s : State) : (report src severe detail s).now = s.now := by cases s; rfl
@[simp] theorem report_free (src : Nat) (severe : Bool) (detail : BitVec 48) (s : State) : (report src severe detail s).free = s.free := by cases s; rfl
@[simp] theorem report_pending (src : Nat) (severe : Bool) (detail : BitVec 48) (s : State) : (report src severe detail s).pending = s.pending := by cases s; rfl
@[simp] theorem report_regs (src : Nat) (severe : Bool) (detail : BitVec 48) (s : State) : (report src severe detail s).regs = s.regs := by cases s; rfl
@[simp] theorem report_cmds (src : Nat) (severe : Bool) (detail : BitVec 48) (s : State) : (report src severe detail s).cmds = s.cmds := by cases s; rfl
@[simp] theorem report_out (src : Nat) (severe : Bool) (detail : BitVec 48) (s : State) : (report src severe detail s).out = s.out := by cases s; rfl
@[simp] theorem report_berths (src : Nat) (severe : Bool) (detail : BitVec 48) (s : State) : (report src severe detail s).berths = s.berths := by cases s; rfl
@[simp] theorem report_ports (src : Nat) (severe : Bool) (detail : BitVec 48) (s : State) : (report src severe detail s).ports = s.ports := by cases s; rfl
@[simp] theorem report_lock (src : Nat) (severe : Bool) (detail : BitVec 48) (s : State) : (report src severe detail s).lock = s.lock := by cases s; rfl
@[simp] theorem report_weir (src : Nat) (severe : Bool) (detail : BitVec 48) (s : State) : (report src severe detail s).weir = s.weir := by cases s; rfl
@[simp] theorem report_sluice (src : Nat) (severe : Bool) (detail : BitVec 48) (s : State) : (report src severe detail s).sluice = s.sluice := by cases s; rfl
@[simp] theorem report_refloat (src : Nat) (severe : Bool) (detail : BitVec 48) (s : State) : (report src severe detail s).refloat = s.refloat := by cases s; rfl
@[simp] theorem report_drc (src : Nat) (severe : Bool) (detail : BitVec 48) (s : State) : (report src severe detail s).drc = s.drc := by cases s; rfl
@[simp] theorem report_fmm (src : Nat) (severe : Bool) (detail : BitVec 48) (s : State) : (report src severe detail s).fmm = s.fmm := by cases s; rfl
@[simp] theorem report_chart (src : Nat) (severe : Bool) (detail : BitVec 48) (s : State) : (report src severe detail s).chart = s.chart := by cases s; rfl
@[simp] theorem report_gauge (src : Nat) (severe : Bool) (detail : BitVec 48) (s : State) : (report src severe detail s).gauge = s.gauge := by cases s; rfl
@[simp] theorem report_fly (src : Nat) (severe : Bool) (detail : BitVec 48) (s : State) : (report src severe detail s).fly = s.fly := by cases s; rfl
@[simp] theorem report_seq (src : Nat) (severe : Bool) (detail : BitVec 48) (s : State) : (report src severe detail s).seq = s.seq := by cases s; rfl
@[simp] theorem report_log (src : Nat) (severe : Bool) (detail : BitVec 48) (s : State) : (report src severe detail s).log = s.log := by cases s; rfl
@[simp] theorem report_tow (src : Nat) (severe : Bool) (detail : BitVec 48) (s : State) : (report src severe detail s).tow = s.tow := by cases s; rfl
@[simp] theorem report_cfg (src : Nat) (severe : Bool) (detail : BitVec 48) (s : State) : (report src severe detail s).cfg = s.cfg := by cases s; rfl
@[simp] theorem report_pke (src : Nat) (severe : Bool) (detail : BitVec 48) (s : State) : (report src severe detail s).pke = s.pke := by cases s; rfl
@[simp] theorem report_clk (src : Nat) (severe : Bool) (detail : BitVec 48) (s : State) : (report src severe detail s).clk = s.clk := by cases s; rfl
@[simp] theorem report_mgmt (src : Nat) (severe : Bool) (detail : BitVec 48) (s : State) : (report src severe detail s).mgmt = s.mgmt := by cases s; rfl
@[simp] theorem report_pins (src : Nat) (severe : Bool) (detail : BitVec 48) (s : State) : (report src severe detail s).pins = s.pins := by cases s; rfl
@[simp] theorem report_enginesOut (src : Nat) (severe : Bool) (detail : BitVec 48) (s : State) : (report src severe detail s).enginesOut = s.enginesOut := by cases s; rfl

@[simp] theorem State.setFmm_now (s : State) (f : Fmm) : (s.setFmm f).now = s.now := by cases s; rfl
@[simp] theorem State.setFmm_free (s : State) (f : Fmm) : (s.setFmm f).free = s.free := by cases s; rfl
@[simp] theorem State.setFmm_pending (s : State) (f : Fmm) : (s.setFmm f).pending = s.pending := by cases s; rfl
@[simp] theorem State.setFmm_regs (s : State) (f : Fmm) : (s.setFmm f).regs = s.regs := by cases s; rfl
@[simp] theorem State.setFmm_cmds (s : State) (f : Fmm) : (s.setFmm f).cmds = s.cmds := by cases s; rfl
@[simp] theorem State.setFmm_out (s : State) (f : Fmm) : (s.setFmm f).out = s.out := by cases s; rfl
@[simp] theorem State.setFmm_berths (s : State) (f : Fmm) : (s.setFmm f).berths = s.berths := by cases s; rfl
@[simp] theorem State.setFmm_ports (s : State) (f : Fmm) : (s.setFmm f).ports = s.ports := by cases s; rfl
@[simp] theorem State.setFmm_lock (s : State) (f : Fmm) : (s.setFmm f).lock = s.lock := by cases s; rfl
@[simp] theorem State.setFmm_weir (s : State) (f : Fmm) : (s.setFmm f).weir = s.weir := by cases s; rfl
@[simp] theorem State.setFmm_sluice (s : State) (f : Fmm) : (s.setFmm f).sluice = s.sluice := by cases s; rfl
@[simp] theorem State.setFmm_refloat (s : State) (f : Fmm) : (s.setFmm f).refloat = s.refloat := by cases s; rfl
@[simp] theorem State.setFmm_drc (s : State) (f : Fmm) : (s.setFmm f).drc = s.drc := by cases s; rfl
@[simp] theorem State.setFmm_chart (s : State) (f : Fmm) : (s.setFmm f).chart = s.chart := by cases s; rfl
@[simp] theorem State.setFmm_gauge (s : State) (f : Fmm) : (s.setFmm f).gauge = s.gauge := by cases s; rfl
@[simp] theorem State.setFmm_fly (s : State) (f : Fmm) : (s.setFmm f).fly = s.fly := by cases s; rfl
@[simp] theorem State.setFmm_seq (s : State) (f : Fmm) : (s.setFmm f).seq = s.seq := by cases s; rfl
@[simp] theorem State.setFmm_log (s : State) (f : Fmm) : (s.setFmm f).log = s.log := by cases s; rfl
@[simp] theorem State.setFmm_tow (s : State) (f : Fmm) : (s.setFmm f).tow = s.tow := by cases s; rfl
@[simp] theorem State.setFmm_keep (s : State) (f : Fmm) : (s.setFmm f).keep = s.keep := by cases s; rfl
@[simp] theorem State.setFmm_cfg (s : State) (f : Fmm) : (s.setFmm f).cfg = s.cfg := by cases s; rfl
@[simp] theorem State.setFmm_pke (s : State) (f : Fmm) : (s.setFmm f).pke = s.pke := by cases s; rfl
@[simp] theorem State.setFmm_clk (s : State) (f : Fmm) : (s.setFmm f).clk = s.clk := by cases s; rfl
@[simp] theorem State.setFmm_mgmt (s : State) (f : Fmm) : (s.setFmm f).mgmt = s.mgmt := by cases s; rfl
@[simp] theorem State.setFmm_pins (s : State) (f : Fmm) : (s.setFmm f).pins = s.pins := by cases s; rfl
@[simp] theorem State.setFmm_enginesOut (s : State) (f : Fmm) : (s.setFmm f).enginesOut = s.enginesOut := by cases s; rfl

@[simp] theorem State.setBarge_now (s : State) (i : Nat) (b : Barge) : (s.setBarge i b).now = s.now := by cases s; rfl
@[simp] theorem State.setBarge_free (s : State) (i : Nat) (b : Barge) : (s.setBarge i b).free = s.free := by cases s; rfl
@[simp] theorem State.setBarge_pending (s : State) (i : Nat) (b : Barge) : (s.setBarge i b).pending = s.pending := by cases s; rfl
@[simp] theorem State.setBarge_regs (s : State) (i : Nat) (b : Barge) : (s.setBarge i b).regs = s.regs := by cases s; rfl
@[simp] theorem State.setBarge_cmds (s : State) (i : Nat) (b : Barge) : (s.setBarge i b).cmds = s.cmds := by cases s; rfl
@[simp] theorem State.setBarge_out (s : State) (i : Nat) (b : Barge) : (s.setBarge i b).out = s.out := by cases s; rfl
@[simp] theorem State.setBarge_berths (s : State) (i : Nat) (b : Barge) : (s.setBarge i b).berths = s.berths := by cases s; rfl
@[simp] theorem State.setBarge_ports (s : State) (i : Nat) (b : Barge) : (s.setBarge i b).ports = s.ports := by cases s; rfl
@[simp] theorem State.setBarge_lock (s : State) (i : Nat) (b : Barge) : (s.setBarge i b).lock = s.lock := by cases s; rfl
@[simp] theorem State.setBarge_weir (s : State) (i : Nat) (b : Barge) : (s.setBarge i b).weir = s.weir := by cases s; rfl
@[simp] theorem State.setBarge_sluice (s : State) (i : Nat) (b : Barge) : (s.setBarge i b).sluice = s.sluice := by cases s; rfl
@[simp] theorem State.setBarge_refloat (s : State) (i : Nat) (b : Barge) : (s.setBarge i b).refloat = s.refloat := by cases s; rfl
@[simp] theorem State.setBarge_drc (s : State) (i : Nat) (b : Barge) : (s.setBarge i b).drc = s.drc := by cases s; rfl
@[simp] theorem State.setBarge_chart (s : State) (i : Nat) (b : Barge) : (s.setBarge i b).chart = s.chart := by cases s; rfl
@[simp] theorem State.setBarge_gauge (s : State) (i : Nat) (b : Barge) : (s.setBarge i b).gauge = s.gauge := by cases s; rfl
@[simp] theorem State.setBarge_fly (s : State) (i : Nat) (b : Barge) : (s.setBarge i b).fly = s.fly := by cases s; rfl
@[simp] theorem State.setBarge_seq (s : State) (i : Nat) (b : Barge) : (s.setBarge i b).seq = s.seq := by cases s; rfl
@[simp] theorem State.setBarge_log (s : State) (i : Nat) (b : Barge) : (s.setBarge i b).log = s.log := by cases s; rfl
@[simp] theorem State.setBarge_tow (s : State) (i : Nat) (b : Barge) : (s.setBarge i b).tow = s.tow := by cases s; rfl
@[simp] theorem State.setBarge_keep (s : State) (i : Nat) (b : Barge) : (s.setBarge i b).keep = s.keep := by cases s; rfl
@[simp] theorem State.setBarge_cfg (s : State) (i : Nat) (b : Barge) : (s.setBarge i b).cfg = s.cfg := by cases s; rfl
@[simp] theorem State.setBarge_pke (s : State) (i : Nat) (b : Barge) : (s.setBarge i b).pke = s.pke := by cases s; rfl
@[simp] theorem State.setBarge_clk (s : State) (i : Nat) (b : Barge) : (s.setBarge i b).clk = s.clk := by cases s; rfl
@[simp] theorem State.setBarge_mgmt (s : State) (i : Nat) (b : Barge) : (s.setBarge i b).mgmt = s.mgmt := by cases s; rfl
@[simp] theorem State.setBarge_pins (s : State) (i : Nat) (b : Barge) : (s.setBarge i b).pins = s.pins := by cases s; rfl
@[simp] theorem State.setBarge_enginesOut (s : State) (i : Nat) (b : Barge) : (s.setBarge i b).enginesOut = s.enginesOut := by cases s; rfl

@[simp] theorem State.setBlk_now (s : State) (n : Nat) (b : Blk) : (s.setBlk n b).now = s.now := by cases s; rfl
@[simp] theorem State.setBlk_free (s : State) (n : Nat) (b : Blk) : (s.setBlk n b).free = s.free := by cases s; rfl
@[simp] theorem State.setBlk_pending (s : State) (n : Nat) (b : Blk) : (s.setBlk n b).pending = s.pending := by cases s; rfl
@[simp] theorem State.setBlk_regs (s : State) (n : Nat) (b : Blk) : (s.setBlk n b).regs = s.regs := by cases s; rfl
@[simp] theorem State.setBlk_cmds (s : State) (n : Nat) (b : Blk) : (s.setBlk n b).cmds = s.cmds := by cases s; rfl
@[simp] theorem State.setBlk_out (s : State) (n : Nat) (b : Blk) : (s.setBlk n b).out = s.out := by cases s; rfl
@[simp] theorem State.setBlk_berths (s : State) (n : Nat) (b : Blk) : (s.setBlk n b).berths = s.berths := by cases s; rfl
@[simp] theorem State.setBlk_ports (s : State) (n : Nat) (b : Blk) : (s.setBlk n b).ports = s.ports := by cases s; rfl
@[simp] theorem State.setBlk_lock (s : State) (n : Nat) (b : Blk) : (s.setBlk n b).lock = s.lock := by cases s; rfl
@[simp] theorem State.setBlk_weir (s : State) (n : Nat) (b : Blk) : (s.setBlk n b).weir = s.weir := by cases s; rfl
@[simp] theorem State.setBlk_sluice (s : State) (n : Nat) (b : Blk) : (s.setBlk n b).sluice = s.sluice := by cases s; rfl
@[simp] theorem State.setBlk_refloat (s : State) (n : Nat) (b : Blk) : (s.setBlk n b).refloat = s.refloat := by cases s; rfl
@[simp] theorem State.setBlk_drc (s : State) (n : Nat) (b : Blk) : (s.setBlk n b).drc = s.drc := by cases s; rfl
@[simp] theorem State.setBlk_chart (s : State) (n : Nat) (b : Blk) : (s.setBlk n b).chart = s.chart := by cases s; rfl
@[simp] theorem State.setBlk_gauge (s : State) (n : Nat) (b : Blk) : (s.setBlk n b).gauge = s.gauge := by cases s; rfl
@[simp] theorem State.setBlk_fly (s : State) (n : Nat) (b : Blk) : (s.setBlk n b).fly = s.fly := by cases s; rfl
@[simp] theorem State.setBlk_seq (s : State) (n : Nat) (b : Blk) : (s.setBlk n b).seq = s.seq := by cases s; rfl
@[simp] theorem State.setBlk_log (s : State) (n : Nat) (b : Blk) : (s.setBlk n b).log = s.log := by cases s; rfl
@[simp] theorem State.setBlk_tow (s : State) (n : Nat) (b : Blk) : (s.setBlk n b).tow = s.tow := by cases s; rfl
@[simp] theorem State.setBlk_keep (s : State) (n : Nat) (b : Blk) : (s.setBlk n b).keep = s.keep := by cases s; rfl
@[simp] theorem State.setBlk_cfg (s : State) (n : Nat) (b : Blk) : (s.setBlk n b).cfg = s.cfg := by cases s; rfl
@[simp] theorem State.setBlk_pke (s : State) (n : Nat) (b : Blk) : (s.setBlk n b).pke = s.pke := by cases s; rfl
@[simp] theorem State.setBlk_clk (s : State) (n : Nat) (b : Blk) : (s.setBlk n b).clk = s.clk := by cases s; rfl
@[simp] theorem State.setBlk_mgmt (s : State) (n : Nat) (b : Blk) : (s.setBlk n b).mgmt = s.mgmt := by cases s; rfl
@[simp] theorem State.setBlk_pins (s : State) (n : Nat) (b : Blk) : (s.setBlk n b).pins = s.pins := by cases s; rfl
@[simp] theorem State.setBlk_enginesOut (s : State) (n : Nat) (b : Blk) : (s.setBlk n b).enginesOut = s.enginesOut := by cases s; rfl

@[simp] theorem State.setPage_now (s : State) (i : Nat) (p : Cpt) : (s.setPage i p).now = s.now := by cases s; rfl
@[simp] theorem State.setPage_free (s : State) (i : Nat) (p : Cpt) : (s.setPage i p).free = s.free := by cases s; rfl
@[simp] theorem State.setPage_pending (s : State) (i : Nat) (p : Cpt) : (s.setPage i p).pending = s.pending := by cases s; rfl
@[simp] theorem State.setPage_regs (s : State) (i : Nat) (p : Cpt) : (s.setPage i p).regs = s.regs := by cases s; rfl
@[simp] theorem State.setPage_cmds (s : State) (i : Nat) (p : Cpt) : (s.setPage i p).cmds = s.cmds := by cases s; rfl
@[simp] theorem State.setPage_out (s : State) (i : Nat) (p : Cpt) : (s.setPage i p).out = s.out := by cases s; rfl
@[simp] theorem State.setPage_berths (s : State) (i : Nat) (p : Cpt) : (s.setPage i p).berths = s.berths := by cases s; rfl
@[simp] theorem State.setPage_ports (s : State) (i : Nat) (p : Cpt) : (s.setPage i p).ports = s.ports := by cases s; rfl
@[simp] theorem State.setPage_lock (s : State) (i : Nat) (p : Cpt) : (s.setPage i p).lock = s.lock := by cases s; rfl
@[simp] theorem State.setPage_weir (s : State) (i : Nat) (p : Cpt) : (s.setPage i p).weir = s.weir := by cases s; rfl
@[simp] theorem State.setPage_sluice (s : State) (i : Nat) (p : Cpt) : (s.setPage i p).sluice = s.sluice := by cases s; rfl
@[simp] theorem State.setPage_refloat (s : State) (i : Nat) (p : Cpt) : (s.setPage i p).refloat = s.refloat := by cases s; rfl
@[simp] theorem State.setPage_drc (s : State) (i : Nat) (p : Cpt) : (s.setPage i p).drc = s.drc := by cases s; rfl
@[simp] theorem State.setPage_chart (s : State) (i : Nat) (p : Cpt) : (s.setPage i p).chart = s.chart := by cases s; rfl
@[simp] theorem State.setPage_gauge (s : State) (i : Nat) (p : Cpt) : (s.setPage i p).gauge = s.gauge := by cases s; rfl
@[simp] theorem State.setPage_fly (s : State) (i : Nat) (p : Cpt) : (s.setPage i p).fly = s.fly := by cases s; rfl
@[simp] theorem State.setPage_seq (s : State) (i : Nat) (p : Cpt) : (s.setPage i p).seq = s.seq := by cases s; rfl
@[simp] theorem State.setPage_log (s : State) (i : Nat) (p : Cpt) : (s.setPage i p).log = s.log := by cases s; rfl
@[simp] theorem State.setPage_tow (s : State) (i : Nat) (p : Cpt) : (s.setPage i p).tow = s.tow := by cases s; rfl
@[simp] theorem State.setPage_keep (s : State) (i : Nat) (p : Cpt) : (s.setPage i p).keep = s.keep := by cases s; rfl
@[simp] theorem State.setPage_cfg (s : State) (i : Nat) (p : Cpt) : (s.setPage i p).cfg = s.cfg := by cases s; rfl
@[simp] theorem State.setPage_pke (s : State) (i : Nat) (p : Cpt) : (s.setPage i p).pke = s.pke := by cases s; rfl
@[simp] theorem State.setPage_clk (s : State) (i : Nat) (p : Cpt) : (s.setPage i p).clk = s.clk := by cases s; rfl
@[simp] theorem State.setPage_mgmt (s : State) (i : Nat) (p : Cpt) : (s.setPage i p).mgmt = s.mgmt := by cases s; rfl
@[simp] theorem State.setPage_pins (s : State) (i : Nat) (p : Cpt) : (s.setPage i p).pins = s.pins := by cases s; rfl
@[simp] theorem State.setPage_enginesOut (s : State) (i : Nat) (p : Cpt) : (s.setPage i p).enginesOut = s.enginesOut := by cases s; rfl

@[simp] theorem State.setRow_now (s : State) (sb : Nat) (row : Nat) (r : Row) : (s.setRow sb row r).now = s.now := by cases s; rfl
@[simp] theorem State.setRow_free (s : State) (sb : Nat) (row : Nat) (r : Row) : (s.setRow sb row r).free = s.free := by cases s; rfl
@[simp] theorem State.setRow_pending (s : State) (sb : Nat) (row : Nat) (r : Row) : (s.setRow sb row r).pending = s.pending := by cases s; rfl
@[simp] theorem State.setRow_regs (s : State) (sb : Nat) (row : Nat) (r : Row) : (s.setRow sb row r).regs = s.regs := by cases s; rfl
@[simp] theorem State.setRow_cmds (s : State) (sb : Nat) (row : Nat) (r : Row) : (s.setRow sb row r).cmds = s.cmds := by cases s; rfl
@[simp] theorem State.setRow_out (s : State) (sb : Nat) (row : Nat) (r : Row) : (s.setRow sb row r).out = s.out := by cases s; rfl
@[simp] theorem State.setRow_berths (s : State) (sb : Nat) (row : Nat) (r : Row) : (s.setRow sb row r).berths = s.berths := by cases s; rfl
@[simp] theorem State.setRow_ports (s : State) (sb : Nat) (row : Nat) (r : Row) : (s.setRow sb row r).ports = s.ports := by cases s; rfl
@[simp] theorem State.setRow_lock (s : State) (sb : Nat) (row : Nat) (r : Row) : (s.setRow sb row r).lock = s.lock := by cases s; rfl
@[simp] theorem State.setRow_weir (s : State) (sb : Nat) (row : Nat) (r : Row) : (s.setRow sb row r).weir = s.weir := by cases s; rfl
@[simp] theorem State.setRow_sluice (s : State) (sb : Nat) (row : Nat) (r : Row) : (s.setRow sb row r).sluice = s.sluice := by cases s; rfl
@[simp] theorem State.setRow_refloat (s : State) (sb : Nat) (row : Nat) (r : Row) : (s.setRow sb row r).refloat = s.refloat := by cases s; rfl
@[simp] theorem State.setRow_drc (s : State) (sb : Nat) (row : Nat) (r : Row) : (s.setRow sb row r).drc = s.drc := by cases s; rfl
@[simp] theorem State.setRow_chart (s : State) (sb : Nat) (row : Nat) (r : Row) : (s.setRow sb row r).chart = s.chart := by cases s; rfl
@[simp] theorem State.setRow_gauge (s : State) (sb : Nat) (row : Nat) (r : Row) : (s.setRow sb row r).gauge = s.gauge := by cases s; rfl
@[simp] theorem State.setRow_fly (s : State) (sb : Nat) (row : Nat) (r : Row) : (s.setRow sb row r).fly = s.fly := by cases s; rfl
@[simp] theorem State.setRow_seq (s : State) (sb : Nat) (row : Nat) (r : Row) : (s.setRow sb row r).seq = s.seq := by cases s; rfl
@[simp] theorem State.setRow_log (s : State) (sb : Nat) (row : Nat) (r : Row) : (s.setRow sb row r).log = s.log := by cases s; rfl
@[simp] theorem State.setRow_tow (s : State) (sb : Nat) (row : Nat) (r : Row) : (s.setRow sb row r).tow = s.tow := by cases s; rfl
@[simp] theorem State.setRow_keep (s : State) (sb : Nat) (row : Nat) (r : Row) : (s.setRow sb row r).keep = s.keep := by cases s; rfl
@[simp] theorem State.setRow_cfg (s : State) (sb : Nat) (row : Nat) (r : Row) : (s.setRow sb row r).cfg = s.cfg := by cases s; rfl
@[simp] theorem State.setRow_pke (s : State) (sb : Nat) (row : Nat) (r : Row) : (s.setRow sb row r).pke = s.pke := by cases s; rfl
@[simp] theorem State.setRow_clk (s : State) (sb : Nat) (row : Nat) (r : Row) : (s.setRow sb row r).clk = s.clk := by cases s; rfl
@[simp] theorem State.setRow_mgmt (s : State) (sb : Nat) (row : Nat) (r : Row) : (s.setRow sb row r).mgmt = s.mgmt := by cases s; rfl
@[simp] theorem State.setRow_pins (s : State) (sb : Nat) (row : Nat) (r : Row) : (s.setRow sb row r).pins = s.pins := by cases s; rfl
@[simp] theorem State.setRow_enginesOut (s : State) (sb : Nat) (row : Nat) (r : Row) : (s.setRow sb row r).enginesOut = s.enginesOut := by cases s; rfl

@[simp] theorem State.setSb_now (s : State) (i : Nat) (b : Sb) : (s.setSb i b).now = s.now := by cases s; rfl
@[simp] theorem State.setSb_free (s : State) (i : Nat) (b : Sb) : (s.setSb i b).free = s.free := by cases s; rfl
@[simp] theorem State.setSb_pending (s : State) (i : Nat) (b : Sb) : (s.setSb i b).pending = s.pending := by cases s; rfl
@[simp] theorem State.setSb_regs (s : State) (i : Nat) (b : Sb) : (s.setSb i b).regs = s.regs := by cases s; rfl
@[simp] theorem State.setSb_cmds (s : State) (i : Nat) (b : Sb) : (s.setSb i b).cmds = s.cmds := by cases s; rfl
@[simp] theorem State.setSb_out (s : State) (i : Nat) (b : Sb) : (s.setSb i b).out = s.out := by cases s; rfl
@[simp] theorem State.setSb_berths (s : State) (i : Nat) (b : Sb) : (s.setSb i b).berths = s.berths := by cases s; rfl
@[simp] theorem State.setSb_ports (s : State) (i : Nat) (b : Sb) : (s.setSb i b).ports = s.ports := by cases s; rfl
@[simp] theorem State.setSb_lock (s : State) (i : Nat) (b : Sb) : (s.setSb i b).lock = s.lock := by cases s; rfl
@[simp] theorem State.setSb_weir (s : State) (i : Nat) (b : Sb) : (s.setSb i b).weir = s.weir := by cases s; rfl
@[simp] theorem State.setSb_sluice (s : State) (i : Nat) (b : Sb) : (s.setSb i b).sluice = s.sluice := by cases s; rfl
@[simp] theorem State.setSb_refloat (s : State) (i : Nat) (b : Sb) : (s.setSb i b).refloat = s.refloat := by cases s; rfl
@[simp] theorem State.setSb_drc (s : State) (i : Nat) (b : Sb) : (s.setSb i b).drc = s.drc := by cases s; rfl
@[simp] theorem State.setSb_chart (s : State) (i : Nat) (b : Sb) : (s.setSb i b).chart = s.chart := by cases s; rfl
@[simp] theorem State.setSb_gauge (s : State) (i : Nat) (b : Sb) : (s.setSb i b).gauge = s.gauge := by cases s; rfl
@[simp] theorem State.setSb_fly (s : State) (i : Nat) (b : Sb) : (s.setSb i b).fly = s.fly := by cases s; rfl
@[simp] theorem State.setSb_seq (s : State) (i : Nat) (b : Sb) : (s.setSb i b).seq = s.seq := by cases s; rfl
@[simp] theorem State.setSb_log (s : State) (i : Nat) (b : Sb) : (s.setSb i b).log = s.log := by cases s; rfl
@[simp] theorem State.setSb_tow (s : State) (i : Nat) (b : Sb) : (s.setSb i b).tow = s.tow := by cases s; rfl
@[simp] theorem State.setSb_keep (s : State) (i : Nat) (b : Sb) : (s.setSb i b).keep = s.keep := by cases s; rfl
@[simp] theorem State.setSb_cfg (s : State) (i : Nat) (b : Sb) : (s.setSb i b).cfg = s.cfg := by cases s; rfl
@[simp] theorem State.setSb_pke (s : State) (i : Nat) (b : Sb) : (s.setSb i b).pke = s.pke := by cases s; rfl
@[simp] theorem State.setSb_clk (s : State) (i : Nat) (b : Sb) : (s.setSb i b).clk = s.clk := by cases s; rfl
@[simp] theorem State.setSb_mgmt (s : State) (i : Nat) (b : Sb) : (s.setSb i b).mgmt = s.mgmt := by cases s; rfl
@[simp] theorem State.setSb_pins (s : State) (i : Nat) (b : Sb) : (s.setSb i b).pins = s.pins := by cases s; rfl
@[simp] theorem State.setSb_enginesOut (s : State) (i : Nat) (b : Sb) : (s.setSb i b).enginesOut = s.enginesOut := by cases s; rfl

@[simp] theorem State.setPke_now (s : State) (x : Pke) : (s.setPke x).now = s.now := by cases s; rfl
@[simp] theorem State.setPke_free (s : State) (x : Pke) : (s.setPke x).free = s.free := by cases s; rfl
@[simp] theorem State.setPke_pending (s : State) (x : Pke) : (s.setPke x).pending = s.pending := by cases s; rfl
@[simp] theorem State.setPke_regs (s : State) (x : Pke) : (s.setPke x).regs = s.regs := by cases s; rfl
@[simp] theorem State.setPke_cmds (s : State) (x : Pke) : (s.setPke x).cmds = s.cmds := by cases s; rfl
@[simp] theorem State.setPke_out (s : State) (x : Pke) : (s.setPke x).out = s.out := by cases s; rfl
@[simp] theorem State.setPke_berths (s : State) (x : Pke) : (s.setPke x).berths = s.berths := by cases s; rfl
@[simp] theorem State.setPke_ports (s : State) (x : Pke) : (s.setPke x).ports = s.ports := by cases s; rfl
@[simp] theorem State.setPke_lock (s : State) (x : Pke) : (s.setPke x).lock = s.lock := by cases s; rfl
@[simp] theorem State.setPke_weir (s : State) (x : Pke) : (s.setPke x).weir = s.weir := by cases s; rfl
@[simp] theorem State.setPke_sluice (s : State) (x : Pke) : (s.setPke x).sluice = s.sluice := by cases s; rfl
@[simp] theorem State.setPke_refloat (s : State) (x : Pke) : (s.setPke x).refloat = s.refloat := by cases s; rfl
@[simp] theorem State.setPke_drc (s : State) (x : Pke) : (s.setPke x).drc = s.drc := by cases s; rfl
@[simp] theorem State.setPke_fmm (s : State) (x : Pke) : (s.setPke x).fmm = s.fmm := by cases s; rfl
@[simp] theorem State.setPke_chart (s : State) (x : Pke) : (s.setPke x).chart = s.chart := by cases s; rfl
@[simp] theorem State.setPke_gauge (s : State) (x : Pke) : (s.setPke x).gauge = s.gauge := by cases s; rfl
@[simp] theorem State.setPke_fly (s : State) (x : Pke) : (s.setPke x).fly = s.fly := by cases s; rfl
@[simp] theorem State.setPke_seq (s : State) (x : Pke) : (s.setPke x).seq = s.seq := by cases s; rfl
@[simp] theorem State.setPke_log (s : State) (x : Pke) : (s.setPke x).log = s.log := by cases s; rfl
@[simp] theorem State.setPke_tow (s : State) (x : Pke) : (s.setPke x).tow = s.tow := by cases s; rfl
@[simp] theorem State.setPke_keep (s : State) (x : Pke) : (s.setPke x).keep = s.keep := by cases s; rfl
@[simp] theorem State.setPke_cfg (s : State) (x : Pke) : (s.setPke x).cfg = s.cfg := by cases s; rfl
@[simp] theorem State.setPke_clk (s : State) (x : Pke) : (s.setPke x).clk = s.clk := by cases s; rfl
@[simp] theorem State.setPke_mgmt (s : State) (x : Pke) : (s.setPke x).mgmt = s.mgmt := by cases s; rfl
@[simp] theorem State.setPke_pins (s : State) (x : Pke) : (s.setPke x).pins = s.pins := by cases s; rfl
@[simp] theorem State.setPke_enginesOut (s : State) (x : Pke) : (s.setPke x).enginesOut = s.enginesOut := by cases s; rfl

@[simp] theorem State.setCfg_now (s : State) (c : Cfg) : (s.setCfg c).now = s.now := by cases s; rfl
@[simp] theorem State.setCfg_free (s : State) (c : Cfg) : (s.setCfg c).free = s.free := by cases s; rfl
@[simp] theorem State.setCfg_pending (s : State) (c : Cfg) : (s.setCfg c).pending = s.pending := by cases s; rfl
@[simp] theorem State.setCfg_regs (s : State) (c : Cfg) : (s.setCfg c).regs = s.regs := by cases s; rfl
@[simp] theorem State.setCfg_cmds (s : State) (c : Cfg) : (s.setCfg c).cmds = s.cmds := by cases s; rfl
@[simp] theorem State.setCfg_out (s : State) (c : Cfg) : (s.setCfg c).out = s.out := by cases s; rfl
@[simp] theorem State.setCfg_berths (s : State) (c : Cfg) : (s.setCfg c).berths = s.berths := by cases s; rfl
@[simp] theorem State.setCfg_ports (s : State) (c : Cfg) : (s.setCfg c).ports = s.ports := by cases s; rfl
@[simp] theorem State.setCfg_lock (s : State) (c : Cfg) : (s.setCfg c).lock = s.lock := by cases s; rfl
@[simp] theorem State.setCfg_weir (s : State) (c : Cfg) : (s.setCfg c).weir = s.weir := by cases s; rfl
@[simp] theorem State.setCfg_sluice (s : State) (c : Cfg) : (s.setCfg c).sluice = s.sluice := by cases s; rfl
@[simp] theorem State.setCfg_refloat (s : State) (c : Cfg) : (s.setCfg c).refloat = s.refloat := by cases s; rfl
@[simp] theorem State.setCfg_drc (s : State) (c : Cfg) : (s.setCfg c).drc = s.drc := by cases s; rfl
@[simp] theorem State.setCfg_fmm (s : State) (c : Cfg) : (s.setCfg c).fmm = s.fmm := by cases s; rfl
@[simp] theorem State.setCfg_chart (s : State) (c : Cfg) : (s.setCfg c).chart = s.chart := by cases s; rfl
@[simp] theorem State.setCfg_gauge (s : State) (c : Cfg) : (s.setCfg c).gauge = s.gauge := by cases s; rfl
@[simp] theorem State.setCfg_fly (s : State) (c : Cfg) : (s.setCfg c).fly = s.fly := by cases s; rfl
@[simp] theorem State.setCfg_seq (s : State) (c : Cfg) : (s.setCfg c).seq = s.seq := by cases s; rfl
@[simp] theorem State.setCfg_log (s : State) (c : Cfg) : (s.setCfg c).log = s.log := by cases s; rfl
@[simp] theorem State.setCfg_tow (s : State) (c : Cfg) : (s.setCfg c).tow = s.tow := by cases s; rfl
@[simp] theorem State.setCfg_keep (s : State) (c : Cfg) : (s.setCfg c).keep = s.keep := by cases s; rfl
@[simp] theorem State.setCfg_pke (s : State) (c : Cfg) : (s.setCfg c).pke = s.pke := by cases s; rfl
@[simp] theorem State.setCfg_clk (s : State) (c : Cfg) : (s.setCfg c).clk = s.clk := by cases s; rfl
@[simp] theorem State.setCfg_mgmt (s : State) (c : Cfg) : (s.setCfg c).mgmt = s.mgmt := by cases s; rfl
@[simp] theorem State.setCfg_pins (s : State) (c : Cfg) : (s.setCfg c).pins = s.pins := by cases s; rfl
@[simp] theorem State.setCfg_enginesOut (s : State) (c : Cfg) : (s.setCfg c).enginesOut = s.enginesOut := by cases s; rfl

@[simp] theorem State.setFly_now (s : State) (f : Fly) : (s.setFly f).now = s.now := by cases s; rfl
@[simp] theorem State.setFly_free (s : State) (f : Fly) : (s.setFly f).free = s.free := by cases s; rfl
@[simp] theorem State.setFly_pending (s : State) (f : Fly) : (s.setFly f).pending = s.pending := by cases s; rfl
@[simp] theorem State.setFly_regs (s : State) (f : Fly) : (s.setFly f).regs = s.regs := by cases s; rfl
@[simp] theorem State.setFly_cmds (s : State) (f : Fly) : (s.setFly f).cmds = s.cmds := by cases s; rfl
@[simp] theorem State.setFly_out (s : State) (f : Fly) : (s.setFly f).out = s.out := by cases s; rfl
@[simp] theorem State.setFly_berths (s : State) (f : Fly) : (s.setFly f).berths = s.berths := by cases s; rfl
@[simp] theorem State.setFly_ports (s : State) (f : Fly) : (s.setFly f).ports = s.ports := by cases s; rfl
@[simp] theorem State.setFly_lock (s : State) (f : Fly) : (s.setFly f).lock = s.lock := by cases s; rfl
@[simp] theorem State.setFly_weir (s : State) (f : Fly) : (s.setFly f).weir = s.weir := by cases s; rfl
@[simp] theorem State.setFly_sluice (s : State) (f : Fly) : (s.setFly f).sluice = s.sluice := by cases s; rfl
@[simp] theorem State.setFly_refloat (s : State) (f : Fly) : (s.setFly f).refloat = s.refloat := by cases s; rfl
@[simp] theorem State.setFly_drc (s : State) (f : Fly) : (s.setFly f).drc = s.drc := by cases s; rfl
@[simp] theorem State.setFly_fmm (s : State) (f : Fly) : (s.setFly f).fmm = s.fmm := by cases s; rfl
@[simp] theorem State.setFly_chart (s : State) (f : Fly) : (s.setFly f).chart = s.chart := by cases s; rfl
@[simp] theorem State.setFly_gauge (s : State) (f : Fly) : (s.setFly f).gauge = s.gauge := by cases s; rfl
@[simp] theorem State.setFly_seq (s : State) (f : Fly) : (s.setFly f).seq = s.seq := by cases s; rfl
@[simp] theorem State.setFly_log (s : State) (f : Fly) : (s.setFly f).log = s.log := by cases s; rfl
@[simp] theorem State.setFly_tow (s : State) (f : Fly) : (s.setFly f).tow = s.tow := by cases s; rfl
@[simp] theorem State.setFly_keep (s : State) (f : Fly) : (s.setFly f).keep = s.keep := by cases s; rfl
@[simp] theorem State.setFly_cfg (s : State) (f : Fly) : (s.setFly f).cfg = s.cfg := by cases s; rfl
@[simp] theorem State.setFly_pke (s : State) (f : Fly) : (s.setFly f).pke = s.pke := by cases s; rfl
@[simp] theorem State.setFly_clk (s : State) (f : Fly) : (s.setFly f).clk = s.clk := by cases s; rfl
@[simp] theorem State.setFly_mgmt (s : State) (f : Fly) : (s.setFly f).mgmt = s.mgmt := by cases s; rfl
@[simp] theorem State.setFly_pins (s : State) (f : Fly) : (s.setFly f).pins = s.pins := by cases s; rfl
@[simp] theorem State.setFly_enginesOut (s : State) (f : Fly) : (s.setFly f).enginesOut = s.enginesOut := by cases s; rfl

@[simp] theorem State.setTow_now (s : State) (t : Tow) : (s.setTow t).now = s.now := by cases s; rfl
@[simp] theorem State.setTow_free (s : State) (t : Tow) : (s.setTow t).free = s.free := by cases s; rfl
@[simp] theorem State.setTow_pending (s : State) (t : Tow) : (s.setTow t).pending = s.pending := by cases s; rfl
@[simp] theorem State.setTow_regs (s : State) (t : Tow) : (s.setTow t).regs = s.regs := by cases s; rfl
@[simp] theorem State.setTow_cmds (s : State) (t : Tow) : (s.setTow t).cmds = s.cmds := by cases s; rfl
@[simp] theorem State.setTow_out (s : State) (t : Tow) : (s.setTow t).out = s.out := by cases s; rfl
@[simp] theorem State.setTow_berths (s : State) (t : Tow) : (s.setTow t).berths = s.berths := by cases s; rfl
@[simp] theorem State.setTow_ports (s : State) (t : Tow) : (s.setTow t).ports = s.ports := by cases s; rfl
@[simp] theorem State.setTow_lock (s : State) (t : Tow) : (s.setTow t).lock = s.lock := by cases s; rfl
@[simp] theorem State.setTow_weir (s : State) (t : Tow) : (s.setTow t).weir = s.weir := by cases s; rfl
@[simp] theorem State.setTow_sluice (s : State) (t : Tow) : (s.setTow t).sluice = s.sluice := by cases s; rfl
@[simp] theorem State.setTow_refloat (s : State) (t : Tow) : (s.setTow t).refloat = s.refloat := by cases s; rfl
@[simp] theorem State.setTow_drc (s : State) (t : Tow) : (s.setTow t).drc = s.drc := by cases s; rfl
@[simp] theorem State.setTow_fmm (s : State) (t : Tow) : (s.setTow t).fmm = s.fmm := by cases s; rfl
@[simp] theorem State.setTow_chart (s : State) (t : Tow) : (s.setTow t).chart = s.chart := by cases s; rfl
@[simp] theorem State.setTow_gauge (s : State) (t : Tow) : (s.setTow t).gauge = s.gauge := by cases s; rfl
@[simp] theorem State.setTow_fly (s : State) (t : Tow) : (s.setTow t).fly = s.fly := by cases s; rfl
@[simp] theorem State.setTow_seq (s : State) (t : Tow) : (s.setTow t).seq = s.seq := by cases s; rfl
@[simp] theorem State.setTow_log (s : State) (t : Tow) : (s.setTow t).log = s.log := by cases s; rfl
@[simp] theorem State.setTow_keep (s : State) (t : Tow) : (s.setTow t).keep = s.keep := by cases s; rfl
@[simp] theorem State.setTow_cfg (s : State) (t : Tow) : (s.setTow t).cfg = s.cfg := by cases s; rfl
@[simp] theorem State.setTow_pke (s : State) (t : Tow) : (s.setTow t).pke = s.pke := by cases s; rfl
@[simp] theorem State.setTow_clk (s : State) (t : Tow) : (s.setTow t).clk = s.clk := by cases s; rfl
@[simp] theorem State.setTow_mgmt (s : State) (t : Tow) : (s.setTow t).mgmt = s.mgmt := by cases s; rfl
@[simp] theorem State.setTow_pins (s : State) (t : Tow) : (s.setTow t).pins = s.pins := by cases s; rfl
@[simp] theorem State.setTow_enginesOut (s : State) (t : Tow) : (s.setTow t).enginesOut = s.enginesOut := by cases s; rfl

@[simp] theorem State.setSan_now (s : State) (x : San) : (s.setSan x).now = s.now := by cases s; rfl
@[simp] theorem State.setSan_free (s : State) (x : San) : (s.setSan x).free = s.free := by cases s; rfl
@[simp] theorem State.setSan_pending (s : State) (x : San) : (s.setSan x).pending = s.pending := by cases s; rfl
@[simp] theorem State.setSan_regs (s : State) (x : San) : (s.setSan x).regs = s.regs := by cases s; rfl
@[simp] theorem State.setSan_cmds (s : State) (x : San) : (s.setSan x).cmds = s.cmds := by cases s; rfl
@[simp] theorem State.setSan_out (s : State) (x : San) : (s.setSan x).out = s.out := by cases s; rfl
@[simp] theorem State.setSan_berths (s : State) (x : San) : (s.setSan x).berths = s.berths := by cases s; rfl
@[simp] theorem State.setSan_ports (s : State) (x : San) : (s.setSan x).ports = s.ports := by cases s; rfl
@[simp] theorem State.setSan_lock (s : State) (x : San) : (s.setSan x).lock = s.lock := by cases s; rfl
@[simp] theorem State.setSan_weir (s : State) (x : San) : (s.setSan x).weir = s.weir := by cases s; rfl
@[simp] theorem State.setSan_sluice (s : State) (x : San) : (s.setSan x).sluice = s.sluice := by cases s; rfl
@[simp] theorem State.setSan_refloat (s : State) (x : San) : (s.setSan x).refloat = s.refloat := by cases s; rfl
@[simp] theorem State.setSan_drc (s : State) (x : San) : (s.setSan x).drc = s.drc := by cases s; rfl
@[simp] theorem State.setSan_chart (s : State) (x : San) : (s.setSan x).chart = s.chart := by cases s; rfl
@[simp] theorem State.setSan_gauge (s : State) (x : San) : (s.setSan x).gauge = s.gauge := by cases s; rfl
@[simp] theorem State.setSan_fly (s : State) (x : San) : (s.setSan x).fly = s.fly := by cases s; rfl
@[simp] theorem State.setSan_seq (s : State) (x : San) : (s.setSan x).seq = s.seq := by cases s; rfl
@[simp] theorem State.setSan_log (s : State) (x : San) : (s.setSan x).log = s.log := by cases s; rfl
@[simp] theorem State.setSan_tow (s : State) (x : San) : (s.setSan x).tow = s.tow := by cases s; rfl
@[simp] theorem State.setSan_keep (s : State) (x : San) : (s.setSan x).keep = s.keep := by cases s; rfl
@[simp] theorem State.setSan_cfg (s : State) (x : San) : (s.setSan x).cfg = s.cfg := by cases s; rfl
@[simp] theorem State.setSan_pke (s : State) (x : San) : (s.setSan x).pke = s.pke := by cases s; rfl
@[simp] theorem State.setSan_clk (s : State) (x : San) : (s.setSan x).clk = s.clk := by cases s; rfl
@[simp] theorem State.setSan_mgmt (s : State) (x : San) : (s.setSan x).mgmt = s.mgmt := by cases s; rfl
@[simp] theorem State.setSan_pins (s : State) (x : San) : (s.setSan x).pins = s.pins := by cases s; rfl
@[simp] theorem State.setSan_enginesOut (s : State) (x : San) : (s.setSan x).enginesOut = s.enginesOut := by cases s; rfl

@[simp] theorem State.setRefloat_now (s : State) (r : Refloat) : (s.setRefloat r).now = s.now := by cases s; rfl
@[simp] theorem State.setRefloat_free (s : State) (r : Refloat) : (s.setRefloat r).free = s.free := by cases s; rfl
@[simp] theorem State.setRefloat_pending (s : State) (r : Refloat) : (s.setRefloat r).pending = s.pending := by cases s; rfl
@[simp] theorem State.setRefloat_regs (s : State) (r : Refloat) : (s.setRefloat r).regs = s.regs := by cases s; rfl
@[simp] theorem State.setRefloat_cmds (s : State) (r : Refloat) : (s.setRefloat r).cmds = s.cmds := by cases s; rfl
@[simp] theorem State.setRefloat_out (s : State) (r : Refloat) : (s.setRefloat r).out = s.out := by cases s; rfl
@[simp] theorem State.setRefloat_berths (s : State) (r : Refloat) : (s.setRefloat r).berths = s.berths := by cases s; rfl
@[simp] theorem State.setRefloat_ports (s : State) (r : Refloat) : (s.setRefloat r).ports = s.ports := by cases s; rfl
@[simp] theorem State.setRefloat_lock (s : State) (r : Refloat) : (s.setRefloat r).lock = s.lock := by cases s; rfl
@[simp] theorem State.setRefloat_weir (s : State) (r : Refloat) : (s.setRefloat r).weir = s.weir := by cases s; rfl
@[simp] theorem State.setRefloat_sluice (s : State) (r : Refloat) : (s.setRefloat r).sluice = s.sluice := by cases s; rfl
@[simp] theorem State.setRefloat_drc (s : State) (r : Refloat) : (s.setRefloat r).drc = s.drc := by cases s; rfl
@[simp] theorem State.setRefloat_fmm (s : State) (r : Refloat) : (s.setRefloat r).fmm = s.fmm := by cases s; rfl
@[simp] theorem State.setRefloat_chart (s : State) (r : Refloat) : (s.setRefloat r).chart = s.chart := by cases s; rfl
@[simp] theorem State.setRefloat_gauge (s : State) (r : Refloat) : (s.setRefloat r).gauge = s.gauge := by cases s; rfl
@[simp] theorem State.setRefloat_fly (s : State) (r : Refloat) : (s.setRefloat r).fly = s.fly := by cases s; rfl
@[simp] theorem State.setRefloat_seq (s : State) (r : Refloat) : (s.setRefloat r).seq = s.seq := by cases s; rfl
@[simp] theorem State.setRefloat_log (s : State) (r : Refloat) : (s.setRefloat r).log = s.log := by cases s; rfl
@[simp] theorem State.setRefloat_tow (s : State) (r : Refloat) : (s.setRefloat r).tow = s.tow := by cases s; rfl
@[simp] theorem State.setRefloat_keep (s : State) (r : Refloat) : (s.setRefloat r).keep = s.keep := by cases s; rfl
@[simp] theorem State.setRefloat_cfg (s : State) (r : Refloat) : (s.setRefloat r).cfg = s.cfg := by cases s; rfl
@[simp] theorem State.setRefloat_pke (s : State) (r : Refloat) : (s.setRefloat r).pke = s.pke := by cases s; rfl
@[simp] theorem State.setRefloat_clk (s : State) (r : Refloat) : (s.setRefloat r).clk = s.clk := by cases s; rfl
@[simp] theorem State.setRefloat_mgmt (s : State) (r : Refloat) : (s.setRefloat r).mgmt = s.mgmt := by cases s; rfl
@[simp] theorem State.setRefloat_pins (s : State) (r : Refloat) : (s.setRefloat r).pins = s.pins := by cases s; rfl
@[simp] theorem State.setRefloat_enginesOut (s : State) (r : Refloat) : (s.setRefloat r).enginesOut = s.enginesOut := by cases s; rfl

@[simp] theorem State.setRail_now (s : State) (r : Nat) (x : Rail) : (s.setRail r x).now = s.now := by cases s; rfl
@[simp] theorem State.setRail_free (s : State) (r : Nat) (x : Rail) : (s.setRail r x).free = s.free := by cases s; rfl
@[simp] theorem State.setRail_pending (s : State) (r : Nat) (x : Rail) : (s.setRail r x).pending = s.pending := by cases s; rfl
@[simp] theorem State.setRail_regs (s : State) (r : Nat) (x : Rail) : (s.setRail r x).regs = s.regs := by cases s; rfl
@[simp] theorem State.setRail_cmds (s : State) (r : Nat) (x : Rail) : (s.setRail r x).cmds = s.cmds := by cases s; rfl
@[simp] theorem State.setRail_out (s : State) (r : Nat) (x : Rail) : (s.setRail r x).out = s.out := by cases s; rfl
@[simp] theorem State.setRail_berths (s : State) (r : Nat) (x : Rail) : (s.setRail r x).berths = s.berths := by cases s; rfl
@[simp] theorem State.setRail_ports (s : State) (r : Nat) (x : Rail) : (s.setRail r x).ports = s.ports := by cases s; rfl
@[simp] theorem State.setRail_lock (s : State) (r : Nat) (x : Rail) : (s.setRail r x).lock = s.lock := by cases s; rfl
@[simp] theorem State.setRail_weir (s : State) (r : Nat) (x : Rail) : (s.setRail r x).weir = s.weir := by cases s; rfl
@[simp] theorem State.setRail_sluice (s : State) (r : Nat) (x : Rail) : (s.setRail r x).sluice = s.sluice := by cases s; rfl
@[simp] theorem State.setRail_refloat (s : State) (r : Nat) (x : Rail) : (s.setRail r x).refloat = s.refloat := by cases s; rfl
@[simp] theorem State.setRail_drc (s : State) (r : Nat) (x : Rail) : (s.setRail r x).drc = s.drc := by cases s; rfl
@[simp] theorem State.setRail_fmm (s : State) (r : Nat) (x : Rail) : (s.setRail r x).fmm = s.fmm := by cases s; rfl
@[simp] theorem State.setRail_chart (s : State) (r : Nat) (x : Rail) : (s.setRail r x).chart = s.chart := by cases s; rfl
@[simp] theorem State.setRail_gauge (s : State) (r : Nat) (x : Rail) : (s.setRail r x).gauge = s.gauge := by cases s; rfl
@[simp] theorem State.setRail_fly (s : State) (r : Nat) (x : Rail) : (s.setRail r x).fly = s.fly := by cases s; rfl
@[simp] theorem State.setRail_log (s : State) (r : Nat) (x : Rail) : (s.setRail r x).log = s.log := by cases s; rfl
@[simp] theorem State.setRail_tow (s : State) (r : Nat) (x : Rail) : (s.setRail r x).tow = s.tow := by cases s; rfl
@[simp] theorem State.setRail_keep (s : State) (r : Nat) (x : Rail) : (s.setRail r x).keep = s.keep := by cases s; rfl
@[simp] theorem State.setRail_cfg (s : State) (r : Nat) (x : Rail) : (s.setRail r x).cfg = s.cfg := by cases s; rfl
@[simp] theorem State.setRail_pke (s : State) (r : Nat) (x : Rail) : (s.setRail r x).pke = s.pke := by cases s; rfl
@[simp] theorem State.setRail_clk (s : State) (r : Nat) (x : Rail) : (s.setRail r x).clk = s.clk := by cases s; rfl
@[simp] theorem State.setRail_mgmt (s : State) (r : Nat) (x : Rail) : (s.setRail r x).mgmt = s.mgmt := by cases s; rfl
@[simp] theorem State.setRail_pins (s : State) (r : Nat) (x : Rail) : (s.setRail r x).pins = s.pins := by cases s; rfl
@[simp] theorem State.setRail_enginesOut (s : State) (r : Nat) (x : Rail) : (s.setRail r x).enginesOut = s.enginesOut := by cases s; rfl

@[simp] theorem setRun_now (r : Option Run) (s : State) : (setRun r s).now = s.now := by cases s; rfl
@[simp] theorem setRun_free (r : Option Run) (s : State) : (setRun r s).free = s.free := by cases s; rfl
@[simp] theorem setRun_pending (r : Option Run) (s : State) : (setRun r s).pending = s.pending := by cases s; rfl
@[simp] theorem setRun_regs (r : Option Run) (s : State) : (setRun r s).regs = s.regs := by cases s; rfl
@[simp] theorem setRun_cmds (r : Option Run) (s : State) : (setRun r s).cmds = s.cmds := by cases s; rfl
@[simp] theorem setRun_out (r : Option Run) (s : State) : (setRun r s).out = s.out := by cases s; rfl
@[simp] theorem setRun_berths (r : Option Run) (s : State) : (setRun r s).berths = s.berths := by cases s; rfl
@[simp] theorem setRun_ports (r : Option Run) (s : State) : (setRun r s).ports = s.ports := by cases s; rfl
@[simp] theorem setRun_lock (r : Option Run) (s : State) : (setRun r s).lock = s.lock := by cases s; rfl
@[simp] theorem setRun_weir (r : Option Run) (s : State) : (setRun r s).weir = s.weir := by cases s; rfl
@[simp] theorem setRun_sluice (r : Option Run) (s : State) : (setRun r s).sluice = s.sluice := by cases s; rfl
@[simp] theorem setRun_refloat (r : Option Run) (s : State) : (setRun r s).refloat = s.refloat := by cases s; rfl
@[simp] theorem setRun_drc (r : Option Run) (s : State) : (setRun r s).drc = s.drc := by cases s; rfl
@[simp] theorem setRun_fmm (r : Option Run) (s : State) : (setRun r s).fmm = s.fmm := by cases s; rfl
@[simp] theorem setRun_chart (r : Option Run) (s : State) : (setRun r s).chart = s.chart := by cases s; rfl
@[simp] theorem setRun_gauge (r : Option Run) (s : State) : (setRun r s).gauge = s.gauge := by cases s; rfl
@[simp] theorem setRun_fly (r : Option Run) (s : State) : (setRun r s).fly = s.fly := by cases s; rfl
@[simp] theorem setRun_log (r : Option Run) (s : State) : (setRun r s).log = s.log := by cases s; rfl
@[simp] theorem setRun_tow (r : Option Run) (s : State) : (setRun r s).tow = s.tow := by cases s; rfl
@[simp] theorem setRun_keep (r : Option Run) (s : State) : (setRun r s).keep = s.keep := by cases s; rfl
@[simp] theorem setRun_cfg (r : Option Run) (s : State) : (setRun r s).cfg = s.cfg := by cases s; rfl
@[simp] theorem setRun_pke (r : Option Run) (s : State) : (setRun r s).pke = s.pke := by cases s; rfl
@[simp] theorem setRun_clk (r : Option Run) (s : State) : (setRun r s).clk = s.clk := by cases s; rfl
@[simp] theorem setRun_mgmt (r : Option Run) (s : State) : (setRun r s).mgmt = s.mgmt := by cases s; rfl
@[simp] theorem setRun_pins (r : Option Run) (s : State) : (setRun r s).pins = s.pins := by cases s; rfl
@[simp] theorem setRun_enginesOut (r : Option Run) (s : State) : (setRun r s).enginesOut = s.enginesOut := by cases s; rfl

@[simp] theorem setSeqSt_now (n : Nat) (s : State) : (setSeqSt n s).now = s.now := by cases s; rfl
@[simp] theorem setSeqSt_free (n : Nat) (s : State) : (setSeqSt n s).free = s.free := by cases s; rfl
@[simp] theorem setSeqSt_pending (n : Nat) (s : State) : (setSeqSt n s).pending = s.pending := by cases s; rfl
@[simp] theorem setSeqSt_regs (n : Nat) (s : State) : (setSeqSt n s).regs = s.regs := by cases s; rfl
@[simp] theorem setSeqSt_cmds (n : Nat) (s : State) : (setSeqSt n s).cmds = s.cmds := by cases s; rfl
@[simp] theorem setSeqSt_out (n : Nat) (s : State) : (setSeqSt n s).out = s.out := by cases s; rfl
@[simp] theorem setSeqSt_berths (n : Nat) (s : State) : (setSeqSt n s).berths = s.berths := by cases s; rfl
@[simp] theorem setSeqSt_ports (n : Nat) (s : State) : (setSeqSt n s).ports = s.ports := by cases s; rfl
@[simp] theorem setSeqSt_lock (n : Nat) (s : State) : (setSeqSt n s).lock = s.lock := by cases s; rfl
@[simp] theorem setSeqSt_weir (n : Nat) (s : State) : (setSeqSt n s).weir = s.weir := by cases s; rfl
@[simp] theorem setSeqSt_sluice (n : Nat) (s : State) : (setSeqSt n s).sluice = s.sluice := by cases s; rfl
@[simp] theorem setSeqSt_refloat (n : Nat) (s : State) : (setSeqSt n s).refloat = s.refloat := by cases s; rfl
@[simp] theorem setSeqSt_drc (n : Nat) (s : State) : (setSeqSt n s).drc = s.drc := by cases s; rfl
@[simp] theorem setSeqSt_fmm (n : Nat) (s : State) : (setSeqSt n s).fmm = s.fmm := by cases s; rfl
@[simp] theorem setSeqSt_chart (n : Nat) (s : State) : (setSeqSt n s).chart = s.chart := by cases s; rfl
@[simp] theorem setSeqSt_gauge (n : Nat) (s : State) : (setSeqSt n s).gauge = s.gauge := by cases s; rfl
@[simp] theorem setSeqSt_fly (n : Nat) (s : State) : (setSeqSt n s).fly = s.fly := by cases s; rfl
@[simp] theorem setSeqSt_log (n : Nat) (s : State) : (setSeqSt n s).log = s.log := by cases s; rfl
@[simp] theorem setSeqSt_tow (n : Nat) (s : State) : (setSeqSt n s).tow = s.tow := by cases s; rfl
@[simp] theorem setSeqSt_keep (n : Nat) (s : State) : (setSeqSt n s).keep = s.keep := by cases s; rfl
@[simp] theorem setSeqSt_cfg (n : Nat) (s : State) : (setSeqSt n s).cfg = s.cfg := by cases s; rfl
@[simp] theorem setSeqSt_pke (n : Nat) (s : State) : (setSeqSt n s).pke = s.pke := by cases s; rfl
@[simp] theorem setSeqSt_clk (n : Nat) (s : State) : (setSeqSt n s).clk = s.clk := by cases s; rfl
@[simp] theorem setSeqSt_mgmt (n : Nat) (s : State) : (setSeqSt n s).mgmt = s.mgmt := by cases s; rfl
@[simp] theorem setSeqSt_pins (n : Nat) (s : State) : (setSeqSt n s).pins = s.pins := by cases s; rfl
@[simp] theorem setSeqSt_enginesOut (n : Nat) (s : State) : (setSeqSt n s).enginesOut = s.enginesOut := by cases s; rfl

@[simp] theorem State.setStr_now (s : State) (i : Nat) (g : GStr) : (s.setStr i g).now = s.now := by cases s; rfl
@[simp] theorem State.setStr_free (s : State) (i : Nat) (g : GStr) : (s.setStr i g).free = s.free := by cases s; rfl
@[simp] theorem State.setStr_pending (s : State) (i : Nat) (g : GStr) : (s.setStr i g).pending = s.pending := by cases s; rfl
@[simp] theorem State.setStr_regs (s : State) (i : Nat) (g : GStr) : (s.setStr i g).regs = s.regs := by cases s; rfl
@[simp] theorem State.setStr_cmds (s : State) (i : Nat) (g : GStr) : (s.setStr i g).cmds = s.cmds := by cases s; rfl
@[simp] theorem State.setStr_out (s : State) (i : Nat) (g : GStr) : (s.setStr i g).out = s.out := by cases s; rfl
@[simp] theorem State.setStr_berths (s : State) (i : Nat) (g : GStr) : (s.setStr i g).berths = s.berths := by cases s; rfl
@[simp] theorem State.setStr_ports (s : State) (i : Nat) (g : GStr) : (s.setStr i g).ports = s.ports := by cases s; rfl
@[simp] theorem State.setStr_lock (s : State) (i : Nat) (g : GStr) : (s.setStr i g).lock = s.lock := by cases s; rfl
@[simp] theorem State.setStr_weir (s : State) (i : Nat) (g : GStr) : (s.setStr i g).weir = s.weir := by cases s; rfl
@[simp] theorem State.setStr_sluice (s : State) (i : Nat) (g : GStr) : (s.setStr i g).sluice = s.sluice := by cases s; rfl
@[simp] theorem State.setStr_refloat (s : State) (i : Nat) (g : GStr) : (s.setStr i g).refloat = s.refloat := by cases s; rfl
@[simp] theorem State.setStr_drc (s : State) (i : Nat) (g : GStr) : (s.setStr i g).drc = s.drc := by cases s; rfl
@[simp] theorem State.setStr_fmm (s : State) (i : Nat) (g : GStr) : (s.setStr i g).fmm = s.fmm := by cases s; rfl
@[simp] theorem State.setStr_chart (s : State) (i : Nat) (g : GStr) : (s.setStr i g).chart = s.chart := by cases s; rfl
@[simp] theorem State.setStr_fly (s : State) (i : Nat) (g : GStr) : (s.setStr i g).fly = s.fly := by cases s; rfl
@[simp] theorem State.setStr_seq (s : State) (i : Nat) (g : GStr) : (s.setStr i g).seq = s.seq := by cases s; rfl
@[simp] theorem State.setStr_log (s : State) (i : Nat) (g : GStr) : (s.setStr i g).log = s.log := by cases s; rfl
@[simp] theorem State.setStr_tow (s : State) (i : Nat) (g : GStr) : (s.setStr i g).tow = s.tow := by cases s; rfl
@[simp] theorem State.setStr_keep (s : State) (i : Nat) (g : GStr) : (s.setStr i g).keep = s.keep := by cases s; rfl
@[simp] theorem State.setStr_cfg (s : State) (i : Nat) (g : GStr) : (s.setStr i g).cfg = s.cfg := by cases s; rfl
@[simp] theorem State.setStr_pke (s : State) (i : Nat) (g : GStr) : (s.setStr i g).pke = s.pke := by cases s; rfl
@[simp] theorem State.setStr_clk (s : State) (i : Nat) (g : GStr) : (s.setStr i g).clk = s.clk := by cases s; rfl
@[simp] theorem State.setStr_mgmt (s : State) (i : Nat) (g : GStr) : (s.setStr i g).mgmt = s.mgmt := by cases s; rfl
@[simp] theorem State.setStr_pins (s : State) (i : Nat) (g : GStr) : (s.setStr i g).pins = s.pins := by cases s; rfl
@[simp] theorem State.setStr_enginesOut (s : State) (i : Nat) (g : GStr) : (s.setStr i g).enginesOut = s.enginesOut := by cases s; rfl

@[simp] theorem State.updStr_now (s : State) (i : Nat) (f : GStr → GStr) : (s.updStr i f).now = s.now := by cases s; rfl
@[simp] theorem State.updStr_free (s : State) (i : Nat) (f : GStr → GStr) : (s.updStr i f).free = s.free := by cases s; rfl
@[simp] theorem State.updStr_pending (s : State) (i : Nat) (f : GStr → GStr) : (s.updStr i f).pending = s.pending := by cases s; rfl
@[simp] theorem State.updStr_regs (s : State) (i : Nat) (f : GStr → GStr) : (s.updStr i f).regs = s.regs := by cases s; rfl
@[simp] theorem State.updStr_cmds (s : State) (i : Nat) (f : GStr → GStr) : (s.updStr i f).cmds = s.cmds := by cases s; rfl
@[simp] theorem State.updStr_out (s : State) (i : Nat) (f : GStr → GStr) : (s.updStr i f).out = s.out := by cases s; rfl
@[simp] theorem State.updStr_berths (s : State) (i : Nat) (f : GStr → GStr) : (s.updStr i f).berths = s.berths := by cases s; rfl
@[simp] theorem State.updStr_ports (s : State) (i : Nat) (f : GStr → GStr) : (s.updStr i f).ports = s.ports := by cases s; rfl
@[simp] theorem State.updStr_lock (s : State) (i : Nat) (f : GStr → GStr) : (s.updStr i f).lock = s.lock := by cases s; rfl
@[simp] theorem State.updStr_weir (s : State) (i : Nat) (f : GStr → GStr) : (s.updStr i f).weir = s.weir := by cases s; rfl
@[simp] theorem State.updStr_sluice (s : State) (i : Nat) (f : GStr → GStr) : (s.updStr i f).sluice = s.sluice := by cases s; rfl
@[simp] theorem State.updStr_refloat (s : State) (i : Nat) (f : GStr → GStr) : (s.updStr i f).refloat = s.refloat := by cases s; rfl
@[simp] theorem State.updStr_drc (s : State) (i : Nat) (f : GStr → GStr) : (s.updStr i f).drc = s.drc := by cases s; rfl
@[simp] theorem State.updStr_fmm (s : State) (i : Nat) (f : GStr → GStr) : (s.updStr i f).fmm = s.fmm := by cases s; rfl
@[simp] theorem State.updStr_chart (s : State) (i : Nat) (f : GStr → GStr) : (s.updStr i f).chart = s.chart := by cases s; rfl
@[simp] theorem State.updStr_fly (s : State) (i : Nat) (f : GStr → GStr) : (s.updStr i f).fly = s.fly := by cases s; rfl
@[simp] theorem State.updStr_seq (s : State) (i : Nat) (f : GStr → GStr) : (s.updStr i f).seq = s.seq := by cases s; rfl
@[simp] theorem State.updStr_log (s : State) (i : Nat) (f : GStr → GStr) : (s.updStr i f).log = s.log := by cases s; rfl
@[simp] theorem State.updStr_tow (s : State) (i : Nat) (f : GStr → GStr) : (s.updStr i f).tow = s.tow := by cases s; rfl
@[simp] theorem State.updStr_keep (s : State) (i : Nat) (f : GStr → GStr) : (s.updStr i f).keep = s.keep := by cases s; rfl
@[simp] theorem State.updStr_cfg (s : State) (i : Nat) (f : GStr → GStr) : (s.updStr i f).cfg = s.cfg := by cases s; rfl
@[simp] theorem State.updStr_pke (s : State) (i : Nat) (f : GStr → GStr) : (s.updStr i f).pke = s.pke := by cases s; rfl
@[simp] theorem State.updStr_clk (s : State) (i : Nat) (f : GStr → GStr) : (s.updStr i f).clk = s.clk := by cases s; rfl
@[simp] theorem State.updStr_mgmt (s : State) (i : Nat) (f : GStr → GStr) : (s.updStr i f).mgmt = s.mgmt := by cases s; rfl
@[simp] theorem State.updStr_pins (s : State) (i : Nat) (f : GStr → GStr) : (s.updStr i f).pins = s.pins := by cases s; rfl
@[simp] theorem State.updStr_enginesOut (s : State) (i : Nat) (f : GStr → GStr) : (s.updStr i f).enginesOut = s.enginesOut := by cases s; rfl

@[simp] theorem State.setSched_now (s : State) (c : Nat) (x : Sched) : (s.setSched c x).now = s.now := by cases s; rfl
@[simp] theorem State.setSched_free (s : State) (c : Nat) (x : Sched) : (s.setSched c x).free = s.free := by cases s; rfl
@[simp] theorem State.setSched_pending (s : State) (c : Nat) (x : Sched) : (s.setSched c x).pending = s.pending := by cases s; rfl
@[simp] theorem State.setSched_regs (s : State) (c : Nat) (x : Sched) : (s.setSched c x).regs = s.regs := by cases s; rfl
@[simp] theorem State.setSched_cmds (s : State) (c : Nat) (x : Sched) : (s.setSched c x).cmds = s.cmds := by cases s; rfl
@[simp] theorem State.setSched_out (s : State) (c : Nat) (x : Sched) : (s.setSched c x).out = s.out := by cases s; rfl
@[simp] theorem State.setSched_berths (s : State) (c : Nat) (x : Sched) : (s.setSched c x).berths = s.berths := by cases s; rfl
@[simp] theorem State.setSched_ports (s : State) (c : Nat) (x : Sched) : (s.setSched c x).ports = s.ports := by cases s; rfl
@[simp] theorem State.setSched_lock (s : State) (c : Nat) (x : Sched) : (s.setSched c x).lock = s.lock := by cases s; rfl
@[simp] theorem State.setSched_weir (s : State) (c : Nat) (x : Sched) : (s.setSched c x).weir = s.weir := by cases s; rfl
@[simp] theorem State.setSched_sluice (s : State) (c : Nat) (x : Sched) : (s.setSched c x).sluice = s.sluice := by cases s; rfl
@[simp] theorem State.setSched_refloat (s : State) (c : Nat) (x : Sched) : (s.setSched c x).refloat = s.refloat := by cases s; rfl
@[simp] theorem State.setSched_fmm (s : State) (c : Nat) (x : Sched) : (s.setSched c x).fmm = s.fmm := by cases s; rfl
@[simp] theorem State.setSched_chart (s : State) (c : Nat) (x : Sched) : (s.setSched c x).chart = s.chart := by cases s; rfl
@[simp] theorem State.setSched_gauge (s : State) (c : Nat) (x : Sched) : (s.setSched c x).gauge = s.gauge := by cases s; rfl
@[simp] theorem State.setSched_fly (s : State) (c : Nat) (x : Sched) : (s.setSched c x).fly = s.fly := by cases s; rfl
@[simp] theorem State.setSched_seq (s : State) (c : Nat) (x : Sched) : (s.setSched c x).seq = s.seq := by cases s; rfl
@[simp] theorem State.setSched_log (s : State) (c : Nat) (x : Sched) : (s.setSched c x).log = s.log := by cases s; rfl
@[simp] theorem State.setSched_tow (s : State) (c : Nat) (x : Sched) : (s.setSched c x).tow = s.tow := by cases s; rfl
@[simp] theorem State.setSched_keep (s : State) (c : Nat) (x : Sched) : (s.setSched c x).keep = s.keep := by cases s; rfl
@[simp] theorem State.setSched_cfg (s : State) (c : Nat) (x : Sched) : (s.setSched c x).cfg = s.cfg := by cases s; rfl
@[simp] theorem State.setSched_pke (s : State) (c : Nat) (x : Sched) : (s.setSched c x).pke = s.pke := by cases s; rfl
@[simp] theorem State.setSched_clk (s : State) (c : Nat) (x : Sched) : (s.setSched c x).clk = s.clk := by cases s; rfl
@[simp] theorem State.setSched_mgmt (s : State) (c : Nat) (x : Sched) : (s.setSched c x).mgmt = s.mgmt := by cases s; rfl
@[simp] theorem State.setSched_pins (s : State) (c : Nat) (x : Sched) : (s.setSched c x).pins = s.pins := by cases s; rfl
@[simp] theorem State.setSched_enginesOut (s : State) (c : Nat) (x : Sched) : (s.setSched c x).enginesOut = s.enginesOut := by cases s; rfl

@[simp] theorem State.setChan_now (s : State) (c : Nat) (v : Chan) : (s.setChan c v).now = s.now := by cases s; rfl
@[simp] theorem State.setChan_free (s : State) (c : Nat) (v : Chan) : (s.setChan c v).free = s.free := by cases s; rfl
@[simp] theorem State.setChan_pending (s : State) (c : Nat) (v : Chan) : (s.setChan c v).pending = s.pending := by cases s; rfl
@[simp] theorem State.setChan_regs (s : State) (c : Nat) (v : Chan) : (s.setChan c v).regs = s.regs := by cases s; rfl
@[simp] theorem State.setChan_cmds (s : State) (c : Nat) (v : Chan) : (s.setChan c v).cmds = s.cmds := by cases s; rfl
@[simp] theorem State.setChan_out (s : State) (c : Nat) (v : Chan) : (s.setChan c v).out = s.out := by cases s; rfl
@[simp] theorem State.setChan_berths (s : State) (c : Nat) (v : Chan) : (s.setChan c v).berths = s.berths := by cases s; rfl
@[simp] theorem State.setChan_ports (s : State) (c : Nat) (v : Chan) : (s.setChan c v).ports = s.ports := by cases s; rfl
@[simp] theorem State.setChan_lock (s : State) (c : Nat) (v : Chan) : (s.setChan c v).lock = s.lock := by cases s; rfl
@[simp] theorem State.setChan_weir (s : State) (c : Nat) (v : Chan) : (s.setChan c v).weir = s.weir := by cases s; rfl
@[simp] theorem State.setChan_sluice (s : State) (c : Nat) (v : Chan) : (s.setChan c v).sluice = s.sluice := by cases s; rfl
@[simp] theorem State.setChan_refloat (s : State) (c : Nat) (v : Chan) : (s.setChan c v).refloat = s.refloat := by cases s; rfl
@[simp] theorem State.setChan_fmm (s : State) (c : Nat) (v : Chan) : (s.setChan c v).fmm = s.fmm := by cases s; rfl
@[simp] theorem State.setChan_chart (s : State) (c : Nat) (v : Chan) : (s.setChan c v).chart = s.chart := by cases s; rfl
@[simp] theorem State.setChan_gauge (s : State) (c : Nat) (v : Chan) : (s.setChan c v).gauge = s.gauge := by cases s; rfl
@[simp] theorem State.setChan_fly (s : State) (c : Nat) (v : Chan) : (s.setChan c v).fly = s.fly := by cases s; rfl
@[simp] theorem State.setChan_seq (s : State) (c : Nat) (v : Chan) : (s.setChan c v).seq = s.seq := by cases s; rfl
@[simp] theorem State.setChan_log (s : State) (c : Nat) (v : Chan) : (s.setChan c v).log = s.log := by cases s; rfl
@[simp] theorem State.setChan_tow (s : State) (c : Nat) (v : Chan) : (s.setChan c v).tow = s.tow := by cases s; rfl
@[simp] theorem State.setChan_keep (s : State) (c : Nat) (v : Chan) : (s.setChan c v).keep = s.keep := by cases s; rfl
@[simp] theorem State.setChan_cfg (s : State) (c : Nat) (v : Chan) : (s.setChan c v).cfg = s.cfg := by cases s; rfl
@[simp] theorem State.setChan_pke (s : State) (c : Nat) (v : Chan) : (s.setChan c v).pke = s.pke := by cases s; rfl
@[simp] theorem State.setChan_clk (s : State) (c : Nat) (v : Chan) : (s.setChan c v).clk = s.clk := by cases s; rfl
@[simp] theorem State.setChan_mgmt (s : State) (c : Nat) (v : Chan) : (s.setChan c v).mgmt = s.mgmt := by cases s; rfl
@[simp] theorem State.setChan_pins (s : State) (c : Nat) (v : Chan) : (s.setChan c v).pins = s.pins := by cases s; rfl
@[simp] theorem State.setChan_enginesOut (s : State) (c : Nat) (v : Chan) : (s.setChan c v).enginesOut = s.enginesOut := by cases s; rfl

@[simp] theorem State.updSrc_now (s : State) (n : Nat) (f : Src → Src) : (s.updSrc n f).now = s.now := by cases s; rfl
@[simp] theorem State.updSrc_free (s : State) (n : Nat) (f : Src → Src) : (s.updSrc n f).free = s.free := by cases s; rfl
@[simp] theorem State.updSrc_pending (s : State) (n : Nat) (f : Src → Src) : (s.updSrc n f).pending = s.pending := by cases s; rfl
@[simp] theorem State.updSrc_regs (s : State) (n : Nat) (f : Src → Src) : (s.updSrc n f).regs = s.regs := by cases s; rfl
@[simp] theorem State.updSrc_cmds (s : State) (n : Nat) (f : Src → Src) : (s.updSrc n f).cmds = s.cmds := by cases s; rfl
@[simp] theorem State.updSrc_out (s : State) (n : Nat) (f : Src → Src) : (s.updSrc n f).out = s.out := by cases s; rfl
@[simp] theorem State.updSrc_berths (s : State) (n : Nat) (f : Src → Src) : (s.updSrc n f).berths = s.berths := by cases s; rfl
@[simp] theorem State.updSrc_ports (s : State) (n : Nat) (f : Src → Src) : (s.updSrc n f).ports = s.ports := by cases s; rfl
@[simp] theorem State.updSrc_lock (s : State) (n : Nat) (f : Src → Src) : (s.updSrc n f).lock = s.lock := by cases s; rfl
@[simp] theorem State.updSrc_weir (s : State) (n : Nat) (f : Src → Src) : (s.updSrc n f).weir = s.weir := by cases s; rfl
@[simp] theorem State.updSrc_sluice (s : State) (n : Nat) (f : Src → Src) : (s.updSrc n f).sluice = s.sluice := by cases s; rfl
@[simp] theorem State.updSrc_refloat (s : State) (n : Nat) (f : Src → Src) : (s.updSrc n f).refloat = s.refloat := by cases s; rfl
@[simp] theorem State.updSrc_drc (s : State) (n : Nat) (f : Src → Src) : (s.updSrc n f).drc = s.drc := by cases s; rfl
@[simp] theorem State.updSrc_fmm (s : State) (n : Nat) (f : Src → Src) : (s.updSrc n f).fmm = s.fmm := by cases s; rfl
@[simp] theorem State.updSrc_chart (s : State) (n : Nat) (f : Src → Src) : (s.updSrc n f).chart = s.chart := by cases s; rfl
@[simp] theorem State.updSrc_gauge (s : State) (n : Nat) (f : Src → Src) : (s.updSrc n f).gauge = s.gauge := by cases s; rfl
@[simp] theorem State.updSrc_fly (s : State) (n : Nat) (f : Src → Src) : (s.updSrc n f).fly = s.fly := by cases s; rfl
@[simp] theorem State.updSrc_seq (s : State) (n : Nat) (f : Src → Src) : (s.updSrc n f).seq = s.seq := by cases s; rfl
@[simp] theorem State.updSrc_log (s : State) (n : Nat) (f : Src → Src) : (s.updSrc n f).log = s.log := by cases s; rfl
@[simp] theorem State.updSrc_tow (s : State) (n : Nat) (f : Src → Src) : (s.updSrc n f).tow = s.tow := by cases s; rfl
@[simp] theorem State.updSrc_cfg (s : State) (n : Nat) (f : Src → Src) : (s.updSrc n f).cfg = s.cfg := by cases s; rfl
@[simp] theorem State.updSrc_pke (s : State) (n : Nat) (f : Src → Src) : (s.updSrc n f).pke = s.pke := by cases s; rfl
@[simp] theorem State.updSrc_clk (s : State) (n : Nat) (f : Src → Src) : (s.updSrc n f).clk = s.clk := by cases s; rfl
@[simp] theorem State.updSrc_mgmt (s : State) (n : Nat) (f : Src → Src) : (s.updSrc n f).mgmt = s.mgmt := by cases s; rfl
@[simp] theorem State.updSrc_pins (s : State) (n : Nat) (f : Src → Src) : (s.updSrc n f).pins = s.pins := by cases s; rfl
@[simp] theorem State.updSrc_enginesOut (s : State) (n : Nat) (f : Src → Src) : (s.updSrc n f).enginesOut = s.enginesOut := by cases s; rfl

@[simp] theorem setCapture_now (k : Nat) (w : Word) (s : State) : (setCapture k w s).now = s.now := by cases s; rfl
@[simp] theorem setCapture_free (k : Nat) (w : Word) (s : State) : (setCapture k w s).free = s.free := by cases s; rfl
@[simp] theorem setCapture_pending (k : Nat) (w : Word) (s : State) : (setCapture k w s).pending = s.pending := by cases s; rfl
@[simp] theorem setCapture_regs (k : Nat) (w : Word) (s : State) : (setCapture k w s).regs = s.regs := by cases s; rfl
@[simp] theorem setCapture_cmds (k : Nat) (w : Word) (s : State) : (setCapture k w s).cmds = s.cmds := by cases s; rfl
@[simp] theorem setCapture_out (k : Nat) (w : Word) (s : State) : (setCapture k w s).out = s.out := by cases s; rfl
@[simp] theorem setCapture_berths (k : Nat) (w : Word) (s : State) : (setCapture k w s).berths = s.berths := by cases s; rfl
@[simp] theorem setCapture_ports (k : Nat) (w : Word) (s : State) : (setCapture k w s).ports = s.ports := by cases s; rfl
@[simp] theorem setCapture_lock (k : Nat) (w : Word) (s : State) : (setCapture k w s).lock = s.lock := by cases s; rfl
@[simp] theorem setCapture_weir (k : Nat) (w : Word) (s : State) : (setCapture k w s).weir = s.weir := by cases s; rfl
@[simp] theorem setCapture_sluice (k : Nat) (w : Word) (s : State) : (setCapture k w s).sluice = s.sluice := by cases s; rfl
@[simp] theorem setCapture_refloat (k : Nat) (w : Word) (s : State) : (setCapture k w s).refloat = s.refloat := by cases s; rfl
@[simp] theorem setCapture_drc (k : Nat) (w : Word) (s : State) : (setCapture k w s).drc = s.drc := by cases s; rfl
@[simp] theorem setCapture_fmm (k : Nat) (w : Word) (s : State) : (setCapture k w s).fmm = s.fmm := by cases s; rfl
@[simp] theorem setCapture_chart (k : Nat) (w : Word) (s : State) : (setCapture k w s).chart = s.chart := by cases s; rfl
@[simp] theorem setCapture_fly (k : Nat) (w : Word) (s : State) : (setCapture k w s).fly = s.fly := by cases s; rfl
@[simp] theorem setCapture_seq (k : Nat) (w : Word) (s : State) : (setCapture k w s).seq = s.seq := by cases s; rfl
@[simp] theorem setCapture_log (k : Nat) (w : Word) (s : State) : (setCapture k w s).log = s.log := by cases s; rfl
@[simp] theorem setCapture_tow (k : Nat) (w : Word) (s : State) : (setCapture k w s).tow = s.tow := by cases s; rfl
@[simp] theorem setCapture_keep (k : Nat) (w : Word) (s : State) : (setCapture k w s).keep = s.keep := by cases s; rfl
@[simp] theorem setCapture_cfg (k : Nat) (w : Word) (s : State) : (setCapture k w s).cfg = s.cfg := by cases s; rfl
@[simp] theorem setCapture_pke (k : Nat) (w : Word) (s : State) : (setCapture k w s).pke = s.pke := by cases s; rfl
@[simp] theorem setCapture_clk (k : Nat) (w : Word) (s : State) : (setCapture k w s).clk = s.clk := by cases s; rfl
@[simp] theorem setCapture_mgmt (k : Nat) (w : Word) (s : State) : (setCapture k w s).mgmt = s.mgmt := by cases s; rfl
@[simp] theorem setCapture_pins (k : Nat) (w : Word) (s : State) : (setCapture k w s).pins = s.pins := by cases s; rfl
@[simp] theorem setCapture_enginesOut (k : Nat) (w : Word) (s : State) : (setCapture k w s).enginesOut = s.enginesOut := by cases s; rfl

@[simp] theorem State.setAsm_now (s : State) (key : Nat) (a : Asm) : (s.setAsm key a).now = s.now := by cases s; rfl
@[simp] theorem State.setAsm_free (s : State) (key : Nat) (a : Asm) : (s.setAsm key a).free = s.free := by cases s; rfl
@[simp] theorem State.setAsm_pending (s : State) (key : Nat) (a : Asm) : (s.setAsm key a).pending = s.pending := by cases s; rfl
@[simp] theorem State.setAsm_regs (s : State) (key : Nat) (a : Asm) : (s.setAsm key a).regs = s.regs := by cases s; rfl
@[simp] theorem State.setAsm_cmds (s : State) (key : Nat) (a : Asm) : (s.setAsm key a).cmds = s.cmds := by cases s; rfl
@[simp] theorem State.setAsm_out (s : State) (key : Nat) (a : Asm) : (s.setAsm key a).out = s.out := by cases s; rfl
@[simp] theorem State.setAsm_berths (s : State) (key : Nat) (a : Asm) : (s.setAsm key a).berths = s.berths := by cases s; rfl
@[simp] theorem State.setAsm_ports (s : State) (key : Nat) (a : Asm) : (s.setAsm key a).ports = s.ports := by cases s; rfl
@[simp] theorem State.setAsm_lock (s : State) (key : Nat) (a : Asm) : (s.setAsm key a).lock = s.lock := by cases s; rfl
@[simp] theorem State.setAsm_weir (s : State) (key : Nat) (a : Asm) : (s.setAsm key a).weir = s.weir := by cases s; rfl
@[simp] theorem State.setAsm_sluice (s : State) (key : Nat) (a : Asm) : (s.setAsm key a).sluice = s.sluice := by cases s; rfl
@[simp] theorem State.setAsm_refloat (s : State) (key : Nat) (a : Asm) : (s.setAsm key a).refloat = s.refloat := by cases s; rfl
@[simp] theorem State.setAsm_drc (s : State) (key : Nat) (a : Asm) : (s.setAsm key a).drc = s.drc := by cases s; rfl
@[simp] theorem State.setAsm_chart (s : State) (key : Nat) (a : Asm) : (s.setAsm key a).chart = s.chart := by cases s; rfl
@[simp] theorem State.setAsm_gauge (s : State) (key : Nat) (a : Asm) : (s.setAsm key a).gauge = s.gauge := by cases s; rfl
@[simp] theorem State.setAsm_fly (s : State) (key : Nat) (a : Asm) : (s.setAsm key a).fly = s.fly := by cases s; rfl
@[simp] theorem State.setAsm_seq (s : State) (key : Nat) (a : Asm) : (s.setAsm key a).seq = s.seq := by cases s; rfl
@[simp] theorem State.setAsm_log (s : State) (key : Nat) (a : Asm) : (s.setAsm key a).log = s.log := by cases s; rfl
@[simp] theorem State.setAsm_tow (s : State) (key : Nat) (a : Asm) : (s.setAsm key a).tow = s.tow := by cases s; rfl
@[simp] theorem State.setAsm_keep (s : State) (key : Nat) (a : Asm) : (s.setAsm key a).keep = s.keep := by cases s; rfl
@[simp] theorem State.setAsm_cfg (s : State) (key : Nat) (a : Asm) : (s.setAsm key a).cfg = s.cfg := by cases s; rfl
@[simp] theorem State.setAsm_pke (s : State) (key : Nat) (a : Asm) : (s.setAsm key a).pke = s.pke := by cases s; rfl
@[simp] theorem State.setAsm_clk (s : State) (key : Nat) (a : Asm) : (s.setAsm key a).clk = s.clk := by cases s; rfl
@[simp] theorem State.setAsm_mgmt (s : State) (key : Nat) (a : Asm) : (s.setAsm key a).mgmt = s.mgmt := by cases s; rfl
@[simp] theorem State.setAsm_pins (s : State) (key : Nat) (a : Asm) : (s.setAsm key a).pins = s.pins := by cases s; rfl
@[simp] theorem State.setAsm_enginesOut (s : State) (key : Nat) (a : Asm) : (s.setAsm key a).enginesOut = s.enginesOut := by cases s; rfl

/-! The component a setter sets -/

@[simp] theorem State.setPke_pke (s : State) (x : Pke) : (s.setPke x).pke = x := rfl
@[simp] theorem State.setCfg_cfg (s : State) (x : Cfg) : (s.setCfg x).cfg = x := rfl
@[simp] theorem State.setRefloat_refloat (s : State) (x : Refloat) : (s.setRefloat x).refloat = x := rfl
@[simp] theorem State.setTow_tow (s : State) (x : Tow) : (s.setTow x).tow = x := rfl
@[simp] theorem State.setFly_fly (s : State) (x : Fly) : (s.setFly x).fly = x.driven := rfl
@[simp] theorem State.setFmm_fmm (s : State) (x : Fmm) : (s.setFmm x).fmm = x := rfl

end Sys2Proof.Machine
end

