-- ==== Sys2Proof/Laws/Frames.lean ====
section
/-! SUPPORT. What each function over State leaves as it was. -/

namespace Sys2Proof.Machine

open Sys2Proof

@[simp] theorem forEach_now {α : Type} (l : List α) (f : α → State → State) (h : ∀ a s, (f a s).now = s.now) (s : State) :
    (forEach l s f).now = s.now := by
  unfold forEach; induction l generalizing s with
  | nil => rfl
  | cons a t ih => simp only [List.foldl_cons]; rw [ih, h]

@[simp] theorem forEach_free {α : Type} (l : List α) (f : α → State → State) (h : ∀ a s, (f a s).free = s.free) (s : State) :
    (forEach l s f).free = s.free := by
  unfold forEach; induction l generalizing s with
  | nil => rfl
  | cons a t ih => simp only [List.foldl_cons]; rw [ih, h]

@[simp] theorem forEach_pending {α : Type} (l : List α) (f : α → State → State) (h : ∀ a s, (f a s).pending = s.pending) (s : State) :
    (forEach l s f).pending = s.pending := by
  unfold forEach; induction l generalizing s with
  | nil => rfl
  | cons a t ih => simp only [List.foldl_cons]; rw [ih, h]

@[simp] theorem forEach_regs {α : Type} (l : List α) (f : α → State → State) (h : ∀ a s, (f a s).regs = s.regs) (s : State) :
    (forEach l s f).regs = s.regs := by
  unfold forEach; induction l generalizing s with
  | nil => rfl
  | cons a t ih => simp only [List.foldl_cons]; rw [ih, h]

@[simp] theorem forEach_cmds {α : Type} (l : List α) (f : α → State → State) (h : ∀ a s, (f a s).cmds = s.cmds) (s : State) :
    (forEach l s f).cmds = s.cmds := by
  unfold forEach; induction l generalizing s with
  | nil => rfl
  | cons a t ih => simp only [List.foldl_cons]; rw [ih, h]

@[simp] theorem forEach_out {α : Type} (l : List α) (f : α → State → State) (h : ∀ a s, (f a s).out = s.out) (s : State) :
    (forEach l s f).out = s.out := by
  unfold forEach; induction l generalizing s with
  | nil => rfl
  | cons a t ih => simp only [List.foldl_cons]; rw [ih, h]

@[simp] theorem forEach_berths {α : Type} (l : List α) (f : α → State → State) (h : ∀ a s, (f a s).berths = s.berths) (s : State) :
    (forEach l s f).berths = s.berths := by
  unfold forEach; induction l generalizing s with
  | nil => rfl
  | cons a t ih => simp only [List.foldl_cons]; rw [ih, h]

@[simp] theorem forEach_ports {α : Type} (l : List α) (f : α → State → State) (h : ∀ a s, (f a s).ports = s.ports) (s : State) :
    (forEach l s f).ports = s.ports := by
  unfold forEach; induction l generalizing s with
  | nil => rfl
  | cons a t ih => simp only [List.foldl_cons]; rw [ih, h]

@[simp] theorem forEach_lock {α : Type} (l : List α) (f : α → State → State) (h : ∀ a s, (f a s).lock = s.lock) (s : State) :
    (forEach l s f).lock = s.lock := by
  unfold forEach; induction l generalizing s with
  | nil => rfl
  | cons a t ih => simp only [List.foldl_cons]; rw [ih, h]

@[simp] theorem forEach_weir {α : Type} (l : List α) (f : α → State → State) (h : ∀ a s, (f a s).weir = s.weir) (s : State) :
    (forEach l s f).weir = s.weir := by
  unfold forEach; induction l generalizing s with
  | nil => rfl
  | cons a t ih => simp only [List.foldl_cons]; rw [ih, h]

@[simp] theorem forEach_sluice {α : Type} (l : List α) (f : α → State → State) (h : ∀ a s, (f a s).sluice = s.sluice) (s : State) :
    (forEach l s f).sluice = s.sluice := by
  unfold forEach; induction l generalizing s with
  | nil => rfl
  | cons a t ih => simp only [List.foldl_cons]; rw [ih, h]

@[simp] theorem forEach_refloat {α : Type} (l : List α) (f : α → State → State) (h : ∀ a s, (f a s).refloat = s.refloat) (s : State) :
    (forEach l s f).refloat = s.refloat := by
  unfold forEach; induction l generalizing s with
  | nil => rfl
  | cons a t ih => simp only [List.foldl_cons]; rw [ih, h]

@[simp] theorem forEach_drc {α : Type} (l : List α) (f : α → State → State) (h : ∀ a s, (f a s).drc = s.drc) (s : State) :
    (forEach l s f).drc = s.drc := by
  unfold forEach; induction l generalizing s with
  | nil => rfl
  | cons a t ih => simp only [List.foldl_cons]; rw [ih, h]

@[simp] theorem forEach_fmm {α : Type} (l : List α) (f : α → State → State) (h : ∀ a s, (f a s).fmm = s.fmm) (s : State) :
    (forEach l s f).fmm = s.fmm := by
  unfold forEach; induction l generalizing s with
  | nil => rfl
  | cons a t ih => simp only [List.foldl_cons]; rw [ih, h]

@[simp] theorem forEach_chart {α : Type} (l : List α) (f : α → State → State) (h : ∀ a s, (f a s).chart = s.chart) (s : State) :
    (forEach l s f).chart = s.chart := by
  unfold forEach; induction l generalizing s with
  | nil => rfl
  | cons a t ih => simp only [List.foldl_cons]; rw [ih, h]

@[simp] theorem forEach_gauge {α : Type} (l : List α) (f : α → State → State) (h : ∀ a s, (f a s).gauge = s.gauge) (s : State) :
    (forEach l s f).gauge = s.gauge := by
  unfold forEach; induction l generalizing s with
  | nil => rfl
  | cons a t ih => simp only [List.foldl_cons]; rw [ih, h]

@[simp] theorem forEach_fly {α : Type} (l : List α) (f : α → State → State) (h : ∀ a s, (f a s).fly = s.fly) (s : State) :
    (forEach l s f).fly = s.fly := by
  unfold forEach; induction l generalizing s with
  | nil => rfl
  | cons a t ih => simp only [List.foldl_cons]; rw [ih, h]

@[simp] theorem forEach_seq {α : Type} (l : List α) (f : α → State → State) (h : ∀ a s, (f a s).seq = s.seq) (s : State) :
    (forEach l s f).seq = s.seq := by
  unfold forEach; induction l generalizing s with
  | nil => rfl
  | cons a t ih => simp only [List.foldl_cons]; rw [ih, h]

@[simp] theorem forEach_log {α : Type} (l : List α) (f : α → State → State) (h : ∀ a s, (f a s).log = s.log) (s : State) :
    (forEach l s f).log = s.log := by
  unfold forEach; induction l generalizing s with
  | nil => rfl
  | cons a t ih => simp only [List.foldl_cons]; rw [ih, h]

@[simp] theorem forEach_tow {α : Type} (l : List α) (f : α → State → State) (h : ∀ a s, (f a s).tow = s.tow) (s : State) :
    (forEach l s f).tow = s.tow := by
  unfold forEach; induction l generalizing s with
  | nil => rfl
  | cons a t ih => simp only [List.foldl_cons]; rw [ih, h]

@[simp] theorem forEach_keep {α : Type} (l : List α) (f : α → State → State) (h : ∀ a s, (f a s).keep = s.keep) (s : State) :
    (forEach l s f).keep = s.keep := by
  unfold forEach; induction l generalizing s with
  | nil => rfl
  | cons a t ih => simp only [List.foldl_cons]; rw [ih, h]

@[simp] theorem forEach_cfg {α : Type} (l : List α) (f : α → State → State) (h : ∀ a s, (f a s).cfg = s.cfg) (s : State) :
    (forEach l s f).cfg = s.cfg := by
  unfold forEach; induction l generalizing s with
  | nil => rfl
  | cons a t ih => simp only [List.foldl_cons]; rw [ih, h]

@[simp] theorem forEach_pke {α : Type} (l : List α) (f : α → State → State) (h : ∀ a s, (f a s).pke = s.pke) (s : State) :
    (forEach l s f).pke = s.pke := by
  unfold forEach; induction l generalizing s with
  | nil => rfl
  | cons a t ih => simp only [List.foldl_cons]; rw [ih, h]

@[simp] theorem forEach_clk {α : Type} (l : List α) (f : α → State → State) (h : ∀ a s, (f a s).clk = s.clk) (s : State) :
    (forEach l s f).clk = s.clk := by
  unfold forEach; induction l generalizing s with
  | nil => rfl
  | cons a t ih => simp only [List.foldl_cons]; rw [ih, h]

@[simp] theorem forEach_mgmt {α : Type} (l : List α) (f : α → State → State) (h : ∀ a s, (f a s).mgmt = s.mgmt) (s : State) :
    (forEach l s f).mgmt = s.mgmt := by
  unfold forEach; induction l generalizing s with
  | nil => rfl
  | cons a t ih => simp only [List.foldl_cons]; rw [ih, h]

@[simp] theorem forEach_pins {α : Type} (l : List α) (f : α → State → State) (h : ∀ a s, (f a s).pins = s.pins) (s : State) :
    (forEach l s f).pins = s.pins := by
  unfold forEach; induction l generalizing s with
  | nil => rfl
  | cons a t ih => simp only [List.foldl_cons]; rw [ih, h]

@[simp] theorem forEach_enginesOut {α : Type} (l : List α) (f : α → State → State) (h : ∀ a s, (f a s).enginesOut = s.enginesOut) (s : State) :
    (forEach l s f).enginesOut = s.enginesOut := by
  unfold forEach; induction l generalizing s with
  | nil => rfl
  | cons a t ih => simp only [List.foldl_cons]; rw [ih, h]

@[simp] theorem forEach_keep_reports {α : Type} (l : List α) (f : α → State → State) (h : ∀ a s, (f a s).keep.reports = s.keep.reports) (s : State) :
    (forEach l s f).keep.reports = s.keep.reports := by
  unfold forEach; induction l generalizing s with
  | nil => rfl
  | cons a t ih => simp only [List.foldl_cons]; rw [ih, h]

@[simp] theorem ite_now (c : Prop) [Decidable c] (a b : State) : (if c then a else b).now = if c then a.now else b.now := by
  split <;> rfl
@[simp] theorem ite_free (c : Prop) [Decidable c] (a b : State) : (if c then a else b).free = if c then a.free else b.free := by
  split <;> rfl
@[simp] theorem ite_pending (c : Prop) [Decidable c] (a b : State) : (if c then a else b).pending = if c then a.pending else b.pending := by
  split <;> rfl
@[simp] theorem ite_regs (c : Prop) [Decidable c] (a b : State) : (if c then a else b).regs = if c then a.regs else b.regs := by
  split <;> rfl
@[simp] theorem ite_cmds (c : Prop) [Decidable c] (a b : State) : (if c then a else b).cmds = if c then a.cmds else b.cmds := by
  split <;> rfl
@[simp] theorem ite_out (c : Prop) [Decidable c] (a b : State) : (if c then a else b).out = if c then a.out else b.out := by
  split <;> rfl
@[simp] theorem ite_berths (c : Prop) [Decidable c] (a b : State) : (if c then a else b).berths = if c then a.berths else b.berths := by
  split <;> rfl
@[simp] theorem ite_ports (c : Prop) [Decidable c] (a b : State) : (if c then a else b).ports = if c then a.ports else b.ports := by
  split <;> rfl
@[simp] theorem ite_lock (c : Prop) [Decidable c] (a b : State) : (if c then a else b).lock = if c then a.lock else b.lock := by
  split <;> rfl
@[simp] theorem ite_weir (c : Prop) [Decidable c] (a b : State) : (if c then a else b).weir = if c then a.weir else b.weir := by
  split <;> rfl
@[simp] theorem ite_sluice (c : Prop) [Decidable c] (a b : State) : (if c then a else b).sluice = if c then a.sluice else b.sluice := by
  split <;> rfl
@[simp] theorem ite_refloat (c : Prop) [Decidable c] (a b : State) : (if c then a else b).refloat = if c then a.refloat else b.refloat := by
  split <;> rfl
@[simp] theorem ite_drc (c : Prop) [Decidable c] (a b : State) : (if c then a else b).drc = if c then a.drc else b.drc := by
  split <;> rfl
@[simp] theorem ite_fmm (c : Prop) [Decidable c] (a b : State) : (if c then a else b).fmm = if c then a.fmm else b.fmm := by
  split <;> rfl
@[simp] theorem ite_chart (c : Prop) [Decidable c] (a b : State) : (if c then a else b).chart = if c then a.chart else b.chart := by
  split <;> rfl
@[simp] theorem ite_gauge (c : Prop) [Decidable c] (a b : State) : (if c then a else b).gauge = if c then a.gauge else b.gauge := by
  split <;> rfl
@[simp] theorem ite_fly (c : Prop) [Decidable c] (a b : State) : (if c then a else b).fly = if c then a.fly else b.fly := by
  split <;> rfl
@[simp] theorem ite_seq (c : Prop) [Decidable c] (a b : State) : (if c then a else b).seq = if c then a.seq else b.seq := by
  split <;> rfl
@[simp] theorem ite_log (c : Prop) [Decidable c] (a b : State) : (if c then a else b).log = if c then a.log else b.log := by
  split <;> rfl
@[simp] theorem ite_tow (c : Prop) [Decidable c] (a b : State) : (if c then a else b).tow = if c then a.tow else b.tow := by
  split <;> rfl
@[simp] theorem ite_keep (c : Prop) [Decidable c] (a b : State) : (if c then a else b).keep = if c then a.keep else b.keep := by
  split <;> rfl
@[simp] theorem ite_cfg (c : Prop) [Decidable c] (a b : State) : (if c then a else b).cfg = if c then a.cfg else b.cfg := by
  split <;> rfl
@[simp] theorem ite_pke (c : Prop) [Decidable c] (a b : State) : (if c then a else b).pke = if c then a.pke else b.pke := by
  split <;> rfl
@[simp] theorem ite_clk (c : Prop) [Decidable c] (a b : State) : (if c then a else b).clk = if c then a.clk else b.clk := by
  split <;> rfl
@[simp] theorem ite_mgmt (c : Prop) [Decidable c] (a b : State) : (if c then a else b).mgmt = if c then a.mgmt else b.mgmt := by
  split <;> rfl
@[simp] theorem ite_pins (c : Prop) [Decidable c] (a b : State) : (if c then a else b).pins = if c then a.pins else b.pins := by
  split <;> rfl
@[simp] theorem ite_enginesOut (c : Prop) [Decidable c] (a b : State) : (if c then a else b).enginesOut = if c then a.enginesOut else b.enginesOut := by
  split <;> rfl
@[simp] theorem ite_keep_reports (c : Prop) [Decidable c] (a b : State) : (if c then a else b).keep.reports = if c then a.keep.reports else b.keep.reports := by
  split <;> rfl

@[simp] theorem State.updSrc_reports (s : State) (n : Nat) (f : Src → Src) : (s.updSrc n f).keep.reports = s.keep.reports := by cases s; rfl

@[simp] theorem sendIrq_frame (n : Nat) (s : State) :
    (sendIrq n s).now = s.now ∧ (sendIrq n s).free = s.free ∧ (sendIrq n s).pending = s.pending ∧ (sendIrq n s).regs = s.regs ∧
    (sendIrq n s).cmds = s.cmds ∧ (sendIrq n s).berths = s.berths ∧ (sendIrq n s).ports = s.ports ∧ (sendIrq n s).lock = s.lock ∧
    (sendIrq n s).weir = s.weir ∧ (sendIrq n s).sluice = s.sluice ∧ (sendIrq n s).refloat = s.refloat ∧ (sendIrq n s).drc = s.drc ∧
    (sendIrq n s).fmm = s.fmm ∧ (sendIrq n s).chart = s.chart ∧ (sendIrq n s).gauge = s.gauge ∧ (sendIrq n s).fly = s.fly ∧
    (sendIrq n s).seq = s.seq ∧ (sendIrq n s).log = s.log ∧ (sendIrq n s).tow = s.tow ∧ (sendIrq n s).keep = s.keep ∧
    (sendIrq n s).cfg = s.cfg ∧ (sendIrq n s).pke = s.pke ∧ (sendIrq n s).clk = s.clk ∧ (sendIrq n s).pins = s.pins ∧
    (sendIrq n s).enginesOut = s.enginesOut := by
  unfold sendIrq
  simp

@[simp] theorem raiseIrq_frame (n : Nat) (s : State) :
    (raiseIrq n s).now = s.now ∧ (raiseIrq n s).free = s.free ∧ (raiseIrq n s).pending = s.pending ∧ (raiseIrq n s).cmds = s.cmds ∧
    (raiseIrq n s).berths = s.berths ∧ (raiseIrq n s).ports = s.ports ∧ (raiseIrq n s).lock = s.lock ∧ (raiseIrq n s).weir = s.weir ∧
    (raiseIrq n s).sluice = s.sluice ∧ (raiseIrq n s).refloat = s.refloat ∧ (raiseIrq n s).drc = s.drc ∧ (raiseIrq n s).fmm = s.fmm ∧
    (raiseIrq n s).chart = s.chart ∧ (raiseIrq n s).gauge = s.gauge ∧ (raiseIrq n s).fly = s.fly ∧ (raiseIrq n s).seq = s.seq ∧
    (raiseIrq n s).log = s.log ∧ (raiseIrq n s).tow = s.tow ∧ (raiseIrq n s).keep = s.keep ∧ (raiseIrq n s).cfg = s.cfg ∧
    (raiseIrq n s).pke = s.pke ∧ (raiseIrq n s).clk = s.clk ∧ (raiseIrq n s).pins = s.pins ∧ (raiseIrq n s).enginesOut = s.enginesOut := by
  unfold raiseIrq
  simp

@[simp] theorem queueLog_frame (kind : Nat) (source : Nat) (detail : Nat) (first : Bool) (data : List Word) (s : State) :
    (queueLog kind source detail first data s).now = s.now ∧ (queueLog kind source detail first data s).free = s.free ∧
    (queueLog kind source detail first data s).pending = s.pending ∧ (queueLog kind source detail first data s).cmds = s.cmds ∧
    (queueLog kind source detail first data s).berths = s.berths ∧ (queueLog kind source detail first data s).ports = s.ports ∧
    (queueLog kind source detail first data s).lock = s.lock ∧ (queueLog kind source detail first data s).weir = s.weir ∧
    (queueLog kind source detail first data s).sluice = s.sluice ∧ (queueLog kind source detail first data s).refloat = s.refloat ∧
    (queueLog kind source detail first data s).drc = s.drc ∧ (queueLog kind source detail first data s).fmm = s.fmm ∧
    (queueLog kind source detail first data s).chart = s.chart ∧ (queueLog kind source detail first data s).gauge = s.gauge ∧
    (queueLog kind source detail first data s).fly = s.fly ∧ (queueLog kind source detail first data s).seq = s.seq ∧
    (queueLog kind source detail first data s).tow = s.tow ∧ (queueLog kind source detail first data s).keep = s.keep ∧
    (queueLog kind source detail first data s).cfg = s.cfg ∧ (queueLog kind source detail first data s).pke = s.pke ∧
    (queueLog kind source detail first data s).clk = s.clk ∧ (queueLog kind source detail first data s).pins = s.pins ∧
    (queueLog kind source detail first data s).enginesOut = s.enginesOut := by
  unfold queueLog
  simp

@[simp] theorem logRec_frame (kind : Nat) (source : Nat) (detail : Nat) (data : List Word) (s : State) :
    (logRec kind source detail data s).now = s.now ∧ (logRec kind source detail data s).free = s.free ∧
    (logRec kind source detail data s).pending = s.pending ∧ (logRec kind source detail data s).cmds = s.cmds ∧
    (logRec kind source detail data s).berths = s.berths ∧ (logRec kind source detail data s).ports = s.ports ∧
    (logRec kind source detail data s).lock = s.lock ∧ (logRec kind source detail data s).weir = s.weir ∧
    (logRec kind source detail data s).sluice = s.sluice ∧ (logRec kind source detail data s).refloat = s.refloat ∧
    (logRec kind source detail data s).drc = s.drc ∧ (logRec kind source detail data s).fmm = s.fmm ∧
    (logRec kind source detail data s).chart = s.chart ∧ (logRec kind source detail data s).gauge = s.gauge ∧
    (logRec kind source detail data s).fly = s.fly ∧ (logRec kind source detail data s).seq = s.seq ∧
    (logRec kind source detail data s).tow = s.tow ∧ (logRec kind source detail data s).keep = s.keep ∧
    (logRec kind source detail data s).cfg = s.cfg ∧ (logRec kind source detail data s).pke = s.pke ∧
    (logRec kind source detail data s).clk = s.clk ∧ (logRec kind source detail data s).pins = s.pins ∧
    (logRec kind source detail data s).enginesOut = s.enginesOut := by
  unfold logRec
  simp

@[simp] theorem towNow_frame (cmd : Nat) (mask : Byte) (s : State) :
    (towNow cmd mask s).now = s.now ∧ (towNow cmd mask s).free = s.free ∧ (towNow cmd mask s).pending = s.pending ∧
    (towNow cmd mask s).regs = s.regs ∧ (towNow cmd mask s).cmds = s.cmds ∧ (towNow cmd mask s).out = s.out ∧
    (towNow cmd mask s).berths = s.berths ∧ (towNow cmd mask s).ports = s.ports ∧ (towNow cmd mask s).lock = s.lock ∧
    (towNow cmd mask s).weir = s.weir ∧ (towNow cmd mask s).sluice = s.sluice ∧ (towNow cmd mask s).refloat = s.refloat ∧
    (towNow cmd mask s).drc = s.drc ∧ (towNow cmd mask s).fmm = s.fmm ∧ (towNow cmd mask s).chart = s.chart ∧
    (towNow cmd mask s).gauge = s.gauge ∧ (towNow cmd mask s).fly = s.fly ∧ (towNow cmd mask s).seq = s.seq ∧
    (towNow cmd mask s).log = s.log ∧ (towNow cmd mask s).keep = s.keep ∧ (towNow cmd mask s).cfg = s.cfg ∧
    (towNow cmd mask s).pke = s.pke ∧ (towNow cmd mask s).clk = s.clk ∧ (towNow cmd mask s).mgmt = s.mgmt ∧
    (towNow cmd mask s).pins = s.pins ∧ (towNow cmd mask s).enginesOut = s.enginesOut := by
  unfold towNow
  simp

@[simp] theorem towSend_frame (cmd : Nat) (mask : Byte) (s : State) :
    (towSend cmd mask s).now = s.now ∧ (towSend cmd mask s).free = s.free ∧ (towSend cmd mask s).pending = s.pending ∧
    (towSend cmd mask s).cmds = s.cmds ∧ (towSend cmd mask s).berths = s.berths ∧ (towSend cmd mask s).ports = s.ports ∧
    (towSend cmd mask s).lock = s.lock ∧ (towSend cmd mask s).weir = s.weir ∧ (towSend cmd mask s).sluice = s.sluice ∧
    (towSend cmd mask s).refloat = s.refloat ∧ (towSend cmd mask s).drc = s.drc ∧ (towSend cmd mask s).fmm = s.fmm ∧
    (towSend cmd mask s).chart = s.chart ∧ (towSend cmd mask s).gauge = s.gauge ∧ (towSend cmd mask s).fly = s.fly ∧
    (towSend cmd mask s).seq = s.seq ∧ (towSend cmd mask s).keep = s.keep ∧ (towSend cmd mask s).cfg = s.cfg ∧
    (towSend cmd mask s).pke = s.pke ∧ (towSend cmd mask s).clk = s.clk ∧ (towSend cmd mask s).pins = s.pins ∧
    (towSend cmd mask s).enginesOut = s.enginesOut := by
  unfold towSend
  simp

@[simp] theorem groupSluice_frame (s : State) :
    (groupSluice s).now = s.now ∧ (groupSluice s).free = s.free ∧ (groupSluice s).pending = s.pending ∧ (groupSluice s).cmds = s.cmds ∧
    (groupSluice s).berths = s.berths ∧ (groupSluice s).ports = s.ports ∧ (groupSluice s).lock = s.lock ∧ (groupSluice s).weir = s.weir ∧
    (groupSluice s).sluice = s.sluice ∧ (groupSluice s).refloat = s.refloat ∧ (groupSluice s).drc = s.drc ∧ (groupSluice s).fmm = s.fmm ∧
    (groupSluice s).chart = s.chart ∧ (groupSluice s).gauge = s.gauge ∧ (groupSluice s).fly = s.fly ∧ (groupSluice s).seq = s.seq ∧
    (groupSluice s).keep = s.keep ∧ (groupSluice s).cfg = s.cfg ∧ (groupSluice s).pke = s.pke ∧ (groupSluice s).clk = s.clk ∧
    (groupSluice s).pins = s.pins ∧ (groupSluice s).enginesOut = s.enginesOut := by
  unfold groupSluice
  simp

@[simp] theorem triggerAgain_frame (c : Nat) (s : State) :
    (triggerAgain c s).now = s.now ∧ (triggerAgain c s).free = s.free ∧ (triggerAgain c s).pending = s.pending ∧
    (triggerAgain c s).cmds = s.cmds ∧ (triggerAgain c s).berths = s.berths ∧ (triggerAgain c s).ports = s.ports ∧
    (triggerAgain c s).lock = s.lock ∧ (triggerAgain c s).weir = s.weir ∧ (triggerAgain c s).refloat = s.refloat ∧
    (triggerAgain c s).drc = s.drc ∧ (triggerAgain c s).fmm = s.fmm ∧ (triggerAgain c s).chart = s.chart ∧
    (triggerAgain c s).gauge = s.gauge ∧ (triggerAgain c s).fly = s.fly ∧ (triggerAgain c s).seq = s.seq ∧
    (triggerAgain c s).tow = s.tow ∧ (triggerAgain c s).keep = s.keep ∧ (triggerAgain c s).cfg = s.cfg ∧ (triggerAgain c s).pke = s.pke ∧
    (triggerAgain c s).clk = s.clk ∧ (triggerAgain c s).pins = s.pins ∧ (triggerAgain c s).enginesOut = s.enginesOut := by
  unfold triggerAgain
  simp

@[simp] theorem portMsix_frame (p : Nat) (v : Nat) (s : State) :
    (portMsix p v s).now = s.now ∧ (portMsix p v s).free = s.free ∧ (portMsix p v s).pending = s.pending ∧
    (portMsix p v s).regs = s.regs ∧ (portMsix p v s).cmds = s.cmds ∧ (portMsix p v s).berths = s.berths ∧
    (portMsix p v s).lock = s.lock ∧ (portMsix p v s).weir = s.weir ∧ (portMsix p v s).sluice = s.sluice ∧
    (portMsix p v s).refloat = s.refloat ∧ (portMsix p v s).drc = s.drc ∧ (portMsix p v s).fmm = s.fmm ∧
    (portMsix p v s).chart = s.chart ∧ (portMsix p v s).gauge = s.gauge ∧ (portMsix p v s).fly = s.fly ∧ (portMsix p v s).seq = s.seq ∧
    (portMsix p v s).log = s.log ∧ (portMsix p v s).tow = s.tow ∧ (portMsix p v s).keep = s.keep ∧ (portMsix p v s).cfg = s.cfg ∧
    (portMsix p v s).pke = s.pke ∧ (portMsix p v s).clk = s.clk ∧ (portMsix p v s).mgmt = s.mgmt ∧ (portMsix p v s).pins = s.pins ∧
    (portMsix p v s).enginesOut = s.enginesOut := by
  unfold portMsix
  simp

@[simp] theorem earlyWarning_frame (s : State) :
    (earlyWarning s).now = s.now ∧ (earlyWarning s).free = s.free ∧ (earlyWarning s).pending = s.pending ∧
    (earlyWarning s).regs = s.regs ∧ (earlyWarning s).cmds = s.cmds ∧ (earlyWarning s).berths = s.berths ∧
    (earlyWarning s).lock = s.lock ∧ (earlyWarning s).weir = s.weir ∧ (earlyWarning s).sluice = s.sluice ∧
    (earlyWarning s).refloat = s.refloat ∧ (earlyWarning s).drc = s.drc ∧ (earlyWarning s).fmm = s.fmm ∧
    (earlyWarning s).chart = s.chart ∧ (earlyWarning s).gauge = s.gauge ∧ (earlyWarning s).fly = s.fly ∧ (earlyWarning s).seq = s.seq ∧
    (earlyWarning s).log = s.log ∧ (earlyWarning s).tow = s.tow ∧ (earlyWarning s).keep = s.keep ∧ (earlyWarning s).cfg = s.cfg ∧
    (earlyWarning s).pke = s.pke ∧ (earlyWarning s).clk = s.clk ∧ (earlyWarning s).mgmt = s.mgmt ∧
    (earlyWarning s).enginesOut = s.enginesOut := by
  unfold earlyWarning
  simp

@[simp] theorem setWeir_frame (w : WSt) (s : State) :
    (setWeir w s).now = s.now ∧ (setWeir w s).free = s.free ∧ (setWeir w s).pending = s.pending ∧ (setWeir w s).cmds = s.cmds ∧
    (setWeir w s).berths = s.berths ∧ (setWeir w s).ports = s.ports ∧ (setWeir w s).lock = s.lock ∧ (setWeir w s).sluice = s.sluice ∧
    (setWeir w s).refloat = s.refloat ∧ (setWeir w s).drc = s.drc ∧ (setWeir w s).fmm = s.fmm ∧ (setWeir w s).chart = s.chart ∧
    (setWeir w s).gauge = s.gauge ∧ (setWeir w s).fly = s.fly ∧ (setWeir w s).seq = s.seq ∧ (setWeir w s).log = s.log ∧
    (setWeir w s).tow = s.tow ∧ (setWeir w s).keep = s.keep ∧ (setWeir w s).cfg = s.cfg ∧ (setWeir w s).pke = s.pke ∧
    (setWeir w s).clk = s.clk ∧ (setWeir w s).pins = s.pins ∧ (setWeir w s).enginesOut = s.enginesOut := by
  unfold setWeir
  simp

@[simp] theorem abandonProgram_frame (s : State) :
    (abandonProgram s).now = s.now ∧ (abandonProgram s).free = s.free ∧ (abandonProgram s).pending = s.pending ∧
    (abandonProgram s).cmds = s.cmds ∧ (abandonProgram s).berths = s.berths ∧ (abandonProgram s).ports = s.ports ∧
    (abandonProgram s).lock = s.lock ∧ (abandonProgram s).weir = s.weir ∧ (abandonProgram s).sluice = s.sluice ∧
    (abandonProgram s).refloat = s.refloat ∧ (abandonProgram s).drc = s.drc ∧ (abandonProgram s).fmm = s.fmm ∧
    (abandonProgram s).chart = s.chart ∧ (abandonProgram s).gauge = s.gauge ∧ (abandonProgram s).fly = s.fly ∧
    (abandonProgram s).tow = s.tow ∧ (abandonProgram s).keep = s.keep ∧ (abandonProgram s).cfg = s.cfg ∧ (abandonProgram s).pke = s.pke ∧
    (abandonProgram s).clk = s.clk ∧ (abandonProgram s).pins = s.pins ∧ (abandonProgram s).enginesOut = s.enginesOut := by
  unfold abandonProgram
  (repeat' split) <;> simp

@[simp] theorem startProgram_frame (p : Nat) (s : State) :
    (startProgram p s).now = s.now ∧ (startProgram p s).free = s.free ∧ (startProgram p s).pending = s.pending ∧
    (startProgram p s).cmds = s.cmds ∧ (startProgram p s).berths = s.berths ∧ (startProgram p s).ports = s.ports ∧
    (startProgram p s).lock = s.lock ∧ (startProgram p s).weir = s.weir ∧ (startProgram p s).sluice = s.sluice ∧
    (startProgram p s).refloat = s.refloat ∧ (startProgram p s).drc = s.drc ∧ (startProgram p s).fmm = s.fmm ∧
    (startProgram p s).chart = s.chart ∧ (startProgram p s).gauge = s.gauge ∧ (startProgram p s).fly = s.fly ∧
    (startProgram p s).tow = s.tow ∧ (startProgram p s).keep = s.keep ∧ (startProgram p s).cfg = s.cfg ∧ (startProgram p s).pke = s.pke ∧
    (startProgram p s).clk = s.clk ∧ (startProgram p s).pins = s.pins ∧ (startProgram p s).enginesOut = s.enginesOut := by
  unfold startProgram
  dsimp only
  (repeat' split) <;> simp

@[simp] theorem switchProgram_frame (p : Nat) (s : State) :
    (switchProgram p s).now = s.now ∧ (switchProgram p s).free = s.free ∧ (switchProgram p s).pending = s.pending ∧
    (switchProgram p s).cmds = s.cmds ∧ (switchProgram p s).berths = s.berths ∧ (switchProgram p s).ports = s.ports ∧
    (switchProgram p s).lock = s.lock ∧ (switchProgram p s).weir = s.weir ∧ (switchProgram p s).sluice = s.sluice ∧
    (switchProgram p s).refloat = s.refloat ∧ (switchProgram p s).drc = s.drc ∧ (switchProgram p s).fmm = s.fmm ∧
    (switchProgram p s).chart = s.chart ∧ (switchProgram p s).gauge = s.gauge ∧ (switchProgram p s).fly = s.fly ∧
    (switchProgram p s).tow = s.tow ∧ (switchProgram p s).keep = s.keep ∧ (switchProgram p s).cfg = s.cfg ∧
    (switchProgram p s).pke = s.pke ∧ (switchProgram p s).clk = s.clk ∧ (switchProgram p s).pins = s.pins ∧
    (switchProgram p s).enginesOut = s.enginesOut := by
  unfold switchProgram
  simp

@[simp] theorem cmdEnd_frame (k : Nat) (result : Nat) (s : State) :
    (cmdEnd k result s).now = s.now ∧ (cmdEnd k result s).free = s.free ∧ (cmdEnd k result s).pending = s.pending ∧
    (cmdEnd k result s).berths = s.berths ∧ (cmdEnd k result s).ports = s.ports ∧ (cmdEnd k result s).lock = s.lock ∧
    (cmdEnd k result s).weir = s.weir ∧ (cmdEnd k result s).sluice = s.sluice ∧ (cmdEnd k result s).refloat = s.refloat ∧
    (cmdEnd k result s).drc = s.drc ∧ (cmdEnd k result s).fmm = s.fmm ∧ (cmdEnd k result s).chart = s.chart ∧
    (cmdEnd k result s).gauge = s.gauge ∧ (cmdEnd k result s).fly = s.fly ∧ (cmdEnd k result s).seq = s.seq ∧
    (cmdEnd k result s).log = s.log ∧ (cmdEnd k result s).tow = s.tow ∧ (cmdEnd k result s).keep = s.keep ∧
    (cmdEnd k result s).cfg = s.cfg ∧ (cmdEnd k result s).pke = s.pke ∧ (cmdEnd k result s).clk = s.clk ∧
    (cmdEnd k result s).pins = s.pins ∧ (cmdEnd k result s).enginesOut = s.enginesOut := by
  unfold cmdEnd
  simp

@[simp] theorem endGaugeCmd_frame (op : Nat) (result : Nat) (s : State) :
    (endGaugeCmd op result s).now = s.now ∧ (endGaugeCmd op result s).free = s.free ∧ (endGaugeCmd op result s).pending = s.pending ∧
    (endGaugeCmd op result s).berths = s.berths ∧ (endGaugeCmd op result s).ports = s.ports ∧ (endGaugeCmd op result s).lock = s.lock ∧
    (endGaugeCmd op result s).weir = s.weir ∧ (endGaugeCmd op result s).sluice = s.sluice ∧
    (endGaugeCmd op result s).refloat = s.refloat ∧ (endGaugeCmd op result s).drc = s.drc ∧ (endGaugeCmd op result s).fmm = s.fmm ∧
    (endGaugeCmd op result s).chart = s.chart ∧ (endGaugeCmd op result s).fly = s.fly ∧ (endGaugeCmd op result s).seq = s.seq ∧
    (endGaugeCmd op result s).log = s.log ∧ (endGaugeCmd op result s).tow = s.tow ∧ (endGaugeCmd op result s).keep = s.keep ∧
    (endGaugeCmd op result s).cfg = s.cfg ∧ (endGaugeCmd op result s).pke = s.pke ∧ (endGaugeCmd op result s).clk = s.clk ∧
    (endGaugeCmd op result s).pins = s.pins ∧ (endGaugeCmd op result s).enginesOut = s.enginesOut := by
  unfold endGaugeCmd
  simp

@[simp] theorem stopCapTest_frame (s : State) :
    (stopCapTest s).now = s.now ∧ (stopCapTest s).free = s.free ∧ (stopCapTest s).pending = s.pending ∧
    (stopCapTest s).berths = s.berths ∧ (stopCapTest s).ports = s.ports ∧ (stopCapTest s).lock = s.lock ∧ (stopCapTest s).weir = s.weir ∧
    (stopCapTest s).sluice = s.sluice ∧ (stopCapTest s).refloat = s.refloat ∧ (stopCapTest s).drc = s.drc ∧ (stopCapTest s).fmm = s.fmm ∧
    (stopCapTest s).chart = s.chart ∧ (stopCapTest s).fly = s.fly ∧ (stopCapTest s).seq = s.seq ∧ (stopCapTest s).log = s.log ∧
    (stopCapTest s).tow = s.tow ∧ (stopCapTest s).keep = s.keep ∧ (stopCapTest s).cfg = s.cfg ∧ (stopCapTest s).pke = s.pke ∧
    (stopCapTest s).clk = s.clk ∧ (stopCapTest s).enginesOut = s.enginesOut := by
  unfold stopCapTest
  simp

@[simp] theorem stopCfg_frame (s : State) :
    (stopCfg s).now = s.now ∧ (stopCfg s).free = s.free ∧ (stopCfg s).pending = s.pending ∧ (stopCfg s).berths = s.berths ∧
    (stopCfg s).ports = s.ports ∧ (stopCfg s).lock = s.lock ∧ (stopCfg s).weir = s.weir ∧ (stopCfg s).sluice = s.sluice ∧
    (stopCfg s).refloat = s.refloat ∧ (stopCfg s).drc = s.drc ∧ (stopCfg s).fmm = s.fmm ∧ (stopCfg s).chart = s.chart ∧
    (stopCfg s).gauge = s.gauge ∧ (stopCfg s).fly = s.fly ∧ (stopCfg s).seq = s.seq ∧ (stopCfg s).log = s.log ∧ (stopCfg s).tow = s.tow ∧
    (stopCfg s).keep = s.keep ∧ (stopCfg s).pke = s.pke ∧ (stopCfg s).clk = s.clk ∧ (stopCfg s).pins = s.pins ∧
    (stopCfg s).enginesOut = s.enginesOut := by
  unfold stopCfg
  simp

@[simp] theorem stopLearning_frame (s : State) :
    (stopLearning s).now = s.now ∧ (stopLearning s).free = s.free ∧ (stopLearning s).pending = s.pending ∧
    (stopLearning s).regs = s.regs ∧ (stopLearning s).cmds = s.cmds ∧ (stopLearning s).berths = s.berths ∧
    (stopLearning s).ports = s.ports ∧ (stopLearning s).lock = s.lock ∧ (stopLearning s).weir = s.weir ∧
    (stopLearning s).sluice = s.sluice ∧ (stopLearning s).refloat = s.refloat ∧ (stopLearning s).drc = s.drc ∧
    (stopLearning s).fmm = s.fmm ∧ (stopLearning s).chart = s.chart ∧ (stopLearning s).fly = s.fly ∧ (stopLearning s).seq = s.seq ∧
    (stopLearning s).log = s.log ∧ (stopLearning s).tow = s.tow ∧ (stopLearning s).keep = s.keep ∧ (stopLearning s).cfg = s.cfg ∧
    (stopLearning s).pke = s.pke ∧ (stopLearning s).clk = s.clk ∧ (stopLearning s).mgmt = s.mgmt ∧ (stopLearning s).pins = s.pins ∧
    (stopLearning s).enginesOut = s.enginesOut := by
  unfold stopLearning
  dsimp only
  (repeat' split) <;> simp

@[simp] theorem triggerAround_frame (s : State) :
    (triggerAround s).now = s.now ∧ (triggerAround s).free = s.free ∧ (triggerAround s).pending = s.pending ∧
    (triggerAround s).berths = s.berths ∧ (triggerAround s).lock = s.lock ∧ (triggerAround s).weir = s.weir ∧
    (triggerAround s).sluice = s.sluice ∧ (triggerAround s).refloat = s.refloat ∧ (triggerAround s).drc = s.drc ∧
    (triggerAround s).fmm = s.fmm ∧ (triggerAround s).chart = s.chart ∧ (triggerAround s).seq = s.seq ∧ (triggerAround s).log = s.log ∧
    (triggerAround s).tow = s.tow ∧ (triggerAround s).keep = s.keep ∧ (triggerAround s).pke = s.pke ∧ (triggerAround s).clk = s.clk ∧
    (triggerAround s).enginesOut = s.enginesOut := by
  unfold triggerAround
  dsimp only
  refine ⟨?_, ?_, ?_, ?_, ?_, ?_, ?_, ?_, ?_, ?_, ?_, ?_, ?_, ?_, ?_, ?_, ?_, ?_⟩
  · refine (forEach_now _ _ (fun a u => ?_) _).trans (by first | rfl | simp)
    (repeat' split) <;> simp
  · refine (forEach_free _ _ (fun a u => ?_) _).trans (by first | rfl | simp)
    (repeat' split) <;> simp
  · refine (forEach_pending _ _ (fun a u => ?_) _).trans (by first | rfl | simp)
    (repeat' split) <;> simp
  · refine (forEach_berths _ _ (fun a u => ?_) _).trans (by first | rfl | simp)
    (repeat' split) <;> simp
  · refine (forEach_lock _ _ (fun a u => ?_) _).trans (by first | rfl | simp)
    (repeat' split) <;> simp
  · refine (forEach_weir _ _ (fun a u => ?_) _).trans (by first | rfl | simp)
    (repeat' split) <;> simp
  · refine (forEach_sluice _ _ (fun a u => ?_) _).trans (by first | rfl | simp)
    (repeat' split) <;> simp
  · refine (forEach_refloat _ _ (fun a u => ?_) _).trans (by first | rfl | simp)
    (repeat' split) <;> simp
  · refine (forEach_drc _ _ (fun a u => ?_) _).trans (by first | rfl | simp)
    (repeat' split) <;> simp
  · refine (forEach_fmm _ _ (fun a u => ?_) _).trans (by first | rfl | simp)
    (repeat' split) <;> simp
  · refine (forEach_chart _ _ (fun a u => ?_) _).trans (by first | rfl | simp)
    (repeat' split) <;> simp
  · refine (forEach_seq _ _ (fun a u => ?_) _).trans (by first | rfl | simp)
    (repeat' split) <;> simp
  · refine (forEach_log _ _ (fun a u => ?_) _).trans (by first | rfl | simp)
    (repeat' split) <;> simp
  · refine (forEach_tow _ _ (fun a u => ?_) _).trans (by first | rfl | simp)
    (repeat' split) <;> simp
  · refine (forEach_keep _ _ (fun a u => ?_) _).trans (by first | rfl | simp)
    (repeat' split) <;> simp
  · refine (forEach_pke _ _ (fun a u => ?_) _).trans (by first | rfl | simp)
    (repeat' split) <;> simp
  · refine (forEach_clk _ _ (fun a u => ?_) _).trans (by first | rfl | simp)
    (repeat' split) <;> simp
  · refine (forEach_enginesOut _ _ (fun a u => ?_) _).trans (by first | rfl | simp)
    (repeat' split) <;> simp

@[simp] theorem triggerEarly_frame (c : Nat) (s : State) :
    (triggerEarly c s).now = s.now ∧ (triggerEarly c s).free = s.free ∧ (triggerEarly c s).pending = s.pending ∧
    (triggerEarly c s).berths = s.berths ∧ (triggerEarly c s).lock = s.lock ∧ (triggerEarly c s).refloat = s.refloat ∧
    (triggerEarly c s).drc = s.drc ∧ (triggerEarly c s).chart = s.chart ∧ (triggerEarly c s).tow = s.tow ∧
    (triggerEarly c s).keep = s.keep ∧ (triggerEarly c s).pke = s.pke ∧ (triggerEarly c s).clk = s.clk ∧
    (triggerEarly c s).enginesOut = s.enginesOut := by
  unfold triggerEarly
  simp

@[simp] theorem chartOff_frame (s : State) :
    (chartOff s).now = s.now ∧ (chartOff s).free = s.free ∧ (chartOff s).pending = s.pending ∧ (chartOff s).regs = s.regs ∧
    (chartOff s).cmds = s.cmds ∧ (chartOff s).out = s.out ∧ (chartOff s).berths = s.berths ∧ (chartOff s).ports = s.ports ∧
    (chartOff s).lock = s.lock ∧ (chartOff s).weir = s.weir ∧ (chartOff s).sluice = s.sluice ∧ (chartOff s).refloat = s.refloat ∧
    (chartOff s).drc = s.drc ∧ (chartOff s).gauge = s.gauge ∧ (chartOff s).fly = s.fly ∧ (chartOff s).seq = s.seq ∧
    (chartOff s).log = s.log ∧ (chartOff s).tow = s.tow ∧ (chartOff s).keep = s.keep ∧ (chartOff s).cfg = s.cfg ∧
    (chartOff s).pke = s.pke ∧ (chartOff s).clk = s.clk ∧ (chartOff s).mgmt = s.mgmt ∧ (chartOff s).pins = s.pins ∧
    (chartOff s).enginesOut = s.enginesOut := by
  unfold chartOff
  simp

@[simp] theorem flashCmd_frame (op : FlashOp) (die : Nat) (block : Nat) (row : Nat) (s : State) :
    (flashCmd op die block row s).now = s.now ∧ (flashCmd op die block row s).free = s.free ∧
    (flashCmd op die block row s).pending = s.pending ∧ (flashCmd op die block row s).regs = s.regs ∧
    (flashCmd op die block row s).cmds = s.cmds ∧ (flashCmd op die block row s).berths = s.berths ∧
    (flashCmd op die block row s).ports = s.ports ∧ (flashCmd op die block row s).lock = s.lock ∧
    (flashCmd op die block row s).weir = s.weir ∧ (flashCmd op die block row s).sluice = s.sluice ∧
    (flashCmd op die block row s).refloat = s.refloat ∧ (flashCmd op die block row s).drc = s.drc ∧
    (flashCmd op die block row s).fmm = s.fmm ∧ (flashCmd op die block row s).chart = s.chart ∧
    (flashCmd op die block row s).gauge = s.gauge ∧ (flashCmd op die block row s).fly = s.fly ∧
    (flashCmd op die block row s).seq = s.seq ∧ (flashCmd op die block row s).log = s.log ∧ (flashCmd op die block row s).tow = s.tow ∧
    (flashCmd op die block row s).keep = s.keep ∧ (flashCmd op die block row s).cfg = s.cfg ∧ (flashCmd op die block row s).pke = s.pke ∧
    (flashCmd op die block row s).clk = s.clk ∧ (flashCmd op die block row s).mgmt = s.mgmt ∧
    (flashCmd op die block row s).pins = s.pins ∧ (flashCmd op die block row s).enginesOut = s.enginesOut := by
  unfold flashCmd
  simp

@[simp] theorem readBackStart_frame (b : Sb) (s : State) :
    (readBackStart b s).now = s.now ∧ (readBackStart b s).free = s.free ∧ (readBackStart b s).pending = s.pending ∧
    (readBackStart b s).regs = s.regs ∧ (readBackStart b s).cmds = s.cmds ∧ (readBackStart b s).berths = s.berths ∧
    (readBackStart b s).ports = s.ports ∧ (readBackStart b s).lock = s.lock ∧ (readBackStart b s).weir = s.weir ∧
    (readBackStart b s).sluice = s.sluice ∧ (readBackStart b s).refloat = s.refloat ∧ (readBackStart b s).drc = s.drc ∧
    (readBackStart b s).fmm = s.fmm ∧ (readBackStart b s).chart = s.chart ∧ (readBackStart b s).gauge = s.gauge ∧
    (readBackStart b s).fly = s.fly ∧ (readBackStart b s).seq = s.seq ∧ (readBackStart b s).log = s.log ∧
    (readBackStart b s).tow = s.tow ∧ (readBackStart b s).keep = s.keep ∧ (readBackStart b s).cfg = s.cfg ∧
    (readBackStart b s).pke = s.pke ∧ (readBackStart b s).clk = s.clk ∧ (readBackStart b s).mgmt = s.mgmt ∧
    (readBackStart b s).pins = s.pins ∧ (readBackStart b s).enginesOut = s.enginesOut := by
  unfold readBackStart
  simp

@[simp] theorem closeSb_frame (k : Nat) (s : State) :
    (closeSb k s).now = s.now ∧ (closeSb k s).free = s.free ∧ (closeSb k s).pending = s.pending ∧ (closeSb k s).regs = s.regs ∧
    (closeSb k s).cmds = s.cmds ∧ (closeSb k s).berths = s.berths ∧ (closeSb k s).ports = s.ports ∧ (closeSb k s).lock = s.lock ∧
    (closeSb k s).weir = s.weir ∧ (closeSb k s).sluice = s.sluice ∧ (closeSb k s).refloat = s.refloat ∧ (closeSb k s).drc = s.drc ∧
    (closeSb k s).chart = s.chart ∧ (closeSb k s).gauge = s.gauge ∧ (closeSb k s).fly = s.fly ∧ (closeSb k s).seq = s.seq ∧
    (closeSb k s).log = s.log ∧ (closeSb k s).tow = s.tow ∧ (closeSb k s).keep = s.keep ∧ (closeSb k s).cfg = s.cfg ∧
    (closeSb k s).pke = s.pke ∧ (closeSb k s).clk = s.clk ∧ (closeSb k s).mgmt = s.mgmt ∧ (closeSb k s).pins = s.pins ∧
    (closeSb k s).enginesOut = s.enginesOut := by
  unfold closeSb
  simp

@[simp] theorem placeRow_frame (k : Nat) (r : Row) (s : State) :
    (placeRow k r s).now = s.now ∧ (placeRow k r s).free = s.free ∧ (placeRow k r s).pending = s.pending ∧
    (placeRow k r s).regs = s.regs ∧ (placeRow k r s).cmds = s.cmds ∧ (placeRow k r s).out = s.out ∧ (placeRow k r s).berths = s.berths ∧
    (placeRow k r s).ports = s.ports ∧ (placeRow k r s).lock = s.lock ∧ (placeRow k r s).weir = s.weir ∧
    (placeRow k r s).sluice = s.sluice ∧ (placeRow k r s).refloat = s.refloat ∧ (placeRow k r s).drc = s.drc ∧
    (placeRow k r s).chart = s.chart ∧ (placeRow k r s).gauge = s.gauge ∧ (placeRow k r s).fly = s.fly ∧ (placeRow k r s).seq = s.seq ∧
    (placeRow k r s).log = s.log ∧ (placeRow k r s).tow = s.tow ∧ (placeRow k r s).keep = s.keep ∧ (placeRow k r s).cfg = s.cfg ∧
    (placeRow k r s).pke = s.pke ∧ (placeRow k r s).clk = s.clk ∧ (placeRow k r s).mgmt = s.mgmt ∧ (placeRow k r s).pins = s.pins ∧
    (placeRow k r s).enginesOut = s.enginesOut := by
  unfold placeRow
  simp

@[simp] theorem leaveFrom_frame (k : Nat) (row : Nat) (s : State) :
    (leaveFrom k row s).now = s.now ∧ (leaveFrom k row s).free = s.free ∧ (leaveFrom k row s).pending = s.pending ∧
    (leaveFrom k row s).regs = s.regs ∧ (leaveFrom k row s).cmds = s.cmds ∧ (leaveFrom k row s).out = s.out ∧
    (leaveFrom k row s).berths = s.berths ∧ (leaveFrom k row s).ports = s.ports ∧ (leaveFrom k row s).lock = s.lock ∧
    (leaveFrom k row s).weir = s.weir ∧ (leaveFrom k row s).sluice = s.sluice ∧ (leaveFrom k row s).refloat = s.refloat ∧
    (leaveFrom k row s).drc = s.drc ∧ (leaveFrom k row s).chart = s.chart ∧ (leaveFrom k row s).gauge = s.gauge ∧
    (leaveFrom k row s).fly = s.fly ∧ (leaveFrom k row s).seq = s.seq ∧ (leaveFrom k row s).log = s.log ∧
    (leaveFrom k row s).tow = s.tow ∧ (leaveFrom k row s).keep = s.keep ∧ (leaveFrom k row s).cfg = s.cfg ∧
    (leaveFrom k row s).pke = s.pke ∧ (leaveFrom k row s).clk = s.clk ∧ (leaveFrom k row s).mgmt = s.mgmt ∧
    (leaveFrom k row s).pins = s.pins ∧ (leaveFrom k row s).enginesOut = s.enginesOut := by
  unfold leaveFrom
  simp

@[simp] theorem refuseProgram_frame (k : Nat) (s : State) :
    (refuseProgram k s).now = s.now ∧ (refuseProgram k s).free = s.free ∧ (refuseProgram k s).pending = s.pending ∧
    (refuseProgram k s).cmds = s.cmds ∧ (refuseProgram k s).berths = s.berths ∧ (refuseProgram k s).ports = s.ports ∧
    (refuseProgram k s).lock = s.lock ∧ (refuseProgram k s).weir = s.weir ∧ (refuseProgram k s).sluice = s.sluice ∧
    (refuseProgram k s).refloat = s.refloat ∧ (refuseProgram k s).drc = s.drc ∧ (refuseProgram k s).chart = s.chart ∧
    (refuseProgram k s).gauge = s.gauge ∧ (refuseProgram k s).fly = s.fly ∧ (refuseProgram k s).seq = s.seq ∧
    (refuseProgram k s).log = s.log ∧ (refuseProgram k s).tow = s.tow ∧ (refuseProgram k s).cfg = s.cfg ∧
    (refuseProgram k s).pke = s.pke ∧ (refuseProgram k s).clk = s.clk ∧ (refuseProgram k s).mgmt = s.mgmt ∧
    (refuseProgram k s).pins = s.pins ∧ (refuseProgram k s).enginesOut = s.enginesOut := by
  unfold refuseProgram
  simp

@[simp] theorem issueNext_frame (k : Nat) (s : State) :
    (issueNext k s).now = s.now ∧ (issueNext k s).free = s.free ∧ (issueNext k s).pending = s.pending ∧ (issueNext k s).cmds = s.cmds ∧
    (issueNext k s).berths = s.berths ∧ (issueNext k s).ports = s.ports ∧ (issueNext k s).lock = s.lock ∧ (issueNext k s).weir = s.weir ∧
    (issueNext k s).sluice = s.sluice ∧ (issueNext k s).refloat = s.refloat ∧ (issueNext k s).drc = s.drc ∧
    (issueNext k s).chart = s.chart ∧ (issueNext k s).gauge = s.gauge ∧ (issueNext k s).fly = s.fly ∧ (issueNext k s).seq = s.seq ∧
    (issueNext k s).log = s.log ∧ (issueNext k s).tow = s.tow ∧ (issueNext k s).cfg = s.cfg ∧ (issueNext k s).pke = s.pke ∧
    (issueNext k s).clk = s.clk ∧ (issueNext k s).mgmt = s.mgmt ∧ (issueNext k s).pins = s.pins ∧
    (issueNext k s).enginesOut = s.enginesOut := by
  unfold issueNext
  simp

theorem openSb_frame (st : Stream) (q : Nat) (s : State) (k : Nat) (t : State) (h : openSb st q s = some (k, t)) :
    t.now = s.now ∧ t.free = s.free ∧ t.pending = s.pending ∧ t.regs = s.regs ∧ t.cmds = s.cmds ∧ t.out = s.out ∧ t.berths = s.berths ∧ t.ports = s.ports ∧ t.lock = s.lock ∧ t.weir = s.weir ∧ t.sluice = s.sluice ∧ t.refloat = s.refloat ∧ t.drc = s.drc ∧ t.chart = s.chart ∧ t.gauge = s.gauge ∧ t.fly = s.fly ∧ t.seq = s.seq ∧ t.log = s.log ∧ t.tow = s.tow ∧ t.keep = s.keep ∧ t.cfg = s.cfg ∧ t.pke = s.pke ∧ t.clk = s.clk ∧ t.mgmt = s.mgmt ∧ t.pins = s.pins ∧ t.enginesOut = s.enginesOut := by
  unfold openSb at h
  split at h
  · cases h
  · obtain ⟨a, _, ha⟩ := Option.bind_eq_some_iff.1 h
    split at ha
    · cases ha
    · simp only [Option.some.injEq, Prod.mk.injEq] at ha
      obtain ⟨_, rfl⟩ := ha
      simp

theorem openAny_frame (st : Stream) (qs : List Nat) (s : State) (k : Nat) (t : State) (h : openAny st qs s = some (k, t)) :
    t.now = s.now ∧ t.free = s.free ∧ t.pending = s.pending ∧ t.regs = s.regs ∧ t.cmds = s.cmds ∧ t.out = s.out ∧ t.berths = s.berths ∧ t.ports = s.ports ∧ t.lock = s.lock ∧ t.weir = s.weir ∧ t.sluice = s.sluice ∧ t.refloat = s.refloat ∧ t.drc = s.drc ∧ t.chart = s.chart ∧ t.gauge = s.gauge ∧ t.fly = s.fly ∧ t.seq = s.seq ∧ t.log = s.log ∧ t.tow = s.tow ∧ t.keep = s.keep ∧ t.cfg = s.cfg ∧ t.pke = s.pke ∧ t.clk = s.clk ∧ t.mgmt = s.mgmt ∧ t.pins = s.pins ∧ t.enginesOut = s.enginesOut := by
  unfold openAny at h
  obtain ⟨q, _, hq⟩ := List.exists_of_findSome?_eq_some h
  exact openSb_frame st q s k t hq

theorem chooseSb_frame (st : Stream) (qs : List Nat) (s : State) (k : Nat) (t : State) (h : chooseSb st qs s = some (k, t)) :
    t.now = s.now ∧ t.free = s.free ∧ t.pending = s.pending ∧ t.regs = s.regs ∧ t.cmds = s.cmds ∧ t.out = s.out ∧ t.berths = s.berths ∧ t.ports = s.ports ∧ t.lock = s.lock ∧ t.weir = s.weir ∧ t.sluice = s.sluice ∧ t.refloat = s.refloat ∧ t.drc = s.drc ∧ t.chart = s.chart ∧ t.gauge = s.gauge ∧ t.fly = s.fly ∧ t.seq = s.seq ∧ t.log = s.log ∧ t.tow = s.tow ∧ t.keep = s.keep ∧ t.cfg = s.cfg ∧ t.pke = s.pke ∧ t.clk = s.clk ∧ t.mgmt = s.mgmt ∧ t.pins = s.pins ∧ t.enginesOut = s.enginesOut := by
  unfold chooseSb at h
  dsimp only at h
  split at h
  · cases h; simp
  · split at h
    · next r hr => obtain rfl := Option.some.inj h; exact openAny_frame st qs s k t hr
    · simp only [Option.map_eq_some_iff, Prod.mk.injEq] at h
      obtain ⟨a, _, _, rfl⟩ := h
      simp

theorem formOn_frame (k : Nat) (st : Stream) (kind : Nat) (dir : List DirEnt) (id : Option Nat) (s t : State)
    (h : formOn k st kind dir id s = some t) :
    t.now = s.now ∧ t.free = s.free ∧ t.pending = s.pending ∧ t.regs = s.regs ∧ t.cmds = s.cmds ∧ t.out = s.out ∧ t.berths = s.berths ∧ t.ports = s.ports ∧ t.lock = s.lock ∧ t.weir = s.weir ∧ t.sluice = s.sluice ∧ t.refloat = s.refloat ∧ t.drc = s.drc ∧ t.chart = s.chart ∧ t.gauge = s.gauge ∧ t.fly = s.fly ∧ t.seq = s.seq ∧ t.log = s.log ∧ t.tow = s.tow ∧ t.keep = s.keep ∧ t.cfg = s.cfg ∧ t.pke = s.pke ∧ t.clk = s.clk ∧ t.mgmt = s.mgmt ∧ t.pins = s.pins ∧ t.enginesOut = s.enginesOut := by
  unfold formOn at h
  split at h
  · cases h
  · obtain rfl := Option.some.inj h
    simp

theorem formRow_frame (st : Stream) (qs : List Nat) (kind : Nat) (dir : List DirEnt) (id : Option Nat) (s : State)
    (k : Nat) (t : State) (h : formRow st qs kind dir id s = some (k, t)) :
    t.now = s.now ∧ t.free = s.free ∧ t.pending = s.pending ∧ t.regs = s.regs ∧ t.cmds = s.cmds ∧ t.out = s.out ∧ t.berths = s.berths ∧ t.ports = s.ports ∧ t.lock = s.lock ∧ t.weir = s.weir ∧ t.sluice = s.sluice ∧ t.refloat = s.refloat ∧ t.drc = s.drc ∧ t.chart = s.chart ∧ t.gauge = s.gauge ∧ t.fly = s.fly ∧ t.seq = s.seq ∧ t.log = s.log ∧ t.tow = s.tow ∧ t.keep = s.keep ∧ t.cfg = s.cfg ∧ t.pke = s.pke ∧ t.clk = s.clk ∧ t.mgmt = s.mgmt ∧ t.pins = s.pins ∧ t.enginesOut = s.enginesOut := by
  unfold formRow at h
  obtain ⟨⟨m, u⟩, ha, hb⟩ := Option.bind_eq_some_iff.1 h
  simp only [Option.map_eq_some_iff, Prod.mk.injEq] at hb
  obtain ⟨v, hv, _, rfl⟩ := hb
  have h1 := chooseSb_frame st qs s m u ha
  have h2 := formOn_frame _ _ _ _ _ _ _ hv
  simp_all

theorem formBarge_frame (st : Stream) (qs : List Nat) (kind : Nat) (dir : List DirEnt) (id : Option Nat) (s t : State)
    (h : formBarge st qs kind dir id s = some t) :
    t.now = s.now ∧ t.free = s.free ∧ t.pending = s.pending ∧ t.cmds = s.cmds ∧ t.berths = s.berths ∧ t.ports = s.ports ∧ t.lock = s.lock ∧ t.weir = s.weir ∧ t.sluice = s.sluice ∧ t.refloat = s.refloat ∧ t.drc = s.drc ∧ t.chart = s.chart ∧ t.gauge = s.gauge ∧ t.fly = s.fly ∧ t.seq = s.seq ∧ t.log = s.log ∧ t.tow = s.tow ∧ t.cfg = s.cfg ∧ t.pke = s.pke ∧ t.clk = s.clk ∧ t.mgmt = s.mgmt ∧ t.pins = s.pins ∧ t.enginesOut = s.enginesOut := by
  unfold formBarge at h
  simp only [Option.map_eq_some_iff] at h
  obtain ⟨⟨k, u⟩, ha, rfl⟩ := h
  have := formRow_frame st qs kind dir id s k u ha
  simp_all

@[simp] theorem formBarge_getD_frame (st : Stream) (qs : List Nat) (kind : Nat) (dir : List DirEnt) (id : Option Nat) (s : State) :
    ((formBarge st qs kind dir id s).getD s).now = s.now ∧ ((formBarge st qs kind dir id s).getD s).free = s.free ∧ ((formBarge st qs kind dir id s).getD s).pending = s.pending ∧ ((formBarge st qs kind dir id s).getD s).cmds = s.cmds ∧ ((formBarge st qs kind dir id s).getD s).berths = s.berths ∧ ((formBarge st qs kind dir id s).getD s).ports = s.ports ∧ ((formBarge st qs kind dir id s).getD s).lock = s.lock ∧ ((formBarge st qs kind dir id s).getD s).weir = s.weir ∧ ((formBarge st qs kind dir id s).getD s).sluice = s.sluice ∧ ((formBarge st qs kind dir id s).getD s).refloat = s.refloat ∧ ((formBarge st qs kind dir id s).getD s).drc = s.drc ∧ ((formBarge st qs kind dir id s).getD s).chart = s.chart ∧ ((formBarge st qs kind dir id s).getD s).gauge = s.gauge ∧ ((formBarge st qs kind dir id s).getD s).fly = s.fly ∧ ((formBarge st qs kind dir id s).getD s).seq = s.seq ∧ ((formBarge st qs kind dir id s).getD s).log = s.log ∧ ((formBarge st qs kind dir id s).getD s).tow = s.tow ∧ ((formBarge st qs kind dir id s).getD s).cfg = s.cfg ∧ ((formBarge st qs kind dir id s).getD s).pke = s.pke ∧ ((formBarge st qs kind dir id s).getD s).clk = s.clk ∧ ((formBarge st qs kind dir id s).getD s).mgmt = s.mgmt ∧ ((formBarge st qs kind dir id s).getD s).pins = s.pins ∧ ((formBarge st qs kind dir id s).getD s).enginesOut = s.enginesOut := by
  cases h : formBarge st qs kind dir id s with
  | none => simp
  | some t => simpa using formBarge_frame st qs kind dir id s t h

@[simp] theorem closeAsm_frame (st : Sys2Proof.Stream) (key : Nat) (s : State) :
    (closeAsm st key s).now = s.now ∧ (closeAsm st key s).free = s.free ∧ (closeAsm st key s).pending = s.pending ∧
    (closeAsm st key s).cmds = s.cmds ∧ (closeAsm st key s).berths = s.berths ∧ (closeAsm st key s).ports = s.ports ∧
    (closeAsm st key s).lock = s.lock ∧ (closeAsm st key s).weir = s.weir ∧ (closeAsm st key s).sluice = s.sluice ∧
    (closeAsm st key s).refloat = s.refloat ∧ (closeAsm st key s).drc = s.drc ∧ (closeAsm st key s).chart = s.chart ∧
    (closeAsm st key s).gauge = s.gauge ∧ (closeAsm st key s).fly = s.fly ∧ (closeAsm st key s).seq = s.seq ∧
    (closeAsm st key s).log = s.log ∧ (closeAsm st key s).tow = s.tow ∧ (closeAsm st key s).cfg = s.cfg ∧
    (closeAsm st key s).pke = s.pke ∧ (closeAsm st key s).clk = s.clk ∧ (closeAsm st key s).mgmt = s.mgmt ∧
    (closeAsm st key s).pins = s.pins ∧ (closeAsm st key s).enginesOut = s.enginesOut := by
  unfold closeAsm
  dsimp only
  (repeat' split) <;> first
    | simp; done
    | (rename_i h; have := formBarge_frame _ _ _ _ _ _ _ h; simpa using this)

@[simp] theorem dramAsk_frame (who : Requester) (write : Bool) (off : Nat) (bursts : Nat) (c : Nat) (s : State) :
    (dramAsk who write off bursts c s).now = s.now ∧ (dramAsk who write off bursts c s).free = s.free ∧
    (dramAsk who write off bursts c s).pending = s.pending ∧ (dramAsk who write off bursts c s).regs = s.regs ∧
    (dramAsk who write off bursts c s).cmds = s.cmds ∧ (dramAsk who write off bursts c s).out = s.out ∧
    (dramAsk who write off bursts c s).berths = s.berths ∧ (dramAsk who write off bursts c s).ports = s.ports ∧
    (dramAsk who write off bursts c s).lock = s.lock ∧ (dramAsk who write off bursts c s).weir = s.weir ∧
    (dramAsk who write off bursts c s).sluice = s.sluice ∧ (dramAsk who write off bursts c s).refloat = s.refloat ∧
    (dramAsk who write off bursts c s).fmm = s.fmm ∧ (dramAsk who write off bursts c s).chart = s.chart ∧
    (dramAsk who write off bursts c s).gauge = s.gauge ∧ (dramAsk who write off bursts c s).fly = s.fly ∧
    (dramAsk who write off bursts c s).seq = s.seq ∧ (dramAsk who write off bursts c s).log = s.log ∧
    (dramAsk who write off bursts c s).tow = s.tow ∧ (dramAsk who write off bursts c s).keep = s.keep ∧
    (dramAsk who write off bursts c s).cfg = s.cfg ∧ (dramAsk who write off bursts c s).pke = s.pke ∧
    (dramAsk who write off bursts c s).clk = s.clk ∧ (dramAsk who write off bursts c s).mgmt = s.mgmt ∧
    (dramAsk who write off bursts c s).pins = s.pins ∧ (dramAsk who write off bursts c s).enginesOut = s.enginesOut := by
  unfold dramAsk
  simp

@[simp] theorem stageWork_frame (n : Nat) (s : State) :
    (stageWork n s).now = s.now ∧ (stageWork n s).free = s.free ∧ (stageWork n s).pending = s.pending ∧ (stageWork n s).regs = s.regs ∧
    (stageWork n s).cmds = s.cmds ∧ (stageWork n s).out = s.out ∧ (stageWork n s).berths = s.berths ∧ (stageWork n s).ports = s.ports ∧
    (stageWork n s).lock = s.lock ∧ (stageWork n s).weir = s.weir ∧ (stageWork n s).sluice = s.sluice ∧
    (stageWork n s).refloat = s.refloat ∧ (stageWork n s).fmm = s.fmm ∧ (stageWork n s).chart = s.chart ∧
    (stageWork n s).gauge = s.gauge ∧ (stageWork n s).fly = s.fly ∧ (stageWork n s).seq = s.seq ∧ (stageWork n s).log = s.log ∧
    (stageWork n s).tow = s.tow ∧ (stageWork n s).keep = s.keep ∧ (stageWork n s).cfg = s.cfg ∧ (stageWork n s).pke = s.pke ∧
    (stageWork n s).clk = s.clk ∧ (stageWork n s).mgmt = s.mgmt ∧ (stageWork n s).pins = s.pins ∧
    (stageWork n s).enginesOut = s.enginesOut := by
  unfold stageWork
  (repeat' split) <;> simp

@[simp] theorem asmAdd_frame (st : Sys2Proof.Stream) (key : Nat) (e : DirEnt) (s : State) :
    (asmAdd st key e s).now = s.now ∧ (asmAdd st key e s).free = s.free ∧ (asmAdd st key e s).pending = s.pending ∧
    (asmAdd st key e s).cmds = s.cmds ∧ (asmAdd st key e s).berths = s.berths ∧ (asmAdd st key e s).ports = s.ports ∧
    (asmAdd st key e s).lock = s.lock ∧ (asmAdd st key e s).weir = s.weir ∧ (asmAdd st key e s).sluice = s.sluice ∧
    (asmAdd st key e s).refloat = s.refloat ∧ (asmAdd st key e s).chart = s.chart ∧ (asmAdd st key e s).gauge = s.gauge ∧
    (asmAdd st key e s).fly = s.fly ∧ (asmAdd st key e s).seq = s.seq ∧ (asmAdd st key e s).log = s.log ∧
    (asmAdd st key e s).tow = s.tow ∧ (asmAdd st key e s).cfg = s.cfg ∧ (asmAdd st key e s).pke = s.pke ∧
    (asmAdd st key e s).clk = s.clk ∧ (asmAdd st key e s).mgmt = s.mgmt ∧ (asmAdd st key e s).pins = s.pins ∧
    (asmAdd st key e s).enginesOut = s.enginesOut := by
  unfold asmAdd
  simp

@[simp] theorem intoFrame_frame (cpn : Nat) (s : State) :
    (intoFrame cpn s).now = s.now ∧ (intoFrame cpn s).free = s.free ∧ (intoFrame cpn s).pending = s.pending ∧
    (intoFrame cpn s).regs = s.regs ∧ (intoFrame cpn s).cmds = s.cmds ∧ (intoFrame cpn s).berths = s.berths ∧
    (intoFrame cpn s).ports = s.ports ∧ (intoFrame cpn s).lock = s.lock ∧ (intoFrame cpn s).weir = s.weir ∧
    (intoFrame cpn s).sluice = s.sluice ∧ (intoFrame cpn s).refloat = s.refloat ∧ (intoFrame cpn s).drc = s.drc ∧
    (intoFrame cpn s).gauge = s.gauge ∧ (intoFrame cpn s).fly = s.fly ∧ (intoFrame cpn s).seq = s.seq ∧ (intoFrame cpn s).log = s.log ∧
    (intoFrame cpn s).tow = s.tow ∧ (intoFrame cpn s).keep = s.keep ∧ (intoFrame cpn s).cfg = s.cfg ∧ (intoFrame cpn s).pke = s.pke ∧
    (intoFrame cpn s).clk = s.clk ∧ (intoFrame cpn s).mgmt = s.mgmt ∧ (intoFrame cpn s).pins = s.pins ∧
    (intoFrame cpn s).enginesOut = s.enginesOut := by
  unfold intoFrame
  simp

@[simp] theorem touchPage_frame (cpn : Nat) (f : Cpt → Cpt) (s : State) :
    (touchPage cpn f s).now = s.now ∧ (touchPage cpn f s).free = s.free ∧ (touchPage cpn f s).pending = s.pending ∧
    (touchPage cpn f s).regs = s.regs ∧ (touchPage cpn f s).cmds = s.cmds ∧ (touchPage cpn f s).berths = s.berths ∧
    (touchPage cpn f s).ports = s.ports ∧ (touchPage cpn f s).lock = s.lock ∧ (touchPage cpn f s).weir = s.weir ∧
    (touchPage cpn f s).sluice = s.sluice ∧ (touchPage cpn f s).refloat = s.refloat ∧ (touchPage cpn f s).drc = s.drc ∧
    (touchPage cpn f s).gauge = s.gauge ∧ (touchPage cpn f s).fly = s.fly ∧ (touchPage cpn f s).seq = s.seq ∧
    (touchPage cpn f s).log = s.log ∧ (touchPage cpn f s).tow = s.tow ∧ (touchPage cpn f s).keep = s.keep ∧
    (touchPage cpn f s).cfg = s.cfg ∧ (touchPage cpn f s).pke = s.pke ∧ (touchPage cpn f s).clk = s.clk ∧
    (touchPage cpn f s).mgmt = s.mgmt ∧ (touchPage cpn f s).pins = s.pins ∧ (touchPage cpn f s).enginesOut = s.enginesOut := by
  unfold touchPage
  simp

@[simp] theorem touchEntry_frame (i : Nat) (n : Nat) (s : State) :
    (touchEntry i n s).now = s.now ∧ (touchEntry i n s).free = s.free ∧ (touchEntry i n s).pending = s.pending ∧
    (touchEntry i n s).regs = s.regs ∧ (touchEntry i n s).cmds = s.cmds ∧ (touchEntry i n s).berths = s.berths ∧
    (touchEntry i n s).ports = s.ports ∧ (touchEntry i n s).lock = s.lock ∧ (touchEntry i n s).weir = s.weir ∧
    (touchEntry i n s).sluice = s.sluice ∧ (touchEntry i n s).refloat = s.refloat ∧ (touchEntry i n s).drc = s.drc ∧
    (touchEntry i n s).gauge = s.gauge ∧ (touchEntry i n s).fly = s.fly ∧ (touchEntry i n s).seq = s.seq ∧
    (touchEntry i n s).log = s.log ∧ (touchEntry i n s).tow = s.tow ∧ (touchEntry i n s).keep = s.keep ∧ (touchEntry i n s).cfg = s.cfg ∧
    (touchEntry i n s).pke = s.pke ∧ (touchEntry i n s).clk = s.clk ∧ (touchEntry i n s).mgmt = s.mgmt ∧
    (touchEntry i n s).pins = s.pins ∧ (touchEntry i n s).enginesOut = s.enginesOut := by
  unfold touchEntry
  (repeat' split) <;> simp

@[simp] theorem giveUp_frame (g : Nat) (dir : List DirEnt) (rebuilt : Bool) (again : Bool) (s : State) :
    (giveUp g dir rebuilt again s).now = s.now ∧ (giveUp g dir rebuilt again s).free = s.free ∧
    (giveUp g dir rebuilt again s).pending = s.pending ∧ (giveUp g dir rebuilt again s).cmds = s.cmds ∧
    (giveUp g dir rebuilt again s).ports = s.ports ∧ (giveUp g dir rebuilt again s).lock = s.lock ∧
    (giveUp g dir rebuilt again s).weir = s.weir ∧ (giveUp g dir rebuilt again s).sluice = s.sluice ∧
    (giveUp g dir rebuilt again s).refloat = s.refloat ∧ (giveUp g dir rebuilt again s).gauge = s.gauge ∧
    (giveUp g dir rebuilt again s).fly = s.fly ∧ (giveUp g dir rebuilt again s).seq = s.seq ∧ (giveUp g dir rebuilt again s).log = s.log ∧
    (giveUp g dir rebuilt again s).tow = s.tow ∧ (giveUp g dir rebuilt again s).cfg = s.cfg ∧ (giveUp g dir rebuilt again s).pke = s.pke ∧
    (giveUp g dir rebuilt again s).clk = s.clk ∧ (giveUp g dir rebuilt again s).mgmt = s.mgmt ∧
    (giveUp g dir rebuilt again s).pins = s.pins ∧ (giveUp g dir rebuilt again s).enginesOut = s.enginesOut := by
  unfold giveUp
  dsimp only
  refine ⟨?_, ?_, ?_, ?_, ?_, ?_, ?_, ?_, ?_, ?_, ?_, ?_, ?_, ?_, ?_, ?_, ?_, ?_, ?_, ?_⟩
  · rw [State.setBarge_now]
    refine forEach_now _ _ (fun a u => ?_) _
    (repeat' split) <;> simp
  · rw [State.setBarge_free]
    refine forEach_free _ _ (fun a u => ?_) _
    (repeat' split) <;> simp
  · rw [State.setBarge_pending]
    refine forEach_pending _ _ (fun a u => ?_) _
    (repeat' split) <;> simp
  · rw [State.setBarge_cmds]
    refine forEach_cmds _ _ (fun a u => ?_) _
    (repeat' split) <;> simp
  · rw [State.setBarge_ports]
    refine forEach_ports _ _ (fun a u => ?_) _
    (repeat' split) <;> simp
  · rw [State.setBarge_lock]
    refine forEach_lock _ _ (fun a u => ?_) _
    (repeat' split) <;> simp
  · rw [State.setBarge_weir]
    refine forEach_weir _ _ (fun a u => ?_) _
    (repeat' split) <;> simp
  · rw [State.setBarge_sluice]
    refine forEach_sluice _ _ (fun a u => ?_) _
    (repeat' split) <;> simp
  · rw [State.setBarge_refloat]
    refine forEach_refloat _ _ (fun a u => ?_) _
    (repeat' split) <;> simp
  · rw [State.setBarge_gauge]
    refine forEach_gauge _ _ (fun a u => ?_) _
    (repeat' split) <;> simp
  · rw [State.setBarge_fly]
    refine forEach_fly _ _ (fun a u => ?_) _
    (repeat' split) <;> simp
  · rw [State.setBarge_seq]
    refine forEach_seq _ _ (fun a u => ?_) _
    (repeat' split) <;> simp
  · rw [State.setBarge_log]
    refine forEach_log _ _ (fun a u => ?_) _
    (repeat' split) <;> simp
  · rw [State.setBarge_tow]
    refine forEach_tow _ _ (fun a u => ?_) _
    (repeat' split) <;> simp
  · rw [State.setBarge_cfg]
    refine forEach_cfg _ _ (fun a u => ?_) _
    (repeat' split) <;> simp
  · rw [State.setBarge_pke]
    refine forEach_pke _ _ (fun a u => ?_) _
    (repeat' split) <;> simp
  · rw [State.setBarge_clk]
    refine forEach_clk _ _ (fun a u => ?_) _
    (repeat' split) <;> simp
  · rw [State.setBarge_mgmt]
    refine forEach_mgmt _ _ (fun a u => ?_) _
    (repeat' split) <;> simp
  · rw [State.setBarge_pins]
    refine forEach_pins _ _ (fun a u => ?_) _
    (repeat' split) <;> simp
  · rw [State.setBarge_enginesOut]
    refine forEach_enginesOut _ _ (fun a u => ?_) _
    (repeat' split) <;> simp

@[simp] theorem dropRow_frame (k : Nat) (row : Nat) (rebuilt : Bool) (again : Bool) (s : State) :
    (dropRow k row rebuilt again s).now = s.now ∧ (dropRow k row rebuilt again s).free = s.free ∧
    (dropRow k row rebuilt again s).pending = s.pending ∧ (dropRow k row rebuilt again s).cmds = s.cmds ∧
    (dropRow k row rebuilt again s).ports = s.ports ∧ (dropRow k row rebuilt again s).lock = s.lock ∧
    (dropRow k row rebuilt again s).weir = s.weir ∧ (dropRow k row rebuilt again s).sluice = s.sluice ∧
    (dropRow k row rebuilt again s).refloat = s.refloat ∧ (dropRow k row rebuilt again s).gauge = s.gauge ∧
    (dropRow k row rebuilt again s).fly = s.fly ∧ (dropRow k row rebuilt again s).seq = s.seq ∧
    (dropRow k row rebuilt again s).log = s.log ∧ (dropRow k row rebuilt again s).tow = s.tow ∧
    (dropRow k row rebuilt again s).cfg = s.cfg ∧ (dropRow k row rebuilt again s).pke = s.pke ∧
    (dropRow k row rebuilt again s).clk = s.clk ∧ (dropRow k row rebuilt again s).mgmt = s.mgmt ∧
    (dropRow k row rebuilt again s).pins = s.pins ∧ (dropRow k row rebuilt again s).enginesOut = s.enginesOut := by
  unfold dropRow
  simp

@[simp] theorem dropStreams_frame (s : State) :
    (dropStreams s).now = s.now ∧ (dropStreams s).free = s.free ∧ (dropStreams s).pending = s.pending ∧ (dropStreams s).cmds = s.cmds ∧
    (dropStreams s).ports = s.ports ∧ (dropStreams s).lock = s.lock ∧ (dropStreams s).weir = s.weir ∧ (dropStreams s).sluice = s.sluice ∧
    (dropStreams s).refloat = s.refloat ∧ (dropStreams s).gauge = s.gauge ∧ (dropStreams s).fly = s.fly ∧ (dropStreams s).seq = s.seq ∧
    (dropStreams s).log = s.log ∧ (dropStreams s).tow = s.tow ∧ (dropStreams s).cfg = s.cfg ∧ (dropStreams s).pke = s.pke ∧
    (dropStreams s).clk = s.clk ∧ (dropStreams s).mgmt = s.mgmt ∧ (dropStreams s).pins = s.pins ∧
    (dropStreams s).enginesOut = s.enginesOut := by
  unfold dropStreams
  simp

@[simp] theorem fenceBerth_frame (reason : Nat) (i : Nat) (s : State) :
    (fenceBerth reason i s).now = s.now ∧ (fenceBerth reason i s).free = s.free ∧ (fenceBerth reason i s).pending = s.pending ∧
    (fenceBerth reason i s).regs = s.regs ∧ (fenceBerth reason i s).cmds = s.cmds ∧ (fenceBerth reason i s).out = s.out ∧
    (fenceBerth reason i s).ports = s.ports ∧ (fenceBerth reason i s).lock = s.lock ∧ (fenceBerth reason i s).weir = s.weir ∧
    (fenceBerth reason i s).sluice = s.sluice ∧ (fenceBerth reason i s).refloat = s.refloat ∧ (fenceBerth reason i s).drc = s.drc ∧
    (fenceBerth reason i s).fmm = s.fmm ∧ (fenceBerth reason i s).chart = s.chart ∧ (fenceBerth reason i s).gauge = s.gauge ∧
    (fenceBerth reason i s).fly = s.fly ∧ (fenceBerth reason i s).seq = s.seq ∧ (fenceBerth reason i s).log = s.log ∧
    (fenceBerth reason i s).tow = s.tow ∧ (fenceBerth reason i s).keep = s.keep ∧ (fenceBerth reason i s).cfg = s.cfg ∧
    (fenceBerth reason i s).pke = s.pke ∧ (fenceBerth reason i s).clk = s.clk ∧ (fenceBerth reason i s).mgmt = s.mgmt ∧
    (fenceBerth reason i s).pins = s.pins ∧ (fenceBerth reason i s).enginesOut = s.enginesOut := by
  unfold fenceBerth
  simp

@[simp] theorem writeCpl_frame (i : Nat) (f : Flight) (c : Cpl) (s : State) :
    (writeCpl i f c s).now = s.now ∧ (writeCpl i f c s).free = s.free ∧ (writeCpl i f c s).pending = s.pending ∧
    (writeCpl i f c s).cmds = s.cmds ∧ (writeCpl i f c s).ports = s.ports ∧ (writeCpl i f c s).lock = s.lock ∧
    (writeCpl i f c s).weir = s.weir ∧ (writeCpl i f c s).sluice = s.sluice ∧ (writeCpl i f c s).refloat = s.refloat ∧
    (writeCpl i f c s).drc = s.drc ∧ (writeCpl i f c s).fmm = s.fmm ∧ (writeCpl i f c s).chart = s.chart ∧
    (writeCpl i f c s).gauge = s.gauge ∧ (writeCpl i f c s).fly = s.fly ∧ (writeCpl i f c s).seq = s.seq ∧
    (writeCpl i f c s).log = s.log ∧ (writeCpl i f c s).tow = s.tow ∧ (writeCpl i f c s).keep = s.keep ∧ (writeCpl i f c s).cfg = s.cfg ∧
    (writeCpl i f c s).pke = s.pke ∧ (writeCpl i f c s).clk = s.clk ∧ (writeCpl i f c s).mgmt = s.mgmt ∧
    (writeCpl i f c s).pins = s.pins ∧ (writeCpl i f c s).enginesOut = s.enginesOut := by
  unfold writeCpl
  simp

@[simp] theorem postLoop_frame (i : Nat) (x1 : Nat) (s : State) :
    (postLoop i x1 s).now = s.now ∧ (postLoop i x1 s).free = s.free ∧ (postLoop i x1 s).pending = s.pending ∧
    (postLoop i x1 s).cmds = s.cmds ∧ (postLoop i x1 s).ports = s.ports ∧ (postLoop i x1 s).lock = s.lock ∧
    (postLoop i x1 s).weir = s.weir ∧ (postLoop i x1 s).sluice = s.sluice ∧ (postLoop i x1 s).refloat = s.refloat ∧
    (postLoop i x1 s).drc = s.drc ∧ (postLoop i x1 s).fmm = s.fmm ∧ (postLoop i x1 s).chart = s.chart ∧
    (postLoop i x1 s).gauge = s.gauge ∧ (postLoop i x1 s).fly = s.fly ∧ (postLoop i x1 s).seq = s.seq ∧ (postLoop i x1 s).log = s.log ∧
    (postLoop i x1 s).tow = s.tow ∧ (postLoop i x1 s).keep = s.keep ∧ (postLoop i x1 s).cfg = s.cfg ∧ (postLoop i x1 s).pke = s.pke ∧
    (postLoop i x1 s).clk = s.clk ∧ (postLoop i x1 s).mgmt = s.mgmt ∧ (postLoop i x1 s).pins = s.pins ∧
    (postLoop i x1 s).enginesOut = s.enginesOut := by
  induction x1 generalizing s with
  | zero => simp [postLoop]
  | succ n ih =>
    unfold postLoop
    (repeat' split) <;> simp [ih]

@[simp] theorem postAll_frame (i : Nat) (s : State) :
    (postAll i s).now = s.now ∧ (postAll i s).free = s.free ∧ (postAll i s).pending = s.pending ∧ (postAll i s).cmds = s.cmds ∧
    (postAll i s).lock = s.lock ∧ (postAll i s).weir = s.weir ∧ (postAll i s).sluice = s.sluice ∧ (postAll i s).refloat = s.refloat ∧
    (postAll i s).drc = s.drc ∧ (postAll i s).fmm = s.fmm ∧ (postAll i s).chart = s.chart ∧ (postAll i s).gauge = s.gauge ∧
    (postAll i s).fly = s.fly ∧ (postAll i s).seq = s.seq ∧ (postAll i s).log = s.log ∧ (postAll i s).tow = s.tow ∧
    (postAll i s).keep = s.keep ∧ (postAll i s).cfg = s.cfg ∧ (postAll i s).pke = s.pke ∧ (postAll i s).clk = s.clk ∧
    (postAll i s).mgmt = s.mgmt ∧ (postAll i s).pins = s.pins ∧ (postAll i s).enginesOut = s.enginesOut := by
  unfold postAll
  simp

@[simp] theorem dramRead_frame (who : Requester) (p : Place) (n : Nat) (s : State) :
    (dramRead who p n s).now = s.now ∧ (dramRead who p n s).free = s.free ∧ (dramRead who p n s).pending = s.pending ∧
    (dramRead who p n s).regs = s.regs ∧ (dramRead who p n s).cmds = s.cmds ∧ (dramRead who p n s).out = s.out ∧
    (dramRead who p n s).berths = s.berths ∧ (dramRead who p n s).ports = s.ports ∧ (dramRead who p n s).lock = s.lock ∧
    (dramRead who p n s).weir = s.weir ∧ (dramRead who p n s).sluice = s.sluice ∧ (dramRead who p n s).refloat = s.refloat ∧
    (dramRead who p n s).fmm = s.fmm ∧ (dramRead who p n s).chart = s.chart ∧ (dramRead who p n s).gauge = s.gauge ∧
    (dramRead who p n s).fly = s.fly ∧ (dramRead who p n s).seq = s.seq ∧ (dramRead who p n s).log = s.log ∧
    (dramRead who p n s).tow = s.tow ∧ (dramRead who p n s).keep = s.keep ∧ (dramRead who p n s).cfg = s.cfg ∧
    (dramRead who p n s).pke = s.pke ∧ (dramRead who p n s).clk = s.clk ∧ (dramRead who p n s).mgmt = s.mgmt ∧
    (dramRead who p n s).pins = s.pins ∧ (dramRead who p n s).enginesOut = s.enginesOut := by
  unfold dramRead
  (repeat' split) <;> simp

@[simp] theorem setFlight_frame (i : Nat) (idx : Nat) (f : Flight → Flight) (s : State) :
    (setFlight i idx f s).now = s.now ∧ (setFlight i idx f s).free = s.free ∧ (setFlight i idx f s).pending = s.pending ∧
    (setFlight i idx f s).regs = s.regs ∧ (setFlight i idx f s).cmds = s.cmds ∧ (setFlight i idx f s).out = s.out ∧
    (setFlight i idx f s).ports = s.ports ∧ (setFlight i idx f s).lock = s.lock ∧ (setFlight i idx f s).weir = s.weir ∧
    (setFlight i idx f s).sluice = s.sluice ∧ (setFlight i idx f s).refloat = s.refloat ∧ (setFlight i idx f s).drc = s.drc ∧
    (setFlight i idx f s).fmm = s.fmm ∧ (setFlight i idx f s).chart = s.chart ∧ (setFlight i idx f s).gauge = s.gauge ∧
    (setFlight i idx f s).fly = s.fly ∧ (setFlight i idx f s).seq = s.seq ∧ (setFlight i idx f s).log = s.log ∧
    (setFlight i idx f s).tow = s.tow ∧ (setFlight i idx f s).keep = s.keep ∧ (setFlight i idx f s).cfg = s.cfg ∧
    (setFlight i idx f s).pke = s.pke ∧ (setFlight i idx f s).clk = s.clk ∧ (setFlight i idx f s).mgmt = s.mgmt ∧
    (setFlight i idx f s).pins = s.pins ∧ (setFlight i idx f s).enginesOut = s.enginesOut := by
  unfold setFlight
  simp

@[simp] theorem finishFlight_frame (i : Nat) (idx : Nat) (c : Cpl) (s : State) :
    (finishFlight i idx c s).now = s.now ∧ (finishFlight i idx c s).free = s.free ∧ (finishFlight i idx c s).pending = s.pending ∧
    (finishFlight i idx c s).cmds = s.cmds ∧ (finishFlight i idx c s).out = s.out ∧ (finishFlight i idx c s).ports = s.ports ∧
    (finishFlight i idx c s).lock = s.lock ∧ (finishFlight i idx c s).weir = s.weir ∧ (finishFlight i idx c s).sluice = s.sluice ∧
    (finishFlight i idx c s).refloat = s.refloat ∧ (finishFlight i idx c s).drc = s.drc ∧ (finishFlight i idx c s).fmm = s.fmm ∧
    (finishFlight i idx c s).chart = s.chart ∧ (finishFlight i idx c s).gauge = s.gauge ∧ (finishFlight i idx c s).fly = s.fly ∧
    (finishFlight i idx c s).seq = s.seq ∧ (finishFlight i idx c s).log = s.log ∧ (finishFlight i idx c s).tow = s.tow ∧
    (finishFlight i idx c s).keep = s.keep ∧ (finishFlight i idx c s).cfg = s.cfg ∧ (finishFlight i idx c s).pke = s.pke ∧
    (finishFlight i idx c s).clk = s.clk ∧ (finishFlight i idx c s).mgmt = s.mgmt ∧ (finishFlight i idx c s).pins = s.pins ∧
    (finishFlight i idx c s).enginesOut = s.enginesOut := by
  unfold finishFlight
  simp

@[simp] theorem endFetch_frame (i : Nat) (f : Flight) (d : Desc) (r : Rec) (deferred : Bool) (lost : Bool) (s : State) :
    (endFetch i f d r deferred lost s).now = s.now ∧ (endFetch i f d r deferred lost s).free = s.free ∧
    (endFetch i f d r deferred lost s).pending = s.pending ∧ (endFetch i f d r deferred lost s).cmds = s.cmds ∧
    (endFetch i f d r deferred lost s).ports = s.ports ∧ (endFetch i f d r deferred lost s).lock = s.lock ∧
    (endFetch i f d r deferred lost s).weir = s.weir ∧ (endFetch i f d r deferred lost s).sluice = s.sluice ∧
    (endFetch i f d r deferred lost s).refloat = s.refloat ∧ (endFetch i f d r deferred lost s).drc = s.drc ∧
    (endFetch i f d r deferred lost s).fmm = s.fmm ∧ (endFetch i f d r deferred lost s).chart = s.chart ∧
    (endFetch i f d r deferred lost s).gauge = s.gauge ∧ (endFetch i f d r deferred lost s).fly = s.fly ∧
    (endFetch i f d r deferred lost s).seq = s.seq ∧ (endFetch i f d r deferred lost s).log = s.log ∧
    (endFetch i f d r deferred lost s).tow = s.tow ∧ (endFetch i f d r deferred lost s).keep = s.keep ∧
    (endFetch i f d r deferred lost s).cfg = s.cfg ∧ (endFetch i f d r deferred lost s).pke = s.pke ∧
    (endFetch i f d r deferred lost s).clk = s.clk ∧ (endFetch i f d r deferred lost s).mgmt = s.mgmt ∧
    (endFetch i f d r deferred lost s).pins = s.pins ∧ (endFetch i f d r deferred lost s).enginesOut = s.enginesOut := by
  unfold endFetch
  simp

@[simp] theorem framesOut_frame (s : State) :
    (framesOut s).now = s.now ∧ (framesOut s).free = s.free ∧ (framesOut s).pending = s.pending ∧ (framesOut s).regs = s.regs ∧
    (framesOut s).cmds = s.cmds ∧ (framesOut s).out = s.out ∧ (framesOut s).berths = s.berths ∧ (framesOut s).ports = s.ports ∧
    (framesOut s).lock = s.lock ∧ (framesOut s).weir = s.weir ∧ (framesOut s).sluice = s.sluice ∧ (framesOut s).refloat = s.refloat ∧
    (framesOut s).drc = s.drc ∧ (framesOut s).chart = s.chart ∧ (framesOut s).gauge = s.gauge ∧ (framesOut s).fly = s.fly ∧
    (framesOut s).seq = s.seq ∧ (framesOut s).log = s.log ∧ (framesOut s).tow = s.tow ∧ (framesOut s).keep = s.keep ∧
    (framesOut s).cfg = s.cfg ∧ (framesOut s).pke = s.pke ∧ (framesOut s).clk = s.clk ∧ (framesOut s).mgmt = s.mgmt ∧
    (framesOut s).pins = s.pins ∧ (framesOut s).enginesOut = s.enginesOut := by
  unfold framesOut
  simp

@[simp] theorem lineBad_frame (l : Line) (s : State) :
    (lineBad l s).now = s.now ∧ (lineBad l s).free = s.free ∧ (lineBad l s).pending = s.pending ∧ (lineBad l s).cmds = s.cmds ∧
    (lineBad l s).out = s.out ∧ (lineBad l s).berths = s.berths ∧ (lineBad l s).ports = s.ports ∧ (lineBad l s).lock = s.lock ∧
    (lineBad l s).weir = s.weir ∧ (lineBad l s).sluice = s.sluice ∧ (lineBad l s).refloat = s.refloat ∧ (lineBad l s).drc = s.drc ∧
    (lineBad l s).fmm = s.fmm ∧ (lineBad l s).chart = s.chart ∧ (lineBad l s).gauge = s.gauge ∧ (lineBad l s).fly = s.fly ∧
    (lineBad l s).seq = s.seq ∧ (lineBad l s).log = s.log ∧ (lineBad l s).tow = s.tow ∧ (lineBad l s).cfg = s.cfg ∧
    (lineBad l s).pke = s.pke ∧ (lineBad l s).clk = s.clk ∧ (lineBad l s).mgmt = s.mgmt ∧ (lineBad l s).pins = s.pins ∧
    (lineBad l s).enginesOut = s.enginesOut := by
  unfold lineBad
  simp

@[simp] theorem repairCopy_frame (l : Line) (c : Nat) (s : State) :
    (repairCopy l c s).now = s.now ∧ (repairCopy l c s).free = s.free ∧ (repairCopy l c s).pending = s.pending ∧
    (repairCopy l c s).cmds = s.cmds ∧ (repairCopy l c s).out = s.out ∧ (repairCopy l c s).berths = s.berths ∧
    (repairCopy l c s).ports = s.ports ∧ (repairCopy l c s).lock = s.lock ∧ (repairCopy l c s).weir = s.weir ∧
    (repairCopy l c s).sluice = s.sluice ∧ (repairCopy l c s).refloat = s.refloat ∧ (repairCopy l c s).fmm = s.fmm ∧
    (repairCopy l c s).chart = s.chart ∧ (repairCopy l c s).gauge = s.gauge ∧ (repairCopy l c s).fly = s.fly ∧
    (repairCopy l c s).seq = s.seq ∧ (repairCopy l c s).log = s.log ∧ (repairCopy l c s).tow = s.tow ∧ (repairCopy l c s).cfg = s.cfg ∧
    (repairCopy l c s).pke = s.pke ∧ (repairCopy l c s).clk = s.clk ∧ (repairCopy l c s).mgmt = s.mgmt ∧
    (repairCopy l c s).pins = s.pins ∧ (repairCopy l c s).enginesOut = s.enginesOut := by
  unfold repairCopy
  simp

@[simp] theorem readLine_frame (l : Line) (s : State) :
    (readLine l s).now = s.now ∧ (readLine l s).free = s.free ∧ (readLine l s).pending = s.pending ∧ (readLine l s).cmds = s.cmds ∧
    (readLine l s).out = s.out ∧ (readLine l s).berths = s.berths ∧ (readLine l s).ports = s.ports ∧ (readLine l s).lock = s.lock ∧
    (readLine l s).weir = s.weir ∧ (readLine l s).sluice = s.sluice ∧ (readLine l s).refloat = s.refloat ∧ (readLine l s).fmm = s.fmm ∧
    (readLine l s).chart = s.chart ∧ (readLine l s).gauge = s.gauge ∧ (readLine l s).fly = s.fly ∧ (readLine l s).seq = s.seq ∧
    (readLine l s).log = s.log ∧ (readLine l s).tow = s.tow ∧ (readLine l s).cfg = s.cfg ∧ (readLine l s).pke = s.pke ∧
    (readLine l s).clk = s.clk ∧ (readLine l s).mgmt = s.mgmt ∧ (readLine l s).pins = s.pins ∧ (readLine l s).enginesOut = s.enginesOut := by
  unfold readLine
  dsimp only
  (repeat' split) <;> simp

@[simp] theorem fetchPage_frame (i : Nat) (k : Nat) (r : Rec) (s : State) :
    (fetchPage i k r s).now = s.now ∧ (fetchPage i k r s).free = s.free ∧ (fetchPage i k r s).pending = s.pending ∧
    (fetchPage i k r s).cmds = s.cmds ∧ (fetchPage i k r s).ports = s.ports ∧ (fetchPage i k r s).lock = s.lock ∧
    (fetchPage i k r s).weir = s.weir ∧ (fetchPage i k r s).sluice = s.sluice ∧ (fetchPage i k r s).refloat = s.refloat ∧
    (fetchPage i k r s).gauge = s.gauge ∧ (fetchPage i k r s).fly = s.fly ∧ (fetchPage i k r s).seq = s.seq ∧
    (fetchPage i k r s).log = s.log ∧ (fetchPage i k r s).tow = s.tow ∧ (fetchPage i k r s).cfg = s.cfg ∧
    (fetchPage i k r s).pke = s.pke ∧ (fetchPage i k r s).clk = s.clk ∧ (fetchPage i k r s).mgmt = s.mgmt ∧
    (fetchPage i k r s).pins = s.pins ∧ (fetchPage i k r s).enginesOut = s.enginesOut := by
  unfold fetchPage
  simp

@[simp] theorem readRun_frame (offset : Option Byte) (g : Nat) (off : Nat) (len : Nat) (s : State) :
    (readRun offset g off len s).now = s.now ∧ (readRun offset g off len s).free = s.free ∧
    (readRun offset g off len s).pending = s.pending ∧ (readRun offset g off len s).regs = s.regs ∧
    (readRun offset g off len s).cmds = s.cmds ∧ (readRun offset g off len s).berths = s.berths ∧
    (readRun offset g off len s).ports = s.ports ∧ (readRun offset g off len s).lock = s.lock ∧
    (readRun offset g off len s).weir = s.weir ∧ (readRun offset g off len s).sluice = s.sluice ∧
    (readRun offset g off len s).refloat = s.refloat ∧ (readRun offset g off len s).drc = s.drc ∧
    (readRun offset g off len s).fmm = s.fmm ∧ (readRun offset g off len s).chart = s.chart ∧
    (readRun offset g off len s).gauge = s.gauge ∧ (readRun offset g off len s).fly = s.fly ∧ (readRun offset g off len s).seq = s.seq ∧
    (readRun offset g off len s).log = s.log ∧ (readRun offset g off len s).tow = s.tow ∧ (readRun offset g off len s).keep = s.keep ∧
    (readRun offset g off len s).cfg = s.cfg ∧ (readRun offset g off len s).pke = s.pke ∧ (readRun offset g off len s).clk = s.clk ∧
    (readRun offset g off len s).mgmt = s.mgmt ∧ (readRun offset g off len s).pins = s.pins ∧
    (readRun offset g off len s).enginesOut = s.enginesOut := by
  unfold readRun
  simp

@[simp] theorem doFetch_frame (i : Nat) (f : Flight) (d : Desc) (s : State) :
    (doFetch i f d s).now = s.now ∧ (doFetch i f d s).free = s.free ∧ (doFetch i f d s).pending = s.pending ∧
    (doFetch i f d s).cmds = s.cmds ∧ (doFetch i f d s).ports = s.ports ∧ (doFetch i f d s).lock = s.lock ∧
    (doFetch i f d s).weir = s.weir ∧ (doFetch i f d s).sluice = s.sluice ∧ (doFetch i f d s).refloat = s.refloat ∧
    (doFetch i f d s).gauge = s.gauge ∧ (doFetch i f d s).fly = s.fly ∧ (doFetch i f d s).seq = s.seq ∧ (doFetch i f d s).log = s.log ∧
    (doFetch i f d s).tow = s.tow ∧ (doFetch i f d s).cfg = s.cfg ∧ (doFetch i f d s).pke = s.pke ∧ (doFetch i f d s).clk = s.clk ∧
    (doFetch i f d s).mgmt = s.mgmt ∧ (doFetch i f d s).pins = s.pins ∧ (doFetch i f d s).enginesOut = s.enginesOut := by
  unfold doFetch
  dsimp only
  (repeat' split) <;> simp

@[simp] theorem headPast_frame (p : Place) (n : Nat) (s : State) :
    (headPast p n s).now = s.now ∧ (headPast p n s).free = s.free ∧ (headPast p n s).pending = s.pending ∧
    (headPast p n s).regs = s.regs ∧ (headPast p n s).cmds = s.cmds ∧ (headPast p n s).out = s.out ∧ (headPast p n s).berths = s.berths ∧
    (headPast p n s).ports = s.ports ∧ (headPast p n s).lock = s.lock ∧ (headPast p n s).weir = s.weir ∧
    (headPast p n s).sluice = s.sluice ∧ (headPast p n s).refloat = s.refloat ∧ (headPast p n s).fmm = s.fmm ∧
    (headPast p n s).chart = s.chart ∧ (headPast p n s).gauge = s.gauge ∧ (headPast p n s).fly = s.fly ∧ (headPast p n s).seq = s.seq ∧
    (headPast p n s).log = s.log ∧ (headPast p n s).tow = s.tow ∧ (headPast p n s).keep = s.keep ∧ (headPast p n s).cfg = s.cfg ∧
    (headPast p n s).pke = s.pke ∧ (headPast p n s).clk = s.clk ∧ (headPast p n s).mgmt = s.mgmt ∧ (headPast p n s).pins = s.pins ∧
    (headPast p n s).enginesOut = s.enginesOut := by
  unfold headPast
  simp

@[simp] theorem startRead_frame (i : Nat) (f : Flight) (s : State) :
    (startRead i f s).now = s.now ∧ (startRead i f s).free = s.free ∧ (startRead i f s).pending = s.pending ∧
    (startRead i f s).regs = s.regs ∧ (startRead i f s).cmds = s.cmds ∧ (startRead i f s).ports = s.ports ∧
    (startRead i f s).lock = s.lock ∧ (startRead i f s).sluice = s.sluice ∧ (startRead i f s).refloat = s.refloat ∧
    (startRead i f s).drc = s.drc ∧ (startRead i f s).fmm = s.fmm ∧ (startRead i f s).chart = s.chart ∧
    (startRead i f s).gauge = s.gauge ∧ (startRead i f s).fly = s.fly ∧ (startRead i f s).seq = s.seq ∧ (startRead i f s).log = s.log ∧
    (startRead i f s).tow = s.tow ∧ (startRead i f s).keep = s.keep ∧ (startRead i f s).cfg = s.cfg ∧ (startRead i f s).pke = s.pke ∧
    (startRead i f s).clk = s.clk ∧ (startRead i f s).mgmt = s.mgmt ∧ (startRead i f s).pins = s.pins ∧
    (startRead i f s).enginesOut = s.enginesOut := by
  unfold startRead
  simp

@[simp] theorem throttleTake_frame (x : Nat) (s : State) :
    (throttleTake x s).now = s.now ∧ (throttleTake x s).free = s.free ∧ (throttleTake x s).pending = s.pending ∧
    (throttleTake x s).regs = s.regs ∧ (throttleTake x s).cmds = s.cmds ∧ (throttleTake x s).out = s.out ∧
    (throttleTake x s).berths = s.berths ∧ (throttleTake x s).ports = s.ports ∧ (throttleTake x s).lock = s.lock ∧
    (throttleTake x s).weir = s.weir ∧ (throttleTake x s).sluice = s.sluice ∧ (throttleTake x s).refloat = s.refloat ∧
    (throttleTake x s).drc = s.drc ∧ (throttleTake x s).chart = s.chart ∧ (throttleTake x s).gauge = s.gauge ∧
    (throttleTake x s).fly = s.fly ∧ (throttleTake x s).seq = s.seq ∧ (throttleTake x s).log = s.log ∧ (throttleTake x s).tow = s.tow ∧
    (throttleTake x s).keep = s.keep ∧ (throttleTake x s).cfg = s.cfg ∧ (throttleTake x s).pke = s.pke ∧ (throttleTake x s).clk = s.clk ∧
    (throttleTake x s).mgmt = s.mgmt ∧ (throttleTake x s).pins = s.pins ∧ (throttleTake x s).enginesOut = s.enginesOut := by
  unfold throttleTake
  simp

@[simp] theorem weirState_frame (s : State) :
    (weirState s).now = s.now ∧ (weirState s).free = s.free ∧ (weirState s).pending = s.pending ∧ (weirState s).cmds = s.cmds ∧
    (weirState s).berths = s.berths ∧ (weirState s).ports = s.ports ∧ (weirState s).lock = s.lock ∧ (weirState s).sluice = s.sluice ∧
    (weirState s).refloat = s.refloat ∧ (weirState s).drc = s.drc ∧ (weirState s).fmm = s.fmm ∧ (weirState s).chart = s.chart ∧
    (weirState s).gauge = s.gauge ∧ (weirState s).fly = s.fly ∧ (weirState s).seq = s.seq ∧ (weirState s).log = s.log ∧
    (weirState s).tow = s.tow ∧ (weirState s).keep = s.keep ∧ (weirState s).cfg = s.cfg ∧ (weirState s).pke = s.pke ∧
    (weirState s).clk = s.clk ∧ (weirState s).pins = s.pins ∧ (weirState s).enginesOut = s.enginesOut := by
  unfold weirState
  dsimp only
  (repeat' split) <;> simp

@[simp] theorem grantPut_frame (i : Nat) (f : Flight) (pl : Place) (x : Nat) (s : State) :
    (grantPut i f pl x s).now = s.now ∧ (grantPut i f pl x s).free = s.free ∧ (grantPut i f pl x s).pending = s.pending ∧
    (grantPut i f pl x s).cmds = s.cmds ∧ (grantPut i f pl x s).ports = s.ports ∧ (grantPut i f pl x s).lock = s.lock ∧
    (grantPut i f pl x s).sluice = s.sluice ∧ (grantPut i f pl x s).refloat = s.refloat ∧ (grantPut i f pl x s).chart = s.chart ∧
    (grantPut i f pl x s).gauge = s.gauge ∧ (grantPut i f pl x s).fly = s.fly ∧ (grantPut i f pl x s).seq = s.seq ∧
    (grantPut i f pl x s).log = s.log ∧ (grantPut i f pl x s).tow = s.tow ∧ (grantPut i f pl x s).keep = s.keep ∧
    (grantPut i f pl x s).cfg = s.cfg ∧ (grantPut i f pl x s).pke = s.pke ∧ (grantPut i f pl x s).clk = s.clk ∧
    (grantPut i f pl x s).pins = s.pins ∧ (grantPut i f pl x s).enginesOut = s.enginesOut := by
  unfold grantPut
  simp

@[simp] theorem grantLoop_frame (x0 : List (Nat × Flight)) (x1 : Bool) (x2 : Bool) (s : State) :
    (grantLoop x0 x1 x2 s).now = s.now ∧ (grantLoop x0 x1 x2 s).free = s.free ∧ (grantLoop x0 x1 x2 s).pending = s.pending ∧
    (grantLoop x0 x1 x2 s).cmds = s.cmds ∧ (grantLoop x0 x1 x2 s).ports = s.ports ∧ (grantLoop x0 x1 x2 s).lock = s.lock ∧
    (grantLoop x0 x1 x2 s).sluice = s.sluice ∧ (grantLoop x0 x1 x2 s).refloat = s.refloat ∧ (grantLoop x0 x1 x2 s).chart = s.chart ∧
    (grantLoop x0 x1 x2 s).gauge = s.gauge ∧ (grantLoop x0 x1 x2 s).fly = s.fly ∧ (grantLoop x0 x1 x2 s).seq = s.seq ∧
    (grantLoop x0 x1 x2 s).log = s.log ∧ (grantLoop x0 x1 x2 s).tow = s.tow ∧ (grantLoop x0 x1 x2 s).keep = s.keep ∧
    (grantLoop x0 x1 x2 s).cfg = s.cfg ∧ (grantLoop x0 x1 x2 s).pke = s.pke ∧ (grantLoop x0 x1 x2 s).clk = s.clk ∧
    (grantLoop x0 x1 x2 s).pins = s.pins ∧ (grantLoop x0 x1 x2 s).enginesOut = s.enginesOut := by
  induction x0 generalizing x1 x2 s with
  | nil => simp [grantLoop]
  | cons a t ih =>
    unfold grantLoop
    dsimp only
    (repeat' split) <;> simp [ih]

@[simp] theorem grantAll_frame (s : State) :
    (grantAll s).now = s.now ∧ (grantAll s).free = s.free ∧ (grantAll s).pending = s.pending ∧ (grantAll s).cmds = s.cmds ∧
    (grantAll s).ports = s.ports ∧ (grantAll s).lock = s.lock ∧ (grantAll s).sluice = s.sluice ∧ (grantAll s).refloat = s.refloat ∧
    (grantAll s).chart = s.chart ∧ (grantAll s).gauge = s.gauge ∧ (grantAll s).fly = s.fly ∧ (grantAll s).seq = s.seq ∧
    (grantAll s).log = s.log ∧ (grantAll s).tow = s.tow ∧ (grantAll s).keep = s.keep ∧ (grantAll s).cfg = s.cfg ∧
    (grantAll s).pke = s.pke ∧ (grantAll s).clk = s.clk ∧ (grantAll s).pins = s.pins ∧ (grantAll s).enginesOut = s.enginesOut := by
  unfold grantAll
  simp

@[simp] theorem doPut_frame (i : Nat) (f : Flight) (d : Desc) (s : State) :
    (doPut i f d s).now = s.now ∧ (doPut i f d s).free = s.free ∧ (doPut i f d s).pending = s.pending ∧ (doPut i f d s).cmds = s.cmds ∧
    (doPut i f d s).ports = s.ports ∧ (doPut i f d s).lock = s.lock ∧ (doPut i f d s).sluice = s.sluice ∧
    (doPut i f d s).refloat = s.refloat ∧ (doPut i f d s).chart = s.chart ∧ (doPut i f d s).gauge = s.gauge ∧
    (doPut i f d s).fly = s.fly ∧ (doPut i f d s).seq = s.seq ∧ (doPut i f d s).log = s.log ∧ (doPut i f d s).tow = s.tow ∧
    (doPut i f d s).keep = s.keep ∧ (doPut i f d s).cfg = s.cfg ∧ (doPut i f d s).pke = s.pke ∧ (doPut i f d s).clk = s.clk ∧
    (doPut i f d s).pins = s.pins ∧ (doPut i f d s).enginesOut = s.enginesOut := by
  unfold doPut
  dsimp only
  (repeat' split) <;> simp

@[simp] theorem doQuery_frame (i : Nat) (f : Flight) (d : Desc) (s : State) :
    (doQuery i f d s).now = s.now ∧ (doQuery i f d s).free = s.free ∧ (doQuery i f d s).pending = s.pending ∧
    (doQuery i f d s).cmds = s.cmds ∧ (doQuery i f d s).ports = s.ports ∧ (doQuery i f d s).lock = s.lock ∧
    (doQuery i f d s).weir = s.weir ∧ (doQuery i f d s).sluice = s.sluice ∧ (doQuery i f d s).refloat = s.refloat ∧
    (doQuery i f d s).drc = s.drc ∧ (doQuery i f d s).fmm = s.fmm ∧ (doQuery i f d s).chart = s.chart ∧
    (doQuery i f d s).gauge = s.gauge ∧ (doQuery i f d s).fly = s.fly ∧ (doQuery i f d s).seq = s.seq ∧ (doQuery i f d s).log = s.log ∧
    (doQuery i f d s).tow = s.tow ∧ (doQuery i f d s).keep = s.keep ∧ (doQuery i f d s).cfg = s.cfg ∧ (doQuery i f d s).pke = s.pke ∧
    (doQuery i f d s).clk = s.clk ∧ (doQuery i f d s).mgmt = s.mgmt ∧ (doQuery i f d s).pins = s.pins ∧
    (doQuery i f d s).enginesOut = s.enginesOut := by
  unfold doQuery
  simp

@[simp] theorem chainPagesRetire_frame (i : Nat) (rp : Nat) (x2 : Nat) (s : State) :
    (chainPagesRetire i rp x2 s).now = s.now ∧ (chainPagesRetire i rp x2 s).free = s.free ∧
    (chainPagesRetire i rp x2 s).pending = s.pending ∧ (chainPagesRetire i rp x2 s).regs = s.regs ∧
    (chainPagesRetire i rp x2 s).cmds = s.cmds ∧ (chainPagesRetire i rp x2 s).out = s.out ∧ (chainPagesRetire i rp x2 s).ports = s.ports ∧
    (chainPagesRetire i rp x2 s).lock = s.lock ∧ (chainPagesRetire i rp x2 s).weir = s.weir ∧
    (chainPagesRetire i rp x2 s).sluice = s.sluice ∧ (chainPagesRetire i rp x2 s).refloat = s.refloat ∧
    (chainPagesRetire i rp x2 s).drc = s.drc ∧ (chainPagesRetire i rp x2 s).gauge = s.gauge ∧ (chainPagesRetire i rp x2 s).fly = s.fly ∧
    (chainPagesRetire i rp x2 s).seq = s.seq ∧ (chainPagesRetire i rp x2 s).log = s.log ∧ (chainPagesRetire i rp x2 s).tow = s.tow ∧
    (chainPagesRetire i rp x2 s).keep = s.keep ∧ (chainPagesRetire i rp x2 s).cfg = s.cfg ∧ (chainPagesRetire i rp x2 s).pke = s.pke ∧
    (chainPagesRetire i rp x2 s).clk = s.clk ∧ (chainPagesRetire i rp x2 s).mgmt = s.mgmt ∧ (chainPagesRetire i rp x2 s).pins = s.pins ∧
    (chainPagesRetire i rp x2 s).enginesOut = s.enginesOut := by
  induction x2 generalizing s with
  | zero => simp [chainPagesRetire]
  | succ n ih =>
    unfold chainPagesRetire
    dsimp only
    (repeat' split) <;> simp [ih]

@[simp] theorem dropAssembled_frame (i : Nat) (rp : Nat) (s : State) :
    (dropAssembled i rp s).now = s.now ∧ (dropAssembled i rp s).free = s.free ∧ (dropAssembled i rp s).pending = s.pending ∧
    (dropAssembled i rp s).regs = s.regs ∧ (dropAssembled i rp s).cmds = s.cmds ∧ (dropAssembled i rp s).out = s.out ∧
    (dropAssembled i rp s).berths = s.berths ∧ (dropAssembled i rp s).ports = s.ports ∧ (dropAssembled i rp s).lock = s.lock ∧
    (dropAssembled i rp s).weir = s.weir ∧ (dropAssembled i rp s).sluice = s.sluice ∧ (dropAssembled i rp s).refloat = s.refloat ∧
    (dropAssembled i rp s).drc = s.drc ∧ (dropAssembled i rp s).chart = s.chart ∧ (dropAssembled i rp s).gauge = s.gauge ∧
    (dropAssembled i rp s).fly = s.fly ∧ (dropAssembled i rp s).seq = s.seq ∧ (dropAssembled i rp s).log = s.log ∧
    (dropAssembled i rp s).tow = s.tow ∧ (dropAssembled i rp s).keep = s.keep ∧ (dropAssembled i rp s).cfg = s.cfg ∧
    (dropAssembled i rp s).pke = s.pke ∧ (dropAssembled i rp s).clk = s.clk ∧ (dropAssembled i rp s).mgmt = s.mgmt ∧
    (dropAssembled i rp s).pins = s.pins ∧ (dropAssembled i rp s).enginesOut = s.enginesOut := by
  unfold dropAssembled
  simp

@[simp] theorem bargeLess_frame (n : Nat) (len : Nat) (s : State) :
    (bargeLess n len s).now = s.now ∧ (bargeLess n len s).free = s.free ∧ (bargeLess n len s).pending = s.pending ∧
    (bargeLess n len s).regs = s.regs ∧ (bargeLess n len s).cmds = s.cmds ∧ (bargeLess n len s).out = s.out ∧
    (bargeLess n len s).berths = s.berths ∧ (bargeLess n len s).ports = s.ports ∧ (bargeLess n len s).lock = s.lock ∧
    (bargeLess n len s).weir = s.weir ∧ (bargeLess n len s).sluice = s.sluice ∧ (bargeLess n len s).refloat = s.refloat ∧
    (bargeLess n len s).drc = s.drc ∧ (bargeLess n len s).chart = s.chart ∧ (bargeLess n len s).gauge = s.gauge ∧
    (bargeLess n len s).fly = s.fly ∧ (bargeLess n len s).seq = s.seq ∧ (bargeLess n len s).log = s.log ∧
    (bargeLess n len s).tow = s.tow ∧ (bargeLess n len s).keep = s.keep ∧ (bargeLess n len s).cfg = s.cfg ∧
    (bargeLess n len s).pke = s.pke ∧ (bargeLess n len s).clk = s.clk ∧ (bargeLess n len s).mgmt = s.mgmt ∧
    (bargeLess n len s).pins = s.pins ∧ (bargeLess n len s).enginesOut = s.enginesOut := by
  unfold bargeLess
  simp

@[simp] theorem dropRec_frame (i : Nat) (r : Rec) (s : State) :
    (dropRec i r s).now = s.now ∧ (dropRec i r s).free = s.free ∧ (dropRec i r s).pending = s.pending ∧ (dropRec i r s).regs = s.regs ∧
    (dropRec i r s).cmds = s.cmds ∧ (dropRec i r s).out = s.out ∧ (dropRec i r s).ports = s.ports ∧ (dropRec i r s).lock = s.lock ∧
    (dropRec i r s).weir = s.weir ∧ (dropRec i r s).sluice = s.sluice ∧ (dropRec i r s).refloat = s.refloat ∧
    (dropRec i r s).drc = s.drc ∧ (dropRec i r s).chart = s.chart ∧ (dropRec i r s).gauge = s.gauge ∧ (dropRec i r s).fly = s.fly ∧
    (dropRec i r s).seq = s.seq ∧ (dropRec i r s).log = s.log ∧ (dropRec i r s).tow = s.tow ∧ (dropRec i r s).keep = s.keep ∧
    (dropRec i r s).cfg = s.cfg ∧ (dropRec i r s).pke = s.pke ∧ (dropRec i r s).clk = s.clk ∧ (dropRec i r s).mgmt = s.mgmt ∧
    (dropRec i r s).pins = s.pins ∧ (dropRec i r s).enginesOut = s.enginesOut := by
  unfold dropRec
  dsimp only
  (repeat' split) <;> simp

@[simp] theorem retireTo_frame (i : Nat) (target : Nat) (s : State) :
    (retireTo i target s).now = s.now ∧ (retireTo i target s).free = s.free ∧ (retireTo i target s).pending = s.pending ∧
    (retireTo i target s).regs = s.regs ∧ (retireTo i target s).cmds = s.cmds ∧ (retireTo i target s).ports = s.ports ∧
    (retireTo i target s).lock = s.lock ∧ (retireTo i target s).weir = s.weir ∧ (retireTo i target s).sluice = s.sluice ∧
    (retireTo i target s).refloat = s.refloat ∧ (retireTo i target s).drc = s.drc ∧ (retireTo i target s).gauge = s.gauge ∧
    (retireTo i target s).fly = s.fly ∧ (retireTo i target s).seq = s.seq ∧ (retireTo i target s).log = s.log ∧
    (retireTo i target s).tow = s.tow ∧ (retireTo i target s).keep = s.keep ∧ (retireTo i target s).cfg = s.cfg ∧
    (retireTo i target s).pke = s.pke ∧ (retireTo i target s).clk = s.clk ∧ (retireTo i target s).mgmt = s.mgmt ∧
    (retireTo i target s).pins = s.pins ∧ (retireTo i target s).enginesOut = s.enginesOut := by
  unfold retireTo
  simp

@[simp] theorem doRetire_frame (i : Nat) (f : Flight) (d : Desc) (s : State) :
    (doRetire i f d s).now = s.now ∧ (doRetire i f d s).free = s.free ∧ (doRetire i f d s).pending = s.pending ∧
    (doRetire i f d s).cmds = s.cmds ∧ (doRetire i f d s).ports = s.ports ∧ (doRetire i f d s).lock = s.lock ∧
    (doRetire i f d s).sluice = s.sluice ∧ (doRetire i f d s).refloat = s.refloat ∧ (doRetire i f d s).gauge = s.gauge ∧
    (doRetire i f d s).fly = s.fly ∧ (doRetire i f d s).seq = s.seq ∧ (doRetire i f d s).log = s.log ∧ (doRetire i f d s).tow = s.tow ∧
    (doRetire i f d s).keep = s.keep ∧ (doRetire i f d s).cfg = s.cfg ∧ (doRetire i f d s).pke = s.pke ∧ (doRetire i f d s).clk = s.clk ∧
    (doRetire i f d s).pins = s.pins ∧ (doRetire i f d s).enginesOut = s.enginesOut := by
  unfold doRetire
  simp

@[simp] theorem carryOut_frame (i : Nat) (f : Flight) (d : Desc) (s : State) :
    (carryOut i f d s).now = s.now ∧ (carryOut i f d s).free = s.free ∧ (carryOut i f d s).pending = s.pending ∧
    (carryOut i f d s).cmds = s.cmds ∧ (carryOut i f d s).ports = s.ports ∧ (carryOut i f d s).lock = s.lock ∧
    (carryOut i f d s).sluice = s.sluice ∧ (carryOut i f d s).refloat = s.refloat ∧ (carryOut i f d s).gauge = s.gauge ∧
    (carryOut i f d s).fly = s.fly ∧ (carryOut i f d s).seq = s.seq ∧ (carryOut i f d s).log = s.log ∧ (carryOut i f d s).tow = s.tow ∧
    (carryOut i f d s).cfg = s.cfg ∧ (carryOut i f d s).pke = s.pke ∧ (carryOut i f d s).clk = s.clk ∧ (carryOut i f d s).pins = s.pins ∧
    (carryOut i f d s).enginesOut = s.enginesOut := by
  unfold carryOut
  dsimp only
  (repeat' split) <;> simp

@[simp] theorem pumpLoop_frame (x0 : Nat) (s : State) :
    (pumpLoop x0 s).now = s.now ∧ (pumpLoop x0 s).free = s.free ∧ (pumpLoop x0 s).pending = s.pending ∧ (pumpLoop x0 s).cmds = s.cmds ∧
    (pumpLoop x0 s).lock = s.lock ∧ (pumpLoop x0 s).sluice = s.sluice ∧ (pumpLoop x0 s).refloat = s.refloat ∧
    (pumpLoop x0 s).gauge = s.gauge ∧ (pumpLoop x0 s).fly = s.fly ∧ (pumpLoop x0 s).seq = s.seq ∧ (pumpLoop x0 s).log = s.log ∧
    (pumpLoop x0 s).tow = s.tow ∧ (pumpLoop x0 s).cfg = s.cfg ∧ (pumpLoop x0 s).pke = s.pke ∧ (pumpLoop x0 s).clk = s.clk ∧
    (pumpLoop x0 s).pins = s.pins ∧ (pumpLoop x0 s).enginesOut = s.enginesOut := by
  induction x0 generalizing s with
  | zero => simp [pumpLoop]
  | succ n ih =>
    unfold pumpLoop
    (repeat' split) <;> simp [ih]

@[simp] theorem pump_frame (s : State) :
    (pump s).now = s.now ∧ (pump s).free = s.free ∧ (pump s).pending = s.pending ∧ (pump s).cmds = s.cmds ∧ (pump s).lock = s.lock ∧
    (pump s).sluice = s.sluice ∧ (pump s).refloat = s.refloat ∧ (pump s).gauge = s.gauge ∧ (pump s).fly = s.fly ∧ (pump s).seq = s.seq ∧
    (pump s).log = s.log ∧ (pump s).tow = s.tow ∧ (pump s).cfg = s.cfg ∧ (pump s).pke = s.pke ∧ (pump s).clk = s.clk ∧
    (pump s).pins = s.pins ∧ (pump s).enginesOut = s.enginesOut := by
  unfold pump
  simp

@[simp] theorem releaseHeld_frame (s : State) :
    (releaseHeld s).now = s.now ∧ (releaseHeld s).free = s.free ∧ (releaseHeld s).pending = s.pending ∧ (releaseHeld s).regs = s.regs ∧
    (releaseHeld s).cmds = s.cmds ∧ (releaseHeld s).out = s.out ∧ (releaseHeld s).ports = s.ports ∧ (releaseHeld s).lock = s.lock ∧
    (releaseHeld s).weir = s.weir ∧ (releaseHeld s).sluice = s.sluice ∧ (releaseHeld s).refloat = s.refloat ∧
    (releaseHeld s).drc = s.drc ∧ (releaseHeld s).fmm = s.fmm ∧ (releaseHeld s).chart = s.chart ∧ (releaseHeld s).gauge = s.gauge ∧
    (releaseHeld s).fly = s.fly ∧ (releaseHeld s).seq = s.seq ∧ (releaseHeld s).log = s.log ∧ (releaseHeld s).tow = s.tow ∧
    (releaseHeld s).keep = s.keep ∧ (releaseHeld s).cfg = s.cfg ∧ (releaseHeld s).pke = s.pke ∧ (releaseHeld s).clk = s.clk ∧
    (releaseHeld s).mgmt = s.mgmt ∧ (releaseHeld s).pins = s.pins ∧ (releaseHeld s).enginesOut = s.enginesOut := by
  unfold releaseHeld
  simp

@[simp] theorem triggerSluice_frame (c : Nat) (s : State) :
    (triggerSluice c s).now = s.now ∧ (triggerSluice c s).free = s.free ∧ (triggerSluice c s).pending = s.pending ∧
    (triggerSluice c s).refloat = s.refloat ∧ (triggerSluice c s).tow = s.tow ∧ (triggerSluice c s).pke = s.pke ∧
    (triggerSluice c s).clk = s.clk ∧ (triggerSluice c s).enginesOut = s.enginesOut := by
  unfold triggerSluice
  simp

@[simp] theorem trigger_frame (c : Nat) (s : State) :
    (trigger c s).now = s.now ∧ (trigger c s).free = s.free ∧ (trigger c s).pending = s.pending ∧ (trigger c s).refloat = s.refloat ∧
    (trigger c s).pke = s.pke ∧ (trigger c s).clk = s.clk ∧ (trigger c s).enginesOut = s.enginesOut := by
  unfold trigger
  simp

@[simp] theorem reserveCheck_frame (s : State) :
    (reserveCheck s).now = s.now ∧ (reserveCheck s).free = s.free ∧ (reserveCheck s).pending = s.pending ∧
    (reserveCheck s).refloat = s.refloat ∧ (reserveCheck s).pke = s.pke ∧ (reserveCheck s).clk = s.clk ∧
    (reserveCheck s).enginesOut = s.enginesOut := by
  unfold reserveCheck
  simp

@[simp] theorem acLost_frame (s : State) :
    (acLost s).now = s.now ∧ (acLost s).free = s.free ∧ (acLost s).pending = s.pending ∧ (acLost s).refloat = s.refloat ∧
    (acLost s).pke = s.pke ∧ (acLost s).clk = s.clk ∧ (acLost s).enginesOut = s.enginesOut := by
  unfold acLost
  simp

@[simp] theorem flyDrop_frame (s : State) :
    (flyDrop s).now = s.now ∧ (flyDrop s).free = s.free ∧ (flyDrop s).pending = s.pending ∧ (flyDrop s).regs = s.regs ∧
    (flyDrop s).cmds = s.cmds ∧ (flyDrop s).out = s.out ∧ (flyDrop s).berths = s.berths ∧ (flyDrop s).ports = s.ports ∧
    (flyDrop s).lock = s.lock ∧ (flyDrop s).sluice = s.sluice ∧ (flyDrop s).refloat = s.refloat ∧ (flyDrop s).drc = s.drc ∧
    (flyDrop s).fmm = s.fmm ∧ (flyDrop s).chart = s.chart ∧ (flyDrop s).gauge = s.gauge ∧ (flyDrop s).fly = s.fly ∧
    (flyDrop s).seq = s.seq ∧ (flyDrop s).log = s.log ∧ (flyDrop s).tow = s.tow ∧ (flyDrop s).keep = s.keep ∧ (flyDrop s).cfg = s.cfg ∧
    (flyDrop s).pke = s.pke ∧ (flyDrop s).clk = s.clk ∧ (flyDrop s).mgmt = s.mgmt ∧ (flyDrop s).pins = s.pins ∧
    (flyDrop s).enginesOut = s.enginesOut := by
  unfold flyDrop
  simp

@[simp] theorem flyFault_frame (cause : Nat) (phase : Nat) (s : State) :
    (flyFault cause phase s).now = s.now ∧ (flyFault cause phase s).free = s.free ∧ (flyFault cause phase s).pending = s.pending ∧
    (flyFault cause phase s).cmds = s.cmds ∧ (flyFault cause phase s).berths = s.berths ∧ (flyFault cause phase s).ports = s.ports ∧
    (flyFault cause phase s).lock = s.lock ∧ (flyFault cause phase s).sluice = s.sluice ∧ (flyFault cause phase s).refloat = s.refloat ∧
    (flyFault cause phase s).drc = s.drc ∧ (flyFault cause phase s).fmm = s.fmm ∧ (flyFault cause phase s).chart = s.chart ∧
    (flyFault cause phase s).gauge = s.gauge ∧ (flyFault cause phase s).seq = s.seq ∧ (flyFault cause phase s).tow = s.tow ∧
    (flyFault cause phase s).keep = s.keep ∧ (flyFault cause phase s).cfg = s.cfg ∧ (flyFault cause phase s).pke = s.pke ∧
    (flyFault cause phase s).clk = s.clk ∧ (flyFault cause phase s).pins = s.pins ∧ (flyFault cause phase s).enginesOut = s.enginesOut := by
  unfold flyFault
  simp

@[simp] theorem flyOff_frame (s : State) :
    (flyOff s).now = s.now ∧ (flyOff s).free = s.free ∧ (flyOff s).pending = s.pending ∧ (flyOff s).cmds = s.cmds ∧
    (flyOff s).berths = s.berths ∧ (flyOff s).ports = s.ports ∧ (flyOff s).lock = s.lock ∧ (flyOff s).sluice = s.sluice ∧
    (flyOff s).refloat = s.refloat ∧ (flyOff s).drc = s.drc ∧ (flyOff s).fmm = s.fmm ∧ (flyOff s).chart = s.chart ∧
    (flyOff s).gauge = s.gauge ∧ (flyOff s).seq = s.seq ∧ (flyOff s).tow = s.tow ∧ (flyOff s).keep = s.keep ∧ (flyOff s).cfg = s.cfg ∧
    (flyOff s).pke = s.pke ∧ (flyOff s).clk = s.clk ∧ (flyOff s).pins = s.pins ∧ (flyOff s).enginesOut = s.enginesOut := by
  unfold flyOff
  simp

@[simp] theorem goOn_frame (i : Nat) (s : State) :
    (goOn i s).now = s.now ∧ (goOn i s).free = s.free ∧ (goOn i s).pending = s.pending ∧ (goOn i s).cmds = s.cmds ∧
    (goOn i s).lock = s.lock ∧ (goOn i s).sluice = s.sluice ∧ (goOn i s).refloat = s.refloat ∧ (goOn i s).gauge = s.gauge ∧
    (goOn i s).fly = s.fly ∧ (goOn i s).seq = s.seq ∧ (goOn i s).log = s.log ∧ (goOn i s).tow = s.tow ∧ (goOn i s).cfg = s.cfg ∧
    (goOn i s).pke = s.pke ∧ (goOn i s).clk = s.clk ∧ (goOn i s).pins = s.pins ∧ (goOn i s).enginesOut = s.enginesOut := by
  unfold goOn
  simp

@[simp] theorem quarantine_frame (i : Nat) (s : State) :
    (quarantine i s).now = s.now ∧ (quarantine i s).free = s.free ∧ (quarantine i s).pending = s.pending ∧
    (quarantine i s).cmds = s.cmds ∧ (quarantine i s).lock = s.lock ∧ (quarantine i s).sluice = s.sluice ∧
    (quarantine i s).refloat = s.refloat ∧ (quarantine i s).gauge = s.gauge ∧ (quarantine i s).fly = s.fly ∧
    (quarantine i s).seq = s.seq ∧ (quarantine i s).log = s.log ∧ (quarantine i s).tow = s.tow ∧ (quarantine i s).cfg = s.cfg ∧
    (quarantine i s).pke = s.pke ∧ (quarantine i s).clk = s.clk ∧ (quarantine i s).pins = s.pins ∧
    (quarantine i s).enginesOut = s.enginesOut := by
  unfold quarantine
  simp

@[simp] theorem channelsOff_frame (d : Nat) (s : State) :
    (channelsOff d s).now = s.now ∧ (channelsOff d s).free = s.free ∧ (channelsOff d s).pending = s.pending ∧
    (channelsOff d s).regs = s.regs ∧ (channelsOff d s).cmds = s.cmds ∧ (channelsOff d s).out = s.out ∧
    (channelsOff d s).berths = s.berths ∧ (channelsOff d s).ports = s.ports ∧ (channelsOff d s).lock = s.lock ∧
    (channelsOff d s).weir = s.weir ∧ (channelsOff d s).sluice = s.sluice ∧ (channelsOff d s).refloat = s.refloat ∧
    (channelsOff d s).chart = s.chart ∧ (channelsOff d s).gauge = s.gauge ∧ (channelsOff d s).fly = s.fly ∧
    (channelsOff d s).seq = s.seq ∧ (channelsOff d s).log = s.log ∧ (channelsOff d s).tow = s.tow ∧ (channelsOff d s).keep = s.keep ∧
    (channelsOff d s).cfg = s.cfg ∧ (channelsOff d s).pke = s.pke ∧ (channelsOff d s).clk = s.clk ∧ (channelsOff d s).mgmt = s.mgmt ∧
    (channelsOff d s).pins = s.pins ∧ (channelsOff d s).enginesOut = s.enginesOut := by
  unfold channelsOff
  simp

@[simp] theorem portDown_frame (timer : Bool) (p : Nat) (s : State) :
    (portDown timer p s).now = s.now ∧ (portDown timer p s).free = s.free ∧ (portDown timer p s).pending = s.pending ∧
    (portDown timer p s).cmds = s.cmds ∧ (portDown timer p s).out = s.out ∧ (portDown timer p s).berths = s.berths ∧
    (portDown timer p s).lock = s.lock ∧ (portDown timer p s).weir = s.weir ∧ (portDown timer p s).sluice = s.sluice ∧
    (portDown timer p s).refloat = s.refloat ∧ (portDown timer p s).drc = s.drc ∧ (portDown timer p s).fmm = s.fmm ∧
    (portDown timer p s).chart = s.chart ∧ (portDown timer p s).gauge = s.gauge ∧ (portDown timer p s).fly = s.fly ∧
    (portDown timer p s).seq = s.seq ∧ (portDown timer p s).log = s.log ∧ (portDown timer p s).tow = s.tow ∧
    (portDown timer p s).cfg = s.cfg ∧ (portDown timer p s).pke = s.pke ∧ (portDown timer p s).clk = s.clk ∧
    (portDown timer p s).mgmt = s.mgmt ∧ (portDown timer p s).pins = s.pins ∧ (portDown timer p s).enginesOut = s.enginesOut := by
  unfold portDown
  simp

@[simp] theorem portLinkDown_frame (p : Nat) (s : State) :
    (portLinkDown p s).now = s.now ∧ (portLinkDown p s).free = s.free ∧ (portLinkDown p s).pending = s.pending ∧
    (portLinkDown p s).regs = s.regs ∧ (portLinkDown p s).cmds = s.cmds ∧ (portLinkDown p s).out = s.out ∧
    (portLinkDown p s).berths = s.berths ∧ (portLinkDown p s).lock = s.lock ∧ (portLinkDown p s).weir = s.weir ∧
    (portLinkDown p s).sluice = s.sluice ∧ (portLinkDown p s).refloat = s.refloat ∧ (portLinkDown p s).drc = s.drc ∧
    (portLinkDown p s).fmm = s.fmm ∧ (portLinkDown p s).chart = s.chart ∧ (portLinkDown p s).gauge = s.gauge ∧
    (portLinkDown p s).fly = s.fly ∧ (portLinkDown p s).seq = s.seq ∧ (portLinkDown p s).log = s.log ∧ (portLinkDown p s).tow = s.tow ∧
    (portLinkDown p s).keep = s.keep ∧ (portLinkDown p s).cfg = s.cfg ∧ (portLinkDown p s).pke = s.pke ∧ (portLinkDown p s).clk = s.clk ∧
    (portLinkDown p s).mgmt = s.mgmt ∧ (portLinkDown p s).pins = s.pins ∧ (portLinkDown p s).enginesOut = s.enginesOut := by
  unfold portLinkDown
  simp

@[simp] theorem clusterOff_frame (d : Nat) (s : State) :
    (clusterOff d s).now = s.now ∧ (clusterOff d s).free = s.free ∧ (clusterOff d s).pending = s.pending ∧
    (clusterOff d s).cmds = s.cmds ∧ (clusterOff d s).out = s.out ∧ (clusterOff d s).berths = s.berths ∧ (clusterOff d s).lock = s.lock ∧
    (clusterOff d s).weir = s.weir ∧ (clusterOff d s).sluice = s.sluice ∧ (clusterOff d s).refloat = s.refloat ∧
    (clusterOff d s).drc = s.drc ∧ (clusterOff d s).fmm = s.fmm ∧ (clusterOff d s).chart = s.chart ∧ (clusterOff d s).gauge = s.gauge ∧
    (clusterOff d s).fly = s.fly ∧ (clusterOff d s).seq = s.seq ∧ (clusterOff d s).log = s.log ∧ (clusterOff d s).tow = s.tow ∧
    (clusterOff d s).cfg = s.cfg ∧ (clusterOff d s).pke = s.pke ∧ (clusterOff d s).clk = s.clk ∧ (clusterOff d s).mgmt = s.mgmt ∧
    (clusterOff d s).pins = s.pins ∧ (clusterOff d s).enginesOut = s.enginesOut := by
  unfold clusterOff
  simp

@[simp] theorem authStop_frame (s : State) :
    (authStop s).now = s.now ∧ (authStop s).free = s.free ∧ (authStop s).pending = s.pending ∧ (authStop s).berths = s.berths ∧
    (authStop s).ports = s.ports ∧ (authStop s).lock = s.lock ∧ (authStop s).weir = s.weir ∧ (authStop s).sluice = s.sluice ∧
    (authStop s).refloat = s.refloat ∧ (authStop s).drc = s.drc ∧ (authStop s).fmm = s.fmm ∧ (authStop s).chart = s.chart ∧
    (authStop s).fly = s.fly ∧ (authStop s).seq = s.seq ∧ (authStop s).log = s.log ∧ (authStop s).tow = s.tow ∧
    (authStop s).keep = s.keep ∧ (authStop s).cfg = s.cfg ∧ (authStop s).pke = s.pke ∧ (authStop s).clk = s.clk ∧
    (authStop s).pins = s.pins ∧ (authStop s).enginesOut = s.enginesOut := by
  unfold authStop
  simp

@[simp] theorem clearRegs_frame (lo : Nat) (hi : Nat) (s : State) :
    (clearRegs lo hi s).now = s.now ∧ (clearRegs lo hi s).free = s.free ∧ (clearRegs lo hi s).pending = s.pending ∧
    (clearRegs lo hi s).cmds = s.cmds ∧ (clearRegs lo hi s).out = s.out ∧ (clearRegs lo hi s).berths = s.berths ∧
    (clearRegs lo hi s).ports = s.ports ∧ (clearRegs lo hi s).lock = s.lock ∧ (clearRegs lo hi s).weir = s.weir ∧
    (clearRegs lo hi s).sluice = s.sluice ∧ (clearRegs lo hi s).refloat = s.refloat ∧ (clearRegs lo hi s).drc = s.drc ∧
    (clearRegs lo hi s).fmm = s.fmm ∧ (clearRegs lo hi s).chart = s.chart ∧ (clearRegs lo hi s).gauge = s.gauge ∧
    (clearRegs lo hi s).fly = s.fly ∧ (clearRegs lo hi s).seq = s.seq ∧ (clearRegs lo hi s).log = s.log ∧
    (clearRegs lo hi s).tow = s.tow ∧ (clearRegs lo hi s).keep = s.keep ∧ (clearRegs lo hi s).cfg = s.cfg ∧
    (clearRegs lo hi s).pke = s.pke ∧ (clearRegs lo hi s).clk = s.clk ∧ (clearRegs lo hi s).mgmt = s.mgmt ∧
    (clearRegs lo hi s).pins = s.pins ∧ (clearRegs lo hi s).enginesOut = s.enginesOut := by
  unfold clearRegs
  simp

@[simp] theorem coreReset_frame (s : State) :
    (coreReset s).now = s.now ∧ (coreReset s).free = s.free ∧ (coreReset s).pending = s.pending ∧ (coreReset s).sluice = s.sluice ∧
    (coreReset s).fly = s.fly ∧ (coreReset s).seq = s.seq ∧ (coreReset s).log = s.log ∧ (coreReset s).tow = s.tow ∧
    (coreReset s).keep = s.keep ∧ (coreReset s).cfg = s.cfg ∧ (coreReset s).pins = s.pins := by
  unfold coreReset
  simp

@[simp] theorem mgmtReset_frame (s : State) :
    (mgmtReset s).now = s.now ∧ (mgmtReset s).free = s.free ∧ (mgmtReset s).pending = s.pending ∧ (mgmtReset s).out = s.out ∧
    (mgmtReset s).berths = s.berths ∧ (mgmtReset s).ports = s.ports ∧ (mgmtReset s).lock = s.lock ∧ (mgmtReset s).weir = s.weir ∧
    (mgmtReset s).sluice = s.sluice ∧ (mgmtReset s).refloat = s.refloat ∧ (mgmtReset s).drc = s.drc ∧ (mgmtReset s).fmm = s.fmm ∧
    (mgmtReset s).chart = s.chart ∧ (mgmtReset s).gauge = s.gauge ∧ (mgmtReset s).fly = s.fly ∧ (mgmtReset s).seq = s.seq ∧
    (mgmtReset s).log = s.log ∧ (mgmtReset s).tow = s.tow ∧ (mgmtReset s).keep = s.keep ∧ (mgmtReset s).pke = s.pke ∧
    (mgmtReset s).clk = s.clk ∧ (mgmtReset s).pins = s.pins ∧ (mgmtReset s).enginesOut = s.enginesOut := by
  unfold mgmtReset
  simp

@[simp] theorem deferBerth_frame (i : Nat) (s : State) :
    (deferBerth i s).now = s.now ∧ (deferBerth i s).free = s.free ∧ (deferBerth i s).pending = s.pending ∧
    (deferBerth i s).cmds = s.cmds ∧ (deferBerth i s).ports = s.ports ∧ (deferBerth i s).lock = s.lock ∧ (deferBerth i s).weir = s.weir ∧
    (deferBerth i s).sluice = s.sluice ∧ (deferBerth i s).refloat = s.refloat ∧ (deferBerth i s).drc = s.drc ∧
    (deferBerth i s).fmm = s.fmm ∧ (deferBerth i s).chart = s.chart ∧ (deferBerth i s).gauge = s.gauge ∧ (deferBerth i s).fly = s.fly ∧
    (deferBerth i s).seq = s.seq ∧ (deferBerth i s).log = s.log ∧ (deferBerth i s).tow = s.tow ∧ (deferBerth i s).keep = s.keep ∧
    (deferBerth i s).cfg = s.cfg ∧ (deferBerth i s).pke = s.pke ∧ (deferBerth i s).clk = s.clk ∧ (deferBerth i s).mgmt = s.mgmt ∧
    (deferBerth i s).pins = s.pins ∧ (deferBerth i s).enginesOut = s.enginesOut := by
  unfold deferBerth
  try dsimp only
  refine ⟨?_, ?_, ?_, ?_, ?_, ?_, ?_, ?_, ?_, ?_, ?_, ?_, ?_, ?_, ?_, ?_, ?_, ?_, ?_, ?_, ?_, ?_, ?_, ?_⟩
  · refine (forEach_now _ _ (fun a u => ?_) _).trans (by first | rfl | simp)
    (repeat' split) <;> simp
  · refine (forEach_free _ _ (fun a u => ?_) _).trans (by first | rfl | simp)
    (repeat' split) <;> simp
  · refine (forEach_pending _ _ (fun a u => ?_) _).trans (by first | rfl | simp)
    (repeat' split) <;> simp
  · refine (forEach_cmds _ _ (fun a u => ?_) _).trans (by first | rfl | simp)
    (repeat' split) <;> simp
  · refine (forEach_ports _ _ (fun a u => ?_) _).trans (by first | rfl | simp)
    (repeat' split) <;> simp
  · refine (forEach_lock _ _ (fun a u => ?_) _).trans (by first | rfl | simp)
    (repeat' split) <;> simp
  · refine (forEach_weir _ _ (fun a u => ?_) _).trans (by first | rfl | simp)
    (repeat' split) <;> simp
  · refine (forEach_sluice _ _ (fun a u => ?_) _).trans (by first | rfl | simp)
    (repeat' split) <;> simp
  · refine (forEach_refloat _ _ (fun a u => ?_) _).trans (by first | rfl | simp)
    (repeat' split) <;> simp
  · refine (forEach_drc _ _ (fun a u => ?_) _).trans (by first | rfl | simp)
    (repeat' split) <;> simp
  · refine (forEach_fmm _ _ (fun a u => ?_) _).trans (by first | rfl | simp)
    (repeat' split) <;> simp
  · refine (forEach_chart _ _ (fun a u => ?_) _).trans (by first | rfl | simp)
    (repeat' split) <;> simp
  · refine (forEach_gauge _ _ (fun a u => ?_) _).trans (by first | rfl | simp)
    (repeat' split) <;> simp
  · refine (forEach_fly _ _ (fun a u => ?_) _).trans (by first | rfl | simp)
    (repeat' split) <;> simp
  · refine (forEach_seq _ _ (fun a u => ?_) _).trans (by first | rfl | simp)
    (repeat' split) <;> simp
  · refine (forEach_log _ _ (fun a u => ?_) _).trans (by first | rfl | simp)
    (repeat' split) <;> simp
  · refine (forEach_tow _ _ (fun a u => ?_) _).trans (by first | rfl | simp)
    (repeat' split) <;> simp
  · refine (forEach_keep _ _ (fun a u => ?_) _).trans (by first | rfl | simp)
    (repeat' split) <;> simp
  · refine (forEach_cfg _ _ (fun a u => ?_) _).trans (by first | rfl | simp)
    (repeat' split) <;> simp
  · refine (forEach_pke _ _ (fun a u => ?_) _).trans (by first | rfl | simp)
    (repeat' split) <;> simp
  · refine (forEach_clk _ _ (fun a u => ?_) _).trans (by first | rfl | simp)
    (repeat' split) <;> simp
  · refine (forEach_mgmt _ _ (fun a u => ?_) _).trans (by first | rfl | simp)
    (repeat' split) <;> simp
  · refine (forEach_pins _ _ (fun a u => ?_) _).trans (by first | rfl | simp)
    (repeat' split) <;> simp
  · refine (forEach_enginesOut _ _ (fun a u => ?_) _).trans (by first | rfl | simp)
    (repeat' split) <;> simp

@[simp] theorem quadDefer_frame (s : State) :
    (quadDefer s).now = s.now ∧ (quadDefer s).free = s.free ∧ (quadDefer s).pending = s.pending ∧ (quadDefer s).cmds = s.cmds ∧
    (quadDefer s).ports = s.ports ∧ (quadDefer s).lock = s.lock ∧ (quadDefer s).weir = s.weir ∧ (quadDefer s).sluice = s.sluice ∧
    (quadDefer s).refloat = s.refloat ∧ (quadDefer s).drc = s.drc ∧ (quadDefer s).fmm = s.fmm ∧ (quadDefer s).chart = s.chart ∧
    (quadDefer s).gauge = s.gauge ∧ (quadDefer s).fly = s.fly ∧ (quadDefer s).seq = s.seq ∧ (quadDefer s).log = s.log ∧
    (quadDefer s).tow = s.tow ∧ (quadDefer s).keep = s.keep ∧ (quadDefer s).cfg = s.cfg ∧ (quadDefer s).pke = s.pke ∧
    (quadDefer s).clk = s.clk ∧ (quadDefer s).mgmt = s.mgmt ∧ (quadDefer s).pins = s.pins ∧ (quadDefer s).enginesOut = s.enginesOut := by
  unfold quadDefer
  simp

@[simp] theorem domainOff_frame (d : Nat) (s : State) :
    (domainOff d s).now = s.now ∧ (domainOff d s).free = s.free ∧ (domainOff d s).pending = s.pending ∧
    (domainOff d s).sluice = s.sluice ∧ (domainOff d s).fly = s.fly ∧ (domainOff d s).log = s.log ∧ (domainOff d s).tow = s.tow ∧
    (domainOff d s).pins = s.pins := by
  unfold domainOff
  simp

@[simp] theorem allDomainsOff_frame (s : State) :
    (allDomainsOff s).now = s.now ∧ (allDomainsOff s).free = s.free ∧ (allDomainsOff s).pending = s.pending ∧
    (allDomainsOff s).sluice = s.sluice ∧ (allDomainsOff s).fly = s.fly ∧ (allDomainsOff s).log = s.log ∧ (allDomainsOff s).tow = s.tow ∧
    (allDomainsOff s).pins = s.pins := by
  unfold allDomainsOff
  simp

@[simp] theorem assertReset_frame (n : Nat) (s : State) :
    (assertReset n s).now = s.now ∧ (assertReset n s).free = s.free ∧ (assertReset n s).pending = s.pending ∧
    (assertReset n s).regs = s.regs ∧ (assertReset n s).cmds = s.cmds ∧ (assertReset n s).out = s.out ∧
    (assertReset n s).berths = s.berths ∧ (assertReset n s).ports = s.ports ∧ (assertReset n s).lock = s.lock ∧
    (assertReset n s).weir = s.weir ∧ (assertReset n s).sluice = s.sluice ∧ (assertReset n s).refloat = s.refloat ∧
    (assertReset n s).drc = s.drc ∧ (assertReset n s).fmm = s.fmm ∧ (assertReset n s).chart = s.chart ∧
    (assertReset n s).gauge = s.gauge ∧ (assertReset n s).fly = s.fly ∧ (assertReset n s).log = s.log ∧ (assertReset n s).tow = s.tow ∧
    (assertReset n s).keep = s.keep ∧ (assertReset n s).cfg = s.cfg ∧ (assertReset n s).pke = s.pke ∧ (assertReset n s).clk = s.clk ∧
    (assertReset n s).mgmt = s.mgmt ∧ (assertReset n s).pins = s.pins ∧ (assertReset n s).enginesOut = s.enginesOut := by
  unfold assertReset
  simp

@[simp] theorem assertAllResets_frame (s : State) :
    (assertAllResets s).now = s.now ∧ (assertAllResets s).free = s.free ∧ (assertAllResets s).pending = s.pending ∧
    (assertAllResets s).regs = s.regs ∧ (assertAllResets s).cmds = s.cmds ∧ (assertAllResets s).out = s.out ∧
    (assertAllResets s).berths = s.berths ∧ (assertAllResets s).ports = s.ports ∧ (assertAllResets s).lock = s.lock ∧
    (assertAllResets s).weir = s.weir ∧ (assertAllResets s).sluice = s.sluice ∧ (assertAllResets s).refloat = s.refloat ∧
    (assertAllResets s).drc = s.drc ∧ (assertAllResets s).fmm = s.fmm ∧ (assertAllResets s).chart = s.chart ∧
    (assertAllResets s).gauge = s.gauge ∧ (assertAllResets s).fly = s.fly ∧ (assertAllResets s).log = s.log ∧
    (assertAllResets s).tow = s.tow ∧ (assertAllResets s).keep = s.keep ∧ (assertAllResets s).cfg = s.cfg ∧
    (assertAllResets s).pke = s.pke ∧ (assertAllResets s).clk = s.clk ∧ (assertAllResets s).mgmt = s.mgmt ∧
    (assertAllResets s).pins = s.pins ∧ (assertAllResets s).enginesOut = s.enginesOut := by
  unfold assertAllResets
  simp

@[simp] theorem domainOn_frame (d : Nat) (s : State) :
    (domainOn d s).now = s.now ∧ (domainOn d s).free = s.free ∧ (domainOn d s).pending = s.pending ∧ (domainOn d s).regs = s.regs ∧
    (domainOn d s).cmds = s.cmds ∧ (domainOn d s).out = s.out ∧ (domainOn d s).berths = s.berths ∧ (domainOn d s).ports = s.ports ∧
    (domainOn d s).lock = s.lock ∧ (domainOn d s).weir = s.weir ∧ (domainOn d s).sluice = s.sluice ∧ (domainOn d s).refloat = s.refloat ∧
    (domainOn d s).drc = s.drc ∧ (domainOn d s).fmm = s.fmm ∧ (domainOn d s).chart = s.chart ∧ (domainOn d s).gauge = s.gauge ∧
    (domainOn d s).fly = s.fly ∧ (domainOn d s).log = s.log ∧ (domainOn d s).tow = s.tow ∧ (domainOn d s).keep = s.keep ∧
    (domainOn d s).cfg = s.cfg ∧ (domainOn d s).pke = s.pke ∧ (domainOn d s).clk = s.clk ∧ (domainOn d s).mgmt = s.mgmt ∧
    (domainOn d s).pins = s.pins ∧ (domainOn d s).enginesOut = s.enginesOut := by
  unfold domainOn
  simp

@[simp] theorem railOutput_frame (r : Nat) (mv : Nat) (s : State) :
    (railOutput r mv s).now = s.now ∧ (railOutput r mv s).free = s.free ∧ (railOutput r mv s).pending = s.pending ∧
    (railOutput r mv s).regs = s.regs ∧ (railOutput r mv s).cmds = s.cmds ∧ (railOutput r mv s).berths = s.berths ∧
    (railOutput r mv s).ports = s.ports ∧ (railOutput r mv s).lock = s.lock ∧ (railOutput r mv s).weir = s.weir ∧
    (railOutput r mv s).sluice = s.sluice ∧ (railOutput r mv s).refloat = s.refloat ∧ (railOutput r mv s).drc = s.drc ∧
    (railOutput r mv s).fmm = s.fmm ∧ (railOutput r mv s).chart = s.chart ∧ (railOutput r mv s).gauge = s.gauge ∧
    (railOutput r mv s).fly = s.fly ∧ (railOutput r mv s).log = s.log ∧ (railOutput r mv s).tow = s.tow ∧
    (railOutput r mv s).keep = s.keep ∧ (railOutput r mv s).cfg = s.cfg ∧ (railOutput r mv s).pke = s.pke ∧
    (railOutput r mv s).clk = s.clk ∧ (railOutput r mv s).mgmt = s.mgmt ∧ (railOutput r mv s).pins = s.pins ∧
    (railOutput r mv s).enginesOut = s.enginesOut := by
  unfold railOutput
  simp

@[simp] theorem railSwitch_frame (r : Nat) (on : Bool) (s : State) :
    (railSwitch r on s).now = s.now ∧ (railSwitch r on s).free = s.free ∧ (railSwitch r on s).pending = s.pending ∧
    (railSwitch r on s).regs = s.regs ∧ (railSwitch r on s).cmds = s.cmds ∧ (railSwitch r on s).berths = s.berths ∧
    (railSwitch r on s).ports = s.ports ∧ (railSwitch r on s).lock = s.lock ∧ (railSwitch r on s).weir = s.weir ∧
    (railSwitch r on s).sluice = s.sluice ∧ (railSwitch r on s).refloat = s.refloat ∧ (railSwitch r on s).drc = s.drc ∧
    (railSwitch r on s).fmm = s.fmm ∧ (railSwitch r on s).chart = s.chart ∧ (railSwitch r on s).gauge = s.gauge ∧
    (railSwitch r on s).fly = s.fly ∧ (railSwitch r on s).log = s.log ∧ (railSwitch r on s).tow = s.tow ∧
    (railSwitch r on s).keep = s.keep ∧ (railSwitch r on s).cfg = s.cfg ∧ (railSwitch r on s).pke = s.pke ∧
    (railSwitch r on s).clk = s.clk ∧ (railSwitch r on s).mgmt = s.mgmt ∧ (railSwitch r on s).pins = s.pins ∧
    (railSwitch r on s).enginesOut = s.enginesOut := by
  unfold railSwitch
  simp

@[simp] theorem releaseReset_frame (n : Nat) (s : State) :
    (releaseReset n s).now = s.now ∧ (releaseReset n s).free = s.free ∧ (releaseReset n s).pending = s.pending ∧
    (releaseReset n s).regs = s.regs ∧ (releaseReset n s).cmds = s.cmds ∧ (releaseReset n s).out = s.out ∧
    (releaseReset n s).berths = s.berths ∧ (releaseReset n s).ports = s.ports ∧ (releaseReset n s).lock = s.lock ∧
    (releaseReset n s).weir = s.weir ∧ (releaseReset n s).sluice = s.sluice ∧ (releaseReset n s).refloat = s.refloat ∧
    (releaseReset n s).drc = s.drc ∧ (releaseReset n s).fmm = s.fmm ∧ (releaseReset n s).chart = s.chart ∧
    (releaseReset n s).gauge = s.gauge ∧ (releaseReset n s).fly = s.fly ∧ (releaseReset n s).log = s.log ∧
    (releaseReset n s).tow = s.tow ∧ (releaseReset n s).keep = s.keep ∧ (releaseReset n s).cfg = s.cfg ∧ (releaseReset n s).pke = s.pke ∧
    (releaseReset n s).clk = s.clk ∧ (releaseReset n s).mgmt = s.mgmt ∧ (releaseReset n s).pins = s.pins ∧
    (releaseReset n s).enginesOut = s.enginesOut := by
  unfold releaseReset
  simp

@[simp] theorem setItem_frame (w : BitVec 32) (on : Bool) (s : State) :
    (setItem w on s).now = s.now ∧ (setItem w on s).free = s.free ∧ (setItem w on s).pending = s.pending ∧
    (setItem w on s).sluice = s.sluice ∧ (setItem w on s).fly = s.fly ∧ (setItem w on s).log = s.log ∧ (setItem w on s).tow = s.tow ∧
    (setItem w on s).pins = s.pins := by
  unfold setItem
  dsimp only
  (repeat' split) <;> simp

@[simp] theorem goDown_frame (x0 : List (BitVec 32)) (s : State) :
    (goDown x0 s).now = s.now ∧ (goDown x0 s).free = s.free ∧ (goDown x0 s).pending = s.pending ∧ (goDown x0 s).sluice = s.sluice ∧
    (goDown x0 s).fly = s.fly ∧ (goDown x0 s).log = s.log ∧ (goDown x0 s).tow = s.tow ∧ (goDown x0 s).pins = s.pins := by
  induction x0 generalizing s with
  | nil => unfold goDown; dsimp only; split <;> simp
  | cons w t ih => unfold goDown; dsimp only; split <;> simp [ih]

@[simp] theorem domainsDown_frame (was : BitVec 24) (s : State) :
    (domainsDown was s).now = s.now ∧ (domainsDown was s).free = s.free ∧ (domainsDown was s).pending = s.pending ∧
    (domainsDown was s).sluice = s.sluice ∧ (domainsDown was s).fly = s.fly ∧ (domainsDown was s).log = s.log ∧
    (domainsDown was s).tow = s.tow ∧ (domainsDown was s).pins = s.pins := by
  unfold domainsDown
  simp

@[simp] theorem flySafe_frame (s : State) :
    (flySafe s).now = s.now ∧ (flySafe s).free = s.free ∧ (flySafe s).pending = s.pending ∧ (flySafe s).regs = s.regs ∧
    (flySafe s).cmds = s.cmds ∧ (flySafe s).out = s.out ∧ (flySafe s).berths = s.berths ∧ (flySafe s).ports = s.ports ∧
    (flySafe s).lock = s.lock ∧ (flySafe s).weir = s.weir ∧ (flySafe s).sluice = s.sluice ∧ (flySafe s).refloat = s.refloat ∧
    (flySafe s).drc = s.drc ∧ (flySafe s).fmm = s.fmm ∧ (flySafe s).chart = s.chart ∧ (flySafe s).gauge = s.gauge ∧
    (flySafe s).seq = s.seq ∧ (flySafe s).log = s.log ∧ (flySafe s).tow = s.tow ∧ (flySafe s).keep = s.keep ∧ (flySafe s).cfg = s.cfg ∧
    (flySafe s).pke = s.pke ∧ (flySafe s).clk = s.clk ∧ (flySafe s).mgmt = s.mgmt ∧ (flySafe s).pins = s.pins ∧
    (flySafe s).enginesOut = s.enginesOut := by
  unfold flySafe
  simp

@[simp] theorem handledOn_frame (s : State) :
    (handledOn s).now = s.now ∧ (handledOn s).free = s.free ∧ (handledOn s).pending = s.pending ∧ (handledOn s).regs = s.regs ∧
    (handledOn s).cmds = s.cmds ∧ (handledOn s).out = s.out ∧ (handledOn s).berths = s.berths ∧ (handledOn s).ports = s.ports ∧
    (handledOn s).lock = s.lock ∧ (handledOn s).weir = s.weir ∧ (handledOn s).sluice = s.sluice ∧ (handledOn s).refloat = s.refloat ∧
    (handledOn s).drc = s.drc ∧ (handledOn s).fmm = s.fmm ∧ (handledOn s).chart = s.chart ∧ (handledOn s).gauge = s.gauge ∧
    (handledOn s).fly = s.fly ∧ (handledOn s).seq = s.seq ∧ (handledOn s).log = s.log ∧ (handledOn s).tow = s.tow ∧
    (handledOn s).cfg = s.cfg ∧ (handledOn s).pke = s.pke ∧ (handledOn s).clk = s.clk ∧ (handledOn s).mgmt = s.mgmt ∧
    (handledOn s).pins = s.pins ∧ (handledOn s).enginesOut = s.enginesOut ∧ (handledOn s).keep.reports = s.keep.reports := by
  unfold handledOn
  simp

@[simp] theorem restoreStartSources_frame (s : State) :
    (restoreStartSources s).now = s.now ∧ (restoreStartSources s).free = s.free ∧ (restoreStartSources s).pending = s.pending ∧
    (restoreStartSources s).regs = s.regs ∧ (restoreStartSources s).cmds = s.cmds ∧ (restoreStartSources s).out = s.out ∧
    (restoreStartSources s).berths = s.berths ∧ (restoreStartSources s).ports = s.ports ∧ (restoreStartSources s).lock = s.lock ∧
    (restoreStartSources s).weir = s.weir ∧ (restoreStartSources s).sluice = s.sluice ∧ (restoreStartSources s).refloat = s.refloat ∧
    (restoreStartSources s).drc = s.drc ∧ (restoreStartSources s).fmm = s.fmm ∧ (restoreStartSources s).chart = s.chart ∧
    (restoreStartSources s).gauge = s.gauge ∧ (restoreStartSources s).fly = s.fly ∧ (restoreStartSources s).seq = s.seq ∧
    (restoreStartSources s).log = s.log ∧ (restoreStartSources s).tow = s.tow ∧ (restoreStartSources s).cfg = s.cfg ∧
    (restoreStartSources s).pke = s.pke ∧ (restoreStartSources s).clk = s.clk ∧ (restoreStartSources s).mgmt = s.mgmt ∧
    (restoreStartSources s).pins = s.pins ∧ (restoreStartSources s).enginesOut = s.enginesOut ∧
    (restoreStartSources s).keep.reports = s.keep.reports := by
  unfold restoreStartSources
  simp

@[simp] theorem globalReset_frame (cause : Nat) (s : State) :
    (globalReset cause s).now = s.now ∧ (globalReset cause s).free = s.free ∧ (globalReset cause s).pending = s.pending ∧
    (globalReset cause s).sluice = s.sluice ∧ (globalReset cause s).tow = s.tow ∧ (globalReset cause s).pins = s.pins := by
  unfold globalReset
  simp

@[simp] theorem resetRequest_frame (cause : Nat) (s : State) :
    (resetRequest cause s).now = s.now ∧ (resetRequest cause s).free = s.free ∧ (resetRequest cause s).pending = s.pending := by
  unfold resetRequest
  simp

@[simp] theorem redirectReads_frame (c : Nat) (s : State) :
    (redirectReads c s).now = s.now ∧ (redirectReads c s).free = s.free ∧ (redirectReads c s).pending = s.pending ∧
    (redirectReads c s).regs = s.regs ∧ (redirectReads c s).cmds = s.cmds ∧ (redirectReads c s).out = s.out ∧
    (redirectReads c s).berths = s.berths ∧ (redirectReads c s).ports = s.ports ∧ (redirectReads c s).lock = s.lock ∧
    (redirectReads c s).weir = s.weir ∧ (redirectReads c s).sluice = s.sluice ∧ (redirectReads c s).refloat = s.refloat ∧
    (redirectReads c s).fmm = s.fmm ∧ (redirectReads c s).chart = s.chart ∧ (redirectReads c s).gauge = s.gauge ∧
    (redirectReads c s).fly = s.fly ∧ (redirectReads c s).seq = s.seq ∧ (redirectReads c s).log = s.log ∧
    (redirectReads c s).tow = s.tow ∧ (redirectReads c s).keep = s.keep ∧ (redirectReads c s).cfg = s.cfg ∧
    (redirectReads c s).pke = s.pke ∧ (redirectReads c s).clk = s.clk ∧ (redirectReads c s).mgmt = s.mgmt ∧
    (redirectReads c s).pins = s.pins ∧ (redirectReads c s).enginesOut = s.enginesOut := by
  unfold redirectReads
  dsimp only
  (repeat' split) <;> simp

@[simp] theorem remirrorStart_frame (c : Nat) (s : State) :
    (remirrorStart c s).now = s.now ∧ (remirrorStart c s).free = s.free ∧ (remirrorStart c s).pending = s.pending ∧
    (remirrorStart c s).regs = s.regs ∧ (remirrorStart c s).cmds = s.cmds ∧ (remirrorStart c s).out = s.out ∧
    (remirrorStart c s).berths = s.berths ∧ (remirrorStart c s).ports = s.ports ∧ (remirrorStart c s).lock = s.lock ∧
    (remirrorStart c s).weir = s.weir ∧ (remirrorStart c s).sluice = s.sluice ∧ (remirrorStart c s).refloat = s.refloat ∧
    (remirrorStart c s).fmm = s.fmm ∧ (remirrorStart c s).chart = s.chart ∧ (remirrorStart c s).gauge = s.gauge ∧
    (remirrorStart c s).fly = s.fly ∧ (remirrorStart c s).seq = s.seq ∧ (remirrorStart c s).log = s.log ∧
    (remirrorStart c s).tow = s.tow ∧ (remirrorStart c s).keep = s.keep ∧ (remirrorStart c s).cfg = s.cfg ∧
    (remirrorStart c s).pke = s.pke ∧ (remirrorStart c s).clk = s.clk ∧ (remirrorStart c s).mgmt = s.mgmt ∧
    (remirrorStart c s).pins = s.pins ∧ (remirrorStart c s).enginesOut = s.enginesOut := by
  unfold remirrorStart
  simp

@[simp] theorem replaceFlight_frame (c : Nat) (i : Nat) (f : Flight) (s : State) :
    (replaceFlight c i f s).now = s.now ∧ (replaceFlight c i f s).free = s.free ∧ (replaceFlight c i f s).pending = s.pending ∧
    (replaceFlight c i f s).regs = s.regs ∧ (replaceFlight c i f s).cmds = s.cmds ∧ (replaceFlight c i f s).out = s.out ∧
    (replaceFlight c i f s).ports = s.ports ∧ (replaceFlight c i f s).lock = s.lock ∧ (replaceFlight c i f s).weir = s.weir ∧
    (replaceFlight c i f s).sluice = s.sluice ∧ (replaceFlight c i f s).refloat = s.refloat ∧ (replaceFlight c i f s).fmm = s.fmm ∧
    (replaceFlight c i f s).chart = s.chart ∧ (replaceFlight c i f s).gauge = s.gauge ∧ (replaceFlight c i f s).fly = s.fly ∧
    (replaceFlight c i f s).seq = s.seq ∧ (replaceFlight c i f s).log = s.log ∧ (replaceFlight c i f s).tow = s.tow ∧
    (replaceFlight c i f s).keep = s.keep ∧ (replaceFlight c i f s).cfg = s.cfg ∧ (replaceFlight c i f s).pke = s.pke ∧
    (replaceFlight c i f s).clk = s.clk ∧ (replaceFlight c i f s).mgmt = s.mgmt ∧ (replaceFlight c i f s).pins = s.pins ∧
    (replaceFlight c i f s).enginesOut = s.enginesOut := by
  unfold replaceFlight
  dsimp only
  (repeat' split) <;> simp

@[simp] theorem spillFlags_frame (s : State) :
    (spillFlags s).now = s.now ∧ (spillFlags s).free = s.free ∧ (spillFlags s).pending = s.pending ∧ (spillFlags s).regs = s.regs ∧
    (spillFlags s).cmds = s.cmds ∧ (spillFlags s).out = s.out ∧ (spillFlags s).berths = s.berths ∧ (spillFlags s).ports = s.ports ∧
    (spillFlags s).lock = s.lock ∧ (spillFlags s).sluice = s.sluice ∧ (spillFlags s).refloat = s.refloat ∧ (spillFlags s).drc = s.drc ∧
    (spillFlags s).fmm = s.fmm ∧ (spillFlags s).chart = s.chart ∧ (spillFlags s).gauge = s.gauge ∧ (spillFlags s).fly = s.fly ∧
    (spillFlags s).seq = s.seq ∧ (spillFlags s).log = s.log ∧ (spillFlags s).tow = s.tow ∧ (spillFlags s).keep = s.keep ∧
    (spillFlags s).cfg = s.cfg ∧ (spillFlags s).pke = s.pke ∧ (spillFlags s).clk = s.clk ∧ (spillFlags s).mgmt = s.mgmt ∧
    (spillFlags s).pins = s.pins ∧ (spillFlags s).enginesOut = s.enginesOut := by
  unfold spillFlags
  simp

@[simp] theorem spillTake_frame (g : Nat) (x : Nat × Rec × Bool × Nat) (s : State) :
    (spillTake g x s).now = s.now ∧ (spillTake g x s).free = s.free ∧ (spillTake g x s).pending = s.pending ∧
    (spillTake g x s).cmds = s.cmds ∧ (spillTake g x s).berths = s.berths ∧ (spillTake g x s).ports = s.ports ∧
    (spillTake g x s).lock = s.lock ∧ (spillTake g x s).sluice = s.sluice ∧ (spillTake g x s).refloat = s.refloat ∧
    (spillTake g x s).chart = s.chart ∧ (spillTake g x s).gauge = s.gauge ∧ (spillTake g x s).fly = s.fly ∧
    (spillTake g x s).seq = s.seq ∧ (spillTake g x s).log = s.log ∧ (spillTake g x s).tow = s.tow ∧ (spillTake g x s).cfg = s.cfg ∧
    (spillTake g x s).pke = s.pke ∧ (spillTake g x s).clk = s.clk ∧ (spillTake g x s).mgmt = s.mgmt ∧ (spillTake g x s).pins = s.pins ∧
    (spillTake g x s).enginesOut = s.enginesOut := by
  unfold spillTake
  dsimp only
  (repeat' split) <;> simp

@[simp] theorem spillLoop_frame (x0 : List (Nat × Rec × Bool × Nat)) (x1 : Nat) (s : State) :
    (spillLoop x0 x1 s).now = s.now ∧ (spillLoop x0 x1 s).free = s.free ∧ (spillLoop x0 x1 s).pending = s.pending ∧
    (spillLoop x0 x1 s).cmds = s.cmds ∧ (spillLoop x0 x1 s).berths = s.berths ∧ (spillLoop x0 x1 s).ports = s.ports ∧
    (spillLoop x0 x1 s).lock = s.lock ∧ (spillLoop x0 x1 s).sluice = s.sluice ∧ (spillLoop x0 x1 s).refloat = s.refloat ∧
    (spillLoop x0 x1 s).chart = s.chart ∧ (spillLoop x0 x1 s).gauge = s.gauge ∧ (spillLoop x0 x1 s).fly = s.fly ∧
    (spillLoop x0 x1 s).seq = s.seq ∧ (spillLoop x0 x1 s).log = s.log ∧ (spillLoop x0 x1 s).tow = s.tow ∧
    (spillLoop x0 x1 s).cfg = s.cfg ∧ (spillLoop x0 x1 s).pke = s.pke ∧ (spillLoop x0 x1 s).clk = s.clk ∧
    (spillLoop x0 x1 s).mgmt = s.mgmt ∧ (spillLoop x0 x1 s).pins = s.pins ∧ (spillLoop x0 x1 s).enginesOut = s.enginesOut := by
  induction x0 generalizing x1 s with
  | nil => simp [spillLoop]
  | cons a t ih =>
    unfold spillLoop
    dsimp only
    (repeat' split) <;> simp [ih]

@[simp] theorem spillRun_frame (s : State) :
    (spillRun s).now = s.now ∧ (spillRun s).free = s.free ∧ (spillRun s).pending = s.pending ∧ (spillRun s).cmds = s.cmds ∧
    (spillRun s).berths = s.berths ∧ (spillRun s).ports = s.ports ∧ (spillRun s).lock = s.lock ∧ (spillRun s).sluice = s.sluice ∧
    (spillRun s).refloat = s.refloat ∧ (spillRun s).chart = s.chart ∧ (spillRun s).gauge = s.gauge ∧ (spillRun s).fly = s.fly ∧
    (spillRun s).seq = s.seq ∧ (spillRun s).log = s.log ∧ (spillRun s).tow = s.tow ∧ (spillRun s).cfg = s.cfg ∧ (spillRun s).pke = s.pke ∧
    (spillRun s).clk = s.clk ∧ (spillRun s).mgmt = s.mgmt ∧ (spillRun s).pins = s.pins ∧ (spillRun s).enginesOut = s.enginesOut := by
  unfold spillRun
  simp

@[simp] theorem weirEvent_frame (s : State) :
    (weirEvent s).now = s.now ∧ (weirEvent s).free = s.free ∧ (weirEvent s).pending = s.pending ∧ (weirEvent s).cmds = s.cmds ∧
    (weirEvent s).lock = s.lock ∧ (weirEvent s).sluice = s.sluice ∧ (weirEvent s).refloat = s.refloat ∧ (weirEvent s).gauge = s.gauge ∧
    (weirEvent s).fly = s.fly ∧ (weirEvent s).seq = s.seq ∧ (weirEvent s).log = s.log ∧ (weirEvent s).tow = s.tow ∧
    (weirEvent s).cfg = s.cfg ∧ (weirEvent s).pke = s.pke ∧ (weirEvent s).clk = s.clk ∧ (weirEvent s).pins = s.pins ∧
    (weirEvent s).enginesOut = s.enginesOut := by
  unfold weirEvent
  simp

@[simp] theorem weirEval_frame (s : State) :
    (weirEval s).now = s.now ∧ (weirEval s).free = s.free ∧ (weirEval s).pending = s.pending ∧ (weirEval s).cmds = s.cmds ∧
    (weirEval s).lock = s.lock ∧ (weirEval s).sluice = s.sluice ∧ (weirEval s).refloat = s.refloat ∧ (weirEval s).gauge = s.gauge ∧
    (weirEval s).fly = s.fly ∧ (weirEval s).seq = s.seq ∧ (weirEval s).log = s.log ∧ (weirEval s).tow = s.tow ∧ (weirEval s).cfg = s.cfg ∧
    (weirEval s).pke = s.pke ∧ (weirEval s).clk = s.clk ∧ (weirEval s).pins = s.pins ∧ (weirEval s).enginesOut = s.enginesOut := by
  unfold weirEval
  simp

@[simp] theorem channelRetire_frame (cause : Nat) (c : Nat) (s : State) :
    (channelRetire cause c s).now = s.now ∧ (channelRetire cause c s).free = s.free ∧ (channelRetire cause c s).pending = s.pending ∧
    (channelRetire cause c s).cmds = s.cmds ∧ (channelRetire cause c s).lock = s.lock ∧ (channelRetire cause c s).sluice = s.sluice ∧
    (channelRetire cause c s).refloat = s.refloat ∧ (channelRetire cause c s).gauge = s.gauge ∧ (channelRetire cause c s).fly = s.fly ∧
    (channelRetire cause c s).seq = s.seq ∧ (channelRetire cause c s).log = s.log ∧ (channelRetire cause c s).tow = s.tow ∧
    (channelRetire cause c s).cfg = s.cfg ∧ (channelRetire cause c s).pke = s.pke ∧ (channelRetire cause c s).clk = s.clk ∧
    (channelRetire cause c s).pins = s.pins ∧ (channelRetire cause c s).enginesOut = s.enginesOut := by
  unfold channelRetire
  simp

@[simp] theorem collModes_frame (s : State) :
    (collModes s).now = s.now ∧ (collModes s).free = s.free ∧ (collModes s).pending = s.pending ∧ (collModes s).cmds = s.cmds ∧
    (collModes s).lock = s.lock ∧ (collModes s).sluice = s.sluice ∧ (collModes s).refloat = s.refloat ∧ (collModes s).gauge = s.gauge ∧
    (collModes s).fly = s.fly ∧ (collModes s).seq = s.seq ∧ (collModes s).log = s.log ∧ (collModes s).tow = s.tow ∧
    (collModes s).cfg = s.cfg ∧ (collModes s).pke = s.pke ∧ (collModes s).clk = s.clk ∧ (collModes s).pins = s.pins ∧
    (collModes s).enginesOut = s.enginesOut := by
  unfold collModes
  simp

@[simp] theorem lifeChecks_frame (s : State) :
    (lifeChecks s).now = s.now ∧ (lifeChecks s).free = s.free ∧ (lifeChecks s).pending = s.pending ∧ (lifeChecks s).regs = s.regs ∧
    (lifeChecks s).cmds = s.cmds ∧ (lifeChecks s).out = s.out ∧ (lifeChecks s).berths = s.berths ∧ (lifeChecks s).ports = s.ports ∧
    (lifeChecks s).lock = s.lock ∧ (lifeChecks s).weir = s.weir ∧ (lifeChecks s).sluice = s.sluice ∧ (lifeChecks s).refloat = s.refloat ∧
    (lifeChecks s).drc = s.drc ∧ (lifeChecks s).chart = s.chart ∧ (lifeChecks s).gauge = s.gauge ∧ (lifeChecks s).fly = s.fly ∧
    (lifeChecks s).seq = s.seq ∧ (lifeChecks s).log = s.log ∧ (lifeChecks s).tow = s.tow ∧ (lifeChecks s).cfg = s.cfg ∧
    (lifeChecks s).pke = s.pke ∧ (lifeChecks s).clk = s.clk ∧ (lifeChecks s).mgmt = s.mgmt ∧ (lifeChecks s).pins = s.pins ∧
    (lifeChecks s).enginesOut = s.enginesOut := by
  unfold lifeChecks
  simp

@[simp] theorem rowLoss_frame (r : Row) (s : State) :
    (rowLoss r s).now = s.now ∧ (rowLoss r s).free = s.free ∧ (rowLoss r s).pending = s.pending ∧ (rowLoss r s).regs = s.regs ∧
    (rowLoss r s).cmds = s.cmds ∧ (rowLoss r s).ports = s.ports ∧ (rowLoss r s).lock = s.lock ∧ (rowLoss r s).weir = s.weir ∧
    (rowLoss r s).sluice = s.sluice ∧ (rowLoss r s).refloat = s.refloat ∧ (rowLoss r s).drc = s.drc ∧ (rowLoss r s).gauge = s.gauge ∧
    (rowLoss r s).fly = s.fly ∧ (rowLoss r s).seq = s.seq ∧ (rowLoss r s).log = s.log ∧ (rowLoss r s).tow = s.tow ∧
    (rowLoss r s).keep = s.keep ∧ (rowLoss r s).cfg = s.cfg ∧ (rowLoss r s).pke = s.pke ∧ (rowLoss r s).clk = s.clk ∧
    (rowLoss r s).mgmt = s.mgmt ∧ (rowLoss r s).pins = s.pins ∧ (rowLoss r s).enginesOut = s.enginesOut := by
  unfold rowLoss
  try dsimp only
  refine ⟨?_, ?_, ?_, ?_, ?_, ?_, ?_, ?_, ?_, ?_, ?_, ?_, ?_, ?_, ?_, ?_, ?_, ?_, ?_, ?_, ?_, ?_, ?_⟩
  · refine (forEach_now _ _ (fun a u => ?_) _).trans (by first | rfl | simp)
    (repeat' split) <;> simp
  · refine (forEach_free _ _ (fun a u => ?_) _).trans (by first | rfl | simp)
    (repeat' split) <;> simp
  · refine (forEach_pending _ _ (fun a u => ?_) _).trans (by first | rfl | simp)
    (repeat' split) <;> simp
  · refine (forEach_regs _ _ (fun a u => ?_) _).trans (by first | rfl | simp)
    (repeat' split) <;> simp
  · refine (forEach_cmds _ _ (fun a u => ?_) _).trans (by first | rfl | simp)
    (repeat' split) <;> simp
  · refine (forEach_ports _ _ (fun a u => ?_) _).trans (by first | rfl | simp)
    (repeat' split) <;> simp
  · refine (forEach_lock _ _ (fun a u => ?_) _).trans (by first | rfl | simp)
    (repeat' split) <;> simp
  · refine (forEach_weir _ _ (fun a u => ?_) _).trans (by first | rfl | simp)
    (repeat' split) <;> simp
  · refine (forEach_sluice _ _ (fun a u => ?_) _).trans (by first | rfl | simp)
    (repeat' split) <;> simp
  · refine (forEach_refloat _ _ (fun a u => ?_) _).trans (by first | rfl | simp)
    (repeat' split) <;> simp
  · refine (forEach_drc _ _ (fun a u => ?_) _).trans (by first | rfl | simp)
    (repeat' split) <;> simp
  · refine (forEach_gauge _ _ (fun a u => ?_) _).trans (by first | rfl | simp)
    (repeat' split) <;> simp
  · refine (forEach_fly _ _ (fun a u => ?_) _).trans (by first | rfl | simp)
    (repeat' split) <;> simp
  · refine (forEach_seq _ _ (fun a u => ?_) _).trans (by first | rfl | simp)
    (repeat' split) <;> simp
  · refine (forEach_log _ _ (fun a u => ?_) _).trans (by first | rfl | simp)
    (repeat' split) <;> simp
  · refine (forEach_tow _ _ (fun a u => ?_) _).trans (by first | rfl | simp)
    (repeat' split) <;> simp
  · refine (forEach_keep _ _ (fun a u => ?_) _).trans (by first | rfl | simp)
    (repeat' split) <;> simp
  · refine (forEach_cfg _ _ (fun a u => ?_) _).trans (by first | rfl | simp)
    (repeat' split) <;> simp
  · refine (forEach_pke _ _ (fun a u => ?_) _).trans (by first | rfl | simp)
    (repeat' split) <;> simp
  · refine (forEach_clk _ _ (fun a u => ?_) _).trans (by first | rfl | simp)
    (repeat' split) <;> simp
  · refine (forEach_mgmt _ _ (fun a u => ?_) _).trans (by first | rfl | simp)
    (repeat' split) <;> simp
  · refine (forEach_pins _ _ (fun a u => ?_) _).trans (by first | rfl | simp)
    (repeat' split) <;> simp
  · refine (forEach_enginesOut _ _ (fun a u => ?_) _).trans (by first | rfl | simp)
    (repeat' split) <;> simp

@[simp] theorem controlFollow_frame (k : Nat) (r : Row) (s : State) :
    (controlFollow k r s).now = s.now ∧ (controlFollow k r s).free = s.free ∧ (controlFollow k r s).pending = s.pending ∧
    (controlFollow k r s).regs = s.regs ∧ (controlFollow k r s).cmds = s.cmds ∧ (controlFollow k r s).out = s.out ∧
    (controlFollow k r s).berths = s.berths ∧ (controlFollow k r s).ports = s.ports ∧ (controlFollow k r s).lock = s.lock ∧
    (controlFollow k r s).weir = s.weir ∧ (controlFollow k r s).sluice = s.sluice ∧ (controlFollow k r s).refloat = s.refloat ∧
    (controlFollow k r s).drc = s.drc ∧ (controlFollow k r s).chart = s.chart ∧ (controlFollow k r s).gauge = s.gauge ∧
    (controlFollow k r s).fly = s.fly ∧ (controlFollow k r s).seq = s.seq ∧ (controlFollow k r s).log = s.log ∧
    (controlFollow k r s).tow = s.tow ∧ (controlFollow k r s).keep = s.keep ∧ (controlFollow k r s).cfg = s.cfg ∧
    (controlFollow k r s).pke = s.pke ∧ (controlFollow k r s).clk = s.clk ∧ (controlFollow k r s).mgmt = s.mgmt ∧
    (controlFollow k r s).pins = s.pins ∧ (controlFollow k r s).enginesOut = s.enginesOut := by
  unfold controlFollow
  simp

@[simp] theorem moveRow_frame (st : Sys2Proof.Stream) (qs : List Nat) (r : Row) (s : State) :
    (moveRow st qs r s).now = s.now ∧ (moveRow st qs r s).free = s.free ∧ (moveRow st qs r s).pending = s.pending ∧
    (moveRow st qs r s).cmds = s.cmds ∧ (moveRow st qs r s).berths = s.berths ∧ (moveRow st qs r s).ports = s.ports ∧
    (moveRow st qs r s).lock = s.lock ∧ (moveRow st qs r s).weir = s.weir ∧ (moveRow st qs r s).sluice = s.sluice ∧
    (moveRow st qs r s).refloat = s.refloat ∧ (moveRow st qs r s).drc = s.drc ∧ (moveRow st qs r s).chart = s.chart ∧
    (moveRow st qs r s).gauge = s.gauge ∧ (moveRow st qs r s).fly = s.fly ∧ (moveRow st qs r s).seq = s.seq ∧
    (moveRow st qs r s).log = s.log ∧ (moveRow st qs r s).tow = s.tow ∧ (moveRow st qs r s).cfg = s.cfg ∧
    (moveRow st qs r s).pke = s.pke ∧ (moveRow st qs r s).clk = s.clk ∧ (moveRow st qs r s).mgmt = s.mgmt ∧
    (moveRow st qs r s).pins = s.pins ∧ (moveRow st qs r s).enginesOut = s.enginesOut := by
  unfold moveRow
  dsimp only
  split
  · next k t h =>
    have := formRow_frame _ _ _ _ _ _ _ _ h
    simp [this]
  · simp

@[simp] theorem moveOut_frame (k : Nat) (s : State) :
    (moveOut k s).now = s.now ∧ (moveOut k s).free = s.free ∧ (moveOut k s).pending = s.pending ∧ (moveOut k s).cmds = s.cmds ∧
    (moveOut k s).berths = s.berths ∧ (moveOut k s).ports = s.ports ∧ (moveOut k s).lock = s.lock ∧ (moveOut k s).weir = s.weir ∧
    (moveOut k s).sluice = s.sluice ∧ (moveOut k s).refloat = s.refloat ∧ (moveOut k s).drc = s.drc ∧ (moveOut k s).chart = s.chart ∧
    (moveOut k s).gauge = s.gauge ∧ (moveOut k s).fly = s.fly ∧ (moveOut k s).seq = s.seq ∧ (moveOut k s).log = s.log ∧
    (moveOut k s).tow = s.tow ∧ (moveOut k s).cfg = s.cfg ∧ (moveOut k s).pke = s.pke ∧ (moveOut k s).clk = s.clk ∧
    (moveOut k s).mgmt = s.mgmt ∧ (moveOut k s).pins = s.pins ∧ (moveOut k s).enginesOut = s.enginesOut := by
  unfold moveOut
  simp

@[simp] theorem pagesAgain_frame (g : Nat) (s : State) :
    (pagesAgain g s).now = s.now ∧ (pagesAgain g s).free = s.free ∧ (pagesAgain g s).pending = s.pending ∧
    (pagesAgain g s).regs = s.regs ∧ (pagesAgain g s).cmds = s.cmds ∧ (pagesAgain g s).berths = s.berths ∧
    (pagesAgain g s).ports = s.ports ∧ (pagesAgain g s).lock = s.lock ∧ (pagesAgain g s).weir = s.weir ∧
    (pagesAgain g s).sluice = s.sluice ∧ (pagesAgain g s).refloat = s.refloat ∧ (pagesAgain g s).drc = s.drc ∧
    (pagesAgain g s).gauge = s.gauge ∧ (pagesAgain g s).fly = s.fly ∧ (pagesAgain g s).seq = s.seq ∧ (pagesAgain g s).log = s.log ∧
    (pagesAgain g s).tow = s.tow ∧ (pagesAgain g s).keep = s.keep ∧ (pagesAgain g s).cfg = s.cfg ∧ (pagesAgain g s).pke = s.pke ∧
    (pagesAgain g s).clk = s.clk ∧ (pagesAgain g s).mgmt = s.mgmt ∧ (pagesAgain g s).pins = s.pins ∧
    (pagesAgain g s).enginesOut = s.enginesOut := by
  unfold pagesAgain
  simp

@[simp] theorem rewriteRow_frame (k : Nat) (row : Nat) (rebuilt : Bool) (s : State) :
    (rewriteRow k row rebuilt s).now = s.now ∧ (rewriteRow k row rebuilt s).free = s.free ∧
    (rewriteRow k row rebuilt s).pending = s.pending ∧ (rewriteRow k row rebuilt s).cmds = s.cmds ∧
    (rewriteRow k row rebuilt s).ports = s.ports ∧ (rewriteRow k row rebuilt s).lock = s.lock ∧
    (rewriteRow k row rebuilt s).weir = s.weir ∧ (rewriteRow k row rebuilt s).sluice = s.sluice ∧
    (rewriteRow k row rebuilt s).refloat = s.refloat ∧ (rewriteRow k row rebuilt s).gauge = s.gauge ∧
    (rewriteRow k row rebuilt s).fly = s.fly ∧ (rewriteRow k row rebuilt s).seq = s.seq ∧ (rewriteRow k row rebuilt s).log = s.log ∧
    (rewriteRow k row rebuilt s).tow = s.tow ∧ (rewriteRow k row rebuilt s).cfg = s.cfg ∧ (rewriteRow k row rebuilt s).pke = s.pke ∧
    (rewriteRow k row rebuilt s).clk = s.clk ∧ (rewriteRow k row rebuilt s).mgmt = s.mgmt ∧ (rewriteRow k row rebuilt s).pins = s.pins ∧
    (rewriteRow k row rebuilt s).enginesOut = s.enginesOut := by
  unfold rewriteRow
  simp

@[simp] theorem sbRewrite_frame (gone : BitVec 17) (quad : Bool) (k : Nat) (s : State) :
    (sbRewrite gone quad k s).now = s.now ∧ (sbRewrite gone quad k s).free = s.free ∧ (sbRewrite gone quad k s).pending = s.pending ∧
    (sbRewrite gone quad k s).cmds = s.cmds ∧ (sbRewrite gone quad k s).ports = s.ports ∧ (sbRewrite gone quad k s).lock = s.lock ∧
    (sbRewrite gone quad k s).weir = s.weir ∧ (sbRewrite gone quad k s).sluice = s.sluice ∧
    (sbRewrite gone quad k s).refloat = s.refloat ∧ (sbRewrite gone quad k s).gauge = s.gauge ∧ (sbRewrite gone quad k s).fly = s.fly ∧
    (sbRewrite gone quad k s).seq = s.seq ∧ (sbRewrite gone quad k s).log = s.log ∧ (sbRewrite gone quad k s).tow = s.tow ∧
    (sbRewrite gone quad k s).cfg = s.cfg ∧ (sbRewrite gone quad k s).pke = s.pke ∧ (sbRewrite gone quad k s).clk = s.clk ∧
    (sbRewrite gone quad k s).mgmt = s.mgmt ∧ (sbRewrite gone quad k s).pins = s.pins ∧
    (sbRewrite gone quad k s).enginesOut = s.enginesOut := by
  unfold sbRewrite
  simp

@[simp] theorem sbSluiceLoss_frame (gone : BitVec 17) (quad : Bool) (k : Nat) (s : State) :
    (sbSluiceLoss gone quad k s).now = s.now ∧ (sbSluiceLoss gone quad k s).free = s.free ∧
    (sbSluiceLoss gone quad k s).pending = s.pending ∧ (sbSluiceLoss gone quad k s).cmds = s.cmds ∧
    (sbSluiceLoss gone quad k s).ports = s.ports ∧ (sbSluiceLoss gone quad k s).lock = s.lock ∧
    (sbSluiceLoss gone quad k s).weir = s.weir ∧ (sbSluiceLoss gone quad k s).sluice = s.sluice ∧
    (sbSluiceLoss gone quad k s).refloat = s.refloat ∧ (sbSluiceLoss gone quad k s).gauge = s.gauge ∧
    (sbSluiceLoss gone quad k s).fly = s.fly ∧ (sbSluiceLoss gone quad k s).seq = s.seq ∧ (sbSluiceLoss gone quad k s).log = s.log ∧
    (sbSluiceLoss gone quad k s).tow = s.tow ∧ (sbSluiceLoss gone quad k s).cfg = s.cfg ∧ (sbSluiceLoss gone quad k s).pke = s.pke ∧
    (sbSluiceLoss gone quad k s).clk = s.clk ∧ (sbSluiceLoss gone quad k s).mgmt = s.mgmt ∧ (sbSluiceLoss gone quad k s).pins = s.pins ∧
    (sbSluiceLoss gone quad k s).enginesOut = s.enginesOut := by
  unfold sbSluiceLoss
  simp

@[simp] theorem sbLoss_frame (hit : Nat → Bool) (quad : Bool) (k : Nat) (s : State) :
    (sbLoss hit quad k s).now = s.now ∧ (sbLoss hit quad k s).free = s.free ∧ (sbLoss hit quad k s).pending = s.pending ∧
    (sbLoss hit quad k s).cmds = s.cmds ∧ (sbLoss hit quad k s).ports = s.ports ∧ (sbLoss hit quad k s).lock = s.lock ∧
    (sbLoss hit quad k s).weir = s.weir ∧ (sbLoss hit quad k s).sluice = s.sluice ∧ (sbLoss hit quad k s).refloat = s.refloat ∧
    (sbLoss hit quad k s).gauge = s.gauge ∧ (sbLoss hit quad k s).fly = s.fly ∧ (sbLoss hit quad k s).seq = s.seq ∧
    (sbLoss hit quad k s).log = s.log ∧ (sbLoss hit quad k s).tow = s.tow ∧ (sbLoss hit quad k s).cfg = s.cfg ∧
    (sbLoss hit quad k s).pke = s.pke ∧ (sbLoss hit quad k s).clk = s.clk ∧ (sbLoss hit quad k s).mgmt = s.mgmt ∧
    (sbLoss hit quad k s).pins = s.pins ∧ (sbLoss hit quad k s).enginesOut = s.enginesOut := by
  unfold sbLoss
  simp

@[simp] theorem basinLoss_frame (hit : Nat → Bool) (quad : Bool) (s : State) :
    (basinLoss hit quad s).now = s.now ∧ (basinLoss hit quad s).free = s.free ∧ (basinLoss hit quad s).pending = s.pending ∧
    (basinLoss hit quad s).cmds = s.cmds ∧ (basinLoss hit quad s).lock = s.lock ∧ (basinLoss hit quad s).sluice = s.sluice ∧
    (basinLoss hit quad s).refloat = s.refloat ∧ (basinLoss hit quad s).gauge = s.gauge ∧ (basinLoss hit quad s).fly = s.fly ∧
    (basinLoss hit quad s).seq = s.seq ∧ (basinLoss hit quad s).log = s.log ∧ (basinLoss hit quad s).tow = s.tow ∧
    (basinLoss hit quad s).cfg = s.cfg ∧ (basinLoss hit quad s).pke = s.pke ∧ (basinLoss hit quad s).clk = s.clk ∧
    (basinLoss hit quad s).pins = s.pins ∧ (basinLoss hit quad s).enginesOut = s.enginesOut := by
  unfold basinLoss
  simp

@[simp] theorem dieLost_frame (d : Nat) (s : State) :
    (dieLost d s).now = s.now ∧ (dieLost d s).free = s.free ∧ (dieLost d s).pending = s.pending ∧ (dieLost d s).cmds = s.cmds ∧
    (dieLost d s).lock = s.lock ∧ (dieLost d s).sluice = s.sluice ∧ (dieLost d s).refloat = s.refloat ∧ (dieLost d s).gauge = s.gauge ∧
    (dieLost d s).fly = s.fly ∧ (dieLost d s).seq = s.seq ∧ (dieLost d s).log = s.log ∧ (dieLost d s).tow = s.tow ∧
    (dieLost d s).cfg = s.cfg ∧ (dieLost d s).pke = s.pke ∧ (dieLost d s).clk = s.clk ∧ (dieLost d s).pins = s.pins ∧
    (dieLost d s).enginesOut = s.enginesOut := by
  unfold dieLost
  simp

@[simp] theorem engineRetire_frame (e : Nat) (s : State) :
    (engineRetire e s).now = s.now ∧ (engineRetire e s).free = s.free ∧ (engineRetire e s).pending = s.pending ∧
    (engineRetire e s).regs = s.regs ∧ (engineRetire e s).cmds = s.cmds ∧ (engineRetire e s).out = s.out ∧
    (engineRetire e s).ports = s.ports ∧ (engineRetire e s).lock = s.lock ∧ (engineRetire e s).weir = s.weir ∧
    (engineRetire e s).sluice = s.sluice ∧ (engineRetire e s).refloat = s.refloat ∧ (engineRetire e s).drc = s.drc ∧
    (engineRetire e s).fmm = s.fmm ∧ (engineRetire e s).chart = s.chart ∧ (engineRetire e s).gauge = s.gauge ∧
    (engineRetire e s).fly = s.fly ∧ (engineRetire e s).seq = s.seq ∧ (engineRetire e s).log = s.log ∧ (engineRetire e s).tow = s.tow ∧
    (engineRetire e s).keep = s.keep ∧ (engineRetire e s).cfg = s.cfg ∧ (engineRetire e s).pke = s.pke ∧ (engineRetire e s).clk = s.clk ∧
    (engineRetire e s).mgmt = s.mgmt ∧ (engineRetire e s).pins = s.pins := by
  unfold engineRetire
  simp

@[simp] theorem flashChannelLost_frame (c : Nat) (s : State) :
    (flashChannelLost c s).now = s.now ∧ (flashChannelLost c s).free = s.free ∧ (flashChannelLost c s).pending = s.pending ∧
    (flashChannelLost c s).cmds = s.cmds ∧ (flashChannelLost c s).lock = s.lock ∧ (flashChannelLost c s).sluice = s.sluice ∧
    (flashChannelLost c s).refloat = s.refloat ∧ (flashChannelLost c s).gauge = s.gauge ∧ (flashChannelLost c s).fly = s.fly ∧
    (flashChannelLost c s).seq = s.seq ∧ (flashChannelLost c s).log = s.log ∧ (flashChannelLost c s).tow = s.tow ∧
    (flashChannelLost c s).cfg = s.cfg ∧ (flashChannelLost c s).pke = s.pke ∧ (flashChannelLost c s).clk = s.clk ∧
    (flashChannelLost c s).pins = s.pins ∧ (flashChannelLost c s).enginesOut = s.enginesOut := by
  unfold flashChannelLost
  simp

@[simp] theorem fencePort_frame (reason : Nat) (p : Nat) (s : State) :
    (fencePort reason p s).now = s.now ∧ (fencePort reason p s).free = s.free ∧ (fencePort reason p s).pending = s.pending ∧
    (fencePort reason p s).cmds = s.cmds ∧ (fencePort reason p s).lock = s.lock ∧ (fencePort reason p s).sluice = s.sluice ∧
    (fencePort reason p s).refloat = s.refloat ∧ (fencePort reason p s).gauge = s.gauge ∧ (fencePort reason p s).fly = s.fly ∧
    (fencePort reason p s).seq = s.seq ∧ (fencePort reason p s).log = s.log ∧ (fencePort reason p s).tow = s.tow ∧
    (fencePort reason p s).cfg = s.cfg ∧ (fencePort reason p s).pke = s.pke ∧ (fencePort reason p s).clk = s.clk ∧
    (fencePort reason p s).pins = s.pins ∧ (fencePort reason p s).enginesOut = s.enginesOut := by
  unfold fencePort
  simp

@[simp] theorem portRetire_frame (cause : Nat) (p : Nat) (s : State) :
    (portRetire cause p s).now = s.now ∧ (portRetire cause p s).free = s.free ∧ (portRetire cause p s).pending = s.pending ∧
    (portRetire cause p s).cmds = s.cmds ∧ (portRetire cause p s).lock = s.lock ∧ (portRetire cause p s).sluice = s.sluice ∧
    (portRetire cause p s).refloat = s.refloat ∧ (portRetire cause p s).gauge = s.gauge ∧ (portRetire cause p s).fly = s.fly ∧
    (portRetire cause p s).seq = s.seq ∧ (portRetire cause p s).log = s.log ∧ (portRetire cause p s).tow = s.tow ∧
    (portRetire cause p s).cfg = s.cfg ∧ (portRetire cause p s).pke = s.pke ∧ (portRetire cause p s).clk = s.clk ∧
    (portRetire cause p s).pins = s.pins ∧ (portRetire cause p s).enginesOut = s.enginesOut := by
  unfold portRetire
  simp

@[simp] theorem domainLost_frame (d : Nat) (s : State) :
    (domainLost d s).now = s.now ∧ (domainLost d s).free = s.free ∧ (domainLost d s).pending = s.pending ∧
    (domainLost d s).cmds = s.cmds ∧ (domainLost d s).berths = s.berths ∧ (domainLost d s).ports = s.ports ∧
    (domainLost d s).lock = s.lock ∧ (domainLost d s).weir = s.weir ∧ (domainLost d s).sluice = s.sluice ∧
    (domainLost d s).refloat = s.refloat ∧ (domainLost d s).drc = s.drc ∧ (domainLost d s).fmm = s.fmm ∧
    (domainLost d s).chart = s.chart ∧ (domainLost d s).gauge = s.gauge ∧ (domainLost d s).fly = s.fly ∧ (domainLost d s).tow = s.tow ∧
    (domainLost d s).cfg = s.cfg ∧ (domainLost d s).pke = s.pke ∧ (domainLost d s).clk = s.clk ∧ (domainLost d s).pins = s.pins ∧
    (domainLost d s).enginesOut = s.enginesOut := by
  unfold domainLost
  simp

@[simp] theorem railDomains_frame (r : Nat) (s : State) :
    (railDomains r s).now = s.now ∧ (railDomains r s).free = s.free ∧ (railDomains r s).pending = s.pending ∧
    (railDomains r s).sluice = s.sluice ∧ (railDomains r s).fly = s.fly ∧ (railDomains r s).tow = s.tow ∧
    (railDomains r s).pins = s.pins := by
  unfold railDomains
  simp

@[simp] theorem takeSetOut_frame (k : Fin 2) (phase : Nat) (s : State) :
    (takeSetOut k phase s).now = s.now ∧ (takeSetOut k phase s).free = s.free ∧ (takeSetOut k phase s).pending = s.pending ∧
    (takeSetOut k phase s).cmds = s.cmds ∧ (takeSetOut k phase s).berths = s.berths ∧ (takeSetOut k phase s).ports = s.ports ∧
    (takeSetOut k phase s).lock = s.lock ∧ (takeSetOut k phase s).sluice = s.sluice ∧ (takeSetOut k phase s).refloat = s.refloat ∧
    (takeSetOut k phase s).drc = s.drc ∧ (takeSetOut k phase s).fmm = s.fmm ∧ (takeSetOut k phase s).chart = s.chart ∧
    (takeSetOut k phase s).gauge = s.gauge ∧ (takeSetOut k phase s).seq = s.seq ∧ (takeSetOut k phase s).tow = s.tow ∧
    (takeSetOut k phase s).keep = s.keep ∧ (takeSetOut k phase s).cfg = s.cfg ∧ (takeSetOut k phase s).pke = s.pke ∧
    (takeSetOut k phase s).clk = s.clk ∧ (takeSetOut k phase s).pins = s.pins ∧ (takeSetOut k phase s).enginesOut = s.enginesOut := by
  unfold takeSetOut
  simp

@[simp] theorem halfLost_frame (h : Nat) (s : State) :
    (halfLost h s).now = s.now ∧ (halfLost h s).free = s.free ∧ (halfLost h s).pending = s.pending ∧ (halfLost h s).cmds = s.cmds ∧
    (halfLost h s).lock = s.lock ∧ (halfLost h s).sluice = s.sluice ∧ (halfLost h s).refloat = s.refloat ∧
    (halfLost h s).gauge = s.gauge ∧ (halfLost h s).fly = s.fly ∧ (halfLost h s).seq = s.seq ∧ (halfLost h s).log = s.log ∧
    (halfLost h s).tow = s.tow ∧ (halfLost h s).cfg = s.cfg ∧ (halfLost h s).pke = s.pke ∧ (halfLost h s).clk = s.clk ∧
    (halfLost h s).pins = s.pins ∧ (halfLost h s).enginesOut = s.enginesOut := by
  unfold halfLost
  simp

@[simp] theorem quadLost_frame (q : Nat) (s : State) :
    (quadLost q s).now = s.now ∧ (quadLost q s).free = s.free ∧ (quadLost q s).pending = s.pending ∧ (quadLost q s).cmds = s.cmds ∧
    (quadLost q s).lock = s.lock ∧ (quadLost q s).sluice = s.sluice ∧ (quadLost q s).refloat = s.refloat ∧
    (quadLost q s).gauge = s.gauge ∧ (quadLost q s).fly = s.fly ∧ (quadLost q s).seq = s.seq ∧ (quadLost q s).log = s.log ∧
    (quadLost q s).tow = s.tow ∧ (quadLost q s).cfg = s.cfg ∧ (quadLost q s).pke = s.pke ∧ (quadLost q s).clk = s.clk ∧
    (quadLost q s).pins = s.pins ∧ (quadLost q s).enginesOut = s.enginesOut := by
  unfold quadLost
  simp

@[simp] theorem unitsLost_frame (d : Nat) (s : State) :
    (unitsLost d s).now = s.now ∧ (unitsLost d s).free = s.free ∧ (unitsLost d s).pending = s.pending ∧ (unitsLost d s).lock = s.lock ∧
    (unitsLost d s).sluice = s.sluice ∧ (unitsLost d s).refloat = s.refloat ∧ (unitsLost d s).gauge = s.gauge ∧
    (unitsLost d s).fly = s.fly ∧ (unitsLost d s).seq = s.seq ∧ (unitsLost d s).log = s.log ∧ (unitsLost d s).tow = s.tow ∧
    (unitsLost d s).pke = s.pke ∧ (unitsLost d s).clk = s.clk ∧ (unitsLost d s).pins = s.pins ∧
    (unitsLost d s).enginesOut = s.enginesOut := by
  unfold unitsLost
  simp

@[simp] theorem retireSource_frame (n : Nat) (s : State) :
    (retireSource n s).now = s.now ∧ (retireSource n s).free = s.free ∧ (retireSource n s).pending = s.pending ∧
    (retireSource n s).sluice = s.sluice ∧ (retireSource n s).tow = s.tow ∧ (retireSource n s).pins = s.pins := by
  unfold retireSource
  simp

@[simp] theorem warnNow_frame (s : State) :
    (warnNow s).now = s.now ∧ (warnNow s).free = s.free ∧ (warnNow s).pending = s.pending ∧ (warnNow s).regs = s.regs ∧
    (warnNow s).cmds = s.cmds ∧ (warnNow s).berths = s.berths ∧ (warnNow s).lock = s.lock ∧ (warnNow s).weir = s.weir ∧
    (warnNow s).sluice = s.sluice ∧ (warnNow s).refloat = s.refloat ∧ (warnNow s).drc = s.drc ∧ (warnNow s).fmm = s.fmm ∧
    (warnNow s).chart = s.chart ∧ (warnNow s).gauge = s.gauge ∧ (warnNow s).fly = s.fly ∧ (warnNow s).seq = s.seq ∧
    (warnNow s).log = s.log ∧ (warnNow s).tow = s.tow ∧ (warnNow s).keep = s.keep ∧ (warnNow s).cfg = s.cfg ∧ (warnNow s).pke = s.pke ∧
    (warnNow s).clk = s.clk ∧ (warnNow s).mgmt = s.mgmt ∧ (warnNow s).enginesOut = s.enginesOut := by
  unfold warnNow
  simp

@[simp] theorem weirShut_frame (s : State) :
    (weirShut s).now = s.now ∧ (weirShut s).free = s.free ∧ (weirShut s).pending = s.pending ∧ (weirShut s).cmds = s.cmds ∧
    (weirShut s).berths = s.berths ∧ (weirShut s).ports = s.ports ∧ (weirShut s).lock = s.lock ∧ (weirShut s).sluice = s.sluice ∧
    (weirShut s).refloat = s.refloat ∧ (weirShut s).drc = s.drc ∧ (weirShut s).fmm = s.fmm ∧ (weirShut s).chart = s.chart ∧
    (weirShut s).gauge = s.gauge ∧ (weirShut s).fly = s.fly ∧ (weirShut s).seq = s.seq ∧ (weirShut s).log = s.log ∧
    (weirShut s).tow = s.tow ∧ (weirShut s).keep = s.keep ∧ (weirShut s).cfg = s.cfg ∧ (weirShut s).pke = s.pke ∧
    (weirShut s).clk = s.clk ∧ (weirShut s).pins = s.pins ∧ (weirShut s).enginesOut = s.enginesOut := by
  unfold weirShut
  simp

@[simp] theorem shutdownBegin_frame (graceMs10 : Nat) (s : State) :
    (shutdownBegin graceMs10 s).now = s.now ∧ (shutdownBegin graceMs10 s).free = s.free ∧
    (shutdownBegin graceMs10 s).pending = s.pending ∧ (shutdownBegin graceMs10 s).cmds = s.cmds ∧
    (shutdownBegin graceMs10 s).berths = s.berths ∧ (shutdownBegin graceMs10 s).lock = s.lock ∧
    (shutdownBegin graceMs10 s).sluice = s.sluice ∧ (shutdownBegin graceMs10 s).refloat = s.refloat ∧
    (shutdownBegin graceMs10 s).drc = s.drc ∧ (shutdownBegin graceMs10 s).fmm = s.fmm ∧ (shutdownBegin graceMs10 s).chart = s.chart ∧
    (shutdownBegin graceMs10 s).gauge = s.gauge ∧ (shutdownBegin graceMs10 s).fly = s.fly ∧ (shutdownBegin graceMs10 s).log = s.log ∧
    (shutdownBegin graceMs10 s).tow = s.tow ∧ (shutdownBegin graceMs10 s).keep = s.keep ∧ (shutdownBegin graceMs10 s).cfg = s.cfg ∧
    (shutdownBegin graceMs10 s).pke = s.pke ∧ (shutdownBegin graceMs10 s).clk = s.clk ∧
    (shutdownBegin graceMs10 s).enginesOut = s.enginesOut := by
  unfold shutdownBegin
  simp

@[simp] theorem timedBegin_frame (r : Nat) (s : State) :
    (timedBegin r s).now = s.now ∧ (timedBegin r s).free = s.free ∧ (timedBegin r s).pending = s.pending ∧
    (timedBegin r s).cmds = s.cmds ∧ (timedBegin r s).berths = s.berths ∧ (timedBegin r s).lock = s.lock ∧
    (timedBegin r s).sluice = s.sluice ∧ (timedBegin r s).refloat = s.refloat ∧ (timedBegin r s).drc = s.drc ∧
    (timedBegin r s).fmm = s.fmm ∧ (timedBegin r s).chart = s.chart ∧ (timedBegin r s).gauge = s.gauge ∧ (timedBegin r s).fly = s.fly ∧
    (timedBegin r s).log = s.log ∧ (timedBegin r s).tow = s.tow ∧ (timedBegin r s).keep = s.keep ∧ (timedBegin r s).cfg = s.cfg ∧
    (timedBegin r s).pke = s.pke ∧ (timedBegin r s).clk = s.clk ∧ (timedBegin r s).enginesOut = s.enginesOut := by
  unfold timedBegin
  simp

@[simp] theorem react_frame (mask : Nat) (n : Nat) (detail : BitVec 48) (s : State) :
    (react mask n detail s).now = s.now ∧ (react mask n detail s).free = s.free ∧ (react mask n detail s).pending = s.pending := by
  unfold react
  simp

@[simp] theorem stopAlive_frame (s : State) :
    (stopAlive s).now = s.now ∧ (stopAlive s).free = s.free ∧ (stopAlive s).pending = s.pending ∧ (stopAlive s).cmds = s.cmds ∧
    (stopAlive s).berths = s.berths ∧ (stopAlive s).ports = s.ports ∧ (stopAlive s).lock = s.lock ∧ (stopAlive s).weir = s.weir ∧
    (stopAlive s).sluice = s.sluice ∧ (stopAlive s).refloat = s.refloat ∧ (stopAlive s).drc = s.drc ∧ (stopAlive s).fmm = s.fmm ∧
    (stopAlive s).chart = s.chart ∧ (stopAlive s).gauge = s.gauge ∧ (stopAlive s).fly = s.fly ∧ (stopAlive s).seq = s.seq ∧
    (stopAlive s).log = s.log ∧ (stopAlive s).tow = s.tow ∧ (stopAlive s).cfg = s.cfg ∧ (stopAlive s).pke = s.pke ∧
    (stopAlive s).clk = s.clk ∧ (stopAlive s).pins = s.pins ∧ (stopAlive s).enginesOut = s.enginesOut ∧
    (stopAlive s).keep.reports = s.keep.reports := by
  unfold stopAlive
  simp

@[simp] theorem classify_frame (n : Nat) (detail : BitVec 48) (line : Bool) (s : State) :
    (classify n detail line s).now = s.now ∧ (classify n detail line s).free = s.free ∧ (classify n detail line s).pending = s.pending := by
  unfold classify
  simp

@[simp] theorem decideEvent_frame (n : Nat) (severe : Bool) (detail : BitVec 48) (line : Bool) (s : State) :
    (decideEvent n severe detail line s).now = s.now ∧ (decideEvent n severe detail line s).free = s.free ∧
    (decideEvent n severe detail line s).pending = s.pending := by
  unfold decideEvent
  simp

@[simp] theorem settleLoop_frame (x0 : Nat) (s : State) :
    (settleLoop x0 s).now = s.now ∧ (settleLoop x0 s).free = s.free ∧ (settleLoop x0 s).pending = s.pending := by
  induction x0 generalizing s with
  | zero => simp [settleLoop]
  | succ n ih =>
    unfold settleLoop
    (repeat' split) <;> simp [ih]

@[simp] theorem settle_frame (s : State) :
    (settle s).now = s.now ∧ (settle s).free = s.free ∧ (settle s).pending = s.pending := by
  unfold settle
  simp

@[simp] theorem doAckAlive_frame (s : State) :
    (doAckAlive s).now = s.now ∧ (doAckAlive s).free = s.free ∧ (doAckAlive s).pending = s.pending ∧ (doAckAlive s).berths = s.berths ∧
    (doAckAlive s).ports = s.ports ∧ (doAckAlive s).lock = s.lock ∧ (doAckAlive s).weir = s.weir ∧ (doAckAlive s).sluice = s.sluice ∧
    (doAckAlive s).refloat = s.refloat ∧ (doAckAlive s).drc = s.drc ∧ (doAckAlive s).fmm = s.fmm ∧ (doAckAlive s).chart = s.chart ∧
    (doAckAlive s).gauge = s.gauge ∧ (doAckAlive s).fly = s.fly ∧ (doAckAlive s).seq = s.seq ∧ (doAckAlive s).log = s.log ∧
    (doAckAlive s).tow = s.tow ∧ (doAckAlive s).cfg = s.cfg ∧ (doAckAlive s).pke = s.pke ∧ (doAckAlive s).clk = s.clk ∧
    (doAckAlive s).pins = s.pins ∧ (doAckAlive s).enginesOut = s.enginesOut ∧ (doAckAlive s).keep.reports = s.keep.reports := by
  unfold doAckAlive
  dsimp only
  (repeat' split) <;> simp

@[simp] theorem cmdTake_frame (k : Nat) (s : State) :
    (cmdTake k s).now = s.now ∧ (cmdTake k s).free = s.free ∧ (cmdTake k s).pending = s.pending ∧ (cmdTake k s).regs = s.regs ∧
    (cmdTake k s).out = s.out ∧ (cmdTake k s).berths = s.berths ∧ (cmdTake k s).ports = s.ports ∧ (cmdTake k s).lock = s.lock ∧
    (cmdTake k s).weir = s.weir ∧ (cmdTake k s).sluice = s.sluice ∧ (cmdTake k s).refloat = s.refloat ∧ (cmdTake k s).drc = s.drc ∧
    (cmdTake k s).fmm = s.fmm ∧ (cmdTake k s).chart = s.chart ∧ (cmdTake k s).gauge = s.gauge ∧ (cmdTake k s).fly = s.fly ∧
    (cmdTake k s).seq = s.seq ∧ (cmdTake k s).log = s.log ∧ (cmdTake k s).tow = s.tow ∧ (cmdTake k s).keep = s.keep ∧
    (cmdTake k s).cfg = s.cfg ∧ (cmdTake k s).pke = s.pke ∧ (cmdTake k s).clk = s.clk ∧ (cmdTake k s).mgmt = s.mgmt ∧
    (cmdTake k s).pins = s.pins ∧ (cmdTake k s).enginesOut = s.enginesOut := by
  unfold cmdTake
  simp

@[simp] theorem doAckWarn_frame (s : State) :
    (doAckWarn s).now = s.now ∧ (doAckWarn s).free = s.free ∧ (doAckWarn s).pending = s.pending ∧ (doAckWarn s).berths = s.berths ∧
    (doAckWarn s).ports = s.ports ∧ (doAckWarn s).lock = s.lock ∧ (doAckWarn s).weir = s.weir ∧ (doAckWarn s).sluice = s.sluice ∧
    (doAckWarn s).refloat = s.refloat ∧ (doAckWarn s).drc = s.drc ∧ (doAckWarn s).fmm = s.fmm ∧ (doAckWarn s).chart = s.chart ∧
    (doAckWarn s).gauge = s.gauge ∧ (doAckWarn s).fly = s.fly ∧ (doAckWarn s).seq = s.seq ∧ (doAckWarn s).log = s.log ∧
    (doAckWarn s).tow = s.tow ∧ (doAckWarn s).keep = s.keep ∧ (doAckWarn s).cfg = s.cfg ∧ (doAckWarn s).pke = s.pke ∧
    (doAckWarn s).clk = s.clk ∧ (doAckWarn s).enginesOut = s.enginesOut := by
  unfold doAckWarn
  simp

@[simp] theorem aonSequencer_frame (s : State) :
    (aonSequencer s).now = s.now ∧ (aonSequencer s).free = s.free ∧ (aonSequencer s).pending = s.pending ∧
    (aonSequencer s).cmds = s.cmds ∧ (aonSequencer s).out = s.out ∧ (aonSequencer s).berths = s.berths ∧
    (aonSequencer s).ports = s.ports ∧ (aonSequencer s).lock = s.lock ∧ (aonSequencer s).weir = s.weir ∧
    (aonSequencer s).sluice = s.sluice ∧ (aonSequencer s).refloat = s.refloat ∧ (aonSequencer s).drc = s.drc ∧
    (aonSequencer s).fmm = s.fmm ∧ (aonSequencer s).chart = s.chart ∧ (aonSequencer s).gauge = s.gauge ∧ (aonSequencer s).fly = s.fly ∧
    (aonSequencer s).log = s.log ∧ (aonSequencer s).tow = s.tow ∧ (aonSequencer s).keep = s.keep ∧ (aonSequencer s).cfg = s.cfg ∧
    (aonSequencer s).pke = s.pke ∧ (aonSequencer s).clk = s.clk ∧ (aonSequencer s).mgmt = s.mgmt ∧ (aonSequencer s).pins = s.pins ∧
    (aonSequencer s).enginesOut = s.enginesOut := by
  unfold aonSequencer
  simp

@[simp] theorem loadRegs_frame (own : Nat → Bool) (l : List (Nat × Word)) (s : State) :
    (loadRegs own l s).now = s.now ∧ (loadRegs own l s).free = s.free ∧ (loadRegs own l s).pending = s.pending ∧
    (loadRegs own l s).cmds = s.cmds ∧ (loadRegs own l s).out = s.out ∧ (loadRegs own l s).berths = s.berths ∧
    (loadRegs own l s).ports = s.ports ∧ (loadRegs own l s).lock = s.lock ∧ (loadRegs own l s).weir = s.weir ∧
    (loadRegs own l s).sluice = s.sluice ∧ (loadRegs own l s).refloat = s.refloat ∧ (loadRegs own l s).drc = s.drc ∧
    (loadRegs own l s).fmm = s.fmm ∧ (loadRegs own l s).chart = s.chart ∧ (loadRegs own l s).gauge = s.gauge ∧
    (loadRegs own l s).fly = s.fly ∧ (loadRegs own l s).seq = s.seq ∧ (loadRegs own l s).log = s.log ∧ (loadRegs own l s).tow = s.tow ∧
    (loadRegs own l s).keep = s.keep ∧ (loadRegs own l s).cfg = s.cfg ∧ (loadRegs own l s).pke = s.pke ∧ (loadRegs own l s).clk = s.clk ∧
    (loadRegs own l s).mgmt = s.mgmt ∧ (loadRegs own l s).pins = s.pins ∧ (loadRegs own l s).enginesOut = s.enginesOut := by
  unfold loadRegs
  simp

@[simp] theorem gaugeValues_frame (l : List (Nat × Word)) (s : State) :
    (gaugeValues l s).now = s.now ∧ (gaugeValues l s).free = s.free ∧ (gaugeValues l s).pending = s.pending ∧
    (gaugeValues l s).cmds = s.cmds ∧ (gaugeValues l s).out = s.out ∧ (gaugeValues l s).berths = s.berths ∧
    (gaugeValues l s).ports = s.ports ∧ (gaugeValues l s).lock = s.lock ∧ (gaugeValues l s).weir = s.weir ∧
    (gaugeValues l s).sluice = s.sluice ∧ (gaugeValues l s).refloat = s.refloat ∧ (gaugeValues l s).drc = s.drc ∧
    (gaugeValues l s).fmm = s.fmm ∧ (gaugeValues l s).chart = s.chart ∧ (gaugeValues l s).fly = s.fly ∧ (gaugeValues l s).seq = s.seq ∧
    (gaugeValues l s).log = s.log ∧ (gaugeValues l s).tow = s.tow ∧ (gaugeValues l s).keep = s.keep ∧ (gaugeValues l s).cfg = s.cfg ∧
    (gaugeValues l s).pke = s.pke ∧ (gaugeValues l s).clk = s.clk ∧ (gaugeValues l s).mgmt = s.mgmt ∧ (gaugeValues l s).pins = s.pins ∧
    (gaugeValues l s).enginesOut = s.enginesOut := by
  unfold gaugeValues
  simp

@[simp] theorem loadKeeper_frame (sec : List Byte) (s : State) :
    (loadKeeper sec s).now = s.now ∧ (loadKeeper sec s).free = s.free ∧ (loadKeeper sec s).pending = s.pending ∧
    (loadKeeper sec s).cmds = s.cmds ∧ (loadKeeper sec s).out = s.out ∧ (loadKeeper sec s).berths = s.berths ∧
    (loadKeeper sec s).ports = s.ports ∧ (loadKeeper sec s).lock = s.lock ∧ (loadKeeper sec s).weir = s.weir ∧
    (loadKeeper sec s).sluice = s.sluice ∧ (loadKeeper sec s).refloat = s.refloat ∧ (loadKeeper sec s).drc = s.drc ∧
    (loadKeeper sec s).fmm = s.fmm ∧ (loadKeeper sec s).chart = s.chart ∧ (loadKeeper sec s).gauge = s.gauge ∧
    (loadKeeper sec s).fly = s.fly ∧ (loadKeeper sec s).seq = s.seq ∧ (loadKeeper sec s).log = s.log ∧ (loadKeeper sec s).tow = s.tow ∧
    (loadKeeper sec s).cfg = s.cfg ∧ (loadKeeper sec s).pke = s.pke ∧ (loadKeeper sec s).clk = s.clk ∧ (loadKeeper sec s).mgmt = s.mgmt ∧
    (loadKeeper sec s).pins = s.pins ∧ (loadKeeper sec s).enginesOut = s.enginesOut ∧ (loadKeeper sec s).keep.reports = s.keep.reports := by
  unfold loadKeeper
  simp

@[simp] theorem setsKept_frame (n : Nat) (s : State) :
    (setsKept n s).now = s.now ∧ (setsKept n s).free = s.free ∧ (setsKept n s).pending = s.pending ∧ (setsKept n s).regs = s.regs ∧
    (setsKept n s).cmds = s.cmds ∧ (setsKept n s).out = s.out ∧ (setsKept n s).berths = s.berths ∧ (setsKept n s).ports = s.ports ∧
    (setsKept n s).lock = s.lock ∧ (setsKept n s).weir = s.weir ∧ (setsKept n s).sluice = s.sluice ∧ (setsKept n s).refloat = s.refloat ∧
    (setsKept n s).drc = s.drc ∧ (setsKept n s).fmm = s.fmm ∧ (setsKept n s).chart = s.chart ∧ (setsKept n s).gauge = s.gauge ∧
    (setsKept n s).seq = s.seq ∧ (setsKept n s).log = s.log ∧ (setsKept n s).tow = s.tow ∧ (setsKept n s).keep = s.keep ∧
    (setsKept n s).cfg = s.cfg ∧ (setsKept n s).pke = s.pke ∧ (setsKept n s).clk = s.clk ∧ (setsKept n s).mgmt = s.mgmt ∧
    (setsKept n s).pins = s.pins ∧ (setsKept n s).enginesOut = s.enginesOut := by
  unfold setsKept
  simp

@[simp] theorem flyLoaded_frame (n : Nat) (s : State) :
    (flyLoaded n s).now = s.now ∧ (flyLoaded n s).free = s.free ∧ (flyLoaded n s).pending = s.pending ∧ (flyLoaded n s).cmds = s.cmds ∧
    (flyLoaded n s).out = s.out ∧ (flyLoaded n s).berths = s.berths ∧ (flyLoaded n s).ports = s.ports ∧ (flyLoaded n s).lock = s.lock ∧
    (flyLoaded n s).sluice = s.sluice ∧ (flyLoaded n s).refloat = s.refloat ∧ (flyLoaded n s).drc = s.drc ∧ (flyLoaded n s).fmm = s.fmm ∧
    (flyLoaded n s).chart = s.chart ∧ (flyLoaded n s).gauge = s.gauge ∧ (flyLoaded n s).seq = s.seq ∧ (flyLoaded n s).log = s.log ∧
    (flyLoaded n s).tow = s.tow ∧ (flyLoaded n s).keep = s.keep ∧ (flyLoaded n s).cfg = s.cfg ∧ (flyLoaded n s).pke = s.pke ∧
    (flyLoaded n s).clk = s.clk ∧ (flyLoaded n s).mgmt = s.mgmt ∧ (flyLoaded n s).pins = s.pins ∧
    (flyLoaded n s).enginesOut = s.enginesOut := by
  unfold flyLoaded
  simp

@[simp] theorem loadWindlass_frame (sec : List Byte) (s : State) :
    (loadWindlass sec s).now = s.now ∧ (loadWindlass sec s).free = s.free ∧ (loadWindlass sec s).pending = s.pending ∧
    (loadWindlass sec s).cmds = s.cmds ∧ (loadWindlass sec s).out = s.out ∧ (loadWindlass sec s).berths = s.berths ∧
    (loadWindlass sec s).ports = s.ports ∧ (loadWindlass sec s).lock = s.lock ∧ (loadWindlass sec s).sluice = s.sluice ∧
    (loadWindlass sec s).refloat = s.refloat ∧ (loadWindlass sec s).drc = s.drc ∧ (loadWindlass sec s).fmm = s.fmm ∧
    (loadWindlass sec s).chart = s.chart ∧ (loadWindlass sec s).gauge = s.gauge ∧ (loadWindlass sec s).seq = s.seq ∧
    (loadWindlass sec s).log = s.log ∧ (loadWindlass sec s).tow = s.tow ∧ (loadWindlass sec s).keep = s.keep ∧
    (loadWindlass sec s).cfg = s.cfg ∧ (loadWindlass sec s).pke = s.pke ∧ (loadWindlass sec s).clk = s.clk ∧
    (loadWindlass sec s).mgmt = s.mgmt ∧ (loadWindlass sec s).pins = s.pins ∧ (loadWindlass sec s).enginesOut = s.enginesOut := by
  unfold loadWindlass
  simp

@[simp] theorem romKeeper_frame (s : State) :
    (romKeeper s).now = s.now ∧ (romKeeper s).free = s.free ∧ (romKeeper s).pending = s.pending ∧ (romKeeper s).cmds = s.cmds ∧
    (romKeeper s).out = s.out ∧ (romKeeper s).berths = s.berths ∧ (romKeeper s).ports = s.ports ∧ (romKeeper s).lock = s.lock ∧
    (romKeeper s).weir = s.weir ∧ (romKeeper s).sluice = s.sluice ∧ (romKeeper s).refloat = s.refloat ∧ (romKeeper s).drc = s.drc ∧
    (romKeeper s).fmm = s.fmm ∧ (romKeeper s).chart = s.chart ∧ (romKeeper s).gauge = s.gauge ∧ (romKeeper s).fly = s.fly ∧
    (romKeeper s).seq = s.seq ∧ (romKeeper s).log = s.log ∧ (romKeeper s).tow = s.tow ∧ (romKeeper s).keep = s.keep ∧
    (romKeeper s).cfg = s.cfg ∧ (romKeeper s).pke = s.pke ∧ (romKeeper s).clk = s.clk ∧ (romKeeper s).mgmt = s.mgmt ∧
    (romKeeper s).pins = s.pins ∧ (romKeeper s).enginesOut = s.enginesOut := by
  unfold romKeeper
  simp

@[simp] theorem aonSections_frame (s : State) :
    (aonSections s).now = s.now ∧ (aonSections s).free = s.free ∧ (aonSections s).pending = s.pending ∧ (aonSections s).cmds = s.cmds ∧
    (aonSections s).out = s.out ∧ (aonSections s).berths = s.berths ∧ (aonSections s).ports = s.ports ∧ (aonSections s).lock = s.lock ∧
    (aonSections s).sluice = s.sluice ∧ (aonSections s).refloat = s.refloat ∧ (aonSections s).drc = s.drc ∧ (aonSections s).fmm = s.fmm ∧
    (aonSections s).chart = s.chart ∧ (aonSections s).log = s.log ∧ (aonSections s).tow = s.tow ∧ (aonSections s).cfg = s.cfg ∧
    (aonSections s).pke = s.pke ∧ (aonSections s).clk = s.clk ∧ (aonSections s).mgmt = s.mgmt ∧ (aonSections s).pins = s.pins ∧
    (aonSections s).enginesOut = s.enginesOut ∧ (aonSections s).keep.reports = s.keep.reports := by
  unfold aonSections
  dsimp only
  (repeat' split) <;> simp

@[simp] theorem logStart_frame (s : State) :
    (logStart s).now = s.now ∧ (logStart s).free = s.free ∧ (logStart s).pending = s.pending ∧ (logStart s).cmds = s.cmds ∧
    (logStart s).out = s.out ∧ (logStart s).berths = s.berths ∧ (logStart s).ports = s.ports ∧ (logStart s).lock = s.lock ∧
    (logStart s).weir = s.weir ∧ (logStart s).sluice = s.sluice ∧ (logStart s).refloat = s.refloat ∧ (logStart s).drc = s.drc ∧
    (logStart s).fmm = s.fmm ∧ (logStart s).chart = s.chart ∧ (logStart s).gauge = s.gauge ∧ (logStart s).fly = s.fly ∧
    (logStart s).seq = s.seq ∧ (logStart s).tow = s.tow ∧ (logStart s).keep = s.keep ∧ (logStart s).cfg = s.cfg ∧
    (logStart s).pke = s.pke ∧ (logStart s).clk = s.clk ∧ (logStart s).mgmt = s.mgmt ∧ (logStart s).pins = s.pins ∧
    (logStart s).enginesOut = s.enginesOut := by
  unfold logStart
  dsimp only
  (repeat' split) <;> simp

@[simp] theorem pkeStart_frame (s : State) :
    (pkeStart s).now = s.now ∧ (pkeStart s).free = s.free ∧ (pkeStart s).pending = s.pending ∧ (pkeStart s).regs = s.regs ∧
    (pkeStart s).cmds = s.cmds ∧ (pkeStart s).out = s.out ∧ (pkeStart s).berths = s.berths ∧ (pkeStart s).ports = s.ports ∧
    (pkeStart s).lock = s.lock ∧ (pkeStart s).weir = s.weir ∧ (pkeStart s).sluice = s.sluice ∧ (pkeStart s).refloat = s.refloat ∧
    (pkeStart s).drc = s.drc ∧ (pkeStart s).fmm = s.fmm ∧ (pkeStart s).chart = s.chart ∧ (pkeStart s).gauge = s.gauge ∧
    (pkeStart s).fly = s.fly ∧ (pkeStart s).seq = s.seq ∧ (pkeStart s).log = s.log ∧ (pkeStart s).tow = s.tow ∧
    (pkeStart s).keep = s.keep ∧ (pkeStart s).cfg = s.cfg ∧ (pkeStart s).clk = s.clk ∧ (pkeStart s).mgmt = s.mgmt ∧
    (pkeStart s).pins = s.pins ∧ (pkeStart s).enginesOut = s.enginesOut := by
  unfold pkeStart
  dsimp only
  (repeat' split) <;> simp

@[simp] theorem pkeQueue_frame (o : POp) (s : State) :
    (pkeQueue o s).now = s.now ∧ (pkeQueue o s).free = s.free ∧ (pkeQueue o s).pending = s.pending ∧ (pkeQueue o s).regs = s.regs ∧
    (pkeQueue o s).cmds = s.cmds ∧ (pkeQueue o s).out = s.out ∧ (pkeQueue o s).berths = s.berths ∧ (pkeQueue o s).ports = s.ports ∧
    (pkeQueue o s).lock = s.lock ∧ (pkeQueue o s).weir = s.weir ∧ (pkeQueue o s).sluice = s.sluice ∧ (pkeQueue o s).refloat = s.refloat ∧
    (pkeQueue o s).drc = s.drc ∧ (pkeQueue o s).fmm = s.fmm ∧ (pkeQueue o s).chart = s.chart ∧ (pkeQueue o s).gauge = s.gauge ∧
    (pkeQueue o s).fly = s.fly ∧ (pkeQueue o s).seq = s.seq ∧ (pkeQueue o s).log = s.log ∧ (pkeQueue o s).tow = s.tow ∧
    (pkeQueue o s).keep = s.keep ∧ (pkeQueue o s).cfg = s.cfg ∧ (pkeQueue o s).clk = s.clk ∧ (pkeQueue o s).mgmt = s.mgmt ∧
    (pkeQueue o s).pins = s.pins ∧ (pkeQueue o s).enginesOut = s.enginesOut := by
  unfold pkeQueue
  simp

@[simp] theorem pkeWrite_frame (key : Byte) (op : Nat) (gen : Bool) (s : State) :
    (pkeWrite key op gen s).now = s.now ∧ (pkeWrite key op gen s).free = s.free ∧ (pkeWrite key op gen s).pending = s.pending ∧
    (pkeWrite key op gen s).cmds = s.cmds ∧ (pkeWrite key op gen s).out = s.out ∧ (pkeWrite key op gen s).berths = s.berths ∧
    (pkeWrite key op gen s).ports = s.ports ∧ (pkeWrite key op gen s).lock = s.lock ∧ (pkeWrite key op gen s).weir = s.weir ∧
    (pkeWrite key op gen s).sluice = s.sluice ∧ (pkeWrite key op gen s).refloat = s.refloat ∧ (pkeWrite key op gen s).drc = s.drc ∧
    (pkeWrite key op gen s).fmm = s.fmm ∧ (pkeWrite key op gen s).chart = s.chart ∧ (pkeWrite key op gen s).gauge = s.gauge ∧
    (pkeWrite key op gen s).fly = s.fly ∧ (pkeWrite key op gen s).seq = s.seq ∧ (pkeWrite key op gen s).log = s.log ∧
    (pkeWrite key op gen s).tow = s.tow ∧ (pkeWrite key op gen s).keep = s.keep ∧ (pkeWrite key op gen s).cfg = s.cfg ∧
    (pkeWrite key op gen s).clk = s.clk ∧ (pkeWrite key op gen s).mgmt = s.mgmt ∧ (pkeWrite key op gen s).pins = s.pins ∧
    (pkeWrite key op gen s).enginesOut = s.enginesOut := by
  unfold pkeWrite
  simp

@[simp] theorem authAsk_frame (i : Nat) (t : Nat) (s : State) :
    (authAsk i t s).now = s.now ∧ (authAsk i t s).free = s.free ∧ (authAsk i t s).pending = s.pending ∧ (authAsk i t s).regs = s.regs ∧
    (authAsk i t s).cmds = s.cmds ∧ (authAsk i t s).out = s.out ∧ (authAsk i t s).berths = s.berths ∧ (authAsk i t s).ports = s.ports ∧
    (authAsk i t s).lock = s.lock ∧ (authAsk i t s).weir = s.weir ∧ (authAsk i t s).sluice = s.sluice ∧
    (authAsk i t s).refloat = s.refloat ∧ (authAsk i t s).drc = s.drc ∧ (authAsk i t s).fmm = s.fmm ∧ (authAsk i t s).chart = s.chart ∧
    (authAsk i t s).fly = s.fly ∧ (authAsk i t s).seq = s.seq ∧ (authAsk i t s).log = s.log ∧ (authAsk i t s).tow = s.tow ∧
    (authAsk i t s).keep = s.keep ∧ (authAsk i t s).cfg = s.cfg ∧ (authAsk i t s).pke = s.pke ∧ (authAsk i t s).clk = s.clk ∧
    (authAsk i t s).mgmt = s.mgmt ∧ (authAsk i t s).pins = s.pins ∧ (authAsk i t s).enginesOut = s.enginesOut := by
  unfold authAsk
  simp

@[simp] theorem authNext_frame (s : State) :
    (authNext s).now = s.now ∧ (authNext s).free = s.free ∧ (authNext s).pending = s.pending ∧ (authNext s).regs = s.regs ∧
    (authNext s).cmds = s.cmds ∧ (authNext s).out = s.out ∧ (authNext s).berths = s.berths ∧ (authNext s).ports = s.ports ∧
    (authNext s).lock = s.lock ∧ (authNext s).weir = s.weir ∧ (authNext s).sluice = s.sluice ∧ (authNext s).refloat = s.refloat ∧
    (authNext s).drc = s.drc ∧ (authNext s).fmm = s.fmm ∧ (authNext s).chart = s.chart ∧ (authNext s).gauge = s.gauge ∧
    (authNext s).fly = s.fly ∧ (authNext s).seq = s.seq ∧ (authNext s).log = s.log ∧ (authNext s).tow = s.tow ∧
    (authNext s).keep = s.keep ∧ (authNext s).cfg = s.cfg ∧ (authNext s).clk = s.clk ∧ (authNext s).mgmt = s.mgmt ∧
    (authNext s).pins = s.pins ∧ (authNext s).enginesOut = s.enginesOut := by
  unfold authNext
  (repeat' split) <;> simp

@[simp] theorem doAuth_frame (i : Nat) (s : State) :
    (doAuth i s).now = s.now ∧ (doAuth i s).free = s.free ∧ (doAuth i s).pending = s.pending ∧ (doAuth i s).berths = s.berths ∧
    (doAuth i s).ports = s.ports ∧ (doAuth i s).lock = s.lock ∧ (doAuth i s).weir = s.weir ∧ (doAuth i s).sluice = s.sluice ∧
    (doAuth i s).refloat = s.refloat ∧ (doAuth i s).drc = s.drc ∧ (doAuth i s).fmm = s.fmm ∧ (doAuth i s).chart = s.chart ∧
    (doAuth i s).fly = s.fly ∧ (doAuth i s).seq = s.seq ∧ (doAuth i s).log = s.log ∧ (doAuth i s).tow = s.tow ∧
    (doAuth i s).keep = s.keep ∧ (doAuth i s).cfg = s.cfg ∧ (doAuth i s).clk = s.clk ∧ (doAuth i s).pins = s.pins ∧
    (doAuth i s).enginesOut = s.enginesOut := by
  unfold doAuth
  dsimp only
  (repeat' split) <;> simp

@[simp] theorem authFail_frame (i : Nat) (s : State) :
    (authFail i s).now = s.now ∧ (authFail i s).free = s.free ∧ (authFail i s).pending = s.pending ∧ (authFail i s).berths = s.berths ∧
    (authFail i s).ports = s.ports ∧ (authFail i s).lock = s.lock ∧ (authFail i s).weir = s.weir ∧ (authFail i s).sluice = s.sluice ∧
    (authFail i s).refloat = s.refloat ∧ (authFail i s).drc = s.drc ∧ (authFail i s).fmm = s.fmm ∧ (authFail i s).chart = s.chart ∧
    (authFail i s).fly = s.fly ∧ (authFail i s).seq = s.seq ∧ (authFail i s).tow = s.tow ∧ (authFail i s).cfg = s.cfg ∧
    (authFail i s).pke = s.pke ∧ (authFail i s).clk = s.clk ∧ (authFail i s).pins = s.pins ∧ (authFail i s).enginesOut = s.enginesOut := by
  unfold authFail
  simp

@[simp] theorem writeRecs_frame (recs : Tbl GaugeRec) (s : State) :
    (writeRecs recs s).now = s.now ∧ (writeRecs recs s).free = s.free ∧ (writeRecs recs s).pending = s.pending ∧
    (writeRecs recs s).regs = s.regs ∧ (writeRecs recs s).cmds = s.cmds ∧ (writeRecs recs s).out = s.out ∧
    (writeRecs recs s).berths = s.berths ∧ (writeRecs recs s).ports = s.ports ∧ (writeRecs recs s).lock = s.lock ∧
    (writeRecs recs s).weir = s.weir ∧ (writeRecs recs s).sluice = s.sluice ∧ (writeRecs recs s).refloat = s.refloat ∧
    (writeRecs recs s).drc = s.drc ∧ (writeRecs recs s).fmm = s.fmm ∧ (writeRecs recs s).chart = s.chart ∧
    (writeRecs recs s).fly = s.fly ∧ (writeRecs recs s).seq = s.seq ∧ (writeRecs recs s).log = s.log ∧ (writeRecs recs s).tow = s.tow ∧
    (writeRecs recs s).keep = s.keep ∧ (writeRecs recs s).cfg = s.cfg ∧ (writeRecs recs s).pke = s.pke ∧ (writeRecs recs s).clk = s.clk ∧
    (writeRecs recs s).mgmt = s.mgmt ∧ (writeRecs recs s).pins = s.pins ∧ (writeRecs recs s).enginesOut = s.enginesOut := by
  unfold writeRecs
  simp

@[simp] theorem saveRec_frame (i : Nat) (s : State) :
    (saveRec i s).now = s.now ∧ (saveRec i s).free = s.free ∧ (saveRec i s).pending = s.pending ∧ (saveRec i s).regs = s.regs ∧
    (saveRec i s).cmds = s.cmds ∧ (saveRec i s).out = s.out ∧ (saveRec i s).berths = s.berths ∧ (saveRec i s).ports = s.ports ∧
    (saveRec i s).lock = s.lock ∧ (saveRec i s).weir = s.weir ∧ (saveRec i s).sluice = s.sluice ∧ (saveRec i s).refloat = s.refloat ∧
    (saveRec i s).drc = s.drc ∧ (saveRec i s).fmm = s.fmm ∧ (saveRec i s).chart = s.chart ∧ (saveRec i s).fly = s.fly ∧
    (saveRec i s).seq = s.seq ∧ (saveRec i s).log = s.log ∧ (saveRec i s).tow = s.tow ∧ (saveRec i s).keep = s.keep ∧
    (saveRec i s).cfg = s.cfg ∧ (saveRec i s).pke = s.pke ∧ (saveRec i s).clk = s.clk ∧ (saveRec i s).mgmt = s.mgmt ∧
    (saveRec i s).pins = s.pins ∧ (saveRec i s).enginesOut = s.enginesOut := by
  unfold saveRec
  simp

@[simp] theorem bindModule_frame (i : Nat) (d : Identity) (s : State) :
    (bindModule i d s).now = s.now ∧ (bindModule i d s).free = s.free ∧ (bindModule i d s).pending = s.pending ∧
    (bindModule i d s).berths = s.berths ∧ (bindModule i d s).ports = s.ports ∧ (bindModule i d s).lock = s.lock ∧
    (bindModule i d s).weir = s.weir ∧ (bindModule i d s).sluice = s.sluice ∧ (bindModule i d s).refloat = s.refloat ∧
    (bindModule i d s).drc = s.drc ∧ (bindModule i d s).fmm = s.fmm ∧ (bindModule i d s).chart = s.chart ∧
    (bindModule i d s).fly = s.fly ∧ (bindModule i d s).seq = s.seq ∧ (bindModule i d s).log = s.log ∧ (bindModule i d s).tow = s.tow ∧
    (bindModule i d s).keep = s.keep ∧ (bindModule i d s).cfg = s.cfg ∧ (bindModule i d s).pke = s.pke ∧ (bindModule i d s).clk = s.clk ∧
    (bindModule i d s).pins = s.pins ∧ (bindModule i d s).enginesOut = s.enginesOut := by
  unfold bindModule
  simp

@[simp] theorem writePages_frame (st : Sys2Proof.Stream) (src : Bool) (l : List (Nat × Cpt)) (s : State) :
    (writePages st src l s).now = s.now ∧ (writePages st src l s).free = s.free ∧ (writePages st src l s).pending = s.pending ∧
    (writePages st src l s).cmds = s.cmds ∧ (writePages st src l s).berths = s.berths ∧ (writePages st src l s).ports = s.ports ∧
    (writePages st src l s).lock = s.lock ∧ (writePages st src l s).weir = s.weir ∧ (writePages st src l s).sluice = s.sluice ∧
    (writePages st src l s).refloat = s.refloat ∧ (writePages st src l s).drc = s.drc ∧ (writePages st src l s).chart = s.chart ∧
    (writePages st src l s).gauge = s.gauge ∧ (writePages st src l s).fly = s.fly ∧ (writePages st src l s).seq = s.seq ∧
    (writePages st src l s).log = s.log ∧ (writePages st src l s).tow = s.tow ∧ (writePages st src l s).cfg = s.cfg ∧
    (writePages st src l s).pke = s.pke ∧ (writePages st src l s).clk = s.clk ∧ (writePages st src l s).mgmt = s.mgmt ∧
    (writePages st src l s).pins = s.pins ∧ (writePages st src l s).enginesOut = s.enginesOut := by
  unfold writePages
  try dsimp only
  refine ⟨?_, ?_, ?_, ?_, ?_, ?_, ?_, ?_, ?_, ?_, ?_, ?_, ?_, ?_, ?_, ?_, ?_, ?_, ?_, ?_, ?_, ?_, ?_⟩
  · refine (forEach_now _ _ (fun a u => ?_) _).trans (by first | rfl | simp)
    (repeat' split) <;> simp
  · refine (forEach_free _ _ (fun a u => ?_) _).trans (by first | rfl | simp)
    (repeat' split) <;> simp
  · refine (forEach_pending _ _ (fun a u => ?_) _).trans (by first | rfl | simp)
    (repeat' split) <;> simp
  · refine (forEach_cmds _ _ (fun a u => ?_) _).trans (by first | rfl | simp)
    (repeat' split) <;> simp
  · refine (forEach_berths _ _ (fun a u => ?_) _).trans (by first | rfl | simp)
    (repeat' split) <;> simp
  · refine (forEach_ports _ _ (fun a u => ?_) _).trans (by first | rfl | simp)
    (repeat' split) <;> simp
  · refine (forEach_lock _ _ (fun a u => ?_) _).trans (by first | rfl | simp)
    (repeat' split) <;> simp
  · refine (forEach_weir _ _ (fun a u => ?_) _).trans (by first | rfl | simp)
    (repeat' split) <;> simp
  · refine (forEach_sluice _ _ (fun a u => ?_) _).trans (by first | rfl | simp)
    (repeat' split) <;> simp
  · refine (forEach_refloat _ _ (fun a u => ?_) _).trans (by first | rfl | simp)
    (repeat' split) <;> simp
  · refine (forEach_drc _ _ (fun a u => ?_) _).trans (by first | rfl | simp)
    (repeat' split) <;> simp
  · refine (forEach_chart _ _ (fun a u => ?_) _).trans (by first | rfl | simp)
    (repeat' split) <;> simp
  · refine (forEach_gauge _ _ (fun a u => ?_) _).trans (by first | rfl | simp)
    (repeat' split) <;> simp
  · refine (forEach_fly _ _ (fun a u => ?_) _).trans (by first | rfl | simp)
    (repeat' split) <;> simp
  · refine (forEach_seq _ _ (fun a u => ?_) _).trans (by first | rfl | simp)
    (repeat' split) <;> simp
  · refine (forEach_log _ _ (fun a u => ?_) _).trans (by first | rfl | simp)
    (repeat' split) <;> simp
  · refine (forEach_tow _ _ (fun a u => ?_) _).trans (by first | rfl | simp)
    (repeat' split) <;> simp
  · refine (forEach_cfg _ _ (fun a u => ?_) _).trans (by first | rfl | simp)
    (repeat' split) <;> simp
  · refine (forEach_pke _ _ (fun a u => ?_) _).trans (by first | rfl | simp)
    (repeat' split) <;> simp
  · refine (forEach_clk _ _ (fun a u => ?_) _).trans (by first | rfl | simp)
    (repeat' split) <;> simp
  · refine (forEach_mgmt _ _ (fun a u => ?_) _).trans (by first | rfl | simp)
    (repeat' split) <;> simp
  · refine (forEach_pins _ _ (fun a u => ?_) _).trans (by first | rfl | simp)
    (repeat' split) <;> simp
  · refine (forEach_enginesOut _ _ (fun a u => ?_) _).trans (by first | rfl | simp)
    (repeat' split) <;> simp

@[simp] theorem writeSegment_frame (st : Sys2Proof.Stream) (s : State) :
    (writeSegment st s).now = s.now ∧ (writeSegment st s).free = s.free ∧ (writeSegment st s).pending = s.pending ∧
    (writeSegment st s).cmds = s.cmds ∧ (writeSegment st s).berths = s.berths ∧ (writeSegment st s).ports = s.ports ∧
    (writeSegment st s).lock = s.lock ∧ (writeSegment st s).weir = s.weir ∧ (writeSegment st s).sluice = s.sluice ∧
    (writeSegment st s).refloat = s.refloat ∧ (writeSegment st s).drc = s.drc ∧ (writeSegment st s).chart = s.chart ∧
    (writeSegment st s).gauge = s.gauge ∧ (writeSegment st s).fly = s.fly ∧ (writeSegment st s).seq = s.seq ∧
    (writeSegment st s).log = s.log ∧ (writeSegment st s).tow = s.tow ∧ (writeSegment st s).cfg = s.cfg ∧
    (writeSegment st s).pke = s.pke ∧ (writeSegment st s).clk = s.clk ∧ (writeSegment st s).mgmt = s.mgmt ∧
    (writeSegment st s).pins = s.pins ∧ (writeSegment st s).enginesOut = s.enginesOut := by
  unfold writeSegment
  dsimp only
  split
  · simp
  · next k t h =>
    have g := formRow_frame _ _ _ _ _ _ _ _ h
    simp at g
    simp [g]

@[simp] theorem segmentDue_frame (s : State) :
    (segmentDue s).now = s.now ∧ (segmentDue s).free = s.free ∧ (segmentDue s).pending = s.pending ∧ (segmentDue s).cmds = s.cmds ∧
    (segmentDue s).berths = s.berths ∧ (segmentDue s).ports = s.ports ∧ (segmentDue s).lock = s.lock ∧ (segmentDue s).weir = s.weir ∧
    (segmentDue s).sluice = s.sluice ∧ (segmentDue s).refloat = s.refloat ∧ (segmentDue s).drc = s.drc ∧ (segmentDue s).chart = s.chart ∧
    (segmentDue s).gauge = s.gauge ∧ (segmentDue s).fly = s.fly ∧ (segmentDue s).seq = s.seq ∧ (segmentDue s).log = s.log ∧
    (segmentDue s).tow = s.tow ∧ (segmentDue s).cfg = s.cfg ∧ (segmentDue s).pke = s.pke ∧ (segmentDue s).clk = s.clk ∧
    (segmentDue s).mgmt = s.mgmt ∧ (segmentDue s).pins = s.pins ∧ (segmentDue s).enginesOut = s.enginesOut := by
  unfold segmentDue
  simp

@[simp] theorem collectNext_frame (key : Nat) (s : State) :
    (collectNext key s).now = s.now ∧ (collectNext key s).free = s.free ∧ (collectNext key s).pending = s.pending ∧
    (collectNext key s).regs = s.regs ∧ (collectNext key s).cmds = s.cmds ∧ (collectNext key s).berths = s.berths ∧
    (collectNext key s).ports = s.ports ∧ (collectNext key s).lock = s.lock ∧ (collectNext key s).weir = s.weir ∧
    (collectNext key s).sluice = s.sluice ∧ (collectNext key s).refloat = s.refloat ∧ (collectNext key s).drc = s.drc ∧
    (collectNext key s).fmm = s.fmm ∧ (collectNext key s).chart = s.chart ∧ (collectNext key s).gauge = s.gauge ∧
    (collectNext key s).fly = s.fly ∧ (collectNext key s).seq = s.seq ∧ (collectNext key s).log = s.log ∧
    (collectNext key s).tow = s.tow ∧ (collectNext key s).keep = s.keep ∧ (collectNext key s).cfg = s.cfg ∧
    (collectNext key s).pke = s.pke ∧ (collectNext key s).clk = s.clk ∧ (collectNext key s).mgmt = s.mgmt ∧
    (collectNext key s).pins = s.pins ∧ (collectNext key s).enginesOut = s.enginesOut := by
  unfold collectNext
  (repeat' split) <;> simp

@[simp] theorem reReads_frame (cws : List CwRead) (g : Nat) (off : Nat) (len : Nat) (s : State) :
    (reReads cws g off len s).now = s.now ∧ (reReads cws g off len s).free = s.free ∧ (reReads cws g off len s).pending = s.pending ∧
    (reReads cws g off len s).regs = s.regs ∧ (reReads cws g off len s).cmds = s.cmds ∧ (reReads cws g off len s).berths = s.berths ∧
    (reReads cws g off len s).ports = s.ports ∧ (reReads cws g off len s).lock = s.lock ∧ (reReads cws g off len s).weir = s.weir ∧
    (reReads cws g off len s).sluice = s.sluice ∧ (reReads cws g off len s).refloat = s.refloat ∧ (reReads cws g off len s).drc = s.drc ∧
    (reReads cws g off len s).fmm = s.fmm ∧ (reReads cws g off len s).chart = s.chart ∧ (reReads cws g off len s).gauge = s.gauge ∧
    (reReads cws g off len s).fly = s.fly ∧ (reReads cws g off len s).seq = s.seq ∧ (reReads cws g off len s).log = s.log ∧
    (reReads cws g off len s).tow = s.tow ∧ (reReads cws g off len s).keep = s.keep ∧ (reReads cws g off len s).cfg = s.cfg ∧
    (reReads cws g off len s).pke = s.pke ∧ (reReads cws g off len s).clk = s.clk ∧ (reReads cws g off len s).mgmt = s.mgmt ∧
    (reReads cws g off len s).pins = s.pins ∧ (reReads cws g off len s).enginesOut = s.enginesOut := by
  unfold reReads
  simp

@[simp] theorem collectRead_frame (key : Nat) (cws : List CwRead) (s : State) :
    (collectRead key cws s).now = s.now ∧ (collectRead key cws s).free = s.free ∧ (collectRead key cws s).pending = s.pending ∧
    (collectRead key cws s).cmds = s.cmds ∧ (collectRead key cws s).ports = s.ports ∧ (collectRead key cws s).lock = s.lock ∧
    (collectRead key cws s).weir = s.weir ∧ (collectRead key cws s).sluice = s.sluice ∧ (collectRead key cws s).refloat = s.refloat ∧
    (collectRead key cws s).gauge = s.gauge ∧ (collectRead key cws s).fly = s.fly ∧ (collectRead key cws s).seq = s.seq ∧
    (collectRead key cws s).log = s.log ∧ (collectRead key cws s).tow = s.tow ∧ (collectRead key cws s).cfg = s.cfg ∧
    (collectRead key cws s).pke = s.pke ∧ (collectRead key cws s).clk = s.clk ∧ (collectRead key cws s).mgmt = s.mgmt ∧
    (collectRead key cws s).pins = s.pins ∧ (collectRead key cws s).enginesOut = s.enginesOut := by
  unfold collectRead
  dsimp only
  (repeat' split) <;> simp

@[simp] theorem fetchRead_frame (i : Nat) (cws : List CwRead) (s : State) :
    (fetchRead i cws s).now = s.now ∧ (fetchRead i cws s).free = s.free ∧ (fetchRead i cws s).pending = s.pending ∧
    (fetchRead i cws s).cmds = s.cmds ∧ (fetchRead i cws s).lock = s.lock ∧ (fetchRead i cws s).sluice = s.sluice ∧
    (fetchRead i cws s).refloat = s.refloat ∧ (fetchRead i cws s).gauge = s.gauge ∧ (fetchRead i cws s).fly = s.fly ∧
    (fetchRead i cws s).seq = s.seq ∧ (fetchRead i cws s).log = s.log ∧ (fetchRead i cws s).tow = s.tow ∧
    (fetchRead i cws s).cfg = s.cfg ∧ (fetchRead i cws s).pke = s.pke ∧ (fetchRead i cws s).clk = s.clk ∧
    (fetchRead i cws s).pins = s.pins ∧ (fetchRead i cws s).enginesOut = s.enginesOut := by
  unfold fetchRead
  dsimp only
  (repeat' split) <;> simp

@[simp] theorem issueErase_frame (n : Nat) (s : State) :
    (issueErase n s).now = s.now ∧ (issueErase n s).free = s.free ∧ (issueErase n s).pending = s.pending ∧
    (issueErase n s).cmds = s.cmds ∧ (issueErase n s).berths = s.berths ∧ (issueErase n s).ports = s.ports ∧
    (issueErase n s).lock = s.lock ∧ (issueErase n s).weir = s.weir ∧ (issueErase n s).sluice = s.sluice ∧
    (issueErase n s).refloat = s.refloat ∧ (issueErase n s).drc = s.drc ∧ (issueErase n s).chart = s.chart ∧
    (issueErase n s).gauge = s.gauge ∧ (issueErase n s).fly = s.fly ∧ (issueErase n s).seq = s.seq ∧ (issueErase n s).log = s.log ∧
    (issueErase n s).tow = s.tow ∧ (issueErase n s).cfg = s.cfg ∧ (issueErase n s).pke = s.pke ∧ (issueErase n s).clk = s.clk ∧
    (issueErase n s).mgmt = s.mgmt ∧ (issueErase n s).pins = s.pins ∧ (issueErase n s).enginesOut = s.enginesOut := by
  unfold issueErase
  simp

@[simp] theorem issueErases_frame (s : State) :
    (issueErases s).now = s.now ∧ (issueErases s).free = s.free ∧ (issueErases s).pending = s.pending ∧ (issueErases s).cmds = s.cmds ∧
    (issueErases s).berths = s.berths ∧ (issueErases s).ports = s.ports ∧ (issueErases s).lock = s.lock ∧ (issueErases s).weir = s.weir ∧
    (issueErases s).sluice = s.sluice ∧ (issueErases s).refloat = s.refloat ∧ (issueErases s).drc = s.drc ∧
    (issueErases s).chart = s.chart ∧ (issueErases s).gauge = s.gauge ∧ (issueErases s).fly = s.fly ∧ (issueErases s).seq = s.seq ∧
    (issueErases s).log = s.log ∧ (issueErases s).tow = s.tow ∧ (issueErases s).cfg = s.cfg ∧ (issueErases s).pke = s.pke ∧
    (issueErases s).clk = s.clk ∧ (issueErases s).mgmt = s.mgmt ∧ (issueErases s).pins = s.pins ∧
    (issueErases s).enginesOut = s.enginesOut := by
  unfold issueErases
  simp

@[simp] theorem moveWaiting_frame (s : State) :
    (moveWaiting s).now = s.now ∧ (moveWaiting s).free = s.free ∧ (moveWaiting s).pending = s.pending ∧ (moveWaiting s).cmds = s.cmds ∧
    (moveWaiting s).berths = s.berths ∧ (moveWaiting s).ports = s.ports ∧ (moveWaiting s).lock = s.lock ∧ (moveWaiting s).weir = s.weir ∧
    (moveWaiting s).sluice = s.sluice ∧ (moveWaiting s).refloat = s.refloat ∧ (moveWaiting s).drc = s.drc ∧
    (moveWaiting s).chart = s.chart ∧ (moveWaiting s).gauge = s.gauge ∧ (moveWaiting s).fly = s.fly ∧ (moveWaiting s).seq = s.seq ∧
    (moveWaiting s).log = s.log ∧ (moveWaiting s).tow = s.tow ∧ (moveWaiting s).cfg = s.cfg ∧ (moveWaiting s).pke = s.pke ∧
    (moveWaiting s).clk = s.clk ∧ (moveWaiting s).mgmt = s.mgmt ∧ (moveWaiting s).pins = s.pins ∧
    (moveWaiting s).enginesOut = s.enginesOut := by
  unfold moveWaiting
  simp

@[simp] theorem releaseGate_frame (s : State) :
    (releaseGate s).now = s.now ∧ (releaseGate s).free = s.free ∧ (releaseGate s).pending = s.pending ∧ (releaseGate s).regs = s.regs ∧
    (releaseGate s).cmds = s.cmds ∧ (releaseGate s).out = s.out ∧ (releaseGate s).berths = s.berths ∧ (releaseGate s).ports = s.ports ∧
    (releaseGate s).lock = s.lock ∧ (releaseGate s).weir = s.weir ∧ (releaseGate s).sluice = s.sluice ∧
    (releaseGate s).refloat = s.refloat ∧ (releaseGate s).drc = s.drc ∧ (releaseGate s).chart = s.chart ∧
    (releaseGate s).gauge = s.gauge ∧ (releaseGate s).fly = s.fly ∧ (releaseGate s).seq = s.seq ∧ (releaseGate s).log = s.log ∧
    (releaseGate s).tow = s.tow ∧ (releaseGate s).keep = s.keep ∧ (releaseGate s).cfg = s.cfg ∧ (releaseGate s).pke = s.pke ∧
    (releaseGate s).clk = s.clk ∧ (releaseGate s).mgmt = s.mgmt ∧ (releaseGate s).pins = s.pins ∧
    (releaseGate s).enginesOut = s.enginesOut := by
  unfold releaseGate
  simp

@[simp] theorem clearBlock_frame (die : Nat) (block : Nat) (s : State) :
    (clearBlock die block s).now = s.now ∧ (clearBlock die block s).free = s.free ∧ (clearBlock die block s).pending = s.pending ∧
    (clearBlock die block s).regs = s.regs ∧ (clearBlock die block s).cmds = s.cmds ∧ (clearBlock die block s).out = s.out ∧
    (clearBlock die block s).berths = s.berths ∧ (clearBlock die block s).ports = s.ports ∧ (clearBlock die block s).lock = s.lock ∧
    (clearBlock die block s).weir = s.weir ∧ (clearBlock die block s).sluice = s.sluice ∧ (clearBlock die block s).refloat = s.refloat ∧
    (clearBlock die block s).drc = s.drc ∧ (clearBlock die block s).chart = s.chart ∧ (clearBlock die block s).gauge = s.gauge ∧
    (clearBlock die block s).fly = s.fly ∧ (clearBlock die block s).seq = s.seq ∧ (clearBlock die block s).log = s.log ∧
    (clearBlock die block s).tow = s.tow ∧ (clearBlock die block s).keep = s.keep ∧ (clearBlock die block s).cfg = s.cfg ∧
    (clearBlock die block s).pke = s.pke ∧ (clearBlock die block s).clk = s.clk ∧ (clearBlock die block s).mgmt = s.mgmt ∧
    (clearBlock die block s).pins = s.pins ∧ (clearBlock die block s).enginesOut = s.enginesOut := by
  unfold clearBlock
  simp

@[simp] theorem toGarbage_frame (n : Nat) (s : State) :
    (toGarbage n s).now = s.now ∧ (toGarbage n s).free = s.free ∧ (toGarbage n s).pending = s.pending ∧ (toGarbage n s).regs = s.regs ∧
    (toGarbage n s).cmds = s.cmds ∧ (toGarbage n s).out = s.out ∧ (toGarbage n s).berths = s.berths ∧ (toGarbage n s).ports = s.ports ∧
    (toGarbage n s).lock = s.lock ∧ (toGarbage n s).weir = s.weir ∧ (toGarbage n s).sluice = s.sluice ∧
    (toGarbage n s).refloat = s.refloat ∧ (toGarbage n s).drc = s.drc ∧ (toGarbage n s).chart = s.chart ∧
    (toGarbage n s).gauge = s.gauge ∧ (toGarbage n s).fly = s.fly ∧ (toGarbage n s).seq = s.seq ∧ (toGarbage n s).log = s.log ∧
    (toGarbage n s).tow = s.tow ∧ (toGarbage n s).keep = s.keep ∧ (toGarbage n s).cfg = s.cfg ∧ (toGarbage n s).pke = s.pke ∧
    (toGarbage n s).clk = s.clk ∧ (toGarbage n s).mgmt = s.mgmt ∧ (toGarbage n s).pins = s.pins ∧
    (toGarbage n s).enginesOut = s.enginesOut := by
  unfold toGarbage
  simp

@[simp] theorem sweep_frame (s : State) :
    (sweep s).now = s.now ∧ (sweep s).free = s.free ∧ (sweep s).pending = s.pending ∧ (sweep s).cmds = s.cmds ∧ (sweep s).out = s.out ∧
    (sweep s).berths = s.berths ∧ (sweep s).ports = s.ports ∧ (sweep s).lock = s.lock ∧ (sweep s).weir = s.weir ∧
    (sweep s).sluice = s.sluice ∧ (sweep s).refloat = s.refloat ∧ (sweep s).drc = s.drc ∧ (sweep s).chart = s.chart ∧
    (sweep s).gauge = s.gauge ∧ (sweep s).fly = s.fly ∧ (sweep s).seq = s.seq ∧ (sweep s).log = s.log ∧ (sweep s).tow = s.tow ∧
    (sweep s).keep = s.keep ∧ (sweep s).cfg = s.cfg ∧ (sweep s).pke = s.pke ∧ (sweep s).clk = s.clk ∧ (sweep s).mgmt = s.mgmt ∧
    (sweep s).pins = s.pins ∧ (sweep s).enginesOut = s.enginesOut := by
  unfold sweep
  simp

@[simp] theorem upkeep_frame (s : State) :
    (upkeep s).now = s.now ∧ (upkeep s).free = s.free ∧ (upkeep s).pending = s.pending ∧ (upkeep s).cmds = s.cmds ∧
    (upkeep s).berths = s.berths ∧ (upkeep s).ports = s.ports ∧ (upkeep s).lock = s.lock ∧ (upkeep s).weir = s.weir ∧
    (upkeep s).sluice = s.sluice ∧ (upkeep s).refloat = s.refloat ∧ (upkeep s).drc = s.drc ∧ (upkeep s).chart = s.chart ∧
    (upkeep s).gauge = s.gauge ∧ (upkeep s).fly = s.fly ∧ (upkeep s).seq = s.seq ∧ (upkeep s).log = s.log ∧ (upkeep s).tow = s.tow ∧
    (upkeep s).cfg = s.cfg ∧ (upkeep s).pke = s.pke ∧ (upkeep s).clk = s.clk ∧ (upkeep s).mgmt = s.mgmt ∧ (upkeep s).pins = s.pins ∧
    (upkeep s).enginesOut = s.enginesOut := by
  unfold upkeep
  simp

@[simp] theorem clearLatch_frame (who : Nat) (s : State) :
    (clearLatch who s).now = s.now ∧ (clearLatch who s).free = s.free ∧ (clearLatch who s).pending = s.pending ∧
    (clearLatch who s).cmds = s.cmds ∧ (clearLatch who s).berths = s.berths ∧ (clearLatch who s).ports = s.ports ∧
    (clearLatch who s).lock = s.lock ∧ (clearLatch who s).weir = s.weir ∧ (clearLatch who s).sluice = s.sluice ∧
    (clearLatch who s).refloat = s.refloat ∧ (clearLatch who s).drc = s.drc ∧ (clearLatch who s).fmm = s.fmm ∧
    (clearLatch who s).chart = s.chart ∧ (clearLatch who s).gauge = s.gauge ∧ (clearLatch who s).fly = s.fly ∧
    (clearLatch who s).tow = s.tow ∧ (clearLatch who s).keep = s.keep ∧ (clearLatch who s).cfg = s.cfg ∧ (clearLatch who s).pke = s.pke ∧
    (clearLatch who s).clk = s.clk ∧ (clearLatch who s).pins = s.pins ∧ (clearLatch who s).enginesOut = s.enginesOut := by
  unfold clearLatch
  simp

@[simp] theorem gaugeAwake_frame (s : State) :
    (gaugeAwake s).now = s.now ∧ (gaugeAwake s).free = s.free ∧ (gaugeAwake s).pending = s.pending ∧ (gaugeAwake s).regs = s.regs ∧
    (gaugeAwake s).cmds = s.cmds ∧ (gaugeAwake s).out = s.out ∧ (gaugeAwake s).berths = s.berths ∧ (gaugeAwake s).ports = s.ports ∧
    (gaugeAwake s).lock = s.lock ∧ (gaugeAwake s).weir = s.weir ∧ (gaugeAwake s).sluice = s.sluice ∧ (gaugeAwake s).refloat = s.refloat ∧
    (gaugeAwake s).drc = s.drc ∧ (gaugeAwake s).fmm = s.fmm ∧ (gaugeAwake s).chart = s.chart ∧ (gaugeAwake s).fly = s.fly ∧
    (gaugeAwake s).seq = s.seq ∧ (gaugeAwake s).log = s.log ∧ (gaugeAwake s).tow = s.tow ∧ (gaugeAwake s).keep = s.keep ∧
    (gaugeAwake s).cfg = s.cfg ∧ (gaugeAwake s).pke = s.pke ∧ (gaugeAwake s).clk = s.clk ∧ (gaugeAwake s).mgmt = s.mgmt ∧
    (gaugeAwake s).pins = s.pins ∧ (gaugeAwake s).enginesOut = s.enginesOut := by
  unfold gaugeAwake
  simp

@[simp] theorem towAct_frame (cmd : Nat) (s : State) :
    (towAct cmd s).now = s.now ∧ (towAct cmd s).free = s.free ∧ (towAct cmd s).pending = s.pending ∧ (towAct cmd s).refloat = s.refloat ∧
    (towAct cmd s).pke = s.pke ∧ (towAct cmd s).clk = s.clk ∧ (towAct cmd s).enginesOut = s.enginesOut := by
  unfold towAct
  dsimp only
  (repeat' split) <;> simp

@[simp] theorem beaconIn_frame (f : List Byte) (s : State) :
    (beaconIn f s).now = s.now ∧ (beaconIn f s).free = s.free ∧ (beaconIn f s).pending = s.pending ∧ (beaconIn f s).refloat = s.refloat ∧
    (beaconIn f s).pke = s.pke ∧ (beaconIn f s).clk = s.clk ∧ (beaconIn f s).enginesOut = s.enginesOut := by
  unfold beaconIn
  simp

@[simp] theorem countMissed_frame (s : State) :
    (countMissed s).now = s.now ∧ (countMissed s).free = s.free ∧ (countMissed s).pending = s.pending ∧ (countMissed s).cmds = s.cmds ∧
    (countMissed s).out = s.out ∧ (countMissed s).berths = s.berths ∧ (countMissed s).ports = s.ports ∧ (countMissed s).lock = s.lock ∧
    (countMissed s).weir = s.weir ∧ (countMissed s).sluice = s.sluice ∧ (countMissed s).refloat = s.refloat ∧
    (countMissed s).drc = s.drc ∧ (countMissed s).fmm = s.fmm ∧ (countMissed s).chart = s.chart ∧ (countMissed s).gauge = s.gauge ∧
    (countMissed s).fly = s.fly ∧ (countMissed s).seq = s.seq ∧ (countMissed s).log = s.log ∧ (countMissed s).keep = s.keep ∧
    (countMissed s).cfg = s.cfg ∧ (countMissed s).pke = s.pke ∧ (countMissed s).clk = s.clk ∧ (countMissed s).mgmt = s.mgmt ∧
    (countMissed s).pins = s.pins ∧ (countMissed s).enginesOut = s.enginesOut := by
  unfold countMissed
  simp

@[simp] theorem towAdvance_frame (s : State) :
    (towAdvance s).now = s.now ∧ (towAdvance s).free = s.free ∧ (towAdvance s).pending = s.pending ∧ (towAdvance s).regs = s.regs ∧
    (towAdvance s).cmds = s.cmds ∧ (towAdvance s).out = s.out ∧ (towAdvance s).berths = s.berths ∧ (towAdvance s).ports = s.ports ∧
    (towAdvance s).lock = s.lock ∧ (towAdvance s).weir = s.weir ∧ (towAdvance s).sluice = s.sluice ∧ (towAdvance s).refloat = s.refloat ∧
    (towAdvance s).drc = s.drc ∧ (towAdvance s).fmm = s.fmm ∧ (towAdvance s).chart = s.chart ∧ (towAdvance s).gauge = s.gauge ∧
    (towAdvance s).fly = s.fly ∧ (towAdvance s).seq = s.seq ∧ (towAdvance s).log = s.log ∧ (towAdvance s).keep = s.keep ∧
    (towAdvance s).cfg = s.cfg ∧ (towAdvance s).pke = s.pke ∧ (towAdvance s).clk = s.clk ∧ (towAdvance s).mgmt = s.mgmt ∧
    (towAdvance s).pins = s.pins ∧ (towAdvance s).enginesOut = s.enginesOut := by
  unfold towAdvance
  dsimp only
  (repeat' split) <;> simp

@[simp] theorem charterEffect_frame (i : Nat) (s : State) :
    (charterEffect i s).now = s.now ∧ (charterEffect i s).free = s.free ∧ (charterEffect i s).pending = s.pending ∧
    (charterEffect i s).regs = s.regs ∧ (charterEffect i s).cmds = s.cmds ∧ (charterEffect i s).out = s.out ∧
    (charterEffect i s).ports = s.ports ∧ (charterEffect i s).lock = s.lock ∧ (charterEffect i s).weir = s.weir ∧
    (charterEffect i s).sluice = s.sluice ∧ (charterEffect i s).refloat = s.refloat ∧ (charterEffect i s).drc = s.drc ∧
    (charterEffect i s).fmm = s.fmm ∧ (charterEffect i s).chart = s.chart ∧ (charterEffect i s).gauge = s.gauge ∧
    (charterEffect i s).fly = s.fly ∧ (charterEffect i s).seq = s.seq ∧ (charterEffect i s).log = s.log ∧
    (charterEffect i s).tow = s.tow ∧ (charterEffect i s).keep = s.keep ∧ (charterEffect i s).cfg = s.cfg ∧
    (charterEffect i s).pke = s.pke ∧ (charterEffect i s).clk = s.clk ∧ (charterEffect i s).mgmt = s.mgmt ∧
    (charterEffect i s).pins = s.pins ∧ (charterEffect i s).enginesOut = s.enginesOut := by
  unfold charterEffect
  simp

@[simp] theorem doCharter_frame (s : State) :
    (doCharter s).now = s.now ∧ (doCharter s).free = s.free ∧ (doCharter s).pending = s.pending ∧ (doCharter s).lock = s.lock ∧
    (doCharter s).sluice = s.sluice ∧ (doCharter s).refloat = s.refloat ∧ (doCharter s).gauge = s.gauge ∧ (doCharter s).fly = s.fly ∧
    (doCharter s).seq = s.seq ∧ (doCharter s).log = s.log ∧ (doCharter s).tow = s.tow ∧ (doCharter s).cfg = s.cfg ∧
    (doCharter s).pke = s.pke ∧ (doCharter s).clk = s.clk ∧ (doCharter s).pins = s.pins ∧ (doCharter s).enginesOut = s.enginesOut := by
  unfold doCharter
  simp

@[simp] theorem doFence_frame (s : State) :
    (doFence s).now = s.now ∧ (doFence s).free = s.free ∧ (doFence s).pending = s.pending ∧ (doFence s).lock = s.lock ∧
    (doFence s).sluice = s.sluice ∧ (doFence s).refloat = s.refloat ∧ (doFence s).gauge = s.gauge ∧ (doFence s).fly = s.fly ∧
    (doFence s).seq = s.seq ∧ (doFence s).log = s.log ∧ (doFence s).tow = s.tow ∧ (doFence s).cfg = s.cfg ∧ (doFence s).pke = s.pke ∧
    (doFence s).clk = s.clk ∧ (doFence s).pins = s.pins ∧ (doFence s).enginesOut = s.enginesOut := by
  unfold doFence
  simp

@[simp] theorem berthLeft_frame (p : Nat) (s : State) :
    (berthLeft p s).now = s.now ∧ (berthLeft p s).free = s.free ∧ (berthLeft p s).pending = s.pending ∧ (berthLeft p s).regs = s.regs ∧
    (berthLeft p s).cmds = s.cmds ∧ (berthLeft p s).out = s.out ∧ (berthLeft p s).berths = s.berths ∧ (berthLeft p s).lock = s.lock ∧
    (berthLeft p s).weir = s.weir ∧ (berthLeft p s).sluice = s.sluice ∧ (berthLeft p s).refloat = s.refloat ∧
    (berthLeft p s).drc = s.drc ∧ (berthLeft p s).fmm = s.fmm ∧ (berthLeft p s).chart = s.chart ∧ (berthLeft p s).gauge = s.gauge ∧
    (berthLeft p s).fly = s.fly ∧ (berthLeft p s).seq = s.seq ∧ (berthLeft p s).log = s.log ∧ (berthLeft p s).tow = s.tow ∧
    (berthLeft p s).keep = s.keep ∧ (berthLeft p s).cfg = s.cfg ∧ (berthLeft p s).pke = s.pke ∧ (berthLeft p s).clk = s.clk ∧
    (berthLeft p s).mgmt = s.mgmt ∧ (berthLeft p s).pins = s.pins ∧ (berthLeft p s).enginesOut = s.enginesOut := by
  unfold berthLeft
  simp

@[simp] theorem modifyEffect_frame (i : Nat) (s : State) :
    (modifyEffect i s).now = s.now ∧ (modifyEffect i s).free = s.free ∧ (modifyEffect i s).pending = s.pending ∧
    (modifyEffect i s).regs = s.regs ∧ (modifyEffect i s).cmds = s.cmds ∧ (modifyEffect i s).out = s.out ∧
    (modifyEffect i s).lock = s.lock ∧ (modifyEffect i s).weir = s.weir ∧ (modifyEffect i s).sluice = s.sluice ∧
    (modifyEffect i s).refloat = s.refloat ∧ (modifyEffect i s).drc = s.drc ∧ (modifyEffect i s).fmm = s.fmm ∧
    (modifyEffect i s).chart = s.chart ∧ (modifyEffect i s).gauge = s.gauge ∧ (modifyEffect i s).fly = s.fly ∧
    (modifyEffect i s).seq = s.seq ∧ (modifyEffect i s).log = s.log ∧ (modifyEffect i s).tow = s.tow ∧ (modifyEffect i s).keep = s.keep ∧
    (modifyEffect i s).cfg = s.cfg ∧ (modifyEffect i s).pke = s.pke ∧ (modifyEffect i s).clk = s.clk ∧ (modifyEffect i s).mgmt = s.mgmt ∧
    (modifyEffect i s).pins = s.pins ∧ (modifyEffect i s).enginesOut = s.enginesOut := by
  unfold modifyEffect
  simp

@[simp] theorem doModify_frame (s : State) :
    (doModify s).now = s.now ∧ (doModify s).free = s.free ∧ (doModify s).pending = s.pending ∧ (doModify s).lock = s.lock ∧
    (doModify s).sluice = s.sluice ∧ (doModify s).refloat = s.refloat ∧ (doModify s).gauge = s.gauge ∧ (doModify s).fly = s.fly ∧
    (doModify s).seq = s.seq ∧ (doModify s).log = s.log ∧ (doModify s).tow = s.tow ∧ (doModify s).cfg = s.cfg ∧ (doModify s).pke = s.pke ∧
    (doModify s).clk = s.clk ∧ (doModify s).pins = s.pins ∧ (doModify s).enginesOut = s.enginesOut := by
  unfold doModify
  simp

@[simp] theorem recharterEffect_frame (i : Nat) (s : State) :
    (recharterEffect i s).now = s.now ∧ (recharterEffect i s).free = s.free ∧ (recharterEffect i s).pending = s.pending ∧
    (recharterEffect i s).regs = s.regs ∧ (recharterEffect i s).cmds = s.cmds ∧ (recharterEffect i s).out = s.out ∧
    (recharterEffect i s).lock = s.lock ∧ (recharterEffect i s).weir = s.weir ∧ (recharterEffect i s).sluice = s.sluice ∧
    (recharterEffect i s).refloat = s.refloat ∧ (recharterEffect i s).drc = s.drc ∧ (recharterEffect i s).fmm = s.fmm ∧
    (recharterEffect i s).chart = s.chart ∧ (recharterEffect i s).gauge = s.gauge ∧ (recharterEffect i s).fly = s.fly ∧
    (recharterEffect i s).seq = s.seq ∧ (recharterEffect i s).log = s.log ∧ (recharterEffect i s).tow = s.tow ∧
    (recharterEffect i s).keep = s.keep ∧ (recharterEffect i s).cfg = s.cfg ∧ (recharterEffect i s).pke = s.pke ∧
    (recharterEffect i s).clk = s.clk ∧ (recharterEffect i s).mgmt = s.mgmt ∧ (recharterEffect i s).pins = s.pins ∧
    (recharterEffect i s).enginesOut = s.enginesOut := by
  unfold recharterEffect
  simp

@[simp] theorem endRecharter_frame (i : Nat) (s : State) :
    (endRecharter i s).now = s.now ∧ (endRecharter i s).free = s.free ∧ (endRecharter i s).pending = s.pending ∧
    (endRecharter i s).lock = s.lock ∧ (endRecharter i s).sluice = s.sluice ∧ (endRecharter i s).refloat = s.refloat ∧
    (endRecharter i s).gauge = s.gauge ∧ (endRecharter i s).fly = s.fly ∧ (endRecharter i s).seq = s.seq ∧
    (endRecharter i s).log = s.log ∧ (endRecharter i s).tow = s.tow ∧ (endRecharter i s).cfg = s.cfg ∧ (endRecharter i s).pke = s.pke ∧
    (endRecharter i s).clk = s.clk ∧ (endRecharter i s).pins = s.pins ∧ (endRecharter i s).enginesOut = s.enginesOut := by
  unfold endRecharter
  simp

@[simp] theorem doRecharter_frame (s : State) :
    (doRecharter s).now = s.now ∧ (doRecharter s).free = s.free ∧ (doRecharter s).pending = s.pending ∧ (doRecharter s).lock = s.lock ∧
    (doRecharter s).sluice = s.sluice ∧ (doRecharter s).refloat = s.refloat ∧ (doRecharter s).gauge = s.gauge ∧
    (doRecharter s).fly = s.fly ∧ (doRecharter s).seq = s.seq ∧ (doRecharter s).log = s.log ∧ (doRecharter s).tow = s.tow ∧
    (doRecharter s).cfg = s.cfg ∧ (doRecharter s).pke = s.pke ∧ (doRecharter s).clk = s.clk ∧ (doRecharter s).pins = s.pins ∧
    (doRecharter s).enginesOut = s.enginesOut := by
  unfold doRecharter whenClear
  dsimp only
  (repeat' split) <;> simp

@[simp] theorem releaseEffect_frame (i : Nat) (s : State) :
    (releaseEffect i s).now = s.now ∧ (releaseEffect i s).free = s.free ∧ (releaseEffect i s).pending = s.pending ∧
    (releaseEffect i s).regs = s.regs ∧ (releaseEffect i s).cmds = s.cmds ∧ (releaseEffect i s).lock = s.lock ∧
    (releaseEffect i s).weir = s.weir ∧ (releaseEffect i s).sluice = s.sluice ∧ (releaseEffect i s).refloat = s.refloat ∧
    (releaseEffect i s).drc = s.drc ∧ (releaseEffect i s).gauge = s.gauge ∧ (releaseEffect i s).fly = s.fly ∧
    (releaseEffect i s).seq = s.seq ∧ (releaseEffect i s).log = s.log ∧ (releaseEffect i s).tow = s.tow ∧
    (releaseEffect i s).keep = s.keep ∧ (releaseEffect i s).cfg = s.cfg ∧ (releaseEffect i s).pke = s.pke ∧
    (releaseEffect i s).clk = s.clk ∧ (releaseEffect i s).mgmt = s.mgmt ∧ (releaseEffect i s).pins = s.pins ∧
    (releaseEffect i s).enginesOut = s.enginesOut := by
  unfold releaseEffect
  simp

@[simp] theorem endRelease_frame (i : Nat) (s : State) :
    (endRelease i s).now = s.now ∧ (endRelease i s).free = s.free ∧ (endRelease i s).pending = s.pending ∧
    (endRelease i s).lock = s.lock ∧ (endRelease i s).sluice = s.sluice ∧ (endRelease i s).refloat = s.refloat ∧
    (endRelease i s).gauge = s.gauge ∧ (endRelease i s).fly = s.fly ∧ (endRelease i s).seq = s.seq ∧ (endRelease i s).log = s.log ∧
    (endRelease i s).tow = s.tow ∧ (endRelease i s).cfg = s.cfg ∧ (endRelease i s).pke = s.pke ∧ (endRelease i s).clk = s.clk ∧
    (endRelease i s).pins = s.pins ∧ (endRelease i s).enginesOut = s.enginesOut := by
  unfold endRelease
  simp

@[simp] theorem doRelease_frame (s : State) :
    (doRelease s).now = s.now ∧ (doRelease s).free = s.free ∧ (doRelease s).pending = s.pending ∧ (doRelease s).lock = s.lock ∧
    (doRelease s).sluice = s.sluice ∧ (doRelease s).refloat = s.refloat ∧ (doRelease s).gauge = s.gauge ∧ (doRelease s).fly = s.fly ∧
    (doRelease s).seq = s.seq ∧ (doRelease s).log = s.log ∧ (doRelease s).tow = s.tow ∧ (doRelease s).cfg = s.cfg ∧
    (doRelease s).pke = s.pke ∧ (doRelease s).clk = s.clk ∧ (doRelease s).pins = s.pins ∧ (doRelease s).enginesOut = s.enginesOut := by
  unfold doRelease whenClear
  dsimp only
  (repeat' split) <;> simp

@[simp] theorem berthCmd_frame (op : Nat) (s : State) :
    (berthCmd op s).now = s.now ∧ (berthCmd op s).free = s.free ∧ (berthCmd op s).pending = s.pending ∧ (berthCmd op s).lock = s.lock ∧
    (berthCmd op s).sluice = s.sluice ∧ (berthCmd op s).refloat = s.refloat ∧ (berthCmd op s).gauge = s.gauge ∧
    (berthCmd op s).fly = s.fly ∧ (berthCmd op s).seq = s.seq ∧ (berthCmd op s).log = s.log ∧ (berthCmd op s).tow = s.tow ∧
    (berthCmd op s).cfg = s.cfg ∧ (berthCmd op s).pke = s.pke ∧ (berthCmd op s).clk = s.clk ∧ (berthCmd op s).pins = s.pins ∧
    (berthCmd op s).enginesOut = s.enginesOut := by
  unfold berthCmd
  (repeat' split) <;> simp

@[simp] theorem selectBerth_frame (w : Word) (s : State) :
    (selectBerth w s).now = s.now ∧ (selectBerth w s).free = s.free ∧ (selectBerth w s).pending = s.pending ∧
    (selectBerth w s).cmds = s.cmds ∧ (selectBerth w s).out = s.out ∧ (selectBerth w s).berths = s.berths ∧
    (selectBerth w s).ports = s.ports ∧ (selectBerth w s).lock = s.lock ∧ (selectBerth w s).weir = s.weir ∧
    (selectBerth w s).sluice = s.sluice ∧ (selectBerth w s).refloat = s.refloat ∧ (selectBerth w s).drc = s.drc ∧
    (selectBerth w s).fmm = s.fmm ∧ (selectBerth w s).chart = s.chart ∧ (selectBerth w s).gauge = s.gauge ∧
    (selectBerth w s).fly = s.fly ∧ (selectBerth w s).seq = s.seq ∧ (selectBerth w s).log = s.log ∧ (selectBerth w s).tow = s.tow ∧
    (selectBerth w s).keep = s.keep ∧ (selectBerth w s).cfg = s.cfg ∧ (selectBerth w s).pke = s.pke ∧ (selectBerth w s).clk = s.clk ∧
    (selectBerth w s).mgmt = s.mgmt ∧ (selectBerth w s).pins = s.pins ∧ (selectBerth w s).enginesOut = s.enginesOut := by
  unfold selectBerth
  simp

@[simp] theorem stageNow_frame (off : Nat) (kind : Nat) (w : Word) (s : State) :
    (stageNow off kind w s).now = s.now ∧ (stageNow off kind w s).free = s.free ∧ (stageNow off kind w s).pending = s.pending ∧
    (stageNow off kind w s).lock = s.lock ∧ (stageNow off kind w s).sluice = s.sluice ∧ (stageNow off kind w s).refloat = s.refloat ∧
    (stageNow off kind w s).gauge = s.gauge ∧ (stageNow off kind w s).fly = s.fly ∧ (stageNow off kind w s).seq = s.seq ∧
    (stageNow off kind w s).log = s.log ∧ (stageNow off kind w s).tow = s.tow ∧ (stageNow off kind w s).cfg = s.cfg ∧
    (stageNow off kind w s).pke = s.pke ∧ (stageNow off kind w s).clk = s.clk ∧ (stageNow off kind w s).pins = s.pins ∧
    (stageNow off kind w s).enginesOut = s.enginesOut := by
  unfold stageNow
  simp

theorem formParts_frame (st : Stream) (n : Nat) (s t : State) (ps : List (List Nat)) (h : formParts st n s = some (t, ps)) :
    t.now = s.now ∧ t.free = s.free ∧ t.pending = s.pending ∧ t.cmds = s.cmds ∧ t.berths = s.berths ∧ t.ports = s.ports ∧ t.lock = s.lock ∧ t.weir = s.weir ∧ t.sluice = s.sluice ∧ t.refloat = s.refloat ∧ t.drc = s.drc ∧ t.chart = s.chart ∧ t.gauge = s.gauge ∧ t.fly = s.fly ∧ t.seq = s.seq ∧ t.log = s.log ∧ t.tow = s.tow ∧ t.cfg = s.cfg ∧ t.pke = s.pke ∧ t.clk = s.clk ∧ t.mgmt = s.mgmt ∧ t.pins = s.pins ∧ t.enginesOut = s.enginesOut := by
  induction n generalizing s ps with
  | zero => cases h; simp
  | succ n ih =>
    obtain ⟨u, hu, hv⟩ := Option.bind_eq_some_iff.1 h
    simp only [Option.map_eq_some_iff, Prod.mk.injEq, Prod.exists] at hv
    obtain ⟨a, b, ha, rfl, _⟩ := hv
    have h1 := formBarge_frame _ _ _ _ _ _ _ hu
    have h2 := ih _ _ ha
    simp_all

@[simp] theorem writeManifest_frame (st : Sys2Proof.Stream) (m : Manifest) (s : State) :
    (writeManifest st m s).now = s.now ∧ (writeManifest st m s).free = s.free ∧ (writeManifest st m s).pending = s.pending ∧
    (writeManifest st m s).cmds = s.cmds ∧ (writeManifest st m s).berths = s.berths ∧ (writeManifest st m s).ports = s.ports ∧
    (writeManifest st m s).lock = s.lock ∧ (writeManifest st m s).weir = s.weir ∧ (writeManifest st m s).sluice = s.sluice ∧
    (writeManifest st m s).refloat = s.refloat ∧ (writeManifest st m s).drc = s.drc ∧ (writeManifest st m s).chart = s.chart ∧
    (writeManifest st m s).gauge = s.gauge ∧ (writeManifest st m s).fly = s.fly ∧ (writeManifest st m s).seq = s.seq ∧
    (writeManifest st m s).log = s.log ∧ (writeManifest st m s).tow = s.tow ∧ (writeManifest st m s).cfg = s.cfg ∧
    (writeManifest st m s).pke = s.pke ∧ (writeManifest st m s).clk = s.clk ∧ (writeManifest st m s).mgmt = s.mgmt ∧
    (writeManifest st m s).pins = s.pins ∧ (writeManifest st m s).enginesOut = s.enginesOut := by
  unfold writeManifest
  split
  · simp
  · next t ps h =>
    have := formParts_frame _ _ _ _ _ h
    simpa using this

@[simp] theorem openTry_frame (s : State) :
    (openTry s).now = s.now ∧ (openTry s).free = s.free ∧ (openTry s).pending = s.pending ∧ (openTry s).cmds = s.cmds ∧
    (openTry s).berths = s.berths ∧ (openTry s).ports = s.ports ∧ (openTry s).lock = s.lock ∧ (openTry s).weir = s.weir ∧
    (openTry s).sluice = s.sluice ∧ (openTry s).drc = s.drc ∧ (openTry s).chart = s.chart ∧ (openTry s).gauge = s.gauge ∧
    (openTry s).fly = s.fly ∧ (openTry s).seq = s.seq ∧ (openTry s).log = s.log ∧ (openTry s).tow = s.tow ∧ (openTry s).cfg = s.cfg ∧
    (openTry s).pke = s.pke ∧ (openTry s).clk = s.clk ∧ (openTry s).mgmt = s.mgmt ∧ (openTry s).pins = s.pins ∧
    (openTry s).enginesOut = s.enginesOut := by
  unfold openTry
  simp

@[simp] theorem closeStreams_frame (s : State) :
    (closeStreams s).now = s.now ∧ (closeStreams s).free = s.free ∧ (closeStreams s).pending = s.pending ∧
    (closeStreams s).cmds = s.cmds ∧ (closeStreams s).berths = s.berths ∧ (closeStreams s).ports = s.ports ∧
    (closeStreams s).lock = s.lock ∧ (closeStreams s).weir = s.weir ∧ (closeStreams s).sluice = s.sluice ∧
    (closeStreams s).refloat = s.refloat ∧ (closeStreams s).drc = s.drc ∧ (closeStreams s).chart = s.chart ∧
    (closeStreams s).gauge = s.gauge ∧ (closeStreams s).fly = s.fly ∧ (closeStreams s).seq = s.seq ∧ (closeStreams s).log = s.log ∧
    (closeStreams s).tow = s.tow ∧ (closeStreams s).cfg = s.cfg ∧ (closeStreams s).pke = s.pke ∧ (closeStreams s).clk = s.clk ∧
    (closeStreams s).mgmt = s.mgmt ∧ (closeStreams s).pins = s.pins ∧ (closeStreams s).enginesOut = s.enginesOut := by
  unfold closeStreams
  simp

@[simp] theorem setFlush_frame (n : Nat) (s : State) :
    (setFlush n s).now = s.now ∧ (setFlush n s).free = s.free ∧ (setFlush n s).pending = s.pending ∧ (setFlush n s).regs = s.regs ∧
    (setFlush n s).cmds = s.cmds ∧ (setFlush n s).out = s.out ∧ (setFlush n s).berths = s.berths ∧ (setFlush n s).ports = s.ports ∧
    (setFlush n s).lock = s.lock ∧ (setFlush n s).weir = s.weir ∧ (setFlush n s).refloat = s.refloat ∧ (setFlush n s).drc = s.drc ∧
    (setFlush n s).fmm = s.fmm ∧ (setFlush n s).chart = s.chart ∧ (setFlush n s).gauge = s.gauge ∧ (setFlush n s).fly = s.fly ∧
    (setFlush n s).seq = s.seq ∧ (setFlush n s).log = s.log ∧ (setFlush n s).tow = s.tow ∧ (setFlush n s).keep = s.keep ∧
    (setFlush n s).cfg = s.cfg ∧ (setFlush n s).pke = s.pke ∧ (setFlush n s).clk = s.clk ∧ (setFlush n s).mgmt = s.mgmt ∧
    (setFlush n s).pins = s.pins ∧ (setFlush n s).enginesOut = s.enginesOut := by
  unfold setFlush
  simp

@[simp] theorem sluicePound_frame (s : State) :
    (sluicePound s).now = s.now ∧ (sluicePound s).free = s.free ∧ (sluicePound s).pending = s.pending ∧ (sluicePound s).cmds = s.cmds ∧
    (sluicePound s).berths = s.berths ∧ (sluicePound s).ports = s.ports ∧ (sluicePound s).lock = s.lock ∧ (sluicePound s).weir = s.weir ∧
    (sluicePound s).sluice = s.sluice ∧ (sluicePound s).refloat = s.refloat ∧ (sluicePound s).chart = s.chart ∧
    (sluicePound s).gauge = s.gauge ∧ (sluicePound s).fly = s.fly ∧ (sluicePound s).seq = s.seq ∧ (sluicePound s).log = s.log ∧
    (sluicePound s).tow = s.tow ∧ (sluicePound s).cfg = s.cfg ∧ (sluicePound s).pke = s.pke ∧ (sluicePound s).clk = s.clk ∧
    (sluicePound s).mgmt = s.mgmt ∧ (sluicePound s).pins = s.pins ∧ (sluicePound s).enginesOut = s.enginesOut := by
  unfold sluicePound
  try dsimp only
  refine ⟨?_, ?_, ?_, ?_, ?_, ?_, ?_, ?_, ?_, ?_, ?_, ?_, ?_, ?_, ?_, ?_, ?_, ?_, ?_, ?_, ?_, ?_⟩
  · refine (forEach_now _ _ (fun a u => ?_) _).trans (by first | rfl | simp)
    (repeat' split) <;> simp
  · refine (forEach_free _ _ (fun a u => ?_) _).trans (by first | rfl | simp)
    (repeat' split) <;> simp
  · refine (forEach_pending _ _ (fun a u => ?_) _).trans (by first | rfl | simp)
    (repeat' split) <;> simp
  · refine (forEach_cmds _ _ (fun a u => ?_) _).trans (by first | rfl | simp)
    (repeat' split) <;> simp
  · refine (forEach_berths _ _ (fun a u => ?_) _).trans (by first | rfl | simp)
    (repeat' split) <;> simp
  · refine (forEach_ports _ _ (fun a u => ?_) _).trans (by first | rfl | simp)
    (repeat' split) <;> simp
  · refine (forEach_lock _ _ (fun a u => ?_) _).trans (by first | rfl | simp)
    (repeat' split) <;> simp
  · refine (forEach_weir _ _ (fun a u => ?_) _).trans (by first | rfl | simp)
    (repeat' split) <;> simp
  · refine (forEach_sluice _ _ (fun a u => ?_) _).trans (by first | rfl | simp)
    (repeat' split) <;> simp
  · refine (forEach_refloat _ _ (fun a u => ?_) _).trans (by first | rfl | simp)
    (repeat' split) <;> simp
  · refine (forEach_chart _ _ (fun a u => ?_) _).trans (by first | rfl | simp)
    (repeat' split) <;> simp
  · refine (forEach_gauge _ _ (fun a u => ?_) _).trans (by first | rfl | simp)
    (repeat' split) <;> simp
  · refine (forEach_fly _ _ (fun a u => ?_) _).trans (by first | rfl | simp)
    (repeat' split) <;> simp
  · refine (forEach_seq _ _ (fun a u => ?_) _).trans (by first | rfl | simp)
    (repeat' split) <;> simp
  · refine (forEach_log _ _ (fun a u => ?_) _).trans (by first | rfl | simp)
    (repeat' split) <;> simp
  · refine (forEach_tow _ _ (fun a u => ?_) _).trans (by first | rfl | simp)
    (repeat' split) <;> simp
  · refine (forEach_cfg _ _ (fun a u => ?_) _).trans (by first | rfl | simp)
    (repeat' split) <;> simp
  · refine (forEach_pke _ _ (fun a u => ?_) _).trans (by first | rfl | simp)
    (repeat' split) <;> simp
  · refine (forEach_clk _ _ (fun a u => ?_) _).trans (by first | rfl | simp)
    (repeat' split) <;> simp
  · refine (forEach_mgmt _ _ (fun a u => ?_) _).trans (by first | rfl | simp)
    (repeat' split) <;> simp
  · refine (forEach_pins _ _ (fun a u => ?_) _).trans (by first | rfl | simp)
    (repeat' split) <;> simp
  · refine (forEach_enginesOut _ _ (fun a u => ?_) _).trans (by first | rfl | simp)
    (repeat' split) <;> simp

@[simp] theorem flushBack_frame (s : State) :
    (flushBack s).now = s.now ∧ (flushBack s).free = s.free ∧ (flushBack s).pending = s.pending ∧ (flushBack s).cmds = s.cmds ∧
    (flushBack s).berths = s.berths ∧ (flushBack s).ports = s.ports ∧ (flushBack s).lock = s.lock ∧ (flushBack s).weir = s.weir ∧
    (flushBack s).refloat = s.refloat ∧ (flushBack s).chart = s.chart ∧ (flushBack s).gauge = s.gauge ∧ (flushBack s).fly = s.fly ∧
    (flushBack s).seq = s.seq ∧ (flushBack s).log = s.log ∧ (flushBack s).tow = s.tow ∧ (flushBack s).cfg = s.cfg ∧
    (flushBack s).pke = s.pke ∧ (flushBack s).clk = s.clk ∧ (flushBack s).mgmt = s.mgmt ∧ (flushBack s).pins = s.pins ∧
    (flushBack s).enginesOut = s.enginesOut := by
  unfold flushBack
  simp

@[simp] theorem flushPages_frame (s : State) :
    (flushPages s).now = s.now ∧ (flushPages s).free = s.free ∧ (flushPages s).pending = s.pending ∧ (flushPages s).cmds = s.cmds ∧
    (flushPages s).berths = s.berths ∧ (flushPages s).ports = s.ports ∧ (flushPages s).lock = s.lock ∧ (flushPages s).weir = s.weir ∧
    (flushPages s).refloat = s.refloat ∧ (flushPages s).drc = s.drc ∧ (flushPages s).chart = s.chart ∧ (flushPages s).gauge = s.gauge ∧
    (flushPages s).fly = s.fly ∧ (flushPages s).seq = s.seq ∧ (flushPages s).log = s.log ∧ (flushPages s).tow = s.tow ∧
    (flushPages s).cfg = s.cfg ∧ (flushPages s).pke = s.pke ∧ (flushPages s).clk = s.clk ∧ (flushPages s).mgmt = s.mgmt ∧
    (flushPages s).pins = s.pins ∧ (flushPages s).enginesOut = s.enginesOut := by
  unfold flushPages
  simp

@[simp] theorem flushSealed_frame (s : State) :
    (flushSealed s).now = s.now ∧ (flushSealed s).free = s.free ∧ (flushSealed s).pending = s.pending ∧ (flushSealed s).cmds = s.cmds ∧
    (flushSealed s).berths = s.berths ∧ (flushSealed s).ports = s.ports ∧ (flushSealed s).lock = s.lock ∧ (flushSealed s).weir = s.weir ∧
    (flushSealed s).refloat = s.refloat ∧ (flushSealed s).drc = s.drc ∧ (flushSealed s).chart = s.chart ∧
    (flushSealed s).gauge = s.gauge ∧ (flushSealed s).fly = s.fly ∧ (flushSealed s).seq = s.seq ∧ (flushSealed s).log = s.log ∧
    (flushSealed s).tow = s.tow ∧ (flushSealed s).cfg = s.cfg ∧ (flushSealed s).pke = s.pke ∧ (flushSealed s).clk = s.clk ∧
    (flushSealed s).mgmt = s.mgmt ∧ (flushSealed s).pins = s.pins ∧ (flushSealed s).enginesOut = s.enginesOut := by
  unfold flushSealed
  simp

@[simp] theorem flushSegment_frame (s : State) :
    (flushSegment s).now = s.now ∧ (flushSegment s).free = s.free ∧ (flushSegment s).pending = s.pending ∧
    (flushSegment s).cmds = s.cmds ∧ (flushSegment s).berths = s.berths ∧ (flushSegment s).ports = s.ports ∧
    (flushSegment s).lock = s.lock ∧ (flushSegment s).weir = s.weir ∧ (flushSegment s).refloat = s.refloat ∧
    (flushSegment s).drc = s.drc ∧ (flushSegment s).chart = s.chart ∧ (flushSegment s).gauge = s.gauge ∧ (flushSegment s).fly = s.fly ∧
    (flushSegment s).seq = s.seq ∧ (flushSegment s).log = s.log ∧ (flushSegment s).tow = s.tow ∧ (flushSegment s).cfg = s.cfg ∧
    (flushSegment s).pke = s.pke ∧ (flushSegment s).clk = s.clk ∧ (flushSegment s).mgmt = s.mgmt ∧ (flushSegment s).pins = s.pins ∧
    (flushSegment s).enginesOut = s.enginesOut := by
  unfold flushSegment
  simp

@[simp] theorem flushStep_frame (s : State) :
    (flushStep s).now = s.now ∧ (flushStep s).free = s.free ∧ (flushStep s).pending = s.pending ∧ (flushStep s).cmds = s.cmds ∧
    (flushStep s).berths = s.berths ∧ (flushStep s).ports = s.ports ∧ (flushStep s).lock = s.lock ∧ (flushStep s).weir = s.weir ∧
    (flushStep s).refloat = s.refloat ∧ (flushStep s).chart = s.chart ∧ (flushStep s).gauge = s.gauge ∧ (flushStep s).fly = s.fly ∧
    (flushStep s).seq = s.seq ∧ (flushStep s).log = s.log ∧ (flushStep s).tow = s.tow ∧ (flushStep s).cfg = s.cfg ∧
    (flushStep s).pke = s.pke ∧ (flushStep s).clk = s.clk ∧ (flushStep s).mgmt = s.mgmt ∧ (flushStep s).pins = s.pins ∧
    (flushStep s).enginesOut = s.enginesOut := by
  unfold flushStep
  (repeat' split) <;> simp

@[simp] theorem writeOpen_frame (s : State) :
    (writeOpen s).now = s.now ∧ (writeOpen s).free = s.free ∧ (writeOpen s).pending = s.pending ∧ (writeOpen s).cmds = s.cmds ∧
    (writeOpen s).berths = s.berths ∧ (writeOpen s).ports = s.ports ∧ (writeOpen s).lock = s.lock ∧ (writeOpen s).weir = s.weir ∧
    (writeOpen s).sluice = s.sluice ∧ (writeOpen s).refloat = s.refloat ∧ (writeOpen s).drc = s.drc ∧ (writeOpen s).chart = s.chart ∧
    (writeOpen s).gauge = s.gauge ∧ (writeOpen s).fly = s.fly ∧ (writeOpen s).seq = s.seq ∧ (writeOpen s).log = s.log ∧
    (writeOpen s).tow = s.tow ∧ (writeOpen s).cfg = s.cfg ∧ (writeOpen s).pke = s.pke ∧ (writeOpen s).clk = s.clk ∧
    (writeOpen s).mgmt = s.mgmt ∧ (writeOpen s).pins = s.pins ∧ (writeOpen s).enginesOut = s.enginesOut := by
  unfold writeOpen
  simp

@[simp] theorem sluiceGo_frame (s : State) :
    (sluiceGo s).now = s.now ∧ (sluiceGo s).free = s.free ∧ (sluiceGo s).pending = s.pending ∧ (sluiceGo s).cmds = s.cmds ∧
    (sluiceGo s).berths = s.berths ∧ (sluiceGo s).ports = s.ports ∧ (sluiceGo s).lock = s.lock ∧ (sluiceGo s).weir = s.weir ∧
    (sluiceGo s).refloat = s.refloat ∧ (sluiceGo s).chart = s.chart ∧ (sluiceGo s).gauge = s.gauge ∧ (sluiceGo s).fly = s.fly ∧
    (sluiceGo s).seq = s.seq ∧ (sluiceGo s).log = s.log ∧ (sluiceGo s).tow = s.tow ∧ (sluiceGo s).cfg = s.cfg ∧ (sluiceGo s).pke = s.pke ∧
    (sluiceGo s).clk = s.clk ∧ (sluiceGo s).mgmt = s.mgmt ∧ (sluiceGo s).pins = s.pins ∧ (sluiceGo s).enginesOut = s.enginesOut := by
  unfold sluiceGo
  try dsimp only
  (repeat' split) <;> simp_all

@[simp] theorem blankGo_frame (s : State) :
    (blankGo s).now = s.now ∧ (blankGo s).free = s.free ∧ (blankGo s).pending = s.pending ∧ (blankGo s).cmds = s.cmds ∧
    (blankGo s).berths = s.berths ∧ (blankGo s).ports = s.ports ∧ (blankGo s).lock = s.lock ∧ (blankGo s).chart = s.chart ∧
    (blankGo s).gauge = s.gauge ∧ (blankGo s).fly = s.fly ∧ (blankGo s).seq = s.seq ∧ (blankGo s).log = s.log ∧ (blankGo s).tow = s.tow ∧
    (blankGo s).cfg = s.cfg ∧ (blankGo s).pke = s.pke ∧ (blankGo s).clk = s.clk ∧ (blankGo s).mgmt = s.mgmt ∧ (blankGo s).pins = s.pins ∧
    (blankGo s).enginesOut = s.enginesOut := by
  unfold blankGo
  simp

@[simp] theorem markWrite_frame (s : State) :
    (markWrite s).now = s.now ∧ (markWrite s).free = s.free ∧ (markWrite s).pending = s.pending ∧ (markWrite s).regs = s.regs ∧
    (markWrite s).cmds = s.cmds ∧ (markWrite s).out = s.out ∧ (markWrite s).berths = s.berths ∧ (markWrite s).ports = s.ports ∧
    (markWrite s).lock = s.lock ∧ (markWrite s).weir = s.weir ∧ (markWrite s).sluice = s.sluice ∧ (markWrite s).refloat = s.refloat ∧
    (markWrite s).drc = s.drc ∧ (markWrite s).chart = s.chart ∧ (markWrite s).gauge = s.gauge ∧ (markWrite s).fly = s.fly ∧
    (markWrite s).seq = s.seq ∧ (markWrite s).log = s.log ∧ (markWrite s).tow = s.tow ∧ (markWrite s).keep = s.keep ∧
    (markWrite s).cfg = s.cfg ∧ (markWrite s).pke = s.pke ∧ (markWrite s).clk = s.clk ∧ (markWrite s).mgmt = s.mgmt ∧
    (markWrite s).pins = s.pins ∧ (markWrite s).enginesOut = s.enginesOut := by
  unfold markWrite
  simp

@[simp] theorem markStep_frame (n : Nat) (s : State) :
    (markStep n s).now = s.now ∧ (markStep n s).free = s.free ∧ (markStep n s).pending = s.pending ∧ (markStep n s).regs = s.regs ∧
    (markStep n s).cmds = s.cmds ∧ (markStep n s).out = s.out ∧ (markStep n s).berths = s.berths ∧ (markStep n s).ports = s.ports ∧
    (markStep n s).lock = s.lock ∧ (markStep n s).weir = s.weir ∧ (markStep n s).sluice = s.sluice ∧ (markStep n s).refloat = s.refloat ∧
    (markStep n s).drc = s.drc ∧ (markStep n s).chart = s.chart ∧ (markStep n s).gauge = s.gauge ∧ (markStep n s).fly = s.fly ∧
    (markStep n s).seq = s.seq ∧ (markStep n s).log = s.log ∧ (markStep n s).tow = s.tow ∧ (markStep n s).keep = s.keep ∧
    (markStep n s).cfg = s.cfg ∧ (markStep n s).pke = s.pke ∧ (markStep n s).clk = s.clk ∧ (markStep n s).mgmt = s.mgmt ∧
    (markStep n s).pins = s.pins ∧ (markStep n s).enginesOut = s.enginesOut := by
  unfold markStep
  simp

@[simp] theorem sanEmpty_frame (s : State) :
    (sanEmpty s).now = s.now ∧ (sanEmpty s).free = s.free ∧ (sanEmpty s).pending = s.pending ∧ (sanEmpty s).cmds = s.cmds ∧
    (sanEmpty s).berths = s.berths ∧ (sanEmpty s).ports = s.ports ∧ (sanEmpty s).lock = s.lock ∧ (sanEmpty s).weir = s.weir ∧
    (sanEmpty s).sluice = s.sluice ∧ (sanEmpty s).refloat = s.refloat ∧ (sanEmpty s).drc = s.drc ∧ (sanEmpty s).chart = s.chart ∧
    (sanEmpty s).gauge = s.gauge ∧ (sanEmpty s).fly = s.fly ∧ (sanEmpty s).seq = s.seq ∧ (sanEmpty s).log = s.log ∧
    (sanEmpty s).tow = s.tow ∧ (sanEmpty s).cfg = s.cfg ∧ (sanEmpty s).pke = s.pke ∧ (sanEmpty s).clk = s.clk ∧
    (sanEmpty s).mgmt = s.mgmt ∧ (sanEmpty s).pins = s.pins ∧ (sanEmpty s).enginesOut = s.enginesOut := by
  unfold sanEmpty
  simp

@[simp] theorem sanMark_frame (s : State) :
    (sanMark s).now = s.now ∧ (sanMark s).free = s.free ∧ (sanMark s).pending = s.pending ∧ (sanMark s).regs = s.regs ∧
    (sanMark s).cmds = s.cmds ∧ (sanMark s).out = s.out ∧ (sanMark s).berths = s.berths ∧ (sanMark s).ports = s.ports ∧
    (sanMark s).lock = s.lock ∧ (sanMark s).weir = s.weir ∧ (sanMark s).sluice = s.sluice ∧ (sanMark s).refloat = s.refloat ∧
    (sanMark s).drc = s.drc ∧ (sanMark s).chart = s.chart ∧ (sanMark s).gauge = s.gauge ∧ (sanMark s).fly = s.fly ∧
    (sanMark s).seq = s.seq ∧ (sanMark s).log = s.log ∧ (sanMark s).tow = s.tow ∧ (sanMark s).keep = s.keep ∧ (sanMark s).cfg = s.cfg ∧
    (sanMark s).pke = s.pke ∧ (sanMark s).clk = s.clk ∧ (sanMark s).mgmt = s.mgmt ∧ (sanMark s).pins = s.pins ∧
    (sanMark s).enginesOut = s.enginesOut := by
  unfold sanMark
  simp

theorem sanOpen_frame (qs : List Nat) (s : State) (k : Nat) (t : State) (h : sanOpen qs s = some (k, t)) :
    t.now = s.now ∧ t.free = s.free ∧ t.pending = s.pending ∧ t.regs = s.regs ∧ t.cmds = s.cmds ∧ t.out = s.out ∧ t.berths = s.berths ∧ t.ports = s.ports ∧ t.lock = s.lock ∧ t.weir = s.weir ∧ t.sluice = s.sluice ∧ t.refloat = s.refloat ∧ t.drc = s.drc ∧ t.chart = s.chart ∧ t.gauge = s.gauge ∧ t.fly = s.fly ∧ t.seq = s.seq ∧ t.log = s.log ∧ t.tow = s.tow ∧ t.keep = s.keep ∧ t.cfg = s.cfg ∧ t.pke = s.pke ∧ t.clk = s.clk ∧ t.mgmt = s.mgmt ∧ t.pins = s.pins ∧ t.enginesOut = s.enginesOut := by
  unfold sanOpen at h
  obtain ⟨q, _, hq⟩ := List.exists_of_findSome?_eq_some h
  exact openSb_frame _ q s k t hq

@[simp] theorem sanWear_frame (s : State) :
    (sanWear s).now = s.now ∧ (sanWear s).free = s.free ∧ (sanWear s).pending = s.pending ∧ (sanWear s).cmds = s.cmds ∧
    (sanWear s).berths = s.berths ∧ (sanWear s).ports = s.ports ∧ (sanWear s).lock = s.lock ∧ (sanWear s).weir = s.weir ∧
    (sanWear s).sluice = s.sluice ∧ (sanWear s).refloat = s.refloat ∧ (sanWear s).drc = s.drc ∧ (sanWear s).chart = s.chart ∧
    (sanWear s).gauge = s.gauge ∧ (sanWear s).fly = s.fly ∧ (sanWear s).seq = s.seq ∧ (sanWear s).log = s.log ∧ (sanWear s).tow = s.tow ∧
    (sanWear s).cfg = s.cfg ∧ (sanWear s).pke = s.pke ∧ (sanWear s).clk = s.clk ∧ (sanWear s).mgmt = s.mgmt ∧ (sanWear s).pins = s.pins ∧
    (sanWear s).enginesOut = s.enginesOut := by
  unfold sanWear
  dsimp only
  split
  · simp
  · next k a ha =>
    have g1 := sanOpen_frame _ _ _ _ ha
    split
    · simp
    · next m b hb =>
      have g2 := sanOpen_frame _ _ _ _ hb
      split
      · simp
      · next c hc =>
        have g3 := formOn_frame _ _ _ _ _ _ _ hc
        split
        · simp
        · next d hd =>
          have g4 := formOn_frame _ _ _ _ _ _ _ hd
          simp_all

@[simp] theorem sanGo_frame (s : State) :
    (sanGo s).now = s.now ∧ (sanGo s).free = s.free ∧ (sanGo s).pending = s.pending ∧ (sanGo s).cmds = s.cmds ∧
    (sanGo s).berths = s.berths ∧ (sanGo s).ports = s.ports ∧ (sanGo s).lock = s.lock ∧ (sanGo s).weir = s.weir ∧
    (sanGo s).sluice = s.sluice ∧ (sanGo s).refloat = s.refloat ∧ (sanGo s).drc = s.drc ∧ (sanGo s).chart = s.chart ∧
    (sanGo s).gauge = s.gauge ∧ (sanGo s).fly = s.fly ∧ (sanGo s).seq = s.seq ∧ (sanGo s).log = s.log ∧ (sanGo s).tow = s.tow ∧
    (sanGo s).cfg = s.cfg ∧ (sanGo s).pke = s.pke ∧ (sanGo s).clk = s.clk ∧ (sanGo s).mgmt = s.mgmt ∧ (sanGo s).pins = s.pins ∧
    (sanGo s).enginesOut = s.enginesOut := by
  unfold sanGo
  simp

@[simp] theorem dramWrite_frame (who : Requester) (p : Place) (n : Nat) (s : State) :
    (dramWrite who p n s).now = s.now ∧ (dramWrite who p n s).free = s.free ∧ (dramWrite who p n s).pending = s.pending ∧
    (dramWrite who p n s).regs = s.regs ∧ (dramWrite who p n s).cmds = s.cmds ∧ (dramWrite who p n s).out = s.out ∧
    (dramWrite who p n s).berths = s.berths ∧ (dramWrite who p n s).ports = s.ports ∧ (dramWrite who p n s).lock = s.lock ∧
    (dramWrite who p n s).weir = s.weir ∧ (dramWrite who p n s).sluice = s.sluice ∧ (dramWrite who p n s).refloat = s.refloat ∧
    (dramWrite who p n s).fmm = s.fmm ∧ (dramWrite who p n s).chart = s.chart ∧ (dramWrite who p n s).gauge = s.gauge ∧
    (dramWrite who p n s).fly = s.fly ∧ (dramWrite who p n s).seq = s.seq ∧ (dramWrite who p n s).log = s.log ∧
    (dramWrite who p n s).tow = s.tow ∧ (dramWrite who p n s).keep = s.keep ∧ (dramWrite who p n s).cfg = s.cfg ∧
    (dramWrite who p n s).pke = s.pke ∧ (dramWrite who p n s).clk = s.clk ∧ (dramWrite who p n s).mgmt = s.mgmt ∧
    (dramWrite who p n s).pins = s.pins ∧ (dramWrite who p n s).enginesOut = s.enginesOut := by
  unfold dramWrite
  simp

@[simp] theorem moveStart_frame (u : List Nat) (k : Nat) (i : Nat) (r : Rec) (s : State) :
    (moveStart u k i r s).now = s.now ∧ (moveStart u k i r s).free = s.free ∧ (moveStart u k i r s).pending = s.pending ∧
    (moveStart u k i r s).regs = s.regs ∧ (moveStart u k i r s).cmds = s.cmds ∧ (moveStart u k i r s).out = s.out ∧
    (moveStart u k i r s).berths = s.berths ∧ (moveStart u k i r s).ports = s.ports ∧ (moveStart u k i r s).lock = s.lock ∧
    (moveStart u k i r s).weir = s.weir ∧ (moveStart u k i r s).sluice = s.sluice ∧ (moveStart u k i r s).refloat = s.refloat ∧
    (moveStart u k i r s).fmm = s.fmm ∧ (moveStart u k i r s).chart = s.chart ∧ (moveStart u k i r s).gauge = s.gauge ∧
    (moveStart u k i r s).fly = s.fly ∧ (moveStart u k i r s).seq = s.seq ∧ (moveStart u k i r s).log = s.log ∧
    (moveStart u k i r s).tow = s.tow ∧ (moveStart u k i r s).keep = s.keep ∧ (moveStart u k i r s).cfg = s.cfg ∧
    (moveStart u k i r s).pke = s.pke ∧ (moveStart u k i r s).clk = s.clk ∧ (moveStart u k i r s).mgmt = s.mgmt ∧
    (moveStart u k i r s).pins = s.pins ∧ (moveStart u k i r s).enginesOut = s.enginesOut := by
  unfold moveStart
  dsimp only
  (repeat' split) <;> simp

@[simp] theorem compactStart_frame (u : List Nat) (s : State) :
    (compactStart u s).now = s.now ∧ (compactStart u s).free = s.free ∧ (compactStart u s).pending = s.pending ∧
    (compactStart u s).regs = s.regs ∧ (compactStart u s).cmds = s.cmds ∧ (compactStart u s).out = s.out ∧
    (compactStart u s).berths = s.berths ∧ (compactStart u s).ports = s.ports ∧ (compactStart u s).lock = s.lock ∧
    (compactStart u s).weir = s.weir ∧ (compactStart u s).sluice = s.sluice ∧ (compactStart u s).refloat = s.refloat ∧
    (compactStart u s).fmm = s.fmm ∧ (compactStart u s).chart = s.chart ∧ (compactStart u s).gauge = s.gauge ∧
    (compactStart u s).fly = s.fly ∧ (compactStart u s).seq = s.seq ∧ (compactStart u s).log = s.log ∧ (compactStart u s).tow = s.tow ∧
    (compactStart u s).keep = s.keep ∧ (compactStart u s).cfg = s.cfg ∧ (compactStart u s).pke = s.pke ∧ (compactStart u s).clk = s.clk ∧
    (compactStart u s).mgmt = s.mgmt ∧ (compactStart u s).pins = s.pins ∧ (compactStart u s).enginesOut = s.enginesOut := by
  unfold compactStart
  dsimp only
  split
  · simp
  · split
    · simp
    · refine ⟨?_, ?_, ?_, ?_, ?_, ?_, ?_, ?_, ?_, ?_, ?_, ?_, ?_, ?_, ?_, ?_, ?_, ?_, ?_, ?_, ?_, ?_, ?_, ?_, ?_, ?_⟩
      · refine (forEach_now _ _ (fun a u => ?_) _).trans (by first | rfl | simp)
        (repeat' split) <;> simp
      · refine (forEach_free _ _ (fun a u => ?_) _).trans (by first | rfl | simp)
        (repeat' split) <;> simp
      · refine (forEach_pending _ _ (fun a u => ?_) _).trans (by first | rfl | simp)
        (repeat' split) <;> simp
      · refine (forEach_regs _ _ (fun a u => ?_) _).trans (by first | rfl | simp)
        (repeat' split) <;> simp
      · refine (forEach_cmds _ _ (fun a u => ?_) _).trans (by first | rfl | simp)
        (repeat' split) <;> simp
      · refine (forEach_out _ _ (fun a u => ?_) _).trans (by first | rfl | simp)
        (repeat' split) <;> simp
      · refine (forEach_berths _ _ (fun a u => ?_) _).trans (by first | rfl | simp)
        (repeat' split) <;> simp
      · refine (forEach_ports _ _ (fun a u => ?_) _).trans (by first | rfl | simp)
        (repeat' split) <;> simp
      · refine (forEach_lock _ _ (fun a u => ?_) _).trans (by first | rfl | simp)
        (repeat' split) <;> simp
      · refine (forEach_weir _ _ (fun a u => ?_) _).trans (by first | rfl | simp)
        (repeat' split) <;> simp
      · refine (forEach_sluice _ _ (fun a u => ?_) _).trans (by first | rfl | simp)
        (repeat' split) <;> simp
      · refine (forEach_refloat _ _ (fun a u => ?_) _).trans (by first | rfl | simp)
        (repeat' split) <;> simp
      · refine (forEach_fmm _ _ (fun a u => ?_) _).trans (by first | rfl | simp)
        (repeat' split) <;> simp
      · refine (forEach_chart _ _ (fun a u => ?_) _).trans (by first | rfl | simp)
        (repeat' split) <;> simp
      · refine (forEach_gauge _ _ (fun a u => ?_) _).trans (by first | rfl | simp)
        (repeat' split) <;> simp
      · refine (forEach_fly _ _ (fun a u => ?_) _).trans (by first | rfl | simp)
        (repeat' split) <;> simp
      · refine (forEach_seq _ _ (fun a u => ?_) _).trans (by first | rfl | simp)
        (repeat' split) <;> simp
      · refine (forEach_log _ _ (fun a u => ?_) _).trans (by first | rfl | simp)
        (repeat' split) <;> simp
      · refine (forEach_tow _ _ (fun a u => ?_) _).trans (by first | rfl | simp)
        (repeat' split) <;> simp
      · refine (forEach_keep _ _ (fun a u => ?_) _).trans (by first | rfl | simp)
        (repeat' split) <;> simp
      · refine (forEach_cfg _ _ (fun a u => ?_) _).trans (by first | rfl | simp)
        (repeat' split) <;> simp
      · refine (forEach_pke _ _ (fun a u => ?_) _).trans (by first | rfl | simp)
        (repeat' split) <;> simp
      · refine (forEach_clk _ _ (fun a u => ?_) _).trans (by first | rfl | simp)
        (repeat' split) <;> simp
      · refine (forEach_mgmt _ _ (fun a u => ?_) _).trans (by first | rfl | simp)
        (repeat' split) <;> simp
      · refine (forEach_pins _ _ (fun a u => ?_) _).trans (by first | rfl | simp)
        (repeat' split) <;> simp
      · refine (forEach_enginesOut _ _ (fun a u => ?_) _).trans (by first | rfl | simp)
        (repeat' split) <;> simp

@[simp] theorem compactAll_frame (s : State) :
    (compactAll s).now = s.now ∧ (compactAll s).free = s.free ∧ (compactAll s).pending = s.pending ∧ (compactAll s).regs = s.regs ∧
    (compactAll s).cmds = s.cmds ∧ (compactAll s).out = s.out ∧ (compactAll s).berths = s.berths ∧ (compactAll s).ports = s.ports ∧
    (compactAll s).lock = s.lock ∧ (compactAll s).weir = s.weir ∧ (compactAll s).sluice = s.sluice ∧ (compactAll s).refloat = s.refloat ∧
    (compactAll s).fmm = s.fmm ∧ (compactAll s).chart = s.chart ∧ (compactAll s).gauge = s.gauge ∧ (compactAll s).fly = s.fly ∧
    (compactAll s).seq = s.seq ∧ (compactAll s).log = s.log ∧ (compactAll s).tow = s.tow ∧ (compactAll s).keep = s.keep ∧
    (compactAll s).cfg = s.cfg ∧ (compactAll s).pke = s.pke ∧ (compactAll s).clk = s.clk ∧ (compactAll s).mgmt = s.mgmt ∧
    (compactAll s).pins = s.pins ∧ (compactAll s).enginesOut = s.enginesOut := by
  unfold compactAll
  simp

@[simp] theorem fallNow_frame (s : State) :
    (fallNow s).now = s.now ∧ (fallNow s).free = s.free ∧ (fallNow s).pending = s.pending ∧ (fallNow s).regs = s.regs ∧
    (fallNow s).cmds = s.cmds ∧ (fallNow s).out = s.out ∧ (fallNow s).berths = s.berths ∧ (fallNow s).ports = s.ports ∧
    (fallNow s).lock = s.lock ∧ (fallNow s).sluice = s.sluice ∧ (fallNow s).refloat = s.refloat ∧ (fallNow s).drc = s.drc ∧
    (fallNow s).fmm = s.fmm ∧ (fallNow s).chart = s.chart ∧ (fallNow s).gauge = s.gauge ∧ (fallNow s).fly = s.fly ∧
    (fallNow s).seq = s.seq ∧ (fallNow s).log = s.log ∧ (fallNow s).tow = s.tow ∧ (fallNow s).keep = s.keep ∧ (fallNow s).cfg = s.cfg ∧
    (fallNow s).pke = s.pke ∧ (fallNow s).clk = s.clk ∧ (fallNow s).mgmt = s.mgmt ∧ (fallNow s).pins = s.pins ∧
    (fallNow s).enginesOut = s.enginesOut := by
  unfold fallNow
  simp

@[simp] theorem weirTerms_frame (s : State) :
    (weirTerms s).now = s.now ∧ (weirTerms s).free = s.free ∧ (weirTerms s).pending = s.pending ∧ (weirTerms s).regs = s.regs ∧
    (weirTerms s).cmds = s.cmds ∧ (weirTerms s).out = s.out ∧ (weirTerms s).berths = s.berths ∧ (weirTerms s).ports = s.ports ∧
    (weirTerms s).lock = s.lock ∧ (weirTerms s).sluice = s.sluice ∧ (weirTerms s).refloat = s.refloat ∧ (weirTerms s).drc = s.drc ∧
    (weirTerms s).fmm = s.fmm ∧ (weirTerms s).chart = s.chart ∧ (weirTerms s).gauge = s.gauge ∧ (weirTerms s).fly = s.fly ∧
    (weirTerms s).seq = s.seq ∧ (weirTerms s).log = s.log ∧ (weirTerms s).tow = s.tow ∧ (weirTerms s).keep = s.keep ∧
    (weirTerms s).cfg = s.cfg ∧ (weirTerms s).pke = s.pke ∧ (weirTerms s).clk = s.clk ∧ (weirTerms s).mgmt = s.mgmt ∧
    (weirTerms s).pins = s.pins ∧ (weirTerms s).enginesOut = s.enginesOut := by
  unfold weirTerms
  simp

@[simp] theorem recompute_frame (s : State) :
    (recompute s).now = s.now ∧ (recompute s).free = s.free ∧ (recompute s).pending = s.pending ∧ (recompute s).regs = s.regs ∧
    (recompute s).cmds = s.cmds ∧ (recompute s).out = s.out ∧ (recompute s).berths = s.berths ∧ (recompute s).ports = s.ports ∧
    (recompute s).lock = s.lock ∧ (recompute s).sluice = s.sluice ∧ (recompute s).refloat = s.refloat ∧ (recompute s).drc = s.drc ∧
    (recompute s).fmm = s.fmm ∧ (recompute s).chart = s.chart ∧ (recompute s).gauge = s.gauge ∧ (recompute s).fly = s.fly ∧
    (recompute s).seq = s.seq ∧ (recompute s).log = s.log ∧ (recompute s).tow = s.tow ∧ (recompute s).keep = s.keep ∧
    (recompute s).cfg = s.cfg ∧ (recompute s).pke = s.pke ∧ (recompute s).clk = s.clk ∧ (recompute s).mgmt = s.mgmt ∧
    (recompute s).pins = s.pins ∧ (recompute s).enginesOut = s.enginesOut := by
  unfold recompute
  simp

@[simp] theorem overtop_frame (s : State) :
    (overtop s).now = s.now ∧ (overtop s).free = s.free ∧ (overtop s).pending = s.pending ∧ (overtop s).refloat = s.refloat ∧
    (overtop s).pke = s.pke ∧ (overtop s).clk = s.clk ∧ (overtop s).enginesOut = s.enginesOut := by
  unfold overtop
  simp

@[simp] theorem weirTest_frame (s : State) :
    (weirTest s).now = s.now ∧ (weirTest s).free = s.free ∧ (weirTest s).pending = s.pending ∧ (weirTest s).refloat = s.refloat ∧
    (weirTest s).pke = s.pke ∧ (weirTest s).clk = s.clk ∧ (weirTest s).enginesOut = s.enginesOut := by
  unfold weirTest
  simp

@[simp] theorem rise_frame (s : State) :
    (rise s).now = s.now ∧ (rise s).free = s.free ∧ (rise s).pending = s.pending ∧ (rise s).regs = s.regs ∧ (rise s).cmds = s.cmds ∧
    (rise s).out = s.out ∧ (rise s).berths = s.berths ∧ (rise s).ports = s.ports ∧ (rise s).lock = s.lock ∧ (rise s).sluice = s.sluice ∧
    (rise s).refloat = s.refloat ∧ (rise s).drc = s.drc ∧ (rise s).fmm = s.fmm ∧ (rise s).chart = s.chart ∧ (rise s).gauge = s.gauge ∧
    (rise s).fly = s.fly ∧ (rise s).seq = s.seq ∧ (rise s).log = s.log ∧ (rise s).tow = s.tow ∧ (rise s).keep = s.keep ∧
    (rise s).cfg = s.cfg ∧ (rise s).pke = s.pke ∧ (rise s).clk = s.clk ∧ (rise s).mgmt = s.mgmt ∧ (rise s).pins = s.pins ∧
    (rise s).enginesOut = s.enginesOut := by
  unfold rise
  simp

@[simp] theorem portFlush_frame (p : Nat) (s : State) :
    (portFlush p s).now = s.now ∧ (portFlush p s).free = s.free ∧ (portFlush p s).pending = s.pending ∧ (portFlush p s).regs = s.regs ∧
    (portFlush p s).cmds = s.cmds ∧ (portFlush p s).berths = s.berths ∧ (portFlush p s).lock = s.lock ∧ (portFlush p s).weir = s.weir ∧
    (portFlush p s).sluice = s.sluice ∧ (portFlush p s).refloat = s.refloat ∧ (portFlush p s).drc = s.drc ∧ (portFlush p s).fmm = s.fmm ∧
    (portFlush p s).chart = s.chart ∧ (portFlush p s).gauge = s.gauge ∧ (portFlush p s).fly = s.fly ∧ (portFlush p s).seq = s.seq ∧
    (portFlush p s).log = s.log ∧ (portFlush p s).tow = s.tow ∧ (portFlush p s).keep = s.keep ∧ (portFlush p s).cfg = s.cfg ∧
    (portFlush p s).pke = s.pke ∧ (portFlush p s).clk = s.clk ∧ (portFlush p s).mgmt = s.mgmt ∧ (portFlush p s).pins = s.pins ∧
    (portFlush p s).enginesOut = s.enginesOut := by
  unfold portFlush
  simp

@[simp] theorem capTestBegin_frame (s : State) :
    (capTestBegin s).now = s.now ∧ (capTestBegin s).free = s.free ∧ (capTestBegin s).pending = s.pending ∧
    (capTestBegin s).regs = s.regs ∧ (capTestBegin s).cmds = s.cmds ∧ (capTestBegin s).out = s.out ∧ (capTestBegin s).berths = s.berths ∧
    (capTestBegin s).ports = s.ports ∧ (capTestBegin s).lock = s.lock ∧ (capTestBegin s).weir = s.weir ∧
    (capTestBegin s).sluice = s.sluice ∧ (capTestBegin s).refloat = s.refloat ∧ (capTestBegin s).drc = s.drc ∧
    (capTestBegin s).fmm = s.fmm ∧ (capTestBegin s).chart = s.chart ∧ (capTestBegin s).fly = s.fly ∧ (capTestBegin s).seq = s.seq ∧
    (capTestBegin s).log = s.log ∧ (capTestBegin s).tow = s.tow ∧ (capTestBegin s).keep = s.keep ∧ (capTestBegin s).cfg = s.cfg ∧
    (capTestBegin s).pke = s.pke ∧ (capTestBegin s).clk = s.clk ∧ (capTestBegin s).mgmt = s.mgmt ∧
    (capTestBegin s).enginesOut = s.enginesOut := by
  unfold capTestBegin
  simp

@[simp] theorem doCapTest_frame (s : State) :
    (doCapTest s).now = s.now ∧ (doCapTest s).free = s.free ∧ (doCapTest s).pending = s.pending ∧ (doCapTest s).berths = s.berths ∧
    (doCapTest s).ports = s.ports ∧ (doCapTest s).lock = s.lock ∧ (doCapTest s).weir = s.weir ∧ (doCapTest s).sluice = s.sluice ∧
    (doCapTest s).refloat = s.refloat ∧ (doCapTest s).drc = s.drc ∧ (doCapTest s).fmm = s.fmm ∧ (doCapTest s).chart = s.chart ∧
    (doCapTest s).fly = s.fly ∧ (doCapTest s).seq = s.seq ∧ (doCapTest s).log = s.log ∧ (doCapTest s).tow = s.tow ∧
    (doCapTest s).keep = s.keep ∧ (doCapTest s).cfg = s.cfg ∧ (doCapTest s).pke = s.pke ∧ (doCapTest s).clk = s.clk ∧
    (doCapTest s).enginesOut = s.enginesOut := by
  unfold doCapTest
  simp

@[simp] theorem doChartDisable_frame (s : State) :
    (doChartDisable s).now = s.now ∧ (doChartDisable s).free = s.free ∧ (doChartDisable s).pending = s.pending ∧
    (doChartDisable s).berths = s.berths ∧ (doChartDisable s).ports = s.ports ∧ (doChartDisable s).lock = s.lock ∧
    (doChartDisable s).weir = s.weir ∧ (doChartDisable s).sluice = s.sluice ∧ (doChartDisable s).refloat = s.refloat ∧
    (doChartDisable s).drc = s.drc ∧ (doChartDisable s).gauge = s.gauge ∧ (doChartDisable s).fly = s.fly ∧
    (doChartDisable s).seq = s.seq ∧ (doChartDisable s).log = s.log ∧ (doChartDisable s).tow = s.tow ∧ (doChartDisable s).keep = s.keep ∧
    (doChartDisable s).cfg = s.cfg ∧ (doChartDisable s).pke = s.pke ∧ (doChartDisable s).clk = s.clk ∧ (doChartDisable s).pins = s.pins ∧
    (doChartDisable s).enginesOut = s.enginesOut := by
  unfold doChartDisable
  simp

@[simp] theorem doChartEnable_frame (s : State) :
    (doChartEnable s).now = s.now ∧ (doChartEnable s).free = s.free ∧ (doChartEnable s).pending = s.pending ∧
    (doChartEnable s).berths = s.berths ∧ (doChartEnable s).ports = s.ports ∧ (doChartEnable s).lock = s.lock ∧
    (doChartEnable s).weir = s.weir ∧ (doChartEnable s).sluice = s.sluice ∧ (doChartEnable s).refloat = s.refloat ∧
    (doChartEnable s).drc = s.drc ∧ (doChartEnable s).fmm = s.fmm ∧ (doChartEnable s).gauge = s.gauge ∧ (doChartEnable s).fly = s.fly ∧
    (doChartEnable s).seq = s.seq ∧ (doChartEnable s).log = s.log ∧ (doChartEnable s).tow = s.tow ∧ (doChartEnable s).keep = s.keep ∧
    (doChartEnable s).cfg = s.cfg ∧ (doChartEnable s).pke = s.pke ∧ (doChartEnable s).clk = s.clk ∧ (doChartEnable s).pins = s.pins ∧
    (doChartEnable s).enginesOut = s.enginesOut := by
  unfold doChartEnable
  simp

@[simp] theorem chartPage_frame (cpn : Nat) (hit : Bool) (s : State) :
    (chartPage cpn hit s).now = s.now ∧ (chartPage cpn hit s).free = s.free ∧ (chartPage cpn hit s).pending = s.pending ∧
    (chartPage cpn hit s).cmds = s.cmds ∧ (chartPage cpn hit s).berths = s.berths ∧ (chartPage cpn hit s).ports = s.ports ∧
    (chartPage cpn hit s).lock = s.lock ∧ (chartPage cpn hit s).weir = s.weir ∧ (chartPage cpn hit s).sluice = s.sluice ∧
    (chartPage cpn hit s).refloat = s.refloat ∧ (chartPage cpn hit s).drc = s.drc ∧ (chartPage cpn hit s).gauge = s.gauge ∧
    (chartPage cpn hit s).fly = s.fly ∧ (chartPage cpn hit s).seq = s.seq ∧ (chartPage cpn hit s).log = s.log ∧
    (chartPage cpn hit s).tow = s.tow ∧ (chartPage cpn hit s).keep = s.keep ∧ (chartPage cpn hit s).cfg = s.cfg ∧
    (chartPage cpn hit s).pke = s.pke ∧ (chartPage cpn hit s).clk = s.clk ∧ (chartPage cpn hit s).mgmt = s.mgmt ∧
    (chartPage cpn hit s).pins = s.pins ∧ (chartPage cpn hit s).enginesOut = s.enginesOut := by
  unfold chartPage
  simp

@[simp] theorem chartWrites_frame (keep : List Nat) (s : State) :
    (chartWrites keep s).now = s.now ∧ (chartWrites keep s).free = s.free ∧ (chartWrites keep s).pending = s.pending ∧
    (chartWrites keep s).regs = s.regs ∧ (chartWrites keep s).cmds = s.cmds ∧ (chartWrites keep s).berths = s.berths ∧
    (chartWrites keep s).ports = s.ports ∧ (chartWrites keep s).lock = s.lock ∧ (chartWrites keep s).weir = s.weir ∧
    (chartWrites keep s).sluice = s.sluice ∧ (chartWrites keep s).refloat = s.refloat ∧ (chartWrites keep s).drc = s.drc ∧
    (chartWrites keep s).gauge = s.gauge ∧ (chartWrites keep s).fly = s.fly ∧ (chartWrites keep s).seq = s.seq ∧
    (chartWrites keep s).log = s.log ∧ (chartWrites keep s).tow = s.tow ∧ (chartWrites keep s).keep = s.keep ∧
    (chartWrites keep s).cfg = s.cfg ∧ (chartWrites keep s).pke = s.pke ∧ (chartWrites keep s).clk = s.clk ∧
    (chartWrites keep s).mgmt = s.mgmt ∧ (chartWrites keep s).pins = s.pins ∧ (chartWrites keep s).enginesOut = s.enginesOut := by
  unfold chartWrites
  simp

@[simp] theorem downTurn_frame (s : State) :
    (downTurn s).now = s.now ∧ (downTurn s).free = s.free ∧ (downTurn s).pending = s.pending ∧ (downTurn s).sluice = s.sluice ∧
    (downTurn s).fly = s.fly ∧ (downTurn s).log = s.log ∧ (downTurn s).tow = s.tow ∧ (downTurn s).pins = s.pins := by
  unfold downTurn
  (repeat' split) <;> simp

@[simp] theorem setStep_frame (r : Run) (step : Nat) (w : PWait) (s : State) :
    (setStep r step w s).now = s.now ∧ (setStep r step w s).free = s.free ∧ (setStep r step w s).pending = s.pending ∧
    (setStep r step w s).regs = s.regs ∧ (setStep r step w s).cmds = s.cmds ∧ (setStep r step w s).out = s.out ∧
    (setStep r step w s).berths = s.berths ∧ (setStep r step w s).ports = s.ports ∧ (setStep r step w s).lock = s.lock ∧
    (setStep r step w s).weir = s.weir ∧ (setStep r step w s).sluice = s.sluice ∧ (setStep r step w s).refloat = s.refloat ∧
    (setStep r step w s).drc = s.drc ∧ (setStep r step w s).fmm = s.fmm ∧ (setStep r step w s).chart = s.chart ∧
    (setStep r step w s).gauge = s.gauge ∧ (setStep r step w s).fly = s.fly ∧ (setStep r step w s).log = s.log ∧
    (setStep r step w s).tow = s.tow ∧ (setStep r step w s).keep = s.keep ∧ (setStep r step w s).cfg = s.cfg ∧
    (setStep r step w s).pke = s.pke ∧ (setStep r step w s).clk = s.clk ∧ (setStep r step w s).mgmt = s.mgmt ∧
    (setStep r step w s).pins = s.pins ∧ (setStep r step w s).enginesOut = s.enginesOut := by
  unfold setStep
  simp

@[simp] theorem resumeWait_frame (s : State) :
    (resumeWait s).now = s.now ∧ (resumeWait s).free = s.free ∧ (resumeWait s).pending = s.pending ∧ (resumeWait s).sluice = s.sluice ∧
    (resumeWait s).fly = s.fly ∧ (resumeWait s).log = s.log ∧ (resumeWait s).tow = s.tow ∧ (resumeWait s).pins = s.pins := by
  unfold resumeWait
  (repeat' split) <;> simp

@[simp] theorem countChunk_frame (spill : Nat) (s : State) :
    (countChunk spill s).now = s.now ∧ (countChunk spill s).free = s.free ∧ (countChunk spill s).pending = s.pending ∧
    (countChunk spill s).regs = s.regs ∧ (countChunk spill s).cmds = s.cmds ∧ (countChunk spill s).out = s.out ∧
    (countChunk spill s).berths = s.berths ∧ (countChunk spill s).ports = s.ports ∧ (countChunk spill s).lock = s.lock ∧
    (countChunk spill s).weir = s.weir ∧ (countChunk spill s).sluice = s.sluice ∧ (countChunk spill s).refloat = s.refloat ∧
    (countChunk spill s).drc = s.drc ∧ (countChunk spill s).chart = s.chart ∧ (countChunk spill s).gauge = s.gauge ∧
    (countChunk spill s).fly = s.fly ∧ (countChunk spill s).seq = s.seq ∧ (countChunk spill s).log = s.log ∧
    (countChunk spill s).tow = s.tow ∧ (countChunk spill s).keep = s.keep ∧ (countChunk spill s).cfg = s.cfg ∧
    (countChunk spill s).pke = s.pke ∧ (countChunk spill s).clk = s.clk ∧ (countChunk spill s).mgmt = s.mgmt ∧
    (countChunk spill s).pins = s.pins ∧ (countChunk spill s).enginesOut = s.enginesOut := by
  unfold countChunk
  simp

@[simp] theorem persist_frame (g : Nat) (r : Row) (s : State) :
    (persist g r s).now = s.now ∧ (persist g r s).free = s.free ∧ (persist g r s).pending = s.pending ∧ (persist g r s).regs = s.regs ∧
    (persist g r s).cmds = s.cmds ∧ (persist g r s).ports = s.ports ∧ (persist g r s).lock = s.lock ∧ (persist g r s).weir = s.weir ∧
    (persist g r s).sluice = s.sluice ∧ (persist g r s).refloat = s.refloat ∧ (persist g r s).drc = s.drc ∧
    (persist g r s).gauge = s.gauge ∧ (persist g r s).fly = s.fly ∧ (persist g r s).seq = s.seq ∧ (persist g r s).log = s.log ∧
    (persist g r s).tow = s.tow ∧ (persist g r s).keep = s.keep ∧ (persist g r s).cfg = s.cfg ∧ (persist g r s).pke = s.pke ∧
    (persist g r s).clk = s.clk ∧ (persist g r s).mgmt = s.mgmt ∧ (persist g r s).pins = s.pins ∧
    (persist g r s).enginesOut = s.enginesOut := by
  unfold persist
  try dsimp only
  refine ⟨?_, ?_, ?_, ?_, ?_, ?_, ?_, ?_, ?_, ?_, ?_, ?_, ?_, ?_, ?_, ?_, ?_, ?_, ?_, ?_, ?_, ?_, ?_⟩
  · refine (forEach_now _ _ (fun a u => ?_) _).trans (by first | rfl | simp)
    (repeat' split) <;> simp
  · refine (forEach_free _ _ (fun a u => ?_) _).trans (by first | rfl | simp)
    (repeat' split) <;> simp
  · refine (forEach_pending _ _ (fun a u => ?_) _).trans (by first | rfl | simp)
    (repeat' split) <;> simp
  · refine (forEach_regs _ _ (fun a u => ?_) _).trans (by first | rfl | simp)
    (repeat' split) <;> simp
  · refine (forEach_cmds _ _ (fun a u => ?_) _).trans (by first | rfl | simp)
    (repeat' split) <;> simp
  · refine (forEach_ports _ _ (fun a u => ?_) _).trans (by first | rfl | simp)
    (repeat' split) <;> simp
  · refine (forEach_lock _ _ (fun a u => ?_) _).trans (by first | rfl | simp)
    (repeat' split) <;> simp
  · refine (forEach_weir _ _ (fun a u => ?_) _).trans (by first | rfl | simp)
    (repeat' split) <;> simp
  · refine (forEach_sluice _ _ (fun a u => ?_) _).trans (by first | rfl | simp)
    (repeat' split) <;> simp
  · refine (forEach_refloat _ _ (fun a u => ?_) _).trans (by first | rfl | simp)
    (repeat' split) <;> simp
  · refine (forEach_drc _ _ (fun a u => ?_) _).trans (by first | rfl | simp)
    (repeat' split) <;> simp
  · refine (forEach_gauge _ _ (fun a u => ?_) _).trans (by first | rfl | simp)
    (repeat' split) <;> simp
  · refine (forEach_fly _ _ (fun a u => ?_) _).trans (by first | rfl | simp)
    (repeat' split) <;> simp
  · refine (forEach_seq _ _ (fun a u => ?_) _).trans (by first | rfl | simp)
    (repeat' split) <;> simp
  · refine (forEach_log _ _ (fun a u => ?_) _).trans (by first | rfl | simp)
    (repeat' split) <;> simp
  · refine (forEach_tow _ _ (fun a u => ?_) _).trans (by first | rfl | simp)
    (repeat' split) <;> simp
  · refine (forEach_keep _ _ (fun a u => ?_) _).trans (by first | rfl | simp)
    (repeat' split) <;> simp
  · refine (forEach_cfg _ _ (fun a u => ?_) _).trans (by first | rfl | simp)
    (repeat' split) <;> simp
  · refine (forEach_pke _ _ (fun a u => ?_) _).trans (by first | rfl | simp)
    (repeat' split) <;> simp
  · refine (forEach_clk _ _ (fun a u => ?_) _).trans (by first | rfl | simp)
    (repeat' split) <;> simp
  · refine (forEach_mgmt _ _ (fun a u => ?_) _).trans (by first | rfl | simp)
    (repeat' split) <;> simp
  · refine (forEach_pins _ _ (fun a u => ?_) _).trans (by first | rfl | simp)
    (repeat' split) <;> simp
  · refine (forEach_enginesOut _ _ (fun a u => ?_) _).trans (by first | rfl | simp)
    (repeat' split) <;> simp

@[simp] theorem rowDone_frame (k : Nat) (s : State) :
    (rowDone k s).now = s.now ∧ (rowDone k s).free = s.free ∧ (rowDone k s).pending = s.pending ∧ (rowDone k s).cmds = s.cmds ∧
    (rowDone k s).berths = s.berths ∧ (rowDone k s).ports = s.ports ∧ (rowDone k s).lock = s.lock ∧ (rowDone k s).weir = s.weir ∧
    (rowDone k s).sluice = s.sluice ∧ (rowDone k s).refloat = s.refloat ∧ (rowDone k s).drc = s.drc ∧ (rowDone k s).chart = s.chart ∧
    (rowDone k s).gauge = s.gauge ∧ (rowDone k s).fly = s.fly ∧ (rowDone k s).seq = s.seq ∧ (rowDone k s).log = s.log ∧
    (rowDone k s).tow = s.tow ∧ (rowDone k s).cfg = s.cfg ∧ (rowDone k s).pke = s.pke ∧ (rowDone k s).clk = s.clk ∧
    (rowDone k s).mgmt = s.mgmt ∧ (rowDone k s).pins = s.pins ∧ (rowDone k s).enginesOut = s.enginesOut := by
  unfold rowDone
  simp

@[simp] theorem cleanPages_frame (g : Nat) (r : Row) (s : State) :
    (cleanPages g r s).now = s.now ∧ (cleanPages g r s).free = s.free ∧ (cleanPages g r s).pending = s.pending ∧
    (cleanPages g r s).regs = s.regs ∧ (cleanPages g r s).cmds = s.cmds ∧ (cleanPages g r s).out = s.out ∧
    (cleanPages g r s).berths = s.berths ∧ (cleanPages g r s).ports = s.ports ∧ (cleanPages g r s).lock = s.lock ∧
    (cleanPages g r s).weir = s.weir ∧ (cleanPages g r s).sluice = s.sluice ∧ (cleanPages g r s).refloat = s.refloat ∧
    (cleanPages g r s).drc = s.drc ∧ (cleanPages g r s).chart = s.chart ∧ (cleanPages g r s).gauge = s.gauge ∧
    (cleanPages g r s).fly = s.fly ∧ (cleanPages g r s).seq = s.seq ∧ (cleanPages g r s).log = s.log ∧ (cleanPages g r s).tow = s.tow ∧
    (cleanPages g r s).keep = s.keep ∧ (cleanPages g r s).cfg = s.cfg ∧ (cleanPages g r s).pke = s.pke ∧ (cleanPages g r s).clk = s.clk ∧
    (cleanPages g r s).mgmt = s.mgmt ∧ (cleanPages g r s).pins = s.pins ∧ (cleanPages g r s).enginesOut = s.enginesOut := by
  unfold cleanPages
  simp

@[simp] theorem parityTurn_frame (k : Nat) (row : Nat) (s : State) :
    (parityTurn k row s).now = s.now ∧ (parityTurn k row s).free = s.free ∧ (parityTurn k row s).pending = s.pending ∧
    (parityTurn k row s).regs = s.regs ∧ (parityTurn k row s).cmds = s.cmds ∧ (parityTurn k row s).berths = s.berths ∧
    (parityTurn k row s).ports = s.ports ∧ (parityTurn k row s).lock = s.lock ∧ (parityTurn k row s).weir = s.weir ∧
    (parityTurn k row s).sluice = s.sluice ∧ (parityTurn k row s).refloat = s.refloat ∧ (parityTurn k row s).drc = s.drc ∧
    (parityTurn k row s).fmm = s.fmm ∧ (parityTurn k row s).chart = s.chart ∧ (parityTurn k row s).gauge = s.gauge ∧
    (parityTurn k row s).fly = s.fly ∧ (parityTurn k row s).seq = s.seq ∧ (parityTurn k row s).log = s.log ∧
    (parityTurn k row s).tow = s.tow ∧ (parityTurn k row s).keep = s.keep ∧ (parityTurn k row s).cfg = s.cfg ∧
    (parityTurn k row s).pke = s.pke ∧ (parityTurn k row s).clk = s.clk ∧ (parityTurn k row s).mgmt = s.mgmt ∧
    (parityTurn k row s).pins = s.pins ∧ (parityTurn k row s).enginesOut = s.enginesOut := by
  unfold parityTurn
  simp

@[simp] theorem rowWritten_frame (k : Nat) (row : Nat) (s : State) :
    (rowWritten k row s).now = s.now ∧ (rowWritten k row s).free = s.free ∧ (rowWritten k row s).pending = s.pending ∧
    (rowWritten k row s).regs = s.regs ∧ (rowWritten k row s).cmds = s.cmds ∧ (rowWritten k row s).berths = s.berths ∧
    (rowWritten k row s).ports = s.ports ∧ (rowWritten k row s).lock = s.lock ∧ (rowWritten k row s).weir = s.weir ∧
    (rowWritten k row s).sluice = s.sluice ∧ (rowWritten k row s).refloat = s.refloat ∧ (rowWritten k row s).drc = s.drc ∧
    (rowWritten k row s).gauge = s.gauge ∧ (rowWritten k row s).fly = s.fly ∧ (rowWritten k row s).seq = s.seq ∧
    (rowWritten k row s).log = s.log ∧ (rowWritten k row s).tow = s.tow ∧ (rowWritten k row s).keep = s.keep ∧
    (rowWritten k row s).cfg = s.cfg ∧ (rowWritten k row s).pke = s.pke ∧ (rowWritten k row s).clk = s.clk ∧
    (rowWritten k row s).mgmt = s.mgmt ∧ (rowWritten k row s).pins = s.pins ∧ (rowWritten k row s).enginesOut = s.enginesOut := by
  unfold rowWritten
  simp

@[simp] theorem chunkDone_frame (k : Nat) (j : Nat) (row : Nat) (s : State) :
    (chunkDone k j row s).now = s.now ∧ (chunkDone k j row s).free = s.free ∧ (chunkDone k j row s).pending = s.pending ∧
    (chunkDone k j row s).cmds = s.cmds ∧ (chunkDone k j row s).ports = s.ports ∧ (chunkDone k j row s).lock = s.lock ∧
    (chunkDone k j row s).weir = s.weir ∧ (chunkDone k j row s).refloat = s.refloat ∧ (chunkDone k j row s).gauge = s.gauge ∧
    (chunkDone k j row s).fly = s.fly ∧ (chunkDone k j row s).seq = s.seq ∧ (chunkDone k j row s).log = s.log ∧
    (chunkDone k j row s).tow = s.tow ∧ (chunkDone k j row s).cfg = s.cfg ∧ (chunkDone k j row s).pke = s.pke ∧
    (chunkDone k j row s).clk = s.clk ∧ (chunkDone k j row s).mgmt = s.mgmt ∧ (chunkDone k j row s).pins = s.pins ∧
    (chunkDone k j row s).enginesOut = s.enginesOut := by
  unfold chunkDone
  simp

@[simp] theorem doClear_frame (s : State) :
    (doClear s).now = s.now ∧ (doClear s).free = s.free ∧ (doClear s).pending = s.pending ∧ (doClear s).berths = s.berths ∧
    (doClear s).ports = s.ports ∧ (doClear s).lock = s.lock ∧ (doClear s).weir = s.weir ∧ (doClear s).sluice = s.sluice ∧
    (doClear s).refloat = s.refloat ∧ (doClear s).drc = s.drc ∧ (doClear s).fmm = s.fmm ∧ (doClear s).chart = s.chart ∧
    (doClear s).gauge = s.gauge ∧ (doClear s).fly = s.fly ∧ (doClear s).tow = s.tow ∧ (doClear s).keep = s.keep ∧
    (doClear s).cfg = s.cfg ∧ (doClear s).pke = s.pke ∧ (doClear s).clk = s.clk ∧ (doClear s).pins = s.pins ∧
    (doClear s).enginesOut = s.enginesOut := by
  unfold doClear
  simp

@[simp] theorem pagesOut_frame (st : Sys2Proof.Stream) (k : Nat) (s : State) :
    (pagesOut st k s).now = s.now ∧ (pagesOut st k s).free = s.free ∧ (pagesOut st k s).pending = s.pending ∧
    (pagesOut st k s).cmds = s.cmds ∧ (pagesOut st k s).berths = s.berths ∧ (pagesOut st k s).ports = s.ports ∧
    (pagesOut st k s).lock = s.lock ∧ (pagesOut st k s).weir = s.weir ∧ (pagesOut st k s).sluice = s.sluice ∧
    (pagesOut st k s).refloat = s.refloat ∧ (pagesOut st k s).drc = s.drc ∧ (pagesOut st k s).chart = s.chart ∧
    (pagesOut st k s).gauge = s.gauge ∧ (pagesOut st k s).fly = s.fly ∧ (pagesOut st k s).seq = s.seq ∧ (pagesOut st k s).log = s.log ∧
    (pagesOut st k s).tow = s.tow ∧ (pagesOut st k s).cfg = s.cfg ∧ (pagesOut st k s).pke = s.pke ∧ (pagesOut st k s).clk = s.clk ∧
    (pagesOut st k s).mgmt = s.mgmt ∧ (pagesOut st k s).pins = s.pins ∧ (pagesOut st k s).enginesOut = s.enginesOut := by
  unfold pagesOut
  simp

@[simp] theorem takeUp_frame (key : Nat) (k : Nat) (wear : Bool) (s : State) :
    (takeUp key k wear s).now = s.now ∧ (takeUp key k wear s).free = s.free ∧ (takeUp key k wear s).pending = s.pending ∧
    (takeUp key k wear s).cmds = s.cmds ∧ (takeUp key k wear s).berths = s.berths ∧ (takeUp key k wear s).ports = s.ports ∧
    (takeUp key k wear s).lock = s.lock ∧ (takeUp key k wear s).weir = s.weir ∧ (takeUp key k wear s).sluice = s.sluice ∧
    (takeUp key k wear s).refloat = s.refloat ∧ (takeUp key k wear s).drc = s.drc ∧ (takeUp key k wear s).chart = s.chart ∧
    (takeUp key k wear s).gauge = s.gauge ∧ (takeUp key k wear s).fly = s.fly ∧ (takeUp key k wear s).seq = s.seq ∧
    (takeUp key k wear s).log = s.log ∧ (takeUp key k wear s).tow = s.tow ∧ (takeUp key k wear s).cfg = s.cfg ∧
    (takeUp key k wear s).pke = s.pke ∧ (takeUp key k wear s).clk = s.clk ∧ (takeUp key k wear s).mgmt = s.mgmt ∧
    (takeUp key k wear s).pins = s.pins ∧ (takeUp key k wear s).enginesOut = s.enginesOut := by
  unfold takeUp
  simp

@[simp] theorem beginMove_frame (q : Nat) (victim : Option Nat) (wear : Bool) (s : State) :
    (beginMove q victim wear s).now = s.now ∧ (beginMove q victim wear s).free = s.free ∧
    (beginMove q victim wear s).pending = s.pending ∧ (beginMove q victim wear s).cmds = s.cmds ∧
    (beginMove q victim wear s).berths = s.berths ∧ (beginMove q victim wear s).ports = s.ports ∧
    (beginMove q victim wear s).lock = s.lock ∧ (beginMove q victim wear s).weir = s.weir ∧
    (beginMove q victim wear s).sluice = s.sluice ∧ (beginMove q victim wear s).refloat = s.refloat ∧
    (beginMove q victim wear s).drc = s.drc ∧ (beginMove q victim wear s).chart = s.chart ∧ (beginMove q victim wear s).gauge = s.gauge ∧
    (beginMove q victim wear s).fly = s.fly ∧ (beginMove q victim wear s).seq = s.seq ∧ (beginMove q victim wear s).log = s.log ∧
    (beginMove q victim wear s).tow = s.tow ∧ (beginMove q victim wear s).cfg = s.cfg ∧ (beginMove q victim wear s).pke = s.pke ∧
    (beginMove q victim wear s).clk = s.clk ∧ (beginMove q victim wear s).mgmt = s.mgmt ∧ (beginMove q victim wear s).pins = s.pins ∧
    (beginMove q victim wear s).enginesOut = s.enginesOut := by
  unfold beginMove
  dsimp only
  (repeat' split) <;> simp

@[simp] theorem switchPlace_frame (m : Move) (s : State) :
    (switchPlace m s).now = s.now ∧ (switchPlace m s).free = s.free ∧ (switchPlace m s).pending = s.pending ∧
    (switchPlace m s).regs = s.regs ∧ (switchPlace m s).cmds = s.cmds ∧ (switchPlace m s).out = s.out ∧
    (switchPlace m s).ports = s.ports ∧ (switchPlace m s).lock = s.lock ∧ (switchPlace m s).weir = s.weir ∧
    (switchPlace m s).sluice = s.sluice ∧ (switchPlace m s).refloat = s.refloat ∧ (switchPlace m s).fmm = s.fmm ∧
    (switchPlace m s).chart = s.chart ∧ (switchPlace m s).gauge = s.gauge ∧ (switchPlace m s).fly = s.fly ∧
    (switchPlace m s).seq = s.seq ∧ (switchPlace m s).log = s.log ∧ (switchPlace m s).tow = s.tow ∧ (switchPlace m s).keep = s.keep ∧
    (switchPlace m s).cfg = s.cfg ∧ (switchPlace m s).pke = s.pke ∧ (switchPlace m s).clk = s.clk ∧ (switchPlace m s).mgmt = s.mgmt ∧
    (switchPlace m s).pins = s.pins ∧ (switchPlace m s).enginesOut = s.enginesOut := by
  unfold switchPlace
  simp

@[simp] theorem railUp_frame (r : Nat) (s : State) :
    (railUp r s).now = s.now ∧ (railUp r s).free = s.free ∧ (railUp r s).pending = s.pending ∧ (railUp r s).regs = s.regs ∧
    (railUp r s).cmds = s.cmds ∧ (railUp r s).out = s.out ∧ (railUp r s).berths = s.berths ∧ (railUp r s).ports = s.ports ∧
    (railUp r s).lock = s.lock ∧ (railUp r s).weir = s.weir ∧ (railUp r s).sluice = s.sluice ∧ (railUp r s).refloat = s.refloat ∧
    (railUp r s).drc = s.drc ∧ (railUp r s).fmm = s.fmm ∧ (railUp r s).chart = s.chart ∧ (railUp r s).gauge = s.gauge ∧
    (railUp r s).fly = s.fly ∧ (railUp r s).log = s.log ∧ (railUp r s).tow = s.tow ∧ (railUp r s).keep = s.keep ∧
    (railUp r s).cfg = s.cfg ∧ (railUp r s).pke = s.pke ∧ (railUp r s).clk = s.clk ∧ (railUp r s).mgmt = s.mgmt ∧
    (railUp r s).pins = s.pins ∧ (railUp r s).enginesOut = s.enginesOut := by
  unfold railUp
  simp

@[simp] theorem releaseEffectOf_frame (func : Nat) (index : Nat) (s : State) :
    (releaseEffectOf func index s).now = s.now ∧ (releaseEffectOf func index s).free = s.free ∧
    (releaseEffectOf func index s).pending = s.pending ∧ (releaseEffectOf func index s).regs = s.regs ∧
    (releaseEffectOf func index s).cmds = s.cmds ∧ (releaseEffectOf func index s).out = s.out ∧
    (releaseEffectOf func index s).berths = s.berths ∧ (releaseEffectOf func index s).ports = s.ports ∧
    (releaseEffectOf func index s).lock = s.lock ∧ (releaseEffectOf func index s).sluice = s.sluice ∧
    (releaseEffectOf func index s).refloat = s.refloat ∧ (releaseEffectOf func index s).drc = s.drc ∧
    (releaseEffectOf func index s).fmm = s.fmm ∧ (releaseEffectOf func index s).chart = s.chart ∧
    (releaseEffectOf func index s).gauge = s.gauge ∧ (releaseEffectOf func index s).fly = s.fly ∧
    (releaseEffectOf func index s).log = s.log ∧ (releaseEffectOf func index s).tow = s.tow ∧
    (releaseEffectOf func index s).keep = s.keep ∧ (releaseEffectOf func index s).cfg = s.cfg ∧
    (releaseEffectOf func index s).pke = s.pke ∧ (releaseEffectOf func index s).clk = s.clk ∧
    (releaseEffectOf func index s).mgmt = s.mgmt ∧ (releaseEffectOf func index s).pins = s.pins ∧
    (releaseEffectOf func index s).enginesOut = s.enginesOut := by
  unfold releaseEffectOf
  dsimp only
  (repeat' split) <;> simp

@[simp] theorem setCmp_frame (c : Cmp) (on : Bool) (s : State) :
    (setCmp c on s).now = s.now ∧ (setCmp c on s).free = s.free ∧ (setCmp c on s).pending = s.pending ∧ (setCmp c on s).regs = s.regs ∧
    (setCmp c on s).cmds = s.cmds ∧ (setCmp c on s).out = s.out ∧ (setCmp c on s).berths = s.berths ∧ (setCmp c on s).ports = s.ports ∧
    (setCmp c on s).lock = s.lock ∧ (setCmp c on s).weir = s.weir ∧ (setCmp c on s).sluice = s.sluice ∧
    (setCmp c on s).refloat = s.refloat ∧ (setCmp c on s).drc = s.drc ∧ (setCmp c on s).fmm = s.fmm ∧ (setCmp c on s).chart = s.chart ∧
    (setCmp c on s).gauge = s.gauge ∧ (setCmp c on s).fly = s.fly ∧ (setCmp c on s).seq = s.seq ∧ (setCmp c on s).log = s.log ∧
    (setCmp c on s).tow = s.tow ∧ (setCmp c on s).cfg = s.cfg ∧ (setCmp c on s).pke = s.pke ∧ (setCmp c on s).clk = s.clk ∧
    (setCmp c on s).mgmt = s.mgmt ∧ (setCmp c on s).pins = s.pins ∧ (setCmp c on s).enginesOut = s.enginesOut ∧
    (setCmp c on s).keep.reports = s.keep.reports := by
  unfold setCmp
  dsimp only
  (repeat' split) <;> simp

@[simp] theorem moduleGone_frame (i : Nat) (s : State) :
    (moduleGone i s).now = s.now ∧ (moduleGone i s).free = s.free ∧ (moduleGone i s).pending = s.pending ∧
    (moduleGone i s).berths = s.berths ∧ (moduleGone i s).ports = s.ports ∧ (moduleGone i s).lock = s.lock ∧
    (moduleGone i s).weir = s.weir ∧ (moduleGone i s).sluice = s.sluice ∧ (moduleGone i s).refloat = s.refloat ∧
    (moduleGone i s).drc = s.drc ∧ (moduleGone i s).fmm = s.fmm ∧ (moduleGone i s).chart = s.chart ∧ (moduleGone i s).fly = s.fly ∧
    (moduleGone i s).seq = s.seq ∧ (moduleGone i s).tow = s.tow ∧ (moduleGone i s).keep = s.keep ∧ (moduleGone i s).cfg = s.cfg ∧
    (moduleGone i s).pke = s.pke ∧ (moduleGone i s).clk = s.clk ∧ (moduleGone i s).pins = s.pins ∧
    (moduleGone i s).enginesOut = s.enginesOut := by
  unfold moduleGone
  simp

@[simp] theorem firstFail_frame (code : Nat) (kind : Nat) (s : State) :
    (firstFail code kind s).now = s.now ∧ (firstFail code kind s).free = s.free ∧ (firstFail code kind s).pending = s.pending ∧
    (firstFail code kind s).regs = s.regs ∧ (firstFail code kind s).cmds = s.cmds ∧ (firstFail code kind s).out = s.out ∧
    (firstFail code kind s).berths = s.berths ∧ (firstFail code kind s).ports = s.ports ∧ (firstFail code kind s).lock = s.lock ∧
    (firstFail code kind s).weir = s.weir ∧ (firstFail code kind s).sluice = s.sluice ∧ (firstFail code kind s).refloat = s.refloat ∧
    (firstFail code kind s).drc = s.drc ∧ (firstFail code kind s).fmm = s.fmm ∧ (firstFail code kind s).chart = s.chart ∧
    (firstFail code kind s).gauge = s.gauge ∧ (firstFail code kind s).fly = s.fly ∧ (firstFail code kind s).log = s.log ∧
    (firstFail code kind s).tow = s.tow ∧ (firstFail code kind s).keep = s.keep ∧ (firstFail code kind s).cfg = s.cfg ∧
    (firstFail code kind s).pke = s.pke ∧ (firstFail code kind s).clk = s.clk ∧ (firstFail code kind s).mgmt = s.mgmt ∧
    (firstFail code kind s).pins = s.pins ∧ (firstFail code kind s).enginesOut = s.enginesOut := by
  unfold firstFail
  simp

@[simp] theorem runningFault_frame (r : Nat) (s : State) :
    (runningFault r s).now = s.now ∧ (runningFault r s).free = s.free ∧ (runningFault r s).pending = s.pending ∧
    (runningFault r s).cmds = s.cmds ∧ (runningFault r s).berths = s.berths ∧ (runningFault r s).ports = s.ports ∧
    (runningFault r s).lock = s.lock ∧ (runningFault r s).weir = s.weir ∧ (runningFault r s).sluice = s.sluice ∧
    (runningFault r s).refloat = s.refloat ∧ (runningFault r s).drc = s.drc ∧ (runningFault r s).fmm = s.fmm ∧
    (runningFault r s).chart = s.chart ∧ (runningFault r s).gauge = s.gauge ∧ (runningFault r s).fly = s.fly ∧
    (runningFault r s).tow = s.tow ∧ (runningFault r s).cfg = s.cfg ∧ (runningFault r s).pke = s.pke ∧ (runningFault r s).clk = s.clk ∧
    (runningFault r s).pins = s.pins ∧ (runningFault r s).enginesOut = s.enginesOut := by
  unfold runningFault
  simp

@[simp] theorem railDown_frame (r : Nat) (s : State) :
    (railDown r s).now = s.now ∧ (railDown r s).free = s.free ∧ (railDown r s).pending = s.pending ∧ (railDown r s).cmds = s.cmds ∧
    (railDown r s).berths = s.berths ∧ (railDown r s).ports = s.ports ∧ (railDown r s).lock = s.lock ∧ (railDown r s).weir = s.weir ∧
    (railDown r s).sluice = s.sluice ∧ (railDown r s).refloat = s.refloat ∧ (railDown r s).drc = s.drc ∧ (railDown r s).fmm = s.fmm ∧
    (railDown r s).chart = s.chart ∧ (railDown r s).gauge = s.gauge ∧ (railDown r s).fly = s.fly ∧ (railDown r s).tow = s.tow ∧
    (railDown r s).cfg = s.cfg ∧ (railDown r s).pke = s.pke ∧ (railDown r s).clk = s.clk ∧ (railDown r s).pins = s.pins ∧
    (railDown r s).enginesOut = s.enginesOut := by
  unfold railDown
  simp

@[simp] theorem tripTerm_frame (f : Weir → Weir) (s : State) :
    (tripTerm f s).now = s.now ∧ (tripTerm f s).free = s.free ∧ (tripTerm f s).pending = s.pending ∧ (tripTerm f s).refloat = s.refloat ∧
    (tripTerm f s).pke = s.pke ∧ (tripTerm f s).clk = s.clk ∧ (tripTerm f s).enginesOut = s.enginesOut := by
  unfold tripTerm
  simp

@[simp] theorem tripEffect_frame (func : Nat) (index : Nat) (src : Nat) (k : Nat) (s : State) :
    (tripEffect func index src k s).now = s.now ∧ (tripEffect func index src k s).free = s.free ∧
    (tripEffect func index src k s).pending = s.pending ∧ (tripEffect func index src k s).refloat = s.refloat ∧
    (tripEffect func index src k s).pke = s.pke ∧ (tripEffect func index src k s).clk = s.clk ∧
    (tripEffect func index src k s).enginesOut = s.enginesOut := by
  unfold tripEffect
  dsimp only
  (repeat' split) <;> simp

@[simp] theorem imageLog_frame (detail : Nat) (data : List Word) (s : State) :
    (imageLog detail data s).now = s.now ∧ (imageLog detail data s).free = s.free ∧ (imageLog detail data s).pending = s.pending ∧
    (imageLog detail data s).cmds = s.cmds ∧ (imageLog detail data s).berths = s.berths ∧ (imageLog detail data s).ports = s.ports ∧
    (imageLog detail data s).lock = s.lock ∧ (imageLog detail data s).weir = s.weir ∧ (imageLog detail data s).sluice = s.sluice ∧
    (imageLog detail data s).refloat = s.refloat ∧ (imageLog detail data s).drc = s.drc ∧ (imageLog detail data s).fmm = s.fmm ∧
    (imageLog detail data s).chart = s.chart ∧ (imageLog detail data s).gauge = s.gauge ∧ (imageLog detail data s).fly = s.fly ∧
    (imageLog detail data s).seq = s.seq ∧ (imageLog detail data s).tow = s.tow ∧ (imageLog detail data s).keep = s.keep ∧
    (imageLog detail data s).cfg = s.cfg ∧ (imageLog detail data s).pke = s.pke ∧ (imageLog detail data s).clk = s.clk ∧
    (imageLog detail data s).pins = s.pins ∧ (imageLog detail data s).enginesOut = s.enginesOut := by
  unfold imageLog
  simp

@[simp] theorem testFails_frame (s : State) :
    (testFails s).now = s.now ∧ (testFails s).free = s.free ∧ (testFails s).pending = s.pending := by
  unfold testFails
  simp

@[simp] theorem remirrored_frame (s : State) :
    (remirrored s).now = s.now ∧ (remirrored s).free = s.free ∧ (remirrored s).pending = s.pending ∧ (remirrored s).regs = s.regs ∧
    (remirrored s).cmds = s.cmds ∧ (remirrored s).out = s.out ∧ (remirrored s).berths = s.berths ∧ (remirrored s).ports = s.ports ∧
    (remirrored s).lock = s.lock ∧ (remirrored s).weir = s.weir ∧ (remirrored s).sluice = s.sluice ∧ (remirrored s).refloat = s.refloat ∧
    (remirrored s).fmm = s.fmm ∧ (remirrored s).chart = s.chart ∧ (remirrored s).gauge = s.gauge ∧ (remirrored s).fly = s.fly ∧
    (remirrored s).seq = s.seq ∧ (remirrored s).log = s.log ∧ (remirrored s).tow = s.tow ∧ (remirrored s).keep = s.keep ∧
    (remirrored s).cfg = s.cfg ∧ (remirrored s).pke = s.pke ∧ (remirrored s).clk = s.clk ∧ (remirrored s).mgmt = s.mgmt ∧
    (remirrored s).pins = s.pins ∧ (remirrored s).enginesOut = s.enginesOut := by
  unfold remirrored
  simp

@[simp] theorem timerStart_frame (p : Nat) (s : State) :
    (timerStart p s).now = s.now ∧ (timerStart p s).free = s.free ∧ (timerStart p s).pending = s.pending ∧
    (timerStart p s).regs = s.regs ∧ (timerStart p s).cmds = s.cmds ∧ (timerStart p s).out = s.out ∧ (timerStart p s).berths = s.berths ∧
    (timerStart p s).lock = s.lock ∧ (timerStart p s).weir = s.weir ∧ (timerStart p s).sluice = s.sluice ∧
    (timerStart p s).refloat = s.refloat ∧ (timerStart p s).drc = s.drc ∧ (timerStart p s).fmm = s.fmm ∧
    (timerStart p s).chart = s.chart ∧ (timerStart p s).gauge = s.gauge ∧ (timerStart p s).fly = s.fly ∧ (timerStart p s).seq = s.seq ∧
    (timerStart p s).log = s.log ∧ (timerStart p s).tow = s.tow ∧ (timerStart p s).keep = s.keep ∧ (timerStart p s).cfg = s.cfg ∧
    (timerStart p s).pke = s.pke ∧ (timerStart p s).clk = s.clk ∧ (timerStart p s).mgmt = s.mgmt ∧ (timerStart p s).pins = s.pins ∧
    (timerStart p s).enginesOut = s.enginesOut := by
  unfold timerStart
  simp

@[simp] theorem applyTarget_frame (p : Nat) (s : State) :
    (applyTarget p s).now = s.now ∧ (applyTarget p s).free = s.free ∧ (applyTarget p s).pending = s.pending ∧
    (applyTarget p s).regs = s.regs ∧ (applyTarget p s).cmds = s.cmds ∧ (applyTarget p s).out = s.out ∧
    (applyTarget p s).berths = s.berths ∧ (applyTarget p s).lock = s.lock ∧ (applyTarget p s).weir = s.weir ∧
    (applyTarget p s).sluice = s.sluice ∧ (applyTarget p s).refloat = s.refloat ∧ (applyTarget p s).drc = s.drc ∧
    (applyTarget p s).fmm = s.fmm ∧ (applyTarget p s).chart = s.chart ∧ (applyTarget p s).gauge = s.gauge ∧
    (applyTarget p s).fly = s.fly ∧ (applyTarget p s).seq = s.seq ∧ (applyTarget p s).log = s.log ∧ (applyTarget p s).tow = s.tow ∧
    (applyTarget p s).keep = s.keep ∧ (applyTarget p s).cfg = s.cfg ∧ (applyTarget p s).pke = s.pke ∧ (applyTarget p s).clk = s.clk ∧
    (applyTarget p s).mgmt = s.mgmt ∧ (applyTarget p s).pins = s.pins ∧ (applyTarget p s).enginesOut = s.enginesOut := by
  unfold applyTarget
  simp

@[simp] theorem tryUp_frame (p : Nat) (s : State) :
    (tryUp p s).now = s.now ∧ (tryUp p s).free = s.free ∧ (tryUp p s).pending = s.pending ∧ (tryUp p s).regs = s.regs ∧
    (tryUp p s).cmds = s.cmds ∧ (tryUp p s).out = s.out ∧ (tryUp p s).berths = s.berths ∧ (tryUp p s).lock = s.lock ∧
    (tryUp p s).weir = s.weir ∧ (tryUp p s).sluice = s.sluice ∧ (tryUp p s).refloat = s.refloat ∧ (tryUp p s).drc = s.drc ∧
    (tryUp p s).fmm = s.fmm ∧ (tryUp p s).chart = s.chart ∧ (tryUp p s).gauge = s.gauge ∧ (tryUp p s).fly = s.fly ∧
    (tryUp p s).seq = s.seq ∧ (tryUp p s).log = s.log ∧ (tryUp p s).tow = s.tow ∧ (tryUp p s).keep = s.keep ∧ (tryUp p s).cfg = s.cfg ∧
    (tryUp p s).pke = s.pke ∧ (tryUp p s).clk = s.clk ∧ (tryUp p s).mgmt = s.mgmt ∧ (tryUp p s).pins = s.pins ∧
    (tryUp p s).enginesOut = s.enginesOut := by
  unfold tryUp
  simp

@[simp] theorem loseSet_frame (k : Fin 2) (phase : Nat) (s : State) :
    (loseSet k phase s).now = s.now ∧ (loseSet k phase s).free = s.free ∧ (loseSet k phase s).pending = s.pending ∧
    (loseSet k phase s).cmds = s.cmds ∧ (loseSet k phase s).berths = s.berths ∧ (loseSet k phase s).ports = s.ports ∧
    (loseSet k phase s).lock = s.lock ∧ (loseSet k phase s).sluice = s.sluice ∧ (loseSet k phase s).refloat = s.refloat ∧
    (loseSet k phase s).drc = s.drc ∧ (loseSet k phase s).fmm = s.fmm ∧ (loseSet k phase s).chart = s.chart ∧
    (loseSet k phase s).gauge = s.gauge ∧ (loseSet k phase s).seq = s.seq ∧ (loseSet k phase s).tow = s.tow ∧
    (loseSet k phase s).cfg = s.cfg ∧ (loseSet k phase s).pke = s.pke ∧ (loseSet k phase s).clk = s.clk ∧
    (loseSet k phase s).pins = s.pins ∧ (loseSet k phase s).enginesOut = s.enginesOut := by
  unfold loseSet
  simp

@[simp] theorem countRead_frame (p : Nat) (why : ReadFail) (s : State) :
    (countRead p why s).now = s.now ∧ (countRead p why s).free = s.free ∧ (countRead p why s).pending = s.pending ∧
    (countRead p why s).cmds = s.cmds ∧ (countRead p why s).out = s.out ∧ (countRead p why s).berths = s.berths ∧
    (countRead p why s).lock = s.lock ∧ (countRead p why s).weir = s.weir ∧ (countRead p why s).sluice = s.sluice ∧
    (countRead p why s).refloat = s.refloat ∧ (countRead p why s).drc = s.drc ∧ (countRead p why s).fmm = s.fmm ∧
    (countRead p why s).chart = s.chart ∧ (countRead p why s).gauge = s.gauge ∧ (countRead p why s).fly = s.fly ∧
    (countRead p why s).seq = s.seq ∧ (countRead p why s).log = s.log ∧ (countRead p why s).tow = s.tow ∧
    (countRead p why s).keep = s.keep ∧ (countRead p why s).cfg = s.cfg ∧ (countRead p why s).pke = s.pke ∧
    (countRead p why s).clk = s.clk ∧ (countRead p why s).mgmt = s.mgmt ∧ (countRead p why s).pins = s.pins ∧
    (countRead p why s).enginesOut = s.enginesOut := by
  unfold countRead
  dsimp only
  (repeat' split) <;> simp

@[simp] theorem dischargeLate_frame (w : BitVec 32) (s : State) :
    (dischargeLate w s).now = s.now ∧ (dischargeLate w s).free = s.free ∧ (dischargeLate w s).pending = s.pending ∧
    (dischargeLate w s).cmds = s.cmds ∧ (dischargeLate w s).berths = s.berths ∧ (dischargeLate w s).ports = s.ports ∧
    (dischargeLate w s).lock = s.lock ∧ (dischargeLate w s).weir = s.weir ∧ (dischargeLate w s).sluice = s.sluice ∧
    (dischargeLate w s).refloat = s.refloat ∧ (dischargeLate w s).drc = s.drc ∧ (dischargeLate w s).fmm = s.fmm ∧
    (dischargeLate w s).chart = s.chart ∧ (dischargeLate w s).gauge = s.gauge ∧ (dischargeLate w s).fly = s.fly ∧
    (dischargeLate w s).seq = s.seq ∧ (dischargeLate w s).tow = s.tow ∧ (dischargeLate w s).keep = s.keep ∧
    (dischargeLate w s).cfg = s.cfg ∧ (dischargeLate w s).pke = s.pke ∧ (dischargeLate w s).clk = s.clk ∧
    (dischargeLate w s).pins = s.pins ∧ (dischargeLate w s).enginesOut = s.enginesOut := by
  unfold dischargeLate
  simp

@[simp] theorem latchFail_frame (w : BitVec 32) (r : Run) (s : State) :
    (latchFail w r s).now = s.now ∧ (latchFail w r s).free = s.free ∧ (latchFail w r s).pending = s.pending ∧
    (latchFail w r s).sluice = s.sluice ∧ (latchFail w r s).fly = s.fly ∧ (latchFail w r s).tow = s.tow ∧
    (latchFail w r s).pins = s.pins := by
  unfold latchFail
  simp

@[simp] theorem drbgReseed_frame (s : State) :
    (drbgReseed s).now = s.now ∧ (drbgReseed s).pending = s.pending ∧ (drbgReseed s).regs = s.regs ∧ (drbgReseed s).cmds = s.cmds ∧
    (drbgReseed s).out = s.out ∧ (drbgReseed s).berths = s.berths ∧ (drbgReseed s).ports = s.ports ∧ (drbgReseed s).lock = s.lock ∧
    (drbgReseed s).weir = s.weir ∧ (drbgReseed s).sluice = s.sluice ∧ (drbgReseed s).refloat = s.refloat ∧ (drbgReseed s).drc = s.drc ∧
    (drbgReseed s).fmm = s.fmm ∧ (drbgReseed s).chart = s.chart ∧ (drbgReseed s).gauge = s.gauge ∧ (drbgReseed s).fly = s.fly ∧
    (drbgReseed s).seq = s.seq ∧ (drbgReseed s).log = s.log ∧ (drbgReseed s).tow = s.tow ∧ (drbgReseed s).keep = s.keep ∧
    (drbgReseed s).cfg = s.cfg ∧ (drbgReseed s).clk = s.clk ∧ (drbgReseed s).mgmt = s.mgmt ∧ (drbgReseed s).pins = s.pins ∧
    (drbgReseed s).enginesOut = s.enginesOut := by
  unfold drbgReseed
  simp

@[simp] theorem retireBlock_frame (n : Nat) (cause : Nat) (s : State) :
    (retireBlock n cause s).now = s.now ∧ (retireBlock n cause s).free = s.free ∧ (retireBlock n cause s).pending = s.pending ∧
    (retireBlock n cause s).regs = s.regs ∧ (retireBlock n cause s).cmds = s.cmds ∧ (retireBlock n cause s).out = s.out ∧
    (retireBlock n cause s).berths = s.berths ∧ (retireBlock n cause s).ports = s.ports ∧ (retireBlock n cause s).lock = s.lock ∧
    (retireBlock n cause s).weir = s.weir ∧ (retireBlock n cause s).sluice = s.sluice ∧ (retireBlock n cause s).refloat = s.refloat ∧
    (retireBlock n cause s).drc = s.drc ∧ (retireBlock n cause s).chart = s.chart ∧ (retireBlock n cause s).gauge = s.gauge ∧
    (retireBlock n cause s).fly = s.fly ∧ (retireBlock n cause s).seq = s.seq ∧ (retireBlock n cause s).log = s.log ∧
    (retireBlock n cause s).tow = s.tow ∧ (retireBlock n cause s).cfg = s.cfg ∧ (retireBlock n cause s).pke = s.pke ∧
    (retireBlock n cause s).clk = s.clk ∧ (retireBlock n cause s).mgmt = s.mgmt ∧ (retireBlock n cause s).pins = s.pins ∧
    (retireBlock n cause s).enginesOut = s.enginesOut := by
  unfold retireBlock
  simp

@[simp] theorem eraseFailed_frame (n : Nat) (s : State) :
    (eraseFailed n s).now = s.now ∧ (eraseFailed n s).free = s.free ∧ (eraseFailed n s).pending = s.pending ∧
    (eraseFailed n s).cmds = s.cmds ∧ (eraseFailed n s).out = s.out ∧ (eraseFailed n s).berths = s.berths ∧
    (eraseFailed n s).ports = s.ports ∧ (eraseFailed n s).lock = s.lock ∧ (eraseFailed n s).weir = s.weir ∧
    (eraseFailed n s).sluice = s.sluice ∧ (eraseFailed n s).refloat = s.refloat ∧ (eraseFailed n s).drc = s.drc ∧
    (eraseFailed n s).chart = s.chart ∧ (eraseFailed n s).gauge = s.gauge ∧ (eraseFailed n s).fly = s.fly ∧
    (eraseFailed n s).seq = s.seq ∧ (eraseFailed n s).log = s.log ∧ (eraseFailed n s).tow = s.tow ∧ (eraseFailed n s).cfg = s.cfg ∧
    (eraseFailed n s).pke = s.pke ∧ (eraseFailed n s).clk = s.clk ∧ (eraseFailed n s).mgmt = s.mgmt ∧ (eraseFailed n s).pins = s.pins ∧
    (eraseFailed n s).enginesOut = s.enginesOut := by
  unfold eraseFailed
  simp

@[simp] theorem erasePassed_frame (die : Nat) (block : Nat) (n : Nat) (s : State) :
    (erasePassed die block n s).now = s.now ∧ (erasePassed die block n s).free = s.free ∧
    (erasePassed die block n s).pending = s.pending ∧ (erasePassed die block n s).regs = s.regs ∧
    (erasePassed die block n s).cmds = s.cmds ∧ (erasePassed die block n s).out = s.out ∧ (erasePassed die block n s).berths = s.berths ∧
    (erasePassed die block n s).ports = s.ports ∧ (erasePassed die block n s).lock = s.lock ∧ (erasePassed die block n s).weir = s.weir ∧
    (erasePassed die block n s).sluice = s.sluice ∧ (erasePassed die block n s).refloat = s.refloat ∧
    (erasePassed die block n s).drc = s.drc ∧ (erasePassed die block n s).chart = s.chart ∧ (erasePassed die block n s).gauge = s.gauge ∧
    (erasePassed die block n s).fly = s.fly ∧ (erasePassed die block n s).seq = s.seq ∧ (erasePassed die block n s).log = s.log ∧
    (erasePassed die block n s).tow = s.tow ∧ (erasePassed die block n s).cfg = s.cfg ∧ (erasePassed die block n s).pke = s.pke ∧
    (erasePassed die block n s).clk = s.clk ∧ (erasePassed die block n s).mgmt = s.mgmt ∧ (erasePassed die block n s).pins = s.pins ∧
    (erasePassed die block n s).enginesOut = s.enginesOut := by
  unfold erasePassed
  simp

@[simp] theorem sanErased_frame (die : Nat) (block : Nat) (pass : Bool) (s : State) :
    (sanErased die block pass s).now = s.now ∧ (sanErased die block pass s).free = s.free ∧
    (sanErased die block pass s).pending = s.pending ∧ (sanErased die block pass s).cmds = s.cmds ∧
    (sanErased die block pass s).out = s.out ∧ (sanErased die block pass s).berths = s.berths ∧
    (sanErased die block pass s).ports = s.ports ∧ (sanErased die block pass s).lock = s.lock ∧
    (sanErased die block pass s).weir = s.weir ∧ (sanErased die block pass s).sluice = s.sluice ∧
    (sanErased die block pass s).refloat = s.refloat ∧ (sanErased die block pass s).drc = s.drc ∧
    (sanErased die block pass s).chart = s.chart ∧ (sanErased die block pass s).gauge = s.gauge ∧
    (sanErased die block pass s).fly = s.fly ∧ (sanErased die block pass s).seq = s.seq ∧ (sanErased die block pass s).log = s.log ∧
    (sanErased die block pass s).tow = s.tow ∧ (sanErased die block pass s).cfg = s.cfg ∧ (sanErased die block pass s).pke = s.pke ∧
    (sanErased die block pass s).clk = s.clk ∧ (sanErased die block pass s).mgmt = s.mgmt ∧ (sanErased die block pass s).pins = s.pins ∧
    (sanErased die block pass s).enginesOut = s.enginesOut := by
  unfold sanErased
  simp

@[simp] theorem sanCount_frame (p : Nat × Nat) (s : State) :
    (sanCount p s).now = s.now ∧ (sanCount p s).free = s.free ∧ (sanCount p s).pending = s.pending ∧ (sanCount p s).regs = s.regs ∧
    (sanCount p s).cmds = s.cmds ∧ (sanCount p s).berths = s.berths ∧ (sanCount p s).ports = s.ports ∧ (sanCount p s).lock = s.lock ∧
    (sanCount p s).weir = s.weir ∧ (sanCount p s).sluice = s.sluice ∧ (sanCount p s).refloat = s.refloat ∧ (sanCount p s).drc = s.drc ∧
    (sanCount p s).chart = s.chart ∧ (sanCount p s).gauge = s.gauge ∧ (sanCount p s).fly = s.fly ∧ (sanCount p s).seq = s.seq ∧
    (sanCount p s).log = s.log ∧ (sanCount p s).tow = s.tow ∧ (sanCount p s).keep = s.keep ∧ (sanCount p s).cfg = s.cfg ∧
    (sanCount p s).pke = s.pke ∧ (sanCount p s).clk = s.clk ∧ (sanCount p s).mgmt = s.mgmt ∧ (sanCount p s).pins = s.pins ∧
    (sanCount p s).enginesOut = s.enginesOut := by
  unfold sanCount
  simp

@[simp] theorem sanIssue_frame (c : Nat) (s : State) :
    (sanIssue c s).now = s.now ∧ (sanIssue c s).free = s.free ∧ (sanIssue c s).pending = s.pending ∧ (sanIssue c s).regs = s.regs ∧
    (sanIssue c s).cmds = s.cmds ∧ (sanIssue c s).berths = s.berths ∧ (sanIssue c s).ports = s.ports ∧ (sanIssue c s).lock = s.lock ∧
    (sanIssue c s).weir = s.weir ∧ (sanIssue c s).sluice = s.sluice ∧ (sanIssue c s).refloat = s.refloat ∧ (sanIssue c s).drc = s.drc ∧
    (sanIssue c s).chart = s.chart ∧ (sanIssue c s).gauge = s.gauge ∧ (sanIssue c s).fly = s.fly ∧ (sanIssue c s).seq = s.seq ∧
    (sanIssue c s).log = s.log ∧ (sanIssue c s).tow = s.tow ∧ (sanIssue c s).keep = s.keep ∧ (sanIssue c s).cfg = s.cfg ∧
    (sanIssue c s).pke = s.pke ∧ (sanIssue c s).clk = s.clk ∧ (sanIssue c s).mgmt = s.mgmt ∧ (sanIssue c s).pins = s.pins ∧
    (sanIssue c s).enginesOut = s.enginesOut := by
  unfold sanIssue
  dsimp only
  (repeat' split) <;> simp

@[simp] theorem sanStep4_frame (die : Nat) (block : Nat) (pass : Bool) (s : State) :
    (sanStep4 die block pass s).now = s.now ∧ (sanStep4 die block pass s).free = s.free ∧
    (sanStep4 die block pass s).pending = s.pending ∧ (sanStep4 die block pass s).cmds = s.cmds ∧
    (sanStep4 die block pass s).berths = s.berths ∧ (sanStep4 die block pass s).ports = s.ports ∧
    (sanStep4 die block pass s).lock = s.lock ∧ (sanStep4 die block pass s).weir = s.weir ∧
    (sanStep4 die block pass s).sluice = s.sluice ∧ (sanStep4 die block pass s).refloat = s.refloat ∧
    (sanStep4 die block pass s).drc = s.drc ∧ (sanStep4 die block pass s).chart = s.chart ∧ (sanStep4 die block pass s).gauge = s.gauge ∧
    (sanStep4 die block pass s).fly = s.fly ∧ (sanStep4 die block pass s).seq = s.seq ∧ (sanStep4 die block pass s).log = s.log ∧
    (sanStep4 die block pass s).tow = s.tow ∧ (sanStep4 die block pass s).cfg = s.cfg ∧ (sanStep4 die block pass s).pke = s.pke ∧
    (sanStep4 die block pass s).clk = s.clk ∧ (sanStep4 die block pass s).mgmt = s.mgmt ∧ (sanStep4 die block pass s).pins = s.pins ∧
    (sanStep4 die block pass s).enginesOut = s.enginesOut := by
  unfold sanStep4
  dsimp only
  (repeat' split) <;> simp

@[simp] theorem sanEnd_frame (s : State) :
    (sanEnd s).now = s.now ∧ (sanEnd s).free = s.free ∧ (sanEnd s).pending = s.pending ∧ (sanEnd s).regs = s.regs ∧
    (sanEnd s).cmds = s.cmds ∧ (sanEnd s).out = s.out ∧ (sanEnd s).berths = s.berths ∧ (sanEnd s).ports = s.ports ∧
    (sanEnd s).lock = s.lock ∧ (sanEnd s).weir = s.weir ∧ (sanEnd s).sluice = s.sluice ∧ (sanEnd s).drc = s.drc ∧
    (sanEnd s).chart = s.chart ∧ (sanEnd s).gauge = s.gauge ∧ (sanEnd s).fly = s.fly ∧ (sanEnd s).seq = s.seq ∧ (sanEnd s).log = s.log ∧
    (sanEnd s).tow = s.tow ∧ (sanEnd s).keep = s.keep ∧ (sanEnd s).cfg = s.cfg ∧ (sanEnd s).pke = s.pke ∧ (sanEnd s).clk = s.clk ∧
    (sanEnd s).mgmt = s.mgmt ∧ (sanEnd s).pins = s.pins ∧ (sanEnd s).enginesOut = s.enginesOut := by
  unfold sanEnd
  simp

@[simp] theorem sanStep6_frame (die : Nat) (block : Nat) (pass : Bool) (s : State) :
    (sanStep6 die block pass s).now = s.now ∧ (sanStep6 die block pass s).free = s.free ∧
    (sanStep6 die block pass s).pending = s.pending ∧ (sanStep6 die block pass s).cmds = s.cmds ∧
    (sanStep6 die block pass s).out = s.out ∧ (sanStep6 die block pass s).berths = s.berths ∧
    (sanStep6 die block pass s).ports = s.ports ∧ (sanStep6 die block pass s).lock = s.lock ∧ (sanStep6 die block pass s).weir = s.weir ∧
    (sanStep6 die block pass s).sluice = s.sluice ∧ (sanStep6 die block pass s).drc = s.drc ∧
    (sanStep6 die block pass s).chart = s.chart ∧ (sanStep6 die block pass s).gauge = s.gauge ∧ (sanStep6 die block pass s).fly = s.fly ∧
    (sanStep6 die block pass s).seq = s.seq ∧ (sanStep6 die block pass s).log = s.log ∧ (sanStep6 die block pass s).tow = s.tow ∧
    (sanStep6 die block pass s).cfg = s.cfg ∧ (sanStep6 die block pass s).pke = s.pke ∧ (sanStep6 die block pass s).clk = s.clk ∧
    (sanStep6 die block pass s).mgmt = s.mgmt ∧ (sanStep6 die block pass s).pins = s.pins ∧
    (sanStep6 die block pass s).enginesOut = s.enginesOut := by
  unfold sanStep6
  simp

@[simp] theorem captureStatus_frame (s : State) :
    (captureStatus s).now = s.now ∧ (captureStatus s).free = s.free ∧ (captureStatus s).pending = s.pending ∧
    (captureStatus s).regs = s.regs ∧ (captureStatus s).cmds = s.cmds ∧ (captureStatus s).out = s.out ∧
    (captureStatus s).berths = s.berths ∧ (captureStatus s).ports = s.ports ∧ (captureStatus s).lock = s.lock ∧
    (captureStatus s).weir = s.weir ∧ (captureStatus s).sluice = s.sluice ∧ (captureStatus s).refloat = s.refloat ∧
    (captureStatus s).drc = s.drc ∧ (captureStatus s).fmm = s.fmm ∧ (captureStatus s).chart = s.chart ∧ (captureStatus s).fly = s.fly ∧
    (captureStatus s).seq = s.seq ∧ (captureStatus s).log = s.log ∧ (captureStatus s).tow = s.tow ∧ (captureStatus s).keep = s.keep ∧
    (captureStatus s).cfg = s.cfg ∧ (captureStatus s).pke = s.pke ∧ (captureStatus s).clk = s.clk ∧ (captureStatus s).mgmt = s.mgmt ∧
    (captureStatus s).pins = s.pins ∧ (captureStatus s).enginesOut = s.enginesOut := by
  unfold captureStatus
  simp

@[simp] theorem captureString_frame (i : Nat) (s : State) :
    (captureString i s).now = s.now ∧ (captureString i s).free = s.free ∧ (captureString i s).pending = s.pending ∧
    (captureString i s).regs = s.regs ∧ (captureString i s).cmds = s.cmds ∧ (captureString i s).out = s.out ∧
    (captureString i s).berths = s.berths ∧ (captureString i s).ports = s.ports ∧ (captureString i s).lock = s.lock ∧
    (captureString i s).weir = s.weir ∧ (captureString i s).sluice = s.sluice ∧ (captureString i s).refloat = s.refloat ∧
    (captureString i s).drc = s.drc ∧ (captureString i s).fmm = s.fmm ∧ (captureString i s).chart = s.chart ∧
    (captureString i s).fly = s.fly ∧ (captureString i s).seq = s.seq ∧ (captureString i s).log = s.log ∧
    (captureString i s).tow = s.tow ∧ (captureString i s).keep = s.keep ∧ (captureString i s).cfg = s.cfg ∧
    (captureString i s).pke = s.pke ∧ (captureString i s).clk = s.clk ∧ (captureString i s).mgmt = s.mgmt ∧
    (captureString i s).pins = s.pins ∧ (captureString i s).enginesOut = s.enginesOut := by
  unfold captureString
  simp

@[simp] theorem clearRc_frame (off : Nat) (s : State) :
    (clearRc off s).now = s.now ∧ (clearRc off s).free = s.free ∧ (clearRc off s).pending = s.pending ∧ (clearRc off s).cmds = s.cmds ∧
    (clearRc off s).out = s.out ∧ (clearRc off s).berths = s.berths ∧ (clearRc off s).ports = s.ports ∧ (clearRc off s).lock = s.lock ∧
    (clearRc off s).weir = s.weir ∧ (clearRc off s).sluice = s.sluice ∧ (clearRc off s).refloat = s.refloat ∧
    (clearRc off s).drc = s.drc ∧ (clearRc off s).fmm = s.fmm ∧ (clearRc off s).chart = s.chart ∧ (clearRc off s).gauge = s.gauge ∧
    (clearRc off s).fly = s.fly ∧ (clearRc off s).seq = s.seq ∧ (clearRc off s).log = s.log ∧ (clearRc off s).tow = s.tow ∧
    (clearRc off s).cfg = s.cfg ∧ (clearRc off s).pke = s.pke ∧ (clearRc off s).clk = s.clk ∧ (clearRc off s).mgmt = s.mgmt ∧
    (clearRc off s).pins = s.pins ∧ (clearRc off s).enginesOut = s.enginesOut ∧ (clearRc off s).keep.reports = s.keep.reports := by
  unfold clearRc
  (repeat' split) <;> simp

@[simp] theorem readSide_frame (off : Nat) (s : State) :
    (readSide off s).now = s.now ∧ (readSide off s).free = s.free ∧ (readSide off s).pending = s.pending ∧
    (readSide off s).cmds = s.cmds ∧ (readSide off s).out = s.out ∧ (readSide off s).berths = s.berths ∧
    (readSide off s).ports = s.ports ∧ (readSide off s).lock = s.lock ∧ (readSide off s).weir = s.weir ∧
    (readSide off s).sluice = s.sluice ∧ (readSide off s).refloat = s.refloat ∧ (readSide off s).drc = s.drc ∧
    (readSide off s).fmm = s.fmm ∧ (readSide off s).chart = s.chart ∧ (readSide off s).fly = s.fly ∧ (readSide off s).seq = s.seq ∧
    (readSide off s).log = s.log ∧ (readSide off s).tow = s.tow ∧ (readSide off s).cfg = s.cfg ∧ (readSide off s).pke = s.pke ∧
    (readSide off s).clk = s.clk ∧ (readSide off s).mgmt = s.mgmt ∧ (readSide off s).pins = s.pins ∧
    (readSide off s).enginesOut = s.enginesOut ∧ (readSide off s).keep.reports = s.keep.reports := by
  unfold readSide
  (repeat' split) <;> simp

@[simp] theorem mgmtRead_frame (off : Nat) (size : Nat) (s : State) :
    (mgmtRead off size s).now = s.now ∧ (mgmtRead off size s).free = s.free ∧ (mgmtRead off size s).pending = s.pending ∧
    (mgmtRead off size s).cmds = s.cmds ∧ (mgmtRead off size s).berths = s.berths ∧ (mgmtRead off size s).ports = s.ports ∧
    (mgmtRead off size s).lock = s.lock ∧ (mgmtRead off size s).weir = s.weir ∧ (mgmtRead off size s).sluice = s.sluice ∧
    (mgmtRead off size s).refloat = s.refloat ∧ (mgmtRead off size s).drc = s.drc ∧ (mgmtRead off size s).fmm = s.fmm ∧
    (mgmtRead off size s).chart = s.chart ∧ (mgmtRead off size s).fly = s.fly ∧ (mgmtRead off size s).seq = s.seq ∧
    (mgmtRead off size s).log = s.log ∧ (mgmtRead off size s).tow = s.tow ∧ (mgmtRead off size s).cfg = s.cfg ∧
    (mgmtRead off size s).pke = s.pke ∧ (mgmtRead off size s).clk = s.clk ∧ (mgmtRead off size s).mgmt = s.mgmt ∧
    (mgmtRead off size s).pins = s.pins ∧ (mgmtRead off size s).enginesOut = s.enginesOut ∧
    (mgmtRead off size s).keep.reports = s.keep.reports := by
  unfold mgmtRead
  dsimp only
  (repeat' split) <;> simp

@[simp] theorem loadBegin_frame (src : Nat) (cmd : Bool) (s : State) :
    (loadBegin src cmd s).now = s.now ∧ (loadBegin src cmd s).free = s.free ∧ (loadBegin src cmd s).pending = s.pending ∧
    (loadBegin src cmd s).cmds = s.cmds ∧ (loadBegin src cmd s).berths = s.berths ∧ (loadBegin src cmd s).ports = s.ports ∧
    (loadBegin src cmd s).lock = s.lock ∧ (loadBegin src cmd s).weir = s.weir ∧ (loadBegin src cmd s).sluice = s.sluice ∧
    (loadBegin src cmd s).refloat = s.refloat ∧ (loadBegin src cmd s).drc = s.drc ∧ (loadBegin src cmd s).fmm = s.fmm ∧
    (loadBegin src cmd s).chart = s.chart ∧ (loadBegin src cmd s).gauge = s.gauge ∧ (loadBegin src cmd s).fly = s.fly ∧
    (loadBegin src cmd s).seq = s.seq ∧ (loadBegin src cmd s).tow = s.tow ∧ (loadBegin src cmd s).keep = s.keep ∧
    (loadBegin src cmd s).pke = s.pke ∧ (loadBegin src cmd s).clk = s.clk ∧ (loadBegin src cmd s).pins = s.pins ∧
    (loadBegin src cmd s).enginesOut = s.enginesOut := by
  unfold loadBegin
  simp

@[simp] theorem recordState_frame (n : Nat) (st : Nat) (s : State) :
    (recordState n st s).now = s.now ∧ (recordState n st s).free = s.free ∧ (recordState n st s).pending = s.pending ∧
    (recordState n st s).regs = s.regs ∧ (recordState n st s).cmds = s.cmds ∧ (recordState n st s).out = s.out ∧
    (recordState n st s).berths = s.berths ∧ (recordState n st s).ports = s.ports ∧ (recordState n st s).lock = s.lock ∧
    (recordState n st s).weir = s.weir ∧ (recordState n st s).sluice = s.sluice ∧ (recordState n st s).refloat = s.refloat ∧
    (recordState n st s).drc = s.drc ∧ (recordState n st s).fmm = s.fmm ∧ (recordState n st s).chart = s.chart ∧
    (recordState n st s).gauge = s.gauge ∧ (recordState n st s).fly = s.fly ∧ (recordState n st s).seq = s.seq ∧
    (recordState n st s).log = s.log ∧ (recordState n st s).tow = s.tow ∧ (recordState n st s).keep = s.keep ∧
    (recordState n st s).pke = s.pke ∧ (recordState n st s).clk = s.clk ∧ (recordState n st s).mgmt = s.mgmt ∧
    (recordState n st s).pins = s.pins ∧ (recordState n st s).enginesOut = s.enginesOut := by
  unfold recordState
  (repeat' split) <;> simp

@[simp] theorem loadSlotNow_frame (n : Nat) (cmd : Bool) (s : State) :
    (loadSlotNow n cmd s).now = s.now ∧ (loadSlotNow n cmd s).free = s.free ∧ (loadSlotNow n cmd s).pending = s.pending ∧
    (loadSlotNow n cmd s).cmds = s.cmds ∧ (loadSlotNow n cmd s).berths = s.berths ∧ (loadSlotNow n cmd s).ports = s.ports ∧
    (loadSlotNow n cmd s).lock = s.lock ∧ (loadSlotNow n cmd s).weir = s.weir ∧ (loadSlotNow n cmd s).sluice = s.sluice ∧
    (loadSlotNow n cmd s).refloat = s.refloat ∧ (loadSlotNow n cmd s).drc = s.drc ∧ (loadSlotNow n cmd s).fmm = s.fmm ∧
    (loadSlotNow n cmd s).chart = s.chart ∧ (loadSlotNow n cmd s).gauge = s.gauge ∧ (loadSlotNow n cmd s).fly = s.fly ∧
    (loadSlotNow n cmd s).seq = s.seq ∧ (loadSlotNow n cmd s).tow = s.tow ∧ (loadSlotNow n cmd s).keep = s.keep ∧
    (loadSlotNow n cmd s).pke = s.pke ∧ (loadSlotNow n cmd s).clk = s.clk ∧ (loadSlotNow n cmd s).pins = s.pins ∧
    (loadSlotNow n cmd s).enginesOut = s.enginesOut := by
  unfold loadSlotNow
  simp

@[simp] theorem doLoadSlot_frame (n : Nat) (s : State) :
    (doLoadSlot n s).now = s.now ∧ (doLoadSlot n s).free = s.free ∧ (doLoadSlot n s).pending = s.pending ∧
    (doLoadSlot n s).berths = s.berths ∧ (doLoadSlot n s).ports = s.ports ∧ (doLoadSlot n s).lock = s.lock ∧
    (doLoadSlot n s).weir = s.weir ∧ (doLoadSlot n s).sluice = s.sluice ∧ (doLoadSlot n s).refloat = s.refloat ∧
    (doLoadSlot n s).drc = s.drc ∧ (doLoadSlot n s).fmm = s.fmm ∧ (doLoadSlot n s).chart = s.chart ∧ (doLoadSlot n s).gauge = s.gauge ∧
    (doLoadSlot n s).fly = s.fly ∧ (doLoadSlot n s).seq = s.seq ∧ (doLoadSlot n s).tow = s.tow ∧ (doLoadSlot n s).keep = s.keep ∧
    (doLoadSlot n s).pke = s.pke ∧ (doLoadSlot n s).clk = s.clk ∧ (doLoadSlot n s).pins = s.pins ∧
    (doLoadSlot n s).enginesOut = s.enginesOut := by
  unfold doLoadSlot
  simp

@[simp] theorem doPush_frame (s : State) :
    (doPush s).now = s.now ∧ (doPush s).free = s.free ∧ (doPush s).pending = s.pending ∧ (doPush s).berths = s.berths ∧
    (doPush s).ports = s.ports ∧ (doPush s).lock = s.lock ∧ (doPush s).weir = s.weir ∧ (doPush s).sluice = s.sluice ∧
    (doPush s).refloat = s.refloat ∧ (doPush s).drc = s.drc ∧ (doPush s).fmm = s.fmm ∧ (doPush s).chart = s.chart ∧
    (doPush s).gauge = s.gauge ∧ (doPush s).fly = s.fly ∧ (doPush s).seq = s.seq ∧ (doPush s).tow = s.tow ∧ (doPush s).keep = s.keep ∧
    (doPush s).pke = s.pke ∧ (doPush s).clk = s.clk ∧ (doPush s).pins = s.pins ∧ (doPush s).enginesOut = s.enginesOut := by
  unfold doPush
  simp

@[simp] theorem doSetTrial_frame (n : Nat) (s : State) :
    (doSetTrial n s).now = s.now ∧ (doSetTrial n s).free = s.free ∧ (doSetTrial n s).pending = s.pending ∧
    (doSetTrial n s).berths = s.berths ∧ (doSetTrial n s).ports = s.ports ∧ (doSetTrial n s).lock = s.lock ∧
    (doSetTrial n s).weir = s.weir ∧ (doSetTrial n s).sluice = s.sluice ∧ (doSetTrial n s).refloat = s.refloat ∧
    (doSetTrial n s).drc = s.drc ∧ (doSetTrial n s).fmm = s.fmm ∧ (doSetTrial n s).chart = s.chart ∧ (doSetTrial n s).gauge = s.gauge ∧
    (doSetTrial n s).fly = s.fly ∧ (doSetTrial n s).seq = s.seq ∧ (doSetTrial n s).log = s.log ∧ (doSetTrial n s).tow = s.tow ∧
    (doSetTrial n s).keep = s.keep ∧ (doSetTrial n s).pke = s.pke ∧ (doSetTrial n s).clk = s.clk ∧ (doSetTrial n s).pins = s.pins ∧
    (doSetTrial n s).enginesOut = s.enginesOut := by
  unfold doSetTrial
  simp

@[simp] theorem writeFails_frame (result : Nat) (s : State) :
    (writeFails result s).now = s.now ∧ (writeFails result s).free = s.free ∧ (writeFails result s).pending = s.pending ∧
    (writeFails result s).berths = s.berths ∧ (writeFails result s).ports = s.ports ∧ (writeFails result s).lock = s.lock ∧
    (writeFails result s).weir = s.weir ∧ (writeFails result s).sluice = s.sluice ∧ (writeFails result s).refloat = s.refloat ∧
    (writeFails result s).drc = s.drc ∧ (writeFails result s).fmm = s.fmm ∧ (writeFails result s).chart = s.chart ∧
    (writeFails result s).gauge = s.gauge ∧ (writeFails result s).fly = s.fly ∧ (writeFails result s).seq = s.seq ∧
    (writeFails result s).log = s.log ∧ (writeFails result s).tow = s.tow ∧ (writeFails result s).keep = s.keep ∧
    (writeFails result s).pke = s.pke ∧ (writeFails result s).clk = s.clk ∧ (writeFails result s).pins = s.pins ∧
    (writeFails result s).enginesOut = s.enginesOut := by
  unfold writeFails
  simp

@[simp] theorem doWriteSlot_frame (n : Nat) (s : State) :
    (doWriteSlot n s).now = s.now ∧ (doWriteSlot n s).free = s.free ∧ (doWriteSlot n s).pending = s.pending ∧
    (doWriteSlot n s).berths = s.berths ∧ (doWriteSlot n s).ports = s.ports ∧ (doWriteSlot n s).lock = s.lock ∧
    (doWriteSlot n s).weir = s.weir ∧ (doWriteSlot n s).sluice = s.sluice ∧ (doWriteSlot n s).refloat = s.refloat ∧
    (doWriteSlot n s).drc = s.drc ∧ (doWriteSlot n s).fmm = s.fmm ∧ (doWriteSlot n s).chart = s.chart ∧
    (doWriteSlot n s).gauge = s.gauge ∧ (doWriteSlot n s).fly = s.fly ∧ (doWriteSlot n s).seq = s.seq ∧ (doWriteSlot n s).log = s.log ∧
    (doWriteSlot n s).tow = s.tow ∧ (doWriteSlot n s).keep = s.keep ∧ (doWriteSlot n s).pke = s.pke ∧ (doWriteSlot n s).clk = s.clk ∧
    (doWriteSlot n s).pins = s.pins ∧ (doWriteSlot n s).enginesOut = s.enginesOut := by
  unfold doWriteSlot
  simp

@[simp] theorem cfgOp_frame (op : Nat) (slot : Nat) (s : State) :
    (cfgOp op slot s).now = s.now ∧ (cfgOp op slot s).free = s.free ∧ (cfgOp op slot s).pending = s.pending ∧
    (cfgOp op slot s).berths = s.berths ∧ (cfgOp op slot s).ports = s.ports ∧ (cfgOp op slot s).lock = s.lock ∧
    (cfgOp op slot s).weir = s.weir ∧ (cfgOp op slot s).sluice = s.sluice ∧ (cfgOp op slot s).refloat = s.refloat ∧
    (cfgOp op slot s).drc = s.drc ∧ (cfgOp op slot s).fmm = s.fmm ∧ (cfgOp op slot s).chart = s.chart ∧
    (cfgOp op slot s).gauge = s.gauge ∧ (cfgOp op slot s).fly = s.fly ∧ (cfgOp op slot s).seq = s.seq ∧ (cfgOp op slot s).tow = s.tow ∧
    (cfgOp op slot s).keep = s.keep ∧ (cfgOp op slot s).pke = s.pke ∧ (cfgOp op slot s).clk = s.clk ∧ (cfgOp op slot s).pins = s.pins ∧
    (cfgOp op slot s).enginesOut = s.enginesOut := by
  unfold cfgOp
  (repeat' split) <;> simp

@[simp] theorem chartOp_frame (op : Nat) (s : State) :
    (chartOp op s).now = s.now ∧ (chartOp op s).free = s.free ∧ (chartOp op s).pending = s.pending ∧ (chartOp op s).berths = s.berths ∧
    (chartOp op s).ports = s.ports ∧ (chartOp op s).lock = s.lock ∧ (chartOp op s).weir = s.weir ∧ (chartOp op s).sluice = s.sluice ∧
    (chartOp op s).refloat = s.refloat ∧ (chartOp op s).drc = s.drc ∧ (chartOp op s).gauge = s.gauge ∧ (chartOp op s).fly = s.fly ∧
    (chartOp op s).seq = s.seq ∧ (chartOp op s).log = s.log ∧ (chartOp op s).tow = s.tow ∧ (chartOp op s).keep = s.keep ∧
    (chartOp op s).cfg = s.cfg ∧ (chartOp op s).pke = s.pke ∧ (chartOp op s).clk = s.clk ∧ (chartOp op s).pins = s.pins ∧
    (chartOp op s).enginesOut = s.enginesOut := by
  unfold chartOp
  (repeat' split) <;> simp

@[simp] theorem doLockCycle_frame (mode : Nat) (epoch : BitVec 16) (s : State) :
    (doLockCycle mode epoch s).now = s.now ∧ (doLockCycle mode epoch s).free = s.free ∧ (doLockCycle mode epoch s).pending = s.pending ∧
    (doLockCycle mode epoch s).berths = s.berths ∧ (doLockCycle mode epoch s).weir = s.weir ∧
    (doLockCycle mode epoch s).sluice = s.sluice ∧ (doLockCycle mode epoch s).refloat = s.refloat ∧
    (doLockCycle mode epoch s).drc = s.drc ∧ (doLockCycle mode epoch s).fmm = s.fmm ∧ (doLockCycle mode epoch s).chart = s.chart ∧
    (doLockCycle mode epoch s).gauge = s.gauge ∧ (doLockCycle mode epoch s).fly = s.fly ∧ (doLockCycle mode epoch s).seq = s.seq ∧
    (doLockCycle mode epoch s).log = s.log ∧ (doLockCycle mode epoch s).tow = s.tow ∧ (doLockCycle mode epoch s).keep = s.keep ∧
    (doLockCycle mode epoch s).cfg = s.cfg ∧ (doLockCycle mode epoch s).pke = s.pke ∧ (doLockCycle mode epoch s).clk = s.clk ∧
    (doLockCycle mode epoch s).pins = s.pins ∧ (doLockCycle mode epoch s).enginesOut = s.enginesOut := by
  unfold doLockCycle
  simp

@[simp] theorem doForget_frame (i : Nat) (s : State) :
    (doForget i s).now = s.now ∧ (doForget i s).free = s.free ∧ (doForget i s).pending = s.pending ∧ (doForget i s).berths = s.berths ∧
    (doForget i s).ports = s.ports ∧ (doForget i s).lock = s.lock ∧ (doForget i s).weir = s.weir ∧ (doForget i s).sluice = s.sluice ∧
    (doForget i s).refloat = s.refloat ∧ (doForget i s).drc = s.drc ∧ (doForget i s).fmm = s.fmm ∧ (doForget i s).chart = s.chart ∧
    (doForget i s).fly = s.fly ∧ (doForget i s).seq = s.seq ∧ (doForget i s).log = s.log ∧ (doForget i s).tow = s.tow ∧
    (doForget i s).keep = s.keep ∧ (doForget i s).cfg = s.cfg ∧ (doForget i s).clk = s.clk ∧ (doForget i s).pins = s.pins ∧
    (doForget i s).enginesOut = s.enginesOut := by
  unfold doForget
  dsimp only
  (repeat' split) <;> simp

@[simp] theorem doLearnAbort_frame (s : State) :
    (doLearnAbort s).now = s.now ∧ (doLearnAbort s).free = s.free ∧ (doLearnAbort s).pending = s.pending ∧
    (doLearnAbort s).berths = s.berths ∧ (doLearnAbort s).ports = s.ports ∧ (doLearnAbort s).lock = s.lock ∧
    (doLearnAbort s).weir = s.weir ∧ (doLearnAbort s).sluice = s.sluice ∧ (doLearnAbort s).refloat = s.refloat ∧
    (doLearnAbort s).drc = s.drc ∧ (doLearnAbort s).fmm = s.fmm ∧ (doLearnAbort s).chart = s.chart ∧ (doLearnAbort s).fly = s.fly ∧
    (doLearnAbort s).seq = s.seq ∧ (doLearnAbort s).log = s.log ∧ (doLearnAbort s).tow = s.tow ∧ (doLearnAbort s).keep = s.keep ∧
    (doLearnAbort s).cfg = s.cfg ∧ (doLearnAbort s).pke = s.pke ∧ (doLearnAbort s).clk = s.clk ∧ (doLearnAbort s).pins = s.pins ∧
    (doLearnAbort s).enginesOut = s.enginesOut := by
  unfold doLearnAbort
  simp

@[simp] theorem learnBegin_frame (i : Nat) (ack : Bool) (s : State) :
    (learnBegin i ack s).now = s.now ∧ (learnBegin i ack s).free = s.free ∧ (learnBegin i ack s).pending = s.pending ∧
    (learnBegin i ack s).regs = s.regs ∧ (learnBegin i ack s).cmds = s.cmds ∧ (learnBegin i ack s).berths = s.berths ∧
    (learnBegin i ack s).ports = s.ports ∧ (learnBegin i ack s).lock = s.lock ∧ (learnBegin i ack s).weir = s.weir ∧
    (learnBegin i ack s).sluice = s.sluice ∧ (learnBegin i ack s).refloat = s.refloat ∧ (learnBegin i ack s).drc = s.drc ∧
    (learnBegin i ack s).fmm = s.fmm ∧ (learnBegin i ack s).chart = s.chart ∧ (learnBegin i ack s).fly = s.fly ∧
    (learnBegin i ack s).seq = s.seq ∧ (learnBegin i ack s).log = s.log ∧ (learnBegin i ack s).tow = s.tow ∧
    (learnBegin i ack s).keep = s.keep ∧ (learnBegin i ack s).cfg = s.cfg ∧ (learnBegin i ack s).pke = s.pke ∧
    (learnBegin i ack s).clk = s.clk ∧ (learnBegin i ack s).mgmt = s.mgmt ∧ (learnBegin i ack s).pins = s.pins ∧
    (learnBegin i ack s).enginesOut = s.enginesOut := by
  unfold learnBegin
  simp

@[simp] theorem doLearnStart_frame (i : Nat) (ack : Bool) (s : State) :
    (doLearnStart i ack s).now = s.now ∧ (doLearnStart i ack s).free = s.free ∧ (doLearnStart i ack s).pending = s.pending ∧
    (doLearnStart i ack s).berths = s.berths ∧ (doLearnStart i ack s).ports = s.ports ∧ (doLearnStart i ack s).lock = s.lock ∧
    (doLearnStart i ack s).weir = s.weir ∧ (doLearnStart i ack s).sluice = s.sluice ∧ (doLearnStart i ack s).refloat = s.refloat ∧
    (doLearnStart i ack s).drc = s.drc ∧ (doLearnStart i ack s).fmm = s.fmm ∧ (doLearnStart i ack s).chart = s.chart ∧
    (doLearnStart i ack s).fly = s.fly ∧ (doLearnStart i ack s).seq = s.seq ∧ (doLearnStart i ack s).log = s.log ∧
    (doLearnStart i ack s).tow = s.tow ∧ (doLearnStart i ack s).keep = s.keep ∧ (doLearnStart i ack s).cfg = s.cfg ∧
    (doLearnStart i ack s).pke = s.pke ∧ (doLearnStart i ack s).clk = s.clk ∧ (doLearnStart i ack s).pins = s.pins ∧
    (doLearnStart i ack s).enginesOut = s.enginesOut := by
  unfold doLearnStart
  (repeat' split) <;> simp

@[simp] theorem State.draw_frame (s : State) :
    s.draw.1.now = s.now ∧ s.draw.1.pending = s.pending ∧ s.draw.1.regs = s.regs ∧ s.draw.1.cmds = s.cmds ∧ s.draw.1.out = s.out ∧ s.draw.1.berths = s.berths ∧ s.draw.1.ports = s.ports ∧ s.draw.1.lock = s.lock ∧ s.draw.1.weir = s.weir ∧ s.draw.1.sluice = s.sluice ∧ s.draw.1.refloat = s.refloat ∧ s.draw.1.drc = s.drc ∧ s.draw.1.fmm = s.fmm ∧ s.draw.1.chart = s.chart ∧ s.draw.1.gauge = s.gauge ∧ s.draw.1.fly = s.fly ∧ s.draw.1.seq = s.seq ∧ s.draw.1.log = s.log ∧ s.draw.1.tow = s.tow ∧ s.draw.1.keep = s.keep ∧ s.draw.1.cfg = s.cfg ∧ s.draw.1.pke = s.pke ∧ s.draw.1.clk = s.clk ∧ s.draw.1.mgmt = s.mgmt ∧ s.draw.1.pins = s.pins ∧ s.draw.1.enginesOut = s.enginesOut := by
  simp [State.draw]

@[simp] theorem gaugeOp_frame (op : Nat) (i : Nat) (s : State) :
    (gaugeOp op i s).now = s.now ∧ (gaugeOp op i s).pending = s.pending ∧ (gaugeOp op i s).berths = s.berths ∧
    (gaugeOp op i s).ports = s.ports ∧ (gaugeOp op i s).lock = s.lock ∧ (gaugeOp op i s).weir = s.weir ∧
    (gaugeOp op i s).sluice = s.sluice ∧ (gaugeOp op i s).refloat = s.refloat ∧ (gaugeOp op i s).drc = s.drc ∧
    (gaugeOp op i s).fmm = s.fmm ∧ (gaugeOp op i s).chart = s.chart ∧ (gaugeOp op i s).fly = s.fly ∧ (gaugeOp op i s).seq = s.seq ∧
    (gaugeOp op i s).log = s.log ∧ (gaugeOp op i s).tow = s.tow ∧ (gaugeOp op i s).keep = s.keep ∧ (gaugeOp op i s).cfg = s.cfg ∧
    (gaugeOp op i s).clk = s.clk ∧ (gaugeOp op i s).enginesOut = s.enginesOut := by
  unfold gaugeOp
  dsimp only
  (repeat' split) <;> simp

@[simp] theorem doReset_frame (s : State) :
    (doReset s).now = s.now ∧ (doReset s).free = s.free ∧ (doReset s).pending = s.pending := by
  unfold doReset
  simp

@[simp] theorem glbOp_frame (op : Nat) (s : State) :
    (glbOp op s).now = s.now ∧ (glbOp op s).free = s.free ∧ (glbOp op s).pending = s.pending := by
  unfold glbOp
  simp

@[simp] theorem restoreSrc_frame (n : Nat) (s : State) :
    (restoreSrc n s).now = s.now ∧ (restoreSrc n s).free = s.free ∧ (restoreSrc n s).pending = s.pending ∧
    (restoreSrc n s).regs = s.regs ∧ (restoreSrc n s).cmds = s.cmds ∧ (restoreSrc n s).out = s.out ∧ (restoreSrc n s).berths = s.berths ∧
    (restoreSrc n s).ports = s.ports ∧ (restoreSrc n s).lock = s.lock ∧ (restoreSrc n s).weir = s.weir ∧
    (restoreSrc n s).sluice = s.sluice ∧ (restoreSrc n s).refloat = s.refloat ∧ (restoreSrc n s).drc = s.drc ∧
    (restoreSrc n s).fmm = s.fmm ∧ (restoreSrc n s).chart = s.chart ∧ (restoreSrc n s).gauge = s.gauge ∧ (restoreSrc n s).fly = s.fly ∧
    (restoreSrc n s).seq = s.seq ∧ (restoreSrc n s).log = s.log ∧ (restoreSrc n s).tow = s.tow ∧ (restoreSrc n s).cfg = s.cfg ∧
    (restoreSrc n s).pke = s.pke ∧ (restoreSrc n s).clk = s.clk ∧ (restoreSrc n s).mgmt = s.mgmt ∧ (restoreSrc n s).pins = s.pins ∧
    (restoreSrc n s).enginesOut = s.enginesOut ∧ (restoreSrc n s).keep.reports = s.keep.reports := by
  unfold restoreSrc
  simp

@[simp] theorem doRestore_frame (n : Nat) (s : State) :
    (doRestore n s).now = s.now ∧ (doRestore n s).free = s.free ∧ (doRestore n s).pending = s.pending ∧
    (doRestore n s).berths = s.berths ∧ (doRestore n s).ports = s.ports ∧ (doRestore n s).lock = s.lock ∧ (doRestore n s).weir = s.weir ∧
    (doRestore n s).sluice = s.sluice ∧ (doRestore n s).refloat = s.refloat ∧ (doRestore n s).drc = s.drc ∧ (doRestore n s).fmm = s.fmm ∧
    (doRestore n s).chart = s.chart ∧ (doRestore n s).gauge = s.gauge ∧ (doRestore n s).fly = s.fly ∧ (doRestore n s).seq = s.seq ∧
    (doRestore n s).log = s.log ∧ (doRestore n s).tow = s.tow ∧ (doRestore n s).cfg = s.cfg ∧ (doRestore n s).pke = s.pke ∧
    (doRestore n s).clk = s.clk ∧ (doRestore n s).pins = s.pins ∧ (doRestore n s).enginesOut = s.enginesOut ∧
    (doRestore n s).keep.reports = s.keep.reports := by
  unfold doRestore
  (repeat' split) <;> simp

@[simp] theorem doRestoreAll_frame (s : State) :
    (doRestoreAll s).now = s.now ∧ (doRestoreAll s).free = s.free ∧ (doRestoreAll s).pending = s.pending ∧
    (doRestoreAll s).berths = s.berths ∧ (doRestoreAll s).ports = s.ports ∧ (doRestoreAll s).lock = s.lock ∧
    (doRestoreAll s).weir = s.weir ∧ (doRestoreAll s).sluice = s.sluice ∧ (doRestoreAll s).refloat = s.refloat ∧
    (doRestoreAll s).drc = s.drc ∧ (doRestoreAll s).fmm = s.fmm ∧ (doRestoreAll s).chart = s.chart ∧ (doRestoreAll s).gauge = s.gauge ∧
    (doRestoreAll s).fly = s.fly ∧ (doRestoreAll s).seq = s.seq ∧ (doRestoreAll s).log = s.log ∧ (doRestoreAll s).tow = s.tow ∧
    (doRestoreAll s).cfg = s.cfg ∧ (doRestoreAll s).pke = s.pke ∧ (doRestoreAll s).clk = s.clk ∧ (doRestoreAll s).pins = s.pins ∧
    (doRestoreAll s).enginesOut = s.enginesOut ∧ (doRestoreAll s).keep.reports = s.keep.reports := by
  unfold doRestoreAll
  simp

@[simp] theorem keepOp_frame (op : Nat) (src : Nat) (s : State) :
    (keepOp op src s).now = s.now ∧ (keepOp op src s).free = s.free ∧ (keepOp op src s).pending = s.pending ∧
    (keepOp op src s).berths = s.berths ∧ (keepOp op src s).ports = s.ports ∧ (keepOp op src s).lock = s.lock ∧
    (keepOp op src s).weir = s.weir ∧ (keepOp op src s).sluice = s.sluice ∧ (keepOp op src s).refloat = s.refloat ∧
    (keepOp op src s).drc = s.drc ∧ (keepOp op src s).fmm = s.fmm ∧ (keepOp op src s).chart = s.chart ∧
    (keepOp op src s).gauge = s.gauge ∧ (keepOp op src s).fly = s.fly ∧ (keepOp op src s).seq = s.seq ∧ (keepOp op src s).log = s.log ∧
    (keepOp op src s).tow = s.tow ∧ (keepOp op src s).cfg = s.cfg ∧ (keepOp op src s).pke = s.pke ∧ (keepOp op src s).clk = s.clk ∧
    (keepOp op src s).enginesOut = s.enginesOut ∧ (keepOp op src s).keep.reports = s.keep.reports := by
  unfold keepOp
  (repeat' split) <;> simp

@[simp] theorem doPortRetire_frame (p : Nat) (s : State) :
    (doPortRetire p s).now = s.now ∧ (doPortRetire p s).free = s.free ∧ (doPortRetire p s).pending = s.pending ∧
    (doPortRetire p s).lock = s.lock ∧ (doPortRetire p s).sluice = s.sluice ∧ (doPortRetire p s).refloat = s.refloat ∧
    (doPortRetire p s).gauge = s.gauge ∧ (doPortRetire p s).fly = s.fly ∧ (doPortRetire p s).seq = s.seq ∧
    (doPortRetire p s).log = s.log ∧ (doPortRetire p s).tow = s.tow ∧ (doPortRetire p s).cfg = s.cfg ∧ (doPortRetire p s).pke = s.pke ∧
    (doPortRetire p s).clk = s.clk ∧ (doPortRetire p s).pins = s.pins ∧ (doPortRetire p s).enginesOut = s.enginesOut := by
  unfold doPortRetire
  simp

@[simp] theorem portOp_frame (p : Nat) (op : Nat) (s : State) :
    (portOp p op s).now = s.now ∧ (portOp p op s).free = s.free ∧ (portOp p op s).pending = s.pending ∧ (portOp p op s).lock = s.lock ∧
    (portOp p op s).sluice = s.sluice ∧ (portOp p op s).refloat = s.refloat ∧ (portOp p op s).gauge = s.gauge ∧
    (portOp p op s).fly = s.fly ∧ (portOp p op s).seq = s.seq ∧ (portOp p op s).log = s.log ∧ (portOp p op s).tow = s.tow ∧
    (portOp p op s).cfg = s.cfg ∧ (portOp p op s).pke = s.pke ∧ (portOp p op s).clk = s.clk ∧ (portOp p op s).pins = s.pins ∧
    (portOp p op s).enginesOut = s.enginesOut := by
  unfold portOp
  simp

@[simp] theorem doRailCmd_frame (ack : Bool) (s : State) :
    (doRailCmd ack s).now = s.now ∧ (doRailCmd ack s).free = s.free ∧ (doRailCmd ack s).pending = s.pending ∧
    (doRailCmd ack s).berths = s.berths ∧ (doRailCmd ack s).ports = s.ports ∧ (doRailCmd ack s).lock = s.lock ∧
    (doRailCmd ack s).weir = s.weir ∧ (doRailCmd ack s).sluice = s.sluice ∧ (doRailCmd ack s).refloat = s.refloat ∧
    (doRailCmd ack s).drc = s.drc ∧ (doRailCmd ack s).fmm = s.fmm ∧ (doRailCmd ack s).chart = s.chart ∧
    (doRailCmd ack s).gauge = s.gauge ∧ (doRailCmd ack s).fly = s.fly ∧ (doRailCmd ack s).log = s.log ∧ (doRailCmd ack s).tow = s.tow ∧
    (doRailCmd ack s).keep = s.keep ∧ (doRailCmd ack s).cfg = s.cfg ∧ (doRailCmd ack s).pke = s.pke ∧ (doRailCmd ack s).clk = s.clk ∧
    (doRailCmd ack s).pins = s.pins ∧ (doRailCmd ack s).enginesOut = s.enginesOut := by
  unfold doRailCmd
  simp

@[simp] theorem doRunService_frame (s : State) :
    (doRunService s).now = s.now ∧ (doRunService s).free = s.free ∧ (doRunService s).pending = s.pending ∧
    (doRunService s).berths = s.berths ∧ (doRunService s).ports = s.ports ∧ (doRunService s).lock = s.lock ∧
    (doRunService s).weir = s.weir ∧ (doRunService s).sluice = s.sluice ∧ (doRunService s).refloat = s.refloat ∧
    (doRunService s).drc = s.drc ∧ (doRunService s).fmm = s.fmm ∧ (doRunService s).chart = s.chart ∧ (doRunService s).gauge = s.gauge ∧
    (doRunService s).fly = s.fly ∧ (doRunService s).tow = s.tow ∧ (doRunService s).keep = s.keep ∧ (doRunService s).cfg = s.cfg ∧
    (doRunService s).pke = s.pke ∧ (doRunService s).clk = s.clk ∧ (doRunService s).pins = s.pins ∧
    (doRunService s).enginesOut = s.enginesOut := by
  unfold doRunService
  simp

@[simp] theorem seqOp_frame (op : Nat) (s : State) :
    (seqOp op s).now = s.now ∧ (seqOp op s).pending = s.pending ∧ (seqOp op s).berths = s.berths ∧ (seqOp op s).ports = s.ports ∧
    (seqOp op s).lock = s.lock ∧ (seqOp op s).weir = s.weir ∧ (seqOp op s).sluice = s.sluice ∧ (seqOp op s).refloat = s.refloat ∧
    (seqOp op s).drc = s.drc ∧ (seqOp op s).fmm = s.fmm ∧ (seqOp op s).chart = s.chart ∧ (seqOp op s).gauge = s.gauge ∧
    (seqOp op s).fly = s.fly ∧ (seqOp op s).tow = s.tow ∧ (seqOp op s).keep = s.keep ∧ (seqOp op s).cfg = s.cfg ∧
    (seqOp op s).pke = s.pke ∧ (seqOp op s).clk = s.clk ∧ (seqOp op s).pins = s.pins ∧ (seqOp op s).enginesOut = s.enginesOut := by
  unfold seqOp
  dsimp only
  (repeat' split) <;> simp

@[simp] theorem setsBack_frame (s : State) :
    (setsBack s).now = s.now ∧ (setsBack s).free = s.free ∧ (setsBack s).pending = s.pending ∧ (setsBack s).regs = s.regs ∧
    (setsBack s).cmds = s.cmds ∧ (setsBack s).out = s.out ∧ (setsBack s).berths = s.berths ∧ (setsBack s).ports = s.ports ∧
    (setsBack s).lock = s.lock ∧ (setsBack s).weir = s.weir ∧ (setsBack s).sluice = s.sluice ∧ (setsBack s).refloat = s.refloat ∧
    (setsBack s).drc = s.drc ∧ (setsBack s).fmm = s.fmm ∧ (setsBack s).chart = s.chart ∧ (setsBack s).gauge = s.gauge ∧
    (setsBack s).seq = s.seq ∧ (setsBack s).log = s.log ∧ (setsBack s).tow = s.tow ∧ (setsBack s).keep = s.keep ∧
    (setsBack s).cfg = s.cfg ∧ (setsBack s).pke = s.pke ∧ (setsBack s).clk = s.clk ∧ (setsBack s).mgmt = s.mgmt ∧
    (setsBack s).pins = s.pins ∧ (setsBack s).enginesOut = s.enginesOut := by
  unfold setsBack
  simp

@[simp] theorem clearFly_frame (s : State) :
    (clearFly s).now = s.now ∧ (clearFly s).free = s.free ∧ (clearFly s).pending = s.pending ∧ (clearFly s).regs = s.regs ∧
    (clearFly s).cmds = s.cmds ∧ (clearFly s).out = s.out ∧ (clearFly s).berths = s.berths ∧ (clearFly s).ports = s.ports ∧
    (clearFly s).lock = s.lock ∧ (clearFly s).weir = s.weir ∧ (clearFly s).sluice = s.sluice ∧ (clearFly s).refloat = s.refloat ∧
    (clearFly s).drc = s.drc ∧ (clearFly s).fmm = s.fmm ∧ (clearFly s).chart = s.chart ∧ (clearFly s).gauge = s.gauge ∧
    (clearFly s).seq = s.seq ∧ (clearFly s).log = s.log ∧ (clearFly s).tow = s.tow ∧ (clearFly s).keep = s.keep ∧
    (clearFly s).cfg = s.cfg ∧ (clearFly s).pke = s.pke ∧ (clearFly s).clk = s.clk ∧ (clearFly s).mgmt = s.mgmt ∧
    (clearFly s).pins = s.pins ∧ (clearFly s).enginesOut = s.enginesOut := by
  unfold clearFly
  simp

@[simp] theorem writeHold_frame (hold : Bool) (s : State) :
    (writeHold hold s).now = s.now ∧ (writeHold hold s).free = s.free ∧ (writeHold hold s).pending = s.pending ∧
    (writeHold hold s).cmds = s.cmds ∧ (writeHold hold s).out = s.out ∧ (writeHold hold s).berths = s.berths ∧
    (writeHold hold s).ports = s.ports ∧ (writeHold hold s).lock = s.lock ∧ (writeHold hold s).sluice = s.sluice ∧
    (writeHold hold s).refloat = s.refloat ∧ (writeHold hold s).drc = s.drc ∧ (writeHold hold s).fmm = s.fmm ∧
    (writeHold hold s).chart = s.chart ∧ (writeHold hold s).gauge = s.gauge ∧ (writeHold hold s).seq = s.seq ∧
    (writeHold hold s).log = s.log ∧ (writeHold hold s).tow = s.tow ∧ (writeHold hold s).keep = s.keep ∧ (writeHold hold s).cfg = s.cfg ∧
    (writeHold hold s).pke = s.pke ∧ (writeHold hold s).clk = s.clk ∧ (writeHold hold s).mgmt = s.mgmt ∧
    (writeHold hold s).pins = s.pins ∧ (writeHold hold s).enginesOut = s.enginesOut := by
  unfold writeHold
  simp

@[simp] theorem flyOp_frame (hold : Bool) (clear : Bool) (s : State) :
    (flyOp hold clear s).now = s.now ∧ (flyOp hold clear s).free = s.free ∧ (flyOp hold clear s).pending = s.pending ∧
    (flyOp hold clear s).cmds = s.cmds ∧ (flyOp hold clear s).out = s.out ∧ (flyOp hold clear s).berths = s.berths ∧
    (flyOp hold clear s).ports = s.ports ∧ (flyOp hold clear s).lock = s.lock ∧ (flyOp hold clear s).sluice = s.sluice ∧
    (flyOp hold clear s).refloat = s.refloat ∧ (flyOp hold clear s).drc = s.drc ∧ (flyOp hold clear s).fmm = s.fmm ∧
    (flyOp hold clear s).chart = s.chart ∧ (flyOp hold clear s).gauge = s.gauge ∧ (flyOp hold clear s).seq = s.seq ∧
    (flyOp hold clear s).log = s.log ∧ (flyOp hold clear s).tow = s.tow ∧ (flyOp hold clear s).keep = s.keep ∧
    (flyOp hold clear s).cfg = s.cfg ∧ (flyOp hold clear s).pke = s.pke ∧ (flyOp hold clear s).clk = s.clk ∧
    (flyOp hold clear s).mgmt = s.mgmt ∧ (flyOp hold clear s).pins = s.pins ∧ (flyOp hold clear s).enginesOut = s.enginesOut := by
  unfold flyOp
  simp

@[simp] theorem lineFaulted_frame (n : Nat) (s : State) :
    (lineFaulted n s).now = s.now ∧ (lineFaulted n s).free = s.free ∧ (lineFaulted n s).pending = s.pending := by
  unfold lineFaulted
  simp

@[simp] theorem ownEffect_frame (n : Nat) (severe : Bool) (d : BitVec 48) (s : State) :
    (ownEffect n severe d s).now = s.now ∧ (ownEffect n severe d s).free = s.free ∧ (ownEffect n severe d s).pending = s.pending ∧
    (ownEffect n severe d s).cmds = s.cmds ∧ (ownEffect n severe d s).lock = s.lock ∧ (ownEffect n severe d s).sluice = s.sluice ∧
    (ownEffect n severe d s).refloat = s.refloat ∧ (ownEffect n severe d s).gauge = s.gauge ∧ (ownEffect n severe d s).fly = s.fly ∧
    (ownEffect n severe d s).seq = s.seq ∧ (ownEffect n severe d s).log = s.log ∧ (ownEffect n severe d s).tow = s.tow ∧
    (ownEffect n severe d s).cfg = s.cfg ∧ (ownEffect n severe d s).pke = s.pke ∧ (ownEffect n severe d s).clk = s.clk ∧
    (ownEffect n severe d s).pins = s.pins := by
  unfold ownEffect
  simp

@[simp] theorem flyStop_frame (s : State) :
    (flyStop s).now = s.now ∧ (flyStop s).free = s.free ∧ (flyStop s).pending = s.pending ∧ (flyStop s).regs = s.regs ∧
    (flyStop s).cmds = s.cmds ∧ (flyStop s).out = s.out ∧ (flyStop s).berths = s.berths ∧ (flyStop s).ports = s.ports ∧
    (flyStop s).lock = s.lock ∧ (flyStop s).sluice = s.sluice ∧ (flyStop s).refloat = s.refloat ∧ (flyStop s).drc = s.drc ∧
    (flyStop s).fmm = s.fmm ∧ (flyStop s).chart = s.chart ∧ (flyStop s).gauge = s.gauge ∧ (flyStop s).seq = s.seq ∧
    (flyStop s).log = s.log ∧ (flyStop s).tow = s.tow ∧ (flyStop s).keep = s.keep ∧ (flyStop s).cfg = s.cfg ∧ (flyStop s).pke = s.pke ∧
    (flyStop s).clk = s.clk ∧ (flyStop s).mgmt = s.mgmt ∧ (flyStop s).pins = s.pins ∧ (flyStop s).enginesOut = s.enginesOut := by
  unfold flyStop
  simp

@[simp] theorem rootSource_frame (s : State) :
    (rootSource s).now = s.now ∧ (rootSource s).free = s.free ∧ (rootSource s).pending = s.pending ∧ (rootSource s).cmds = s.cmds ∧
    (rootSource s).berths = s.berths ∧ (rootSource s).ports = s.ports ∧ (rootSource s).lock = s.lock ∧ (rootSource s).weir = s.weir ∧
    (rootSource s).sluice = s.sluice ∧ (rootSource s).refloat = s.refloat ∧ (rootSource s).drc = s.drc ∧ (rootSource s).fmm = s.fmm ∧
    (rootSource s).chart = s.chart ∧ (rootSource s).gauge = s.gauge ∧ (rootSource s).fly = s.fly ∧ (rootSource s).seq = s.seq ∧
    (rootSource s).log = s.log ∧ (rootSource s).tow = s.tow ∧ (rootSource s).cfg = s.cfg ∧ (rootSource s).pke = s.pke ∧
    (rootSource s).clk = s.clk ∧ (rootSource s).pins = s.pins ∧ (rootSource s).enginesOut = s.enginesOut ∧
    (rootSource s).keep.reports = s.keep.reports := by
  unfold rootSource
  dsimp only
  (repeat' split) <;> simp

@[simp] theorem sluiceStop_frame (s : State) :
    (sluiceStop s).now = s.now ∧ (sluiceStop s).free = s.free ∧ (sluiceStop s).pending = s.pending ∧ (sluiceStop s).regs = s.regs ∧
    (sluiceStop s).cmds = s.cmds ∧ (sluiceStop s).out = s.out ∧ (sluiceStop s).berths = s.berths ∧ (sluiceStop s).ports = s.ports ∧
    (sluiceStop s).lock = s.lock ∧ (sluiceStop s).weir = s.weir ∧ (sluiceStop s).refloat = s.refloat ∧ (sluiceStop s).drc = s.drc ∧
    (sluiceStop s).fmm = s.fmm ∧ (sluiceStop s).chart = s.chart ∧ (sluiceStop s).gauge = s.gauge ∧ (sluiceStop s).fly = s.fly ∧
    (sluiceStop s).seq = s.seq ∧ (sluiceStop s).log = s.log ∧ (sluiceStop s).tow = s.tow ∧ (sluiceStop s).cfg = s.cfg ∧
    (sluiceStop s).pke = s.pke ∧ (sluiceStop s).clk = s.clk ∧ (sluiceStop s).mgmt = s.mgmt ∧ (sluiceStop s).pins = s.pins ∧
    (sluiceStop s).enginesOut = s.enginesOut ∧ (sluiceStop s).keep.reports = s.keep.reports := by
  unfold sluiceStop
  try dsimp only
  (repeat' split) <;> simp_all

@[simp] theorem rootLost_frame (s : State) :
    (rootLost s).now = s.now ∧ (rootLost s).free = s.free ∧ (rootLost s).pending = s.pending ∧ (rootLost s).tow = s.tow := by
  unfold rootLost
  simp

@[simp] theorem raise_frame (n : Nat) (severe : Bool) (d : BitVec 48) (s : State) :
    (raise n severe d s).now = s.now ∧ (raise n severe d s).free = s.free ∧ (raise n severe d s).pending = s.pending ∧
    (raise n severe d s).tow = s.tow := by
  unfold raise
  simp

@[simp] theorem inject_frame (w : Word) (s : State) :
    (inject w s).now = s.now ∧ (inject w s).pending = s.pending := by
  unfold inject
  simp

@[simp] theorem sanBegin_frame (s : State) :
    (sanBegin s).now = s.now ∧ (sanBegin s).free = s.free ∧ (sanBegin s).pending = s.pending ∧ (sanBegin s).cmds = s.cmds ∧
    (sanBegin s).ports = s.ports ∧ (sanBegin s).lock = s.lock ∧ (sanBegin s).weir = s.weir ∧ (sanBegin s).sluice = s.sluice ∧
    (sanBegin s).refloat = s.refloat ∧ (sanBegin s).gauge = s.gauge ∧ (sanBegin s).fly = s.fly ∧ (sanBegin s).seq = s.seq ∧
    (sanBegin s).log = s.log ∧ (sanBegin s).tow = s.tow ∧ (sanBegin s).cfg = s.cfg ∧ (sanBegin s).pke = s.pke ∧ (sanBegin s).clk = s.clk ∧
    (sanBegin s).mgmt = s.mgmt ∧ (sanBegin s).pins = s.pins ∧ (sanBegin s).enginesOut = s.enginesOut := by
  unfold sanBegin
  simp

@[simp] theorem sanitizeWrite_frame (key : Byte) (start : Bool) (s : State) :
    (sanitizeWrite key start s).now = s.now ∧ (sanitizeWrite key start s).free = s.free ∧
    (sanitizeWrite key start s).pending = s.pending ∧ (sanitizeWrite key start s).cmds = s.cmds ∧
    (sanitizeWrite key start s).ports = s.ports ∧ (sanitizeWrite key start s).lock = s.lock ∧ (sanitizeWrite key start s).weir = s.weir ∧
    (sanitizeWrite key start s).sluice = s.sluice ∧ (sanitizeWrite key start s).refloat = s.refloat ∧
    (sanitizeWrite key start s).gauge = s.gauge ∧ (sanitizeWrite key start s).fly = s.fly ∧ (sanitizeWrite key start s).seq = s.seq ∧
    (sanitizeWrite key start s).log = s.log ∧ (sanitizeWrite key start s).tow = s.tow ∧ (sanitizeWrite key start s).cfg = s.cfg ∧
    (sanitizeWrite key start s).pke = s.pke ∧ (sanitizeWrite key start s).clk = s.clk ∧ (sanitizeWrite key start s).mgmt = s.mgmt ∧
    (sanitizeWrite key start s).pins = s.pins ∧ (sanitizeWrite key start s).enginesOut = s.enginesOut := by
  unfold sanitizeWrite
  simp

@[simp] theorem sluiceWrite_frame (key : Byte) (start : Bool) (s : State) :
    (sluiceWrite key start s).now = s.now ∧ (sluiceWrite key start s).free = s.free ∧ (sluiceWrite key start s).pending = s.pending ∧
    (sluiceWrite key start s).refloat = s.refloat ∧ (sluiceWrite key start s).pke = s.pke ∧ (sluiceWrite key start s).clk = s.clk ∧
    (sluiceWrite key start s).enginesOut = s.enginesOut := by
  unfold sluiceWrite
  simp

@[simp] theorem towOp_frame (op : Nat) (mask : Byte) (s : State) :
    (towOp op mask s).now = s.now ∧ (towOp op mask s).free = s.free ∧ (towOp op mask s).pending = s.pending ∧
    (towOp op mask s).cmds = s.cmds ∧ (towOp op mask s).berths = s.berths ∧ (towOp op mask s).ports = s.ports ∧
    (towOp op mask s).lock = s.lock ∧ (towOp op mask s).weir = s.weir ∧ (towOp op mask s).sluice = s.sluice ∧
    (towOp op mask s).refloat = s.refloat ∧ (towOp op mask s).drc = s.drc ∧ (towOp op mask s).fmm = s.fmm ∧
    (towOp op mask s).chart = s.chart ∧ (towOp op mask s).gauge = s.gauge ∧ (towOp op mask s).fly = s.fly ∧
    (towOp op mask s).seq = s.seq ∧ (towOp op mask s).keep = s.keep ∧ (towOp op mask s).cfg = s.cfg ∧ (towOp op mask s).pke = s.pke ∧
    (towOp op mask s).clk = s.clk ∧ (towOp op mask s).pins = s.pins ∧ (towOp op mask s).enginesOut = s.enginesOut := by
  unfold towOp
  simp

theorem cmdStart_frame (k : Nat) (f : State → State) (s : State)
    (h : ∀ t, (f t).now = t.now ∧ (f t).pending = t.pending) :
    (cmdStart k f s).now = s.now ∧ (cmdStart k f s).pending = s.pending := by
  unfold cmdStart
  split
  · have := h (cmdTake k s)
    simpa using this
  · simp

theorem control_frame (off : Nat) (d : Word) (s : State) (k c : Nat) (f : State → State) (h : control off d s = some (k, c, f))
    (t : State) : (f t).now = t.now ∧ (f t).pending = t.pending := by
  unfold control at h
  dsimp only at h
  repeat' split at h
  all_goals first
    | cases h; done
    | (simp only [Option.some.injEq, Prod.mk.injEq] at h; obtain ⟨_, _, rfl⟩ := h; simp)

@[simp] theorem keyWrite_frame (off : Nat) (d : Word) (s : State) :
    (keyWrite off d s).now = s.now ∧ (keyWrite off d s).pending = s.pending := by
  unfold keyWrite
  dsimp only
  split
  · next k c f h =>
    have g := cmdStart_frame c f s (control_frame _ _ _ _ _ _ h)
    split
    · exact g
    · simp
  · (repeat' split) <;> simp

@[simp] theorem sendPending_frame (n : Nat) (s : State) :
    (sendPending n s).now = s.now ∧ (sendPending n s).free = s.free ∧ (sendPending n s).pending = s.pending ∧
    (sendPending n s).regs = s.regs ∧ (sendPending n s).cmds = s.cmds ∧ (sendPending n s).berths = s.berths ∧
    (sendPending n s).ports = s.ports ∧ (sendPending n s).lock = s.lock ∧ (sendPending n s).weir = s.weir ∧
    (sendPending n s).sluice = s.sluice ∧ (sendPending n s).refloat = s.refloat ∧ (sendPending n s).drc = s.drc ∧
    (sendPending n s).fmm = s.fmm ∧ (sendPending n s).chart = s.chart ∧ (sendPending n s).gauge = s.gauge ∧
    (sendPending n s).fly = s.fly ∧ (sendPending n s).seq = s.seq ∧ (sendPending n s).log = s.log ∧ (sendPending n s).tow = s.tow ∧
    (sendPending n s).keep = s.keep ∧ (sendPending n s).cfg = s.cfg ∧ (sendPending n s).pke = s.pke ∧ (sendPending n s).clk = s.clk ∧
    (sendPending n s).pins = s.pins ∧ (sendPending n s).enginesOut = s.enginesOut := by
  unfold sendPending
  simp

@[simp] theorem msixWrite_frame (k : Nat) (lane : Word) (data : Word) (s : State) :
    (msixWrite k lane data s).now = s.now ∧ (msixWrite k lane data s).free = s.free ∧ (msixWrite k lane data s).pending = s.pending ∧
    (msixWrite k lane data s).regs = s.regs ∧ (msixWrite k lane data s).cmds = s.cmds ∧ (msixWrite k lane data s).berths = s.berths ∧
    (msixWrite k lane data s).ports = s.ports ∧ (msixWrite k lane data s).lock = s.lock ∧ (msixWrite k lane data s).weir = s.weir ∧
    (msixWrite k lane data s).sluice = s.sluice ∧ (msixWrite k lane data s).refloat = s.refloat ∧ (msixWrite k lane data s).drc = s.drc ∧
    (msixWrite k lane data s).fmm = s.fmm ∧ (msixWrite k lane data s).chart = s.chart ∧ (msixWrite k lane data s).gauge = s.gauge ∧
    (msixWrite k lane data s).fly = s.fly ∧ (msixWrite k lane data s).seq = s.seq ∧ (msixWrite k lane data s).log = s.log ∧
    (msixWrite k lane data s).tow = s.tow ∧ (msixWrite k lane data s).keep = s.keep ∧ (msixWrite k lane data s).cfg = s.cfg ∧
    (msixWrite k lane data s).pke = s.pke ∧ (msixWrite k lane data s).clk = s.clk ∧ (msixWrite k lane data s).pins = s.pins ∧
    (msixWrite k lane data s).enginesOut = s.enginesOut := by
  unfold msixWrite
  simp

@[simp] theorem irqWritten_frame (off : Nat) (data : Word) (s : State) :
    (irqWritten off data s).now = s.now ∧ (irqWritten off data s).free = s.free ∧ (irqWritten off data s).pending = s.pending ∧
    (irqWritten off data s).regs = s.regs ∧ (irqWritten off data s).cmds = s.cmds ∧ (irqWritten off data s).berths = s.berths ∧
    (irqWritten off data s).ports = s.ports ∧ (irqWritten off data s).lock = s.lock ∧ (irqWritten off data s).weir = s.weir ∧
    (irqWritten off data s).sluice = s.sluice ∧ (irqWritten off data s).refloat = s.refloat ∧ (irqWritten off data s).drc = s.drc ∧
    (irqWritten off data s).fmm = s.fmm ∧ (irqWritten off data s).chart = s.chart ∧ (irqWritten off data s).gauge = s.gauge ∧
    (irqWritten off data s).fly = s.fly ∧ (irqWritten off data s).seq = s.seq ∧ (irqWritten off data s).log = s.log ∧
    (irqWritten off data s).tow = s.tow ∧ (irqWritten off data s).keep = s.keep ∧ (irqWritten off data s).cfg = s.cfg ∧
    (irqWritten off data s).pke = s.pke ∧ (irqWritten off data s).clk = s.clk ∧ (irqWritten off data s).pins = s.pins ∧
    (irqWritten off data s).enginesOut = s.enginesOut := by
  unfold irqWritten
  simp

@[simp] theorem readLog_frame (seq : BitVec 32) (s : State) :
    (readLog seq s).now = s.now ∧ (readLog seq s).free = s.free ∧ (readLog seq s).pending = s.pending ∧ (readLog seq s).out = s.out ∧
    (readLog seq s).berths = s.berths ∧ (readLog seq s).ports = s.ports ∧ (readLog seq s).lock = s.lock ∧ (readLog seq s).weir = s.weir ∧
    (readLog seq s).sluice = s.sluice ∧ (readLog seq s).refloat = s.refloat ∧ (readLog seq s).drc = s.drc ∧ (readLog seq s).fmm = s.fmm ∧
    (readLog seq s).chart = s.chart ∧ (readLog seq s).gauge = s.gauge ∧ (readLog seq s).fly = s.fly ∧ (readLog seq s).seq = s.seq ∧
    (readLog seq s).tow = s.tow ∧ (readLog seq s).keep = s.keep ∧ (readLog seq s).cfg = s.cfg ∧ (readLog seq s).pke = s.pke ∧
    (readLog seq s).clk = s.clk ∧ (readLog seq s).mgmt = s.mgmt ∧ (readLog seq s).pins = s.pins ∧
    (readLog seq s).enginesOut = s.enginesOut := by
  unfold readLog
  simp

@[simp] theorem shutWritten_frame (old : Nat) (s : State) :
    (shutWritten old s).now = s.now ∧ (shutWritten old s).free = s.free ∧ (shutWritten old s).pending = s.pending ∧
    (shutWritten old s).cmds = s.cmds ∧ (shutWritten old s).lock = s.lock ∧ (shutWritten old s).sluice = s.sluice ∧
    (shutWritten old s).refloat = s.refloat ∧ (shutWritten old s).gauge = s.gauge ∧ (shutWritten old s).fly = s.fly ∧
    (shutWritten old s).seq = s.seq ∧ (shutWritten old s).log = s.log ∧ (shutWritten old s).tow = s.tow ∧
    (shutWritten old s).cfg = s.cfg ∧ (shutWritten old s).pke = s.pke ∧ (shutWritten old s).clk = s.clk ∧
    (shutWritten old s).pins = s.pins ∧ (shutWritten old s).enginesOut = s.enginesOut := by
  unfold shutWritten
  simp

@[simp] theorem writeLinkTarget_frame (t : Nat) (s : State) :
    (writeLinkTarget t s).now = s.now ∧ (writeLinkTarget t s).free = s.free ∧ (writeLinkTarget t s).pending = s.pending ∧
    (writeLinkTarget t s).cmds = s.cmds ∧ (writeLinkTarget t s).out = s.out ∧ (writeLinkTarget t s).berths = s.berths ∧
    (writeLinkTarget t s).ports = s.ports ∧ (writeLinkTarget t s).lock = s.lock ∧ (writeLinkTarget t s).weir = s.weir ∧
    (writeLinkTarget t s).sluice = s.sluice ∧ (writeLinkTarget t s).refloat = s.refloat ∧ (writeLinkTarget t s).drc = s.drc ∧
    (writeLinkTarget t s).fmm = s.fmm ∧ (writeLinkTarget t s).chart = s.chart ∧ (writeLinkTarget t s).gauge = s.gauge ∧
    (writeLinkTarget t s).seq = s.seq ∧ (writeLinkTarget t s).log = s.log ∧ (writeLinkTarget t s).tow = s.tow ∧
    (writeLinkTarget t s).keep = s.keep ∧ (writeLinkTarget t s).cfg = s.cfg ∧ (writeLinkTarget t s).pke = s.pke ∧
    (writeLinkTarget t s).clk = s.clk ∧ (writeLinkTarget t s).mgmt = s.mgmt ∧ (writeLinkTarget t s).pins = s.pins ∧
    (writeLinkTarget t s).enginesOut = s.enginesOut := by
  unfold writeLinkTarget
  simp

@[simp] theorem plainWrite_frame (r : RegInfo) (off : Nat) (lane : Word) (data : Word) (s : State) :
    (plainWrite r off lane data s).now = s.now ∧ (plainWrite r off lane data s).free = s.free ∧
    (plainWrite r off lane data s).pending = s.pending ∧ (plainWrite r off lane data s).lock = s.lock ∧
    (plainWrite r off lane data s).sluice = s.sluice ∧ (plainWrite r off lane data s).refloat = s.refloat ∧
    (plainWrite r off lane data s).gauge = s.gauge ∧ (plainWrite r off lane data s).seq = s.seq ∧
    (plainWrite r off lane data s).tow = s.tow ∧ (plainWrite r off lane data s).cfg = s.cfg ∧ (plainWrite r off lane data s).pke = s.pke ∧
    (plainWrite r off lane data s).clk = s.clk ∧ (plainWrite r off lane data s).pins = s.pins ∧
    (plainWrite r off lane data s).enginesOut = s.enginesOut := by
  unfold plainWrite
  simp

@[simp] theorem regWrite_frame (off : Nat) (size : Nat) (d : Word) (s : State) :
    (regWrite off size d s).now = s.now ∧ (regWrite off size d s).pending = s.pending := by
  unfold regWrite
  dsimp only
  (repeat' split) <;> simp

@[simp] theorem mgmtWrite_frame (off : Nat) (size : Nat) (d : Word) (s : State) :
    (mgmtWrite off size d s).now = s.now ∧ (mgmtWrite off size d s).pending = s.pending := by
  unfold mgmtWrite
  simp

@[simp] theorem statusCapture_frame (s : State) :
    (statusCapture s).now = s.now ∧ (statusCapture s).free = s.free ∧ (statusCapture s).pending = s.pending ∧
    (statusCapture s).regs = s.regs ∧ (statusCapture s).cmds = s.cmds ∧ (statusCapture s).berths = s.berths ∧
    (statusCapture s).ports = s.ports ∧ (statusCapture s).lock = s.lock ∧ (statusCapture s).weir = s.weir ∧
    (statusCapture s).sluice = s.sluice ∧ (statusCapture s).refloat = s.refloat ∧ (statusCapture s).drc = s.drc ∧
    (statusCapture s).fmm = s.fmm ∧ (statusCapture s).chart = s.chart ∧ (statusCapture s).fly = s.fly ∧ (statusCapture s).seq = s.seq ∧
    (statusCapture s).log = s.log ∧ (statusCapture s).tow = s.tow ∧ (statusCapture s).keep = s.keep ∧ (statusCapture s).cfg = s.cfg ∧
    (statusCapture s).pke = s.pke ∧ (statusCapture s).clk = s.clk ∧ (statusCapture s).mgmt = s.mgmt ∧ (statusCapture s).pins = s.pins ∧
    (statusCapture s).enginesOut = s.enginesOut := by
  unfold statusCapture
  simp

@[simp] theorem stringCapture_frame (i : Nat) (s : State) :
    (stringCapture i s).now = s.now ∧ (stringCapture i s).free = s.free ∧ (stringCapture i s).pending = s.pending ∧
    (stringCapture i s).regs = s.regs ∧ (stringCapture i s).cmds = s.cmds ∧ (stringCapture i s).berths = s.berths ∧
    (stringCapture i s).ports = s.ports ∧ (stringCapture i s).lock = s.lock ∧ (stringCapture i s).weir = s.weir ∧
    (stringCapture i s).sluice = s.sluice ∧ (stringCapture i s).refloat = s.refloat ∧ (stringCapture i s).drc = s.drc ∧
    (stringCapture i s).fmm = s.fmm ∧ (stringCapture i s).chart = s.chart ∧ (stringCapture i s).fly = s.fly ∧
    (stringCapture i s).seq = s.seq ∧ (stringCapture i s).log = s.log ∧ (stringCapture i s).tow = s.tow ∧
    (stringCapture i s).keep = s.keep ∧ (stringCapture i s).cfg = s.cfg ∧ (stringCapture i s).pke = s.pke ∧
    (stringCapture i s).clk = s.clk ∧ (stringCapture i s).mgmt = s.mgmt ∧ (stringCapture i s).pins = s.pins ∧
    (stringCapture i s).enginesOut = s.enginesOut := by
  unfold stringCapture
  simp

theorem viaPort_frame (c : Instr) (charter : Bool) (f : State → Res) (s t : State) (h : viaPort c charter f s = .next t)
    (hf : ∀ u v, f u = .next v → v.now = u.now ∧ v.pending = u.pending) : t.now = s.now ∧ t.pending = s.pending := by
  unfold viaPort at h
  split at h
  · cases h; exact ⟨rfl, rfl⟩
  · exact hf _ _ h

theorem execBerthSel_port (value : Word) (s t : State) (h : execBerthSel value s = .next t) : t.now = s.now ∧ t.pending = s.pending := by
  refine viaPort_frame _ _ _ _ _ h (fun u v hv => ?_)
  (try simp only [berthCommand, pkeCommand, gaugeCommand, keepCommand, cfgCommand, chartCommand, seqCommand, towCommand] at hv)
  (repeat' split at hv) <;> (obtain rfl := Host.Outcome.next.inj hv; first | (simp; done) | ((try dsimp only); (try unfold cmdStart); (repeat' split) <;> simp))

theorem execCharter_port (s t : State) (h : execCharter s = .next t) : t.now = s.now ∧ t.pending = s.pending := by
  refine viaPort_frame _ _ _ _ _ h (fun u v hv => ?_)
  (try simp only [berthCommand, pkeCommand, gaugeCommand, keepCommand, cfgCommand, chartCommand, seqCommand, towCommand] at hv)
  (repeat' split at hv) <;> (obtain rfl := Host.Outcome.next.inj hv; first | (simp; done) | ((try dsimp only); (try unfold cmdStart); (repeat' split) <;> simp))

theorem execModify_port (s t : State) (h : execModify s = .next t) : t.now = s.now ∧ t.pending = s.pending := by
  refine viaPort_frame _ _ _ _ _ h (fun u v hv => ?_)
  (try simp only [berthCommand, pkeCommand, gaugeCommand, keepCommand, cfgCommand, chartCommand, seqCommand, towCommand] at hv)
  (repeat' split at hv) <;> (obtain rfl := Host.Outcome.next.inj hv; first | (simp; done) | ((try dsimp only); (try unfold cmdStart); (repeat' split) <;> simp))

theorem execFence_port (s t : State) (h : execFence s = .next t) : t.now = s.now ∧ t.pending = s.pending := by
  refine viaPort_frame _ _ _ _ _ h (fun u v hv => ?_)
  (try simp only [berthCommand, pkeCommand, gaugeCommand, keepCommand, cfgCommand, chartCommand, seqCommand, towCommand] at hv)
  (repeat' split at hv) <;> (obtain rfl := Host.Outcome.next.inj hv; first | (simp; done) | ((try dsimp only); (try unfold cmdStart); (repeat' split) <;> simp))

theorem execRecharter_port (s t : State) (h : execRecharter s = .next t) : t.now = s.now ∧ t.pending = s.pending := by
  refine viaPort_frame _ _ _ _ _ h (fun u v hv => ?_)
  (try simp only [berthCommand, pkeCommand, gaugeCommand, keepCommand, cfgCommand, chartCommand, seqCommand, towCommand] at hv)
  (repeat' split at hv) <;> (obtain rfl := Host.Outcome.next.inj hv; first | (simp; done) | ((try dsimp only); (try unfold cmdStart); (repeat' split) <;> simp))

theorem execRelease_port (s t : State) (h : execRelease s = .next t) : t.now = s.now ∧ t.pending = s.pending := by
  refine viaPort_frame _ _ _ _ _ h (fun u v hv => ?_)
  (try simp only [berthCommand, pkeCommand, gaugeCommand, keepCommand, cfgCommand, chartCommand, seqCommand, towCommand] at hv)
  (repeat' split at hv) <;> (obtain rfl := Host.Outcome.next.inj hv; first | (simp; done) | ((try dsimp only); (try unfold cmdStart); (repeat' split) <;> simp))

theorem execWeirShutWrite_port (shut : Bool) (s t : State) (h : execWeirShutWrite shut s = .next t) : t.now = s.now ∧ t.pending = s.pending := by
  refine viaPort_frame _ _ _ _ _ h (fun u v hv => ?_)
  (try simp only [berthCommand, pkeCommand, gaugeCommand, keepCommand, cfgCommand, chartCommand, seqCommand, towCommand] at hv)
  (repeat' split at hv) <;> (obtain rfl := Host.Outcome.next.inj hv; first | (simp; done) | ((try dsimp only); (try unfold cmdStart); (repeat' split) <;> simp))

theorem execSanitizeStart_port (key : Byte) (start : Bool) (s t : State) (h : execSanitizeStart key start s = .next t) : t.now = s.now ∧ t.pending = s.pending := by
  refine viaPort_frame _ _ _ _ _ h (fun u v hv => ?_)
  (try simp only [berthCommand, pkeCommand, gaugeCommand, keepCommand, cfgCommand, chartCommand, seqCommand, towCommand] at hv)
  (repeat' split at hv) <;> (obtain rfl := Host.Outcome.next.inj hv; first | (simp; done) | ((try dsimp only); (try unfold cmdStart); (repeat' split) <;> simp))

theorem execDrcRetire_port (key : Byte) (retire : Bool) (ch : BitVec 4) (s t : State) (h : execDrcRetire key retire ch s = .next t) : t.now = s.now ∧ t.pending = s.pending := by
  refine viaPort_frame _ _ _ _ _ h (fun u v hv => ?_)
  (try simp only [berthCommand, pkeCommand, gaugeCommand, keepCommand, cfgCommand, chartCommand, seqCommand, towCommand] at hv)
  (repeat' split at hv) <;> (obtain rfl := Host.Outcome.next.inj hv; first | (simp; done) | ((try dsimp only); (try unfold cmdStart); (repeat' split) <;> simp))

theorem execSluiceCommand_port (key : Byte) (start : Bool) (s t : State) (h : execSluiceCommand key start s = .next t) : t.now = s.now ∧ t.pending = s.pending := by
  refine viaPort_frame _ _ _ _ _ h (fun u v hv => ?_)
  (try simp only [berthCommand, pkeCommand, gaugeCommand, keepCommand, cfgCommand, chartCommand, seqCommand, towCommand] at hv)
  (repeat' split at hv) <;> (obtain rfl := Host.Outcome.next.inj hv; first | (simp; done) | ((try dsimp only); (try unfold cmdStart); (repeat' split) <;> simp))

theorem execLearnStart_port (key : Byte) (i : Fin 8) (ack : Bool) (s t : State) (h : execLearnStart key i ack s = .next t) : t.now = s.now ∧ t.pending = s.pending := by
  refine viaPort_frame _ _ _ _ _ h (fun u v hv => ?_)
  (try simp only [berthCommand, pkeCommand, gaugeCommand, keepCommand, cfgCommand, chartCommand, seqCommand, towCommand] at hv)
  (repeat' split at hv) <;> (obtain rfl := Host.Outcome.next.inj hv; first | (simp; done) | ((try dsimp only); (try unfold cmdStart); (repeat' split) <;> simp))

theorem execLearnAbort_port (key : Byte) (s t : State) (h : execLearnAbort key s = .next t) : t.now = s.now ∧ t.pending = s.pending := by
  refine viaPort_frame _ _ _ _ _ h (fun u v hv => ?_)
  (try simp only [berthCommand, pkeCommand, gaugeCommand, keepCommand, cfgCommand, chartCommand, seqCommand, towCommand] at hv)
  (repeat' split at hv) <;> (obtain rfl := Host.Outcome.next.inj hv; first | (simp; done) | ((try dsimp only); (try unfold cmdStart); (repeat' split) <;> simp))

theorem execAuth_port (key : Byte) (i : Fin 8) (s t : State) (h : execAuth key i s = .next t) : t.now = s.now ∧ t.pending = s.pending := by
  refine viaPort_frame _ _ _ _ _ h (fun u v hv => ?_)
  (try simp only [berthCommand, pkeCommand, gaugeCommand, keepCommand, cfgCommand, chartCommand, seqCommand, towCommand] at hv)
  (repeat' split at hv) <;> (obtain rfl := Host.Outcome.next.inj hv; first | (simp; done) | ((try dsimp only); (try unfold cmdStart); (repeat' split) <;> simp))

theorem execCapTest_port (key : Byte) (s t : State) (h : execCapTest key s = .next t) : t.now = s.now ∧ t.pending = s.pending := by
  refine viaPort_frame _ _ _ _ _ h (fun u v hv => ?_)
  (try simp only [berthCommand, pkeCommand, gaugeCommand, keepCommand, cfgCommand, chartCommand, seqCommand, towCommand] at hv)
  (repeat' split at hv) <;> (obtain rfl := Host.Outcome.next.inj hv; first | (simp; done) | ((try dsimp only); (try unfold cmdStart); (repeat' split) <;> simp))

theorem execForget_port (key : Byte) (i : Fin 8) (s t : State) (h : execForget key i s = .next t) : t.now = s.now ∧ t.pending = s.pending := by
  refine viaPort_frame _ _ _ _ _ h (fun u v hv => ?_)
  (try simp only [berthCommand, pkeCommand, gaugeCommand, keepCommand, cfgCommand, chartCommand, seqCommand, towCommand] at hv)
  (repeat' split at hv) <;> (obtain rfl := Host.Outcome.next.inj hv; first | (simp; done) | ((try dsimp only); (try unfold cmdStart); (repeat' split) <;> simp))

theorem execGaugeStringCapture_port (i : Fin 8) (s t : State) (h : execGaugeStringCapture i s = .next t) : t.now = s.now ∧ t.pending = s.pending := by
  refine viaPort_frame _ _ _ _ _ h (fun u v hv => ?_)
  (try simp only [berthCommand, pkeCommand, gaugeCommand, keepCommand, cfgCommand, chartCommand, seqCommand, towCommand] at hv)
  (repeat' split at hv) <;> (obtain rfl := Host.Outcome.next.inj hv; first | (simp; done) | ((try dsimp only); (try unfold cmdStart); (repeat' split) <;> simp))

theorem execGaugeStatusCapture_port (s t : State) (h : execGaugeStatusCapture s = .next t) : t.now = s.now ∧ t.pending = s.pending := by
  refine viaPort_frame _ _ _ _ _ h (fun u v hv => ?_)
  (try simp only [berthCommand, pkeCommand, gaugeCommand, keepCommand, cfgCommand, chartCommand, seqCommand, towCommand] at hv)
  (repeat' split at hv) <;> (obtain rfl := Host.Outcome.next.inj hv; first | (simp; done) | ((try dsimp only); (try unfold cmdStart); (repeat' split) <;> simp))

theorem execLinkTarget_port (target : BitVec 16) (s t : State) (h : execLinkTarget target s = .next t) : t.now = s.now ∧ t.pending = s.pending := by
  refine viaPort_frame _ _ _ _ _ h (fun u v hv => ?_)
  (try simp only [berthCommand, pkeCommand, gaugeCommand, keepCommand, cfgCommand, chartCommand, seqCommand, towCommand] at hv)
  (repeat' split at hv) <;> (obtain rfl := Host.Outcome.next.inj hv; first | (simp; done) | ((try dsimp only); (try unfold cmdStart); (repeat' split) <;> simp))

theorem execFlyHold_port (key : Byte) (hold : Bool) (s t : State) (h : execFlyHold key hold s = .next t) : t.now = s.now ∧ t.pending = s.pending := by
  refine viaPort_frame _ _ _ _ _ h (fun u v hv => ?_)
  (try simp only [berthCommand, pkeCommand, gaugeCommand, keepCommand, cfgCommand, chartCommand, seqCommand, towCommand] at hv)
  (repeat' split at hv) <;> (obtain rfl := Host.Outcome.next.inj hv; first | (simp; done) | ((try dsimp only); (try unfold cmdStart); (repeat' split) <;> simp))

theorem execFlyClear_port (key : Byte) (s t : State) (h : execFlyClear key s = .next t) : t.now = s.now ∧ t.pending = s.pending := by
  refine viaPort_frame _ _ _ _ _ h (fun u v hv => ?_)
  (try simp only [berthCommand, pkeCommand, gaugeCommand, keepCommand, cfgCommand, chartCommand, seqCommand, towCommand] at hv)
  (repeat' split at hv) <;> (obtain rfl := Host.Outcome.next.inj hv; first | (simp; done) | ((try dsimp only); (try unfold cmdStart); (repeat' split) <;> simp))

theorem execClear_port (key : Byte) (s t : State) (h : execClear key s = .next t) : t.now = s.now ∧ t.pending = s.pending := by
  refine viaPort_frame _ _ _ _ _ h (fun u v hv => ?_)
  (try simp only [berthCommand, pkeCommand, gaugeCommand, keepCommand, cfgCommand, chartCommand, seqCommand, towCommand] at hv)
  (repeat' split at hv) <;> (obtain rfl := Host.Outcome.next.inj hv; first | (simp; done) | ((try dsimp only); (try unfold cmdStart); (repeat' split) <;> simp))

theorem execRunService_port (key : Byte) (s t : State) (h : execRunService key s = .next t) : t.now = s.now ∧ t.pending = s.pending := by
  refine viaPort_frame _ _ _ _ _ h (fun u v hv => ?_)
  (try simp only [berthCommand, pkeCommand, gaugeCommand, keepCommand, cfgCommand, chartCommand, seqCommand, towCommand] at hv)
  (repeat' split at hv) <;> (obtain rfl := Host.Outcome.next.inj hv; first | (simp; done) | ((try dsimp only); (try unfold cmdStart); (repeat' split) <;> simp))

theorem execRailCmd_port (key : Byte) (ack : Bool) (s t : State) (h : execRailCmd key ack s = .next t) : t.now = s.now ∧ t.pending = s.pending := by
  refine viaPort_frame _ _ _ _ _ h (fun u v hv => ?_)
  (try simp only [berthCommand, pkeCommand, gaugeCommand, keepCommand, cfgCommand, chartCommand, seqCommand, towCommand] at hv)
  (repeat' split at hv) <;> (obtain rfl := Host.Outcome.next.inj hv; first | (simp; done) | ((try dsimp only); (try unfold cmdStart); (repeat' split) <;> simp))

theorem execLogRead_port (seq : BitVec 32) (s t : State) (h : execLogRead seq s = .next t) : t.now = s.now ∧ t.pending = s.pending := by
  refine viaPort_frame _ _ _ _ _ h (fun u v hv => ?_)
  (try simp only [berthCommand, pkeCommand, gaugeCommand, keepCommand, cfgCommand, chartCommand, seqCommand, towCommand] at hv)
  (repeat' split at hv) <;> (obtain rfl := Host.Outcome.next.inj hv; first | (simp; done) | ((try dsimp only); (try unfold cmdStart); (repeat' split) <;> simp))

theorem execTowSendStart_port (key mask : Byte) (s t : State) (h : execTowSendStart key mask s = .next t) : t.now = s.now ∧ t.pending = s.pending := by
  refine viaPort_frame _ _ _ _ _ h (fun u v hv => ?_)
  (try simp only [berthCommand, pkeCommand, gaugeCommand, keepCommand, cfgCommand, chartCommand, seqCommand, towCommand] at hv)
  (repeat' split at hv) <;> (obtain rfl := Host.Outcome.next.inj hv; first | (simp; done) | ((try dsimp only); (try unfold cmdStart); (repeat' split) <;> simp))

theorem execTowSendSluice_port (key mask : Byte) (s t : State) (h : execTowSendSluice key mask s = .next t) : t.now = s.now ∧ t.pending = s.pending := by
  refine viaPort_frame _ _ _ _ _ h (fun u v hv => ?_)
  (try simp only [berthCommand, pkeCommand, gaugeCommand, keepCommand, cfgCommand, chartCommand, seqCommand, towCommand] at hv)
  (repeat' split at hv) <;> (obtain rfl := Host.Outcome.next.inj hv; first | (simp; done) | ((try dsimp only); (try unfold cmdStart); (repeat' split) <;> simp))

theorem execTowSendClear_port (key mask : Byte) (s t : State) (h : execTowSendClear key mask s = .next t) : t.now = s.now ∧ t.pending = s.pending := by
  refine viaPort_frame _ _ _ _ _ h (fun u v hv => ?_)
  (try simp only [berthCommand, pkeCommand, gaugeCommand, keepCommand, cfgCommand, chartCommand, seqCommand, towCommand] at hv)
  (repeat' split at hv) <;> (obtain rfl := Host.Outcome.next.inj hv; first | (simp; done) | ((try dsimp only); (try unfold cmdStart); (repeat' split) <;> simp))

theorem execAckAlive_port (key : Byte) (s t : State) (h : execAckAlive key s = .next t) : t.now = s.now ∧ t.pending = s.pending := by
  refine viaPort_frame _ _ _ _ _ h (fun u v hv => ?_)
  (try simp only [berthCommand, pkeCommand, gaugeCommand, keepCommand, cfgCommand, chartCommand, seqCommand, towCommand] at hv)
  (repeat' split at hv) <;> (obtain rfl := Host.Outcome.next.inj hv; first | (simp; done) | ((try dsimp only); (try unfold cmdStart); (repeat' split) <;> simp))

theorem execRestore_port (key : Byte) (src : BitVec 12) (s t : State) (h : execRestore key src s = .next t) : t.now = s.now ∧ t.pending = s.pending := by
  refine viaPort_frame _ _ _ _ _ h (fun u v hv => ?_)
  (try simp only [berthCommand, pkeCommand, gaugeCommand, keepCommand, cfgCommand, chartCommand, seqCommand, towCommand] at hv)
  (repeat' split at hv) <;> (obtain rfl := Host.Outcome.next.inj hv; first | (simp; done) | ((try dsimp only); (try unfold cmdStart); (repeat' split) <;> simp))

theorem execRestoreAll_port (key : Byte) (s t : State) (h : execRestoreAll key s = .next t) : t.now = s.now ∧ t.pending = s.pending := by
  refine viaPort_frame _ _ _ _ _ h (fun u v hv => ?_)
  (try simp only [berthCommand, pkeCommand, gaugeCommand, keepCommand, cfgCommand, chartCommand, seqCommand, towCommand] at hv)
  (repeat' split at hv) <;> (obtain rfl := Host.Outcome.next.inj hv; first | (simp; done) | ((try dsimp only); (try unfold cmdStart); (repeat' split) <;> simp))

theorem execAckWarn_port (key : Byte) (s t : State) (h : execAckWarn key s = .next t) : t.now = s.now ∧ t.pending = s.pending := by
  refine viaPort_frame _ _ _ _ _ h (fun u v hv => ?_)
  (try simp only [berthCommand, pkeCommand, gaugeCommand, keepCommand, cfgCommand, chartCommand, seqCommand, towCommand] at hv)
  (repeat' split at hv) <;> (obtain rfl := Host.Outcome.next.inj hv; first | (simp; done) | ((try dsimp only); (try unfold cmdStart); (repeat' split) <;> simp))

theorem execKeepInject_port (data : Word) (s t : State) (h : execKeepInject data s = .next t) : t.now = s.now ∧ t.pending = s.pending := by
  refine viaPort_frame _ _ _ _ _ h (fun u v hv => ?_)
  (try simp only [berthCommand, pkeCommand, gaugeCommand, keepCommand, cfgCommand, chartCommand, seqCommand, towCommand] at hv)
  (repeat' split at hv) <;> (obtain rfl := Host.Outcome.next.inj hv; first | (simp; done) | ((try dsimp only); (try unfold cmdStart); (repeat' split) <;> simp))

theorem execPush_port (key : Byte) (s t : State) (h : execPush key s = .next t) : t.now = s.now ∧ t.pending = s.pending := by
  refine viaPort_frame _ _ _ _ _ h (fun u v hv => ?_)
  (try simp only [berthCommand, pkeCommand, gaugeCommand, keepCommand, cfgCommand, chartCommand, seqCommand, towCommand] at hv)
  (repeat' split at hv) <;> (obtain rfl := Host.Outcome.next.inj hv; first | (simp; done) | ((try dsimp only); (try unfold cmdStart); (repeat' split) <;> simp))

theorem execLoadSlot_port (key : Byte) (slot : Bool) (s t : State) (h : execLoadSlot key slot s = .next t) : t.now = s.now ∧ t.pending = s.pending := by
  refine viaPort_frame _ _ _ _ _ h (fun u v hv => ?_)
  (try simp only [berthCommand, pkeCommand, gaugeCommand, keepCommand, cfgCommand, chartCommand, seqCommand, towCommand] at hv)
  (repeat' split at hv) <;> (obtain rfl := Host.Outcome.next.inj hv; first | (simp; done) | ((try dsimp only); (try unfold cmdStart); (repeat' split) <;> simp))

theorem execWriteSlot_port (key : Byte) (slot : Bool) (s t : State) (h : execWriteSlot key slot s = .next t) : t.now = s.now ∧ t.pending = s.pending := by
  refine viaPort_frame _ _ _ _ _ h (fun u v hv => ?_)
  (try simp only [berthCommand, pkeCommand, gaugeCommand, keepCommand, cfgCommand, chartCommand, seqCommand, towCommand] at hv)
  (repeat' split at hv) <;> (obtain rfl := Host.Outcome.next.inj hv; first | (simp; done) | ((try dsimp only); (try unfold cmdStart); (repeat' split) <;> simp))

theorem execSetTrial_port (key : Byte) (slot : Bool) (s t : State) (h : execSetTrial key slot s = .next t) : t.now = s.now ∧ t.pending = s.pending := by
  refine viaPort_frame _ _ _ _ _ h (fun u v hv => ?_)
  (try simp only [berthCommand, pkeCommand, gaugeCommand, keepCommand, cfgCommand, chartCommand, seqCommand, towCommand] at hv)
  (repeat' split at hv) <;> (obtain rfl := Host.Outcome.next.inj hv; first | (simp; done) | ((try dsimp only); (try unfold cmdStart); (repeat' split) <;> simp))

theorem execPortRetire_port (key : Byte) (port : Fin 256) (s t : State) (h : execPortRetire key port s = .next t) : t.now = s.now ∧ t.pending = s.pending := by
  refine viaPort_frame _ _ _ _ _ h (fun u v hv => ?_)
  (try simp only [berthCommand, pkeCommand, gaugeCommand, keepCommand, cfgCommand, chartCommand, seqCommand, towCommand] at hv)
  (repeat' split at hv) <;> (obtain rfl := Host.Outcome.next.inj hv; first | (simp; done) | ((try dsimp only); (try unfold cmdStart); (repeat' split) <;> simp))

theorem execLockCycle_port (key : Byte) (mode : BitVec 2) (epoch : BitVec 16) (s t : State) (h : execLockCycle key mode epoch s = .next t) : t.now = s.now ∧ t.pending = s.pending := by
  refine viaPort_frame _ _ _ _ _ h (fun u v hv => ?_)
  (try simp only [berthCommand, pkeCommand, gaugeCommand, keepCommand, cfgCommand, chartCommand, seqCommand, towCommand] at hv)
  (repeat' split at hv) <;> (obtain rfl := Host.Outcome.next.inj hv; first | (simp; done) | ((try dsimp only); (try unfold cmdStart); (repeat' split) <;> simp))

theorem execGlbReset_port (key : Byte) (s t : State) (h : execGlbReset key s = .next t) : t.now = s.now ∧ t.pending = s.pending := by
  refine viaPort_frame _ _ _ _ _ h (fun u v hv => ?_)
  (try simp only [berthCommand, pkeCommand, gaugeCommand, keepCommand, cfgCommand, chartCommand, seqCommand, towCommand] at hv)
  (repeat' split at hv) <;> (obtain rfl := Host.Outcome.next.inj hv; first | (simp; done) | ((try dsimp only); (try unfold cmdStart); (repeat' split) <;> simp))

theorem execFlagAccess_port (n : Fin 256) (write : Bool) (size : BitVec 4) (high : Bool) (data : Word) (s t : State) (h : execFlagAccess n write size high data s = .next t) : t.now = s.now ∧ t.pending = s.pending := by
  refine viaPort_frame _ _ _ _ _ h (fun u v hv => ?_)
  (try simp only [berthCommand, pkeCommand, gaugeCommand, keepCommand, cfgCommand, chartCommand, seqCommand, towCommand] at hv)
  (repeat' split at hv) <;> (obtain rfl := Host.Outcome.next.inj hv; first | (simp; done) | ((try dsimp only); (try unfold cmdStart); (repeat' split) <;> simp))

theorem execChartEnable_port (key : Byte) (s t : State) (h : execChartEnable key s = .next t) : t.now = s.now ∧ t.pending = s.pending := by
  refine viaPort_frame _ _ _ _ _ h (fun u v hv => ?_)
  (try simp only [berthCommand, pkeCommand, gaugeCommand, keepCommand, cfgCommand, chartCommand, seqCommand, towCommand] at hv)
  (repeat' split at hv) <;> (obtain rfl := Host.Outcome.next.inj hv; first | (simp; done) | ((try dsimp only); (try unfold cmdStart); (repeat' split) <;> simp))

theorem execChartDisable_port (key : Byte) (s t : State) (h : execChartDisable key s = .next t) : t.now = s.now ∧ t.pending = s.pending := by
  refine viaPort_frame _ _ _ _ _ h (fun u v hv => ?_)
  (try simp only [berthCommand, pkeCommand, gaugeCommand, keepCommand, cfgCommand, chartCommand, seqCommand, towCommand] at hv)
  (repeat' split at hv) <;> (obtain rfl := Host.Outcome.next.inj hv; first | (simp; done) | ((try dsimp only); (try unfold cmdStart); (repeat' split) <;> simp))

theorem execRcRead_port (off : BitVec 26) (size : BitVec 4) (s t : State) (h : execRcRead off size s = .next t) : t.now = s.now ∧ t.pending = s.pending := by
  refine viaPort_frame _ _ _ _ _ h (fun u v hv => ?_)
  (try simp only [berthCommand, pkeCommand, gaugeCommand, keepCommand, cfgCommand, chartCommand, seqCommand, towCommand] at hv)
  (repeat' split at hv) <;> (obtain rfl := Host.Outcome.next.inj hv; first | (simp; done) | ((try dsimp only); (try unfold cmdStart); (repeat' split) <;> simp))

theorem execRegisterWrite_port (off : BitVec 26) (size : BitVec 4) (data : Word) (s t : State) (h : execRegisterWrite off size data s = .next t) : t.now = s.now ∧ t.pending = s.pending := by
  refine viaPort_frame _ _ _ _ _ h (fun u v hv => ?_)
  (try simp only [berthCommand, pkeCommand, gaugeCommand, keepCommand, cfgCommand, chartCommand, seqCommand, towCommand] at hv)
  (repeat' split at hv) <;> (obtain rfl := Host.Outcome.next.inj hv; first | (simp; done) | ((try dsimp only); (try unfold cmdStart); (repeat' split) <;> simp))

theorem execMul_port (key : Byte) (gen : Bool) (s t : State) (h : execMul key gen s = .next t) : t.now = s.now ∧ t.pending = s.pending := by
  refine viaPort_frame _ _ _ _ _ h (fun u v hv => ?_)
  (try simp only [berthCommand, pkeCommand, gaugeCommand, keepCommand, cfgCommand, chartCommand, seqCommand, towCommand] at hv)
  (repeat' split at hv) <;> (obtain rfl := Host.Outcome.next.inj hv; first | (simp; done) | ((try dsimp only); (try unfold cmdStart); (repeat' split) <;> simp))

theorem execVerify_port (key : Byte) (s t : State) (h : execVerify key s = .next t) : t.now = s.now ∧ t.pending = s.pending := by
  refine viaPort_frame _ _ _ _ _ h (fun u v hv => ?_)
  (try simp only [berthCommand, pkeCommand, gaugeCommand, keepCommand, cfgCommand, chartCommand, seqCommand, towCommand] at hv)
  (repeat' split at hv) <;> (obtain rfl := Host.Outcome.next.inj hv; first | (simp; done) | ((try dsimp only); (try unfold cmdStart); (repeat' split) <;> simp))

theorem execAttest_port (key : Byte) (s t : State) (h : execAttest key s = .next t) : t.now = s.now ∧ t.pending = s.pending := by
  refine viaPort_frame _ _ _ _ _ h (fun u v hv => ?_)
  (try simp only [berthCommand, pkeCommand, gaugeCommand, keepCommand, cfgCommand, chartCommand, seqCommand, towCommand] at hv)
  (repeat' split at hv) <;> (obtain rfl := Host.Outcome.next.inj hv; first | (simp; done) | ((try dsimp only); (try unfold cmdStart); (repeat' split) <;> simp))

theorem execRandom_port (key : Byte) (s t : State) (h : execRandom key s = .next t) : t.now = s.now ∧ t.pending = s.pending := by
  refine viaPort_frame _ _ _ _ _ h (fun u v hv => ?_)
  (try simp only [berthCommand, pkeCommand, gaugeCommand, keepCommand, cfgCommand, chartCommand, seqCommand, towCommand] at hv)
  (repeat' split at hv) <;> (obtain rfl := Host.Outcome.next.inj hv; first | (simp; done) | ((try dsimp only); (try unfold cmdStart); (repeat' split) <;> simp))

theorem portRun_frame (c : Instr) (s t : State) (h : portRun c s = .next t) : t.now = s.now ∧ t.pending = s.pending := by
  cases c
  case berthSel value => exact execBerthSel_port _ s t h
  case charter => exact execCharter_port s t h
  case modify => exact execModify_port s t h
  case fence => exact execFence_port s t h
  case recharter => exact execRecharter_port s t h
  case release => exact execRelease_port s t h
  case weirShutWrite shut => exact execWeirShutWrite_port _ s t h
  case sanitizeStart key start => exact execSanitizeStart_port _ _ s t h
  case drcRetire key retire ch => exact execDrcRetire_port _ _ _ s t h
  case sluiceCommand key start => exact execSluiceCommand_port _ _ s t h
  case learnStart key i ack => exact execLearnStart_port _ _ _ s t h
  case learnAbort key => exact execLearnAbort_port _ s t h
  case auth key i => exact execAuth_port _ _ s t h
  case capTest key => exact execCapTest_port _ s t h
  case forget key i => exact execForget_port _ _ s t h
  case gaugeStringCapture i => exact execGaugeStringCapture_port _ s t h
  case gaugeStatusCapture => exact execGaugeStatusCapture_port s t h
  case linkTarget target => exact execLinkTarget_port _ s t h
  case flyHold key hold => exact execFlyHold_port _ _ s t h
  case flyClear key => exact execFlyClear_port _ s t h
  case clear key => exact execClear_port _ s t h
  case runService key => exact execRunService_port _ s t h
  case railCmd key ack => exact execRailCmd_port _ _ s t h
  case logRead seq => exact execLogRead_port _ s t h
  case towSendStart key mask => exact execTowSendStart_port _ _ s t h
  case towSendSluice key mask => exact execTowSendSluice_port _ _ s t h
  case towSendClear key mask => exact execTowSendClear_port _ _ s t h
  case ackAlive key => exact execAckAlive_port _ s t h
  case restore key src => exact execRestore_port _ _ s t h
  case restoreAll key => exact execRestoreAll_port _ s t h
  case ackWarn key => exact execAckWarn_port _ s t h
  case keepInject data => exact execKeepInject_port _ s t h
  case push key => exact execPush_port _ s t h
  case loadSlot key slot => exact execLoadSlot_port _ _ s t h
  case writeSlot key slot => exact execWriteSlot_port _ _ s t h
  case setTrial key slot => exact execSetTrial_port _ _ s t h
  case portRetire key port => exact execPortRetire_port _ _ s t h
  case lockCycle key mode epoch => exact execLockCycle_port _ _ _ s t h
  case glbReset key => exact execGlbReset_port _ s t h
  case flagAccess n write size high data => exact execFlagAccess_port _ _ _ _ _ s t h
  case chartEnable key => exact execChartEnable_port _ s t h
  case chartDisable key => exact execChartDisable_port _ s t h
  case rcRead off size => exact execRcRead_port _ _ s t h
  case registerWrite off size data => exact execRegisterWrite_port _ _ _ s t h
  case mul key gen => exact execMul_port _ _ s t h
  case verify key => exact execVerify_port _ s t h
  case attest key => exact execAttest_port _ s t h
  case random key => exact execRandom_port _ s t h
  all_goals (obtain rfl := Host.Outcome.next.inj h; simp)

@[simp] theorem afterPort_frame (c : Instr) (s : State) :
    (afterPort c s).now = s.now ∧ (afterPort c s).pending = s.pending := by
  unfold afterPort
  split
  · next t h => exact portRun_frame c s t h
  · simp

@[simp] theorem drainHeld_frame (x0 : Nat) (s : State) :
    (drainHeld x0 s).now = s.now ∧ (drainHeld x0 s).pending = s.pending := by
  induction x0 generalizing s with
  | zero => simp [drainHeld]
  | succ n ih =>
    unfold drainHeld
    dsimp only
    (repeat' split) <;> simp [ih]

@[simp] theorem fenceEnds_frame (op : Nat) (i : Nat) (s : State) :
    (fenceEnds op i s).now = s.now ∧ (fenceEnds op i s).free = s.free ∧ (fenceEnds op i s).pending = s.pending ∧
    (fenceEnds op i s).lock = s.lock ∧ (fenceEnds op i s).sluice = s.sluice ∧ (fenceEnds op i s).refloat = s.refloat ∧
    (fenceEnds op i s).gauge = s.gauge ∧ (fenceEnds op i s).fly = s.fly ∧ (fenceEnds op i s).seq = s.seq ∧
    (fenceEnds op i s).log = s.log ∧ (fenceEnds op i s).tow = s.tow ∧ (fenceEnds op i s).cfg = s.cfg ∧ (fenceEnds op i s).pke = s.pke ∧
    (fenceEnds op i s).clk = s.clk ∧ (fenceEnds op i s).pins = s.pins ∧ (fenceEnds op i s).enginesOut = s.enginesOut := by
  unfold fenceEnds
  dsimp only
  (repeat' split) <;> simp

@[simp] theorem descriptorIn_frame (i : Nat) (d : Desc) (s : State) :
    (descriptorIn i d s).now = s.now ∧ (descriptorIn i d s).free = s.free ∧ (descriptorIn i d s).pending = s.pending := by
  unfold descriptorIn
  (repeat' split) <;> simp

@[simp] theorem syncTurn_frame (s : State) :
    (syncTurn s).now = s.now ∧ (syncTurn s).free = s.free ∧ (syncTurn s).pending = s.pending ∧ (syncTurn s).regs = s.regs ∧
    (syncTurn s).cmds = s.cmds ∧ (syncTurn s).out = s.out ∧ (syncTurn s).berths = s.berths ∧ (syncTurn s).ports = s.ports ∧
    (syncTurn s).lock = s.lock ∧ (syncTurn s).weir = s.weir ∧ (syncTurn s).sluice = s.sluice ∧ (syncTurn s).refloat = s.refloat ∧
    (syncTurn s).drc = s.drc ∧ (syncTurn s).fmm = s.fmm ∧ (syncTurn s).chart = s.chart ∧ (syncTurn s).gauge = s.gauge ∧
    (syncTurn s).seq = s.seq ∧ (syncTurn s).log = s.log ∧ (syncTurn s).tow = s.tow ∧ (syncTurn s).keep = s.keep ∧
    (syncTurn s).cfg = s.cfg ∧ (syncTurn s).pke = s.pke ∧ (syncTurn s).clk = s.clk ∧ (syncTurn s).mgmt = s.mgmt ∧
    (syncTurn s).pins = s.pins ∧ (syncTurn s).enginesOut = s.enginesOut := by
  unfold syncTurn
  dsimp only
  (repeat' split) <;> simp

@[simp] theorem markRead_frame (s : State) :
    (markRead s).now = s.now ∧ (markRead s).free = s.free ∧ (markRead s).pending = s.pending ∧ (markRead s).regs = s.regs ∧
    (markRead s).cmds = s.cmds ∧ (markRead s).out = s.out ∧ (markRead s).berths = s.berths ∧ (markRead s).ports = s.ports ∧
    (markRead s).lock = s.lock ∧ (markRead s).weir = s.weir ∧ (markRead s).sluice = s.sluice ∧ (markRead s).refloat = s.refloat ∧
    (markRead s).drc = s.drc ∧ (markRead s).chart = s.chart ∧ (markRead s).gauge = s.gauge ∧ (markRead s).fly = s.fly ∧
    (markRead s).seq = s.seq ∧ (markRead s).log = s.log ∧ (markRead s).tow = s.tow ∧ (markRead s).keep = s.keep ∧
    (markRead s).cfg = s.cfg ∧ (markRead s).pke = s.pke ∧ (markRead s).clk = s.clk ∧ (markRead s).mgmt = s.mgmt ∧
    (markRead s).pins = s.pins ∧ (markRead s).enginesOut = s.enginesOut := by
  unfold markRead
  dsimp only
  (repeat' split) <;> simp

@[simp] theorem sanCounters_frame (s : State) :
    (sanCounters s).now = s.now ∧ (sanCounters s).free = s.free ∧ (sanCounters s).pending = s.pending ∧ (sanCounters s).regs = s.regs ∧
    (sanCounters s).cmds = s.cmds ∧ (sanCounters s).out = s.out ∧ (sanCounters s).berths = s.berths ∧ (sanCounters s).ports = s.ports ∧
    (sanCounters s).lock = s.lock ∧ (sanCounters s).weir = s.weir ∧ (sanCounters s).sluice = s.sluice ∧
    (sanCounters s).refloat = s.refloat ∧ (sanCounters s).drc = s.drc ∧ (sanCounters s).chart = s.chart ∧
    (sanCounters s).gauge = s.gauge ∧ (sanCounters s).fly = s.fly ∧ (sanCounters s).seq = s.seq ∧ (sanCounters s).log = s.log ∧
    (sanCounters s).tow = s.tow ∧ (sanCounters s).keep = s.keep ∧ (sanCounters s).cfg = s.cfg ∧ (sanCounters s).pke = s.pke ∧
    (sanCounters s).clk = s.clk ∧ (sanCounters s).mgmt = s.mgmt ∧ (sanCounters s).pins = s.pins ∧
    (sanCounters s).enginesOut = s.enginesOut := by
  unfold sanCounters
  simp

@[simp] theorem setBlank_frame (s : State) :
    (setBlank s).now = s.now ∧ (setBlank s).free = s.free ∧ (setBlank s).pending = s.pending ∧ (setBlank s).regs = s.regs ∧
    (setBlank s).cmds = s.cmds ∧ (setBlank s).out = s.out ∧ (setBlank s).berths = s.berths ∧ (setBlank s).ports = s.ports ∧
    (setBlank s).lock = s.lock ∧ (setBlank s).weir = s.weir ∧ (setBlank s).sluice = s.sluice ∧ (setBlank s).refloat = s.refloat ∧
    (setBlank s).drc = s.drc ∧ (setBlank s).chart = s.chart ∧ (setBlank s).gauge = s.gauge ∧ (setBlank s).fly = s.fly ∧
    (setBlank s).seq = s.seq ∧ (setBlank s).log = s.log ∧ (setBlank s).tow = s.tow ∧ (setBlank s).keep = s.keep ∧
    (setBlank s).cfg = s.cfg ∧ (setBlank s).pke = s.pke ∧ (setBlank s).clk = s.clk ∧ (setBlank s).mgmt = s.mgmt ∧
    (setBlank s).pins = s.pins ∧ (setBlank s).enginesOut = s.enginesOut := by
  unfold setBlank
  simp

@[simp] theorem wearCounts_frame (s : State) :
    (wearCounts s).now = s.now ∧ (wearCounts s).free = s.free ∧ (wearCounts s).pending = s.pending ∧ (wearCounts s).regs = s.regs ∧
    (wearCounts s).cmds = s.cmds ∧ (wearCounts s).out = s.out ∧ (wearCounts s).berths = s.berths ∧ (wearCounts s).ports = s.ports ∧
    (wearCounts s).lock = s.lock ∧ (wearCounts s).weir = s.weir ∧ (wearCounts s).sluice = s.sluice ∧ (wearCounts s).refloat = s.refloat ∧
    (wearCounts s).drc = s.drc ∧ (wearCounts s).chart = s.chart ∧ (wearCounts s).gauge = s.gauge ∧ (wearCounts s).fly = s.fly ∧
    (wearCounts s).seq = s.seq ∧ (wearCounts s).log = s.log ∧ (wearCounts s).tow = s.tow ∧ (wearCounts s).cfg = s.cfg ∧
    (wearCounts s).pke = s.pke ∧ (wearCounts s).clk = s.clk ∧ (wearCounts s).mgmt = s.mgmt ∧ (wearCounts s).pins = s.pins ∧
    (wearCounts s).enginesOut = s.enginesOut := by
  unfold wearCounts
  simp

@[simp] theorem sanFromErase_frame (s : State) :
    (sanFromErase s).now = s.now ∧ (sanFromErase s).free = s.free ∧ (sanFromErase s).pending = s.pending ∧
    (sanFromErase s).cmds = s.cmds ∧ (sanFromErase s).berths = s.berths ∧ (sanFromErase s).ports = s.ports ∧
    (sanFromErase s).lock = s.lock ∧ (sanFromErase s).weir = s.weir ∧ (sanFromErase s).sluice = s.sluice ∧
    (sanFromErase s).refloat = s.refloat ∧ (sanFromErase s).drc = s.drc ∧ (sanFromErase s).chart = s.chart ∧
    (sanFromErase s).gauge = s.gauge ∧ (sanFromErase s).fly = s.fly ∧ (sanFromErase s).seq = s.seq ∧ (sanFromErase s).log = s.log ∧
    (sanFromErase s).tow = s.tow ∧ (sanFromErase s).cfg = s.cfg ∧ (sanFromErase s).pke = s.pke ∧ (sanFromErase s).clk = s.clk ∧
    (sanFromErase s).mgmt = s.mgmt ∧ (sanFromErase s).pins = s.pins ∧ (sanFromErase s).enginesOut = s.enginesOut := by
  unfold sanFromErase
  simp

@[simp] theorem foundSbs_frame (s : State) :
    (foundSbs s).now = s.now ∧ (foundSbs s).free = s.free ∧ (foundSbs s).pending = s.pending ∧ (foundSbs s).regs = s.regs ∧
    (foundSbs s).cmds = s.cmds ∧ (foundSbs s).out = s.out ∧ (foundSbs s).berths = s.berths ∧ (foundSbs s).ports = s.ports ∧
    (foundSbs s).lock = s.lock ∧ (foundSbs s).weir = s.weir ∧ (foundSbs s).sluice = s.sluice ∧ (foundSbs s).refloat = s.refloat ∧
    (foundSbs s).drc = s.drc ∧ (foundSbs s).chart = s.chart ∧ (foundSbs s).gauge = s.gauge ∧ (foundSbs s).fly = s.fly ∧
    (foundSbs s).seq = s.seq ∧ (foundSbs s).log = s.log ∧ (foundSbs s).tow = s.tow ∧ (foundSbs s).keep = s.keep ∧
    (foundSbs s).cfg = s.cfg ∧ (foundSbs s).pke = s.pke ∧ (foundSbs s).clk = s.clk ∧ (foundSbs s).mgmt = s.mgmt ∧
    (foundSbs s).pins = s.pins ∧ (foundSbs s).enginesOut = s.enginesOut := by
  unfold foundSbs
  dsimp only
  refine ⟨?_, ?_, ?_, ?_, ?_, ?_, ?_, ?_, ?_, ?_, ?_, ?_, ?_, ?_, ?_, ?_, ?_, ?_, ?_, ?_, ?_, ?_, ?_, ?_, ?_, ?_⟩
  · refine (forEach_now _ _ (fun a u => ?_) _).trans (by first | rfl | simp)
    (repeat' split) <;> simp
  · refine (forEach_free _ _ (fun a u => ?_) _).trans (by first | rfl | simp)
    (repeat' split) <;> simp
  · refine (forEach_pending _ _ (fun a u => ?_) _).trans (by first | rfl | simp)
    (repeat' split) <;> simp
  · refine (forEach_regs _ _ (fun a u => ?_) _).trans (by first | rfl | simp)
    (repeat' split) <;> simp
  · refine (forEach_cmds _ _ (fun a u => ?_) _).trans (by first | rfl | simp)
    (repeat' split) <;> simp
  · refine (forEach_out _ _ (fun a u => ?_) _).trans (by first | rfl | simp)
    (repeat' split) <;> simp
  · refine (forEach_berths _ _ (fun a u => ?_) _).trans (by first | rfl | simp)
    (repeat' split) <;> simp
  · refine (forEach_ports _ _ (fun a u => ?_) _).trans (by first | rfl | simp)
    (repeat' split) <;> simp
  · refine (forEach_lock _ _ (fun a u => ?_) _).trans (by first | rfl | simp)
    (repeat' split) <;> simp
  · refine (forEach_weir _ _ (fun a u => ?_) _).trans (by first | rfl | simp)
    (repeat' split) <;> simp
  · refine (forEach_sluice _ _ (fun a u => ?_) _).trans (by first | rfl | simp)
    (repeat' split) <;> simp
  · refine (forEach_refloat _ _ (fun a u => ?_) _).trans (by first | rfl | simp)
    (repeat' split) <;> simp
  · refine (forEach_drc _ _ (fun a u => ?_) _).trans (by first | rfl | simp)
    (repeat' split) <;> simp
  · refine (forEach_chart _ _ (fun a u => ?_) _).trans (by first | rfl | simp)
    (repeat' split) <;> simp
  · refine (forEach_gauge _ _ (fun a u => ?_) _).trans (by first | rfl | simp)
    (repeat' split) <;> simp
  · refine (forEach_fly _ _ (fun a u => ?_) _).trans (by first | rfl | simp)
    (repeat' split) <;> simp
  · refine (forEach_seq _ _ (fun a u => ?_) _).trans (by first | rfl | simp)
    (repeat' split) <;> simp
  · refine (forEach_log _ _ (fun a u => ?_) _).trans (by first | rfl | simp)
    (repeat' split) <;> simp
  · refine (forEach_tow _ _ (fun a u => ?_) _).trans (by first | rfl | simp)
    (repeat' split) <;> simp
  · refine (forEach_keep _ _ (fun a u => ?_) _).trans (by first | rfl | simp)
    (repeat' split) <;> simp
  · refine (forEach_cfg _ _ (fun a u => ?_) _).trans (by first | rfl | simp)
    (repeat' split) <;> simp
  · refine (forEach_pke _ _ (fun a u => ?_) _).trans (by first | rfl | simp)
    (repeat' split) <;> simp
  · refine (forEach_clk _ _ (fun a u => ?_) _).trans (by first | rfl | simp)
    (repeat' split) <;> simp
  · refine (forEach_mgmt _ _ (fun a u => ?_) _).trans (by first | rfl | simp)
    (repeat' split) <;> simp
  · refine (forEach_pins _ _ (fun a u => ?_) _).trans (by first | rfl | simp)
    (repeat' split) <;> simp
  · refine (forEach_enginesOut _ _ (fun a u => ?_) _).trans (by first | rfl | simp)
    (repeat' split) <;> simp

@[simp] theorem loadMap_frame (g : Seg) (s : State) :
    (loadMap g s).now = s.now ∧ (loadMap g s).free = s.free ∧ (loadMap g s).pending = s.pending ∧ (loadMap g s).regs = s.regs ∧
    (loadMap g s).cmds = s.cmds ∧ (loadMap g s).out = s.out ∧ (loadMap g s).berths = s.berths ∧ (loadMap g s).ports = s.ports ∧
    (loadMap g s).lock = s.lock ∧ (loadMap g s).weir = s.weir ∧ (loadMap g s).sluice = s.sluice ∧ (loadMap g s).drc = s.drc ∧
    (loadMap g s).chart = s.chart ∧ (loadMap g s).gauge = s.gauge ∧ (loadMap g s).fly = s.fly ∧ (loadMap g s).seq = s.seq ∧
    (loadMap g s).log = s.log ∧ (loadMap g s).tow = s.tow ∧ (loadMap g s).cfg = s.cfg ∧ (loadMap g s).pke = s.pke ∧
    (loadMap g s).clk = s.clk ∧ (loadMap g s).mgmt = s.mgmt ∧ (loadMap g s).pins = s.pins ∧ (loadMap g s).enginesOut = s.enginesOut := by
  unfold loadMap
  simp

@[simp] theorem sanLast_frame (s : State) :
    (sanLast s).now = s.now ∧ (sanLast s).free = s.free ∧ (sanLast s).pending = s.pending ∧ (sanLast s).regs = s.regs ∧
    (sanLast s).cmds = s.cmds ∧ (sanLast s).berths = s.berths ∧ (sanLast s).ports = s.ports ∧ (sanLast s).lock = s.lock ∧
    (sanLast s).weir = s.weir ∧ (sanLast s).sluice = s.sluice ∧ (sanLast s).refloat = s.refloat ∧ (sanLast s).drc = s.drc ∧
    (sanLast s).chart = s.chart ∧ (sanLast s).gauge = s.gauge ∧ (sanLast s).fly = s.fly ∧ (sanLast s).seq = s.seq ∧
    (sanLast s).log = s.log ∧ (sanLast s).tow = s.tow ∧ (sanLast s).keep = s.keep ∧ (sanLast s).cfg = s.cfg ∧ (sanLast s).pke = s.pke ∧
    (sanLast s).clk = s.clk ∧ (sanLast s).mgmt = s.mgmt ∧ (sanLast s).pins = s.pins ∧ (sanLast s).enginesOut = s.enginesOut := by
  unfold sanLast
  simp

@[simp] theorem sanFromLast_frame (s : State) :
    (sanFromLast s).now = s.now ∧ (sanFromLast s).free = s.free ∧ (sanFromLast s).pending = s.pending ∧ (sanFromLast s).regs = s.regs ∧
    (sanFromLast s).cmds = s.cmds ∧ (sanFromLast s).berths = s.berths ∧ (sanFromLast s).ports = s.ports ∧ (sanFromLast s).lock = s.lock ∧
    (sanFromLast s).weir = s.weir ∧ (sanFromLast s).sluice = s.sluice ∧ (sanFromLast s).drc = s.drc ∧ (sanFromLast s).chart = s.chart ∧
    (sanFromLast s).gauge = s.gauge ∧ (sanFromLast s).fly = s.fly ∧ (sanFromLast s).seq = s.seq ∧ (sanFromLast s).log = s.log ∧
    (sanFromLast s).tow = s.tow ∧ (sanFromLast s).cfg = s.cfg ∧ (sanFromLast s).pke = s.pke ∧ (sanFromLast s).clk = s.clk ∧
    (sanFromLast s).mgmt = s.mgmt ∧ (sanFromLast s).pins = s.pins ∧ (sanFromLast s).enginesOut = s.enginesOut := by
  unfold sanFromLast
  dsimp only
  (repeat' split) <;> simp

@[simp] theorem sanFromWear_frame (s : State) :
    (sanFromWear s).now = s.now ∧ (sanFromWear s).free = s.free ∧ (sanFromWear s).pending = s.pending ∧ (sanFromWear s).cmds = s.cmds ∧
    (sanFromWear s).berths = s.berths ∧ (sanFromWear s).ports = s.ports ∧ (sanFromWear s).lock = s.lock ∧ (sanFromWear s).weir = s.weir ∧
    (sanFromWear s).sluice = s.sluice ∧ (sanFromWear s).drc = s.drc ∧ (sanFromWear s).chart = s.chart ∧ (sanFromWear s).gauge = s.gauge ∧
    (sanFromWear s).fly = s.fly ∧ (sanFromWear s).seq = s.seq ∧ (sanFromWear s).log = s.log ∧ (sanFromWear s).tow = s.tow ∧
    (sanFromWear s).cfg = s.cfg ∧ (sanFromWear s).pke = s.pke ∧ (sanFromWear s).clk = s.clk ∧ (sanFromWear s).mgmt = s.mgmt ∧
    (sanFromWear s).pins = s.pins ∧ (sanFromWear s).enginesOut = s.enginesOut := by
  unfold sanFromWear
  dsimp only
  (repeat' split) <;> simp

@[simp] theorem sanResume_frame (s : State) :
    (sanResume s).now = s.now ∧ (sanResume s).free = s.free ∧ (sanResume s).pending = s.pending ∧ (sanResume s).cmds = s.cmds ∧
    (sanResume s).berths = s.berths ∧ (sanResume s).ports = s.ports ∧ (sanResume s).lock = s.lock ∧ (sanResume s).weir = s.weir ∧
    (sanResume s).sluice = s.sluice ∧ (sanResume s).drc = s.drc ∧ (sanResume s).chart = s.chart ∧ (sanResume s).gauge = s.gauge ∧
    (sanResume s).fly = s.fly ∧ (sanResume s).seq = s.seq ∧ (sanResume s).log = s.log ∧ (sanResume s).tow = s.tow ∧
    (sanResume s).cfg = s.cfg ∧ (sanResume s).pke = s.pke ∧ (sanResume s).clk = s.clk ∧ (sanResume s).mgmt = s.mgmt ∧
    (sanResume s).pins = s.pins ∧ (sanResume s).enginesOut = s.enginesOut := by
  unfold sanResume
  simp

@[simp] theorem mountBasin_frame (s : State) :
    (mountBasin s).now = s.now ∧ (mountBasin s).free = s.free ∧ (mountBasin s).pending = s.pending ∧ (mountBasin s).cmds = s.cmds ∧
    (mountBasin s).berths = s.berths ∧ (mountBasin s).ports = s.ports ∧ (mountBasin s).lock = s.lock ∧ (mountBasin s).weir = s.weir ∧
    (mountBasin s).sluice = s.sluice ∧ (mountBasin s).drc = s.drc ∧ (mountBasin s).chart = s.chart ∧ (mountBasin s).gauge = s.gauge ∧
    (mountBasin s).fly = s.fly ∧ (mountBasin s).seq = s.seq ∧ (mountBasin s).log = s.log ∧ (mountBasin s).tow = s.tow ∧
    (mountBasin s).cfg = s.cfg ∧ (mountBasin s).pke = s.pke ∧ (mountBasin s).clk = s.clk ∧ (mountBasin s).mgmt = s.mgmt ∧
    (mountBasin s).pins = s.pins ∧ (mountBasin s).enginesOut = s.enginesOut := by
  unfold mountBasin
  simp

@[simp] theorem confirmed_frame (s : State) :
    (confirmed s).now = s.now ∧ (confirmed s).free = s.free ∧ (confirmed s).pending = s.pending ∧ (confirmed s).cmds = s.cmds ∧
    (confirmed s).berths = s.berths ∧ (confirmed s).ports = s.ports ∧ (confirmed s).lock = s.lock ∧ (confirmed s).weir = s.weir ∧
    (confirmed s).sluice = s.sluice ∧ (confirmed s).drc = s.drc ∧ (confirmed s).chart = s.chart ∧ (confirmed s).gauge = s.gauge ∧
    (confirmed s).fly = s.fly ∧ (confirmed s).seq = s.seq ∧ (confirmed s).tow = s.tow ∧ (confirmed s).pke = s.pke ∧
    (confirmed s).clk = s.clk ∧ (confirmed s).pins = s.pins ∧ (confirmed s).enginesOut = s.enginesOut := by
  unfold confirmed
  simp

@[simp] theorem learnWatch_frame (s : State) :
    (learnWatch s).now = s.now ∧ (learnWatch s).free = s.free ∧ (learnWatch s).pending = s.pending ∧ (learnWatch s).regs = s.regs ∧
    (learnWatch s).cmds = s.cmds ∧ (learnWatch s).berths = s.berths ∧ (learnWatch s).ports = s.ports ∧ (learnWatch s).lock = s.lock ∧
    (learnWatch s).weir = s.weir ∧ (learnWatch s).sluice = s.sluice ∧ (learnWatch s).refloat = s.refloat ∧ (learnWatch s).drc = s.drc ∧
    (learnWatch s).fmm = s.fmm ∧ (learnWatch s).chart = s.chart ∧ (learnWatch s).fly = s.fly ∧ (learnWatch s).seq = s.seq ∧
    (learnWatch s).log = s.log ∧ (learnWatch s).tow = s.tow ∧ (learnWatch s).cfg = s.cfg ∧ (learnWatch s).pke = s.pke ∧
    (learnWatch s).clk = s.clk ∧ (learnWatch s).mgmt = s.mgmt ∧ (learnWatch s).pins = s.pins ∧ (learnWatch s).enginesOut = s.enginesOut := by
  unfold learnWatch
  dsimp only
  (repeat' split) <;> simp

@[simp] theorem rideThrough_frame (s : State) :
    (rideThrough s).now = s.now ∧ (rideThrough s).free = s.free ∧ (rideThrough s).pending = s.pending ∧ (rideThrough s).regs = s.regs ∧
    (rideThrough s).cmds = s.cmds ∧ (rideThrough s).berths = s.berths ∧ (rideThrough s).ports = s.ports ∧ (rideThrough s).lock = s.lock ∧
    (rideThrough s).weir = s.weir ∧ (rideThrough s).sluice = s.sluice ∧ (rideThrough s).refloat = s.refloat ∧
    (rideThrough s).drc = s.drc ∧ (rideThrough s).fmm = s.fmm ∧ (rideThrough s).chart = s.chart ∧ (rideThrough s).fly = s.fly ∧
    (rideThrough s).seq = s.seq ∧ (rideThrough s).log = s.log ∧ (rideThrough s).tow = s.tow ∧ (rideThrough s).keep = s.keep ∧
    (rideThrough s).cfg = s.cfg ∧ (rideThrough s).pke = s.pke ∧ (rideThrough s).clk = s.clk ∧ (rideThrough s).mgmt = s.mgmt ∧
    (rideThrough s).pins = s.pins ∧ (rideThrough s).enginesOut = s.enginesOut := by
  unfold rideThrough
  simp

@[simp] theorem jump_frame (i : Nat) (s : State) :
    (jump i s).now = s.now ∧ (jump i s).free = s.free ∧ (jump i s).pending = s.pending ∧ (jump i s).cmds = s.cmds ∧
    (jump i s).out = s.out ∧ (jump i s).berths = s.berths ∧ (jump i s).ports = s.ports ∧ (jump i s).lock = s.lock ∧
    (jump i s).weir = s.weir ∧ (jump i s).sluice = s.sluice ∧ (jump i s).refloat = s.refloat ∧ (jump i s).drc = s.drc ∧
    (jump i s).fmm = s.fmm ∧ (jump i s).chart = s.chart ∧ (jump i s).gauge = s.gauge ∧ (jump i s).fly = s.fly ∧ (jump i s).seq = s.seq ∧
    (jump i s).log = s.log ∧ (jump i s).tow = s.tow ∧ (jump i s).keep = s.keep ∧ (jump i s).cfg = s.cfg ∧ (jump i s).pke = s.pke ∧
    (jump i s).clk = s.clk ∧ (jump i s).mgmt = s.mgmt ∧ (jump i s).pins = s.pins ∧ (jump i s).enginesOut = s.enginesOut := by
  unfold jump
  simp

@[simp] theorem takeAnchor_frame (i : Nat) (s : State) :
    (takeAnchor i s).now = s.now ∧ (takeAnchor i s).free = s.free ∧ (takeAnchor i s).pending = s.pending ∧
    (takeAnchor i s).cmds = s.cmds ∧ (takeAnchor i s).out = s.out ∧ (takeAnchor i s).berths = s.berths ∧
    (takeAnchor i s).ports = s.ports ∧ (takeAnchor i s).lock = s.lock ∧ (takeAnchor i s).weir = s.weir ∧
    (takeAnchor i s).sluice = s.sluice ∧ (takeAnchor i s).refloat = s.refloat ∧ (takeAnchor i s).drc = s.drc ∧
    (takeAnchor i s).fmm = s.fmm ∧ (takeAnchor i s).chart = s.chart ∧ (takeAnchor i s).fly = s.fly ∧ (takeAnchor i s).seq = s.seq ∧
    (takeAnchor i s).log = s.log ∧ (takeAnchor i s).tow = s.tow ∧ (takeAnchor i s).keep = s.keep ∧ (takeAnchor i s).cfg = s.cfg ∧
    (takeAnchor i s).pke = s.pke ∧ (takeAnchor i s).clk = s.clk ∧ (takeAnchor i s).mgmt = s.mgmt ∧ (takeAnchor i s).pins = s.pins ∧
    (takeAnchor i s).enginesOut = s.enginesOut := by
  unfold takeAnchor
  (repeat' split) <;> simp

@[simp] theorem takeSnap_frame (s : State) :
    (takeSnap s).now = s.now ∧ (takeSnap s).free = s.free ∧ (takeSnap s).pending = s.pending ∧ (takeSnap s).regs = s.regs ∧
    (takeSnap s).cmds = s.cmds ∧ (takeSnap s).out = s.out ∧ (takeSnap s).berths = s.berths ∧ (takeSnap s).ports = s.ports ∧
    (takeSnap s).lock = s.lock ∧ (takeSnap s).weir = s.weir ∧ (takeSnap s).sluice = s.sluice ∧ (takeSnap s).refloat = s.refloat ∧
    (takeSnap s).drc = s.drc ∧ (takeSnap s).fmm = s.fmm ∧ (takeSnap s).chart = s.chart ∧ (takeSnap s).fly = s.fly ∧
    (takeSnap s).seq = s.seq ∧ (takeSnap s).log = s.log ∧ (takeSnap s).tow = s.tow ∧ (takeSnap s).keep = s.keep ∧
    (takeSnap s).cfg = s.cfg ∧ (takeSnap s).pke = s.pke ∧ (takeSnap s).clk = s.clk ∧ (takeSnap s).mgmt = s.mgmt ∧
    (takeSnap s).pins = s.pins ∧ (takeSnap s).enginesOut = s.enginesOut := by
  unfold takeSnap
  simp

@[simp] theorem takeStaged_frame (s : State) :
    (takeStaged s).now = s.now ∧ (takeStaged s).free = s.free ∧ (takeStaged s).pending = s.pending ∧ (takeStaged s).cmds = s.cmds ∧
    (takeStaged s).out = s.out ∧ (takeStaged s).berths = s.berths ∧ (takeStaged s).ports = s.ports ∧ (takeStaged s).lock = s.lock ∧
    (takeStaged s).weir = s.weir ∧ (takeStaged s).sluice = s.sluice ∧ (takeStaged s).refloat = s.refloat ∧ (takeStaged s).drc = s.drc ∧
    (takeStaged s).fmm = s.fmm ∧ (takeStaged s).chart = s.chart ∧ (takeStaged s).fly = s.fly ∧ (takeStaged s).seq = s.seq ∧
    (takeStaged s).log = s.log ∧ (takeStaged s).tow = s.tow ∧ (takeStaged s).keep = s.keep ∧ (takeStaged s).cfg = s.cfg ∧
    (takeStaged s).pke = s.pke ∧ (takeStaged s).clk = s.clk ∧ (takeStaged s).mgmt = s.mgmt ∧ (takeStaged s).pins = s.pins ∧
    (takeStaged s).enginesOut = s.enginesOut := by
  unfold takeStaged
  dsimp only
  (repeat' split) <;> simp

@[simp] theorem gaugeStep_frame (x : GaugeSample) (s : State) :
    (gaugeStep x s).now = s.now ∧ (gaugeStep x s).free = s.free ∧ (gaugeStep x s).pending = s.pending ∧
    (gaugeStep x s).refloat = s.refloat ∧ (gaugeStep x s).pke = s.pke ∧ (gaugeStep x s).clk = s.clk ∧
    (gaugeStep x s).enginesOut = s.enginesOut := by
  unfold gaugeStep
  simp

@[simp] theorem linkLost_frame (p : Nat) (s : State) :
    (linkLost p s).now = s.now ∧ (linkLost p s).free = s.free ∧ (linkLost p s).pending = s.pending ∧ (linkLost p s).cmds = s.cmds ∧
    (linkLost p s).out = s.out ∧ (linkLost p s).berths = s.berths ∧ (linkLost p s).lock = s.lock ∧ (linkLost p s).weir = s.weir ∧
    (linkLost p s).sluice = s.sluice ∧ (linkLost p s).refloat = s.refloat ∧ (linkLost p s).drc = s.drc ∧ (linkLost p s).fmm = s.fmm ∧
    (linkLost p s).chart = s.chart ∧ (linkLost p s).gauge = s.gauge ∧ (linkLost p s).fly = s.fly ∧ (linkLost p s).seq = s.seq ∧
    (linkLost p s).log = s.log ∧ (linkLost p s).tow = s.tow ∧ (linkLost p s).cfg = s.cfg ∧ (linkLost p s).pke = s.pke ∧
    (linkLost p s).clk = s.clk ∧ (linkLost p s).mgmt = s.mgmt ∧ (linkLost p s).pins = s.pins ∧ (linkLost p s).enginesOut = s.enginesOut := by
  unfold linkLost
  simp

@[simp] theorem endLoad_frame (cmd : Option Nat) (result : Nat) (s : State) :
    (endLoad cmd result s).now = s.now ∧ (endLoad cmd result s).free = s.free ∧ (endLoad cmd result s).pending = s.pending ∧
    (endLoad cmd result s).berths = s.berths ∧ (endLoad cmd result s).ports = s.ports ∧ (endLoad cmd result s).lock = s.lock ∧
    (endLoad cmd result s).weir = s.weir ∧ (endLoad cmd result s).sluice = s.sluice ∧ (endLoad cmd result s).refloat = s.refloat ∧
    (endLoad cmd result s).drc = s.drc ∧ (endLoad cmd result s).fmm = s.fmm ∧ (endLoad cmd result s).chart = s.chart ∧
    (endLoad cmd result s).gauge = s.gauge ∧ (endLoad cmd result s).fly = s.fly ∧ (endLoad cmd result s).seq = s.seq ∧
    (endLoad cmd result s).log = s.log ∧ (endLoad cmd result s).tow = s.tow ∧ (endLoad cmd result s).keep = s.keep ∧
    (endLoad cmd result s).cfg = s.cfg ∧ (endLoad cmd result s).pke = s.pke ∧ (endLoad cmd result s).clk = s.clk ∧
    (endLoad cmd result s).pins = s.pins ∧ (endLoad cmd result s).enginesOut = s.enginesOut := by
  unfold endLoad
  simp

@[simp] theorem flyHarbour_frame (s : State) :
    (flyHarbour s).now = s.now ∧ (flyHarbour s).free = s.free ∧ (flyHarbour s).pending = s.pending ∧ (flyHarbour s).regs = s.regs ∧
    (flyHarbour s).cmds = s.cmds ∧ (flyHarbour s).out = s.out ∧ (flyHarbour s).berths = s.berths ∧ (flyHarbour s).ports = s.ports ∧
    (flyHarbour s).lock = s.lock ∧ (flyHarbour s).sluice = s.sluice ∧ (flyHarbour s).refloat = s.refloat ∧ (flyHarbour s).drc = s.drc ∧
    (flyHarbour s).fmm = s.fmm ∧ (flyHarbour s).chart = s.chart ∧ (flyHarbour s).gauge = s.gauge ∧ (flyHarbour s).seq = s.seq ∧
    (flyHarbour s).log = s.log ∧ (flyHarbour s).tow = s.tow ∧ (flyHarbour s).keep = s.keep ∧ (flyHarbour s).cfg = s.cfg ∧
    (flyHarbour s).pke = s.pke ∧ (flyHarbour s).clk = s.clk ∧ (flyHarbour s).mgmt = s.mgmt ∧ (flyHarbour s).pins = s.pins ∧
    (flyHarbour s).enginesOut = s.enginesOut := by
  unfold flyHarbour
  simp

@[simp] theorem safeHarbour_frame (f : ImgFail) (s : State) :
    (safeHarbour f s).now = s.now ∧ (safeHarbour f s).free = s.free ∧ (safeHarbour f s).pending = s.pending ∧
    (safeHarbour f s).cmds = s.cmds ∧ (safeHarbour f s).berths = s.berths ∧ (safeHarbour f s).ports = s.ports ∧
    (safeHarbour f s).lock = s.lock ∧ (safeHarbour f s).sluice = s.sluice ∧ (safeHarbour f s).drc = s.drc ∧
    (safeHarbour f s).fmm = s.fmm ∧ (safeHarbour f s).chart = s.chart ∧ (safeHarbour f s).seq = s.seq ∧ (safeHarbour f s).tow = s.tow ∧
    (safeHarbour f s).keep = s.keep ∧ (safeHarbour f s).pke = s.pke ∧ (safeHarbour f s).clk = s.clk ∧ (safeHarbour f s).pins = s.pins ∧
    (safeHarbour f s).enginesOut = s.enginesOut := by
  unfold safeHarbour
  simp

@[simp] theorem sealChannel_frame (c : Nat) (s : State) :
    (sealChannel c s).now = s.now ∧ (sealChannel c s).free = s.free ∧ (sealChannel c s).pending = s.pending ∧
    (sealChannel c s).regs = s.regs ∧ (sealChannel c s).cmds = s.cmds ∧ (sealChannel c s).out = s.out ∧
    (sealChannel c s).berths = s.berths ∧ (sealChannel c s).ports = s.ports ∧ (sealChannel c s).lock = s.lock ∧
    (sealChannel c s).weir = s.weir ∧ (sealChannel c s).sluice = s.sluice ∧ (sealChannel c s).refloat = s.refloat ∧
    (sealChannel c s).fmm = s.fmm ∧ (sealChannel c s).chart = s.chart ∧ (sealChannel c s).gauge = s.gauge ∧
    (sealChannel c s).fly = s.fly ∧ (sealChannel c s).seq = s.seq ∧ (sealChannel c s).log = s.log ∧ (sealChannel c s).tow = s.tow ∧
    (sealChannel c s).keep = s.keep ∧ (sealChannel c s).cfg = s.cfg ∧ (sealChannel c s).pke = s.pke ∧ (sealChannel c s).clk = s.clk ∧
    (sealChannel c s).mgmt = s.mgmt ∧ (sealChannel c s).pins = s.pins ∧ (sealChannel c s).enginesOut = s.enginesOut := by
  unfold sealChannel
  simp

@[simp] theorem sealClocks_frame (s : State) :
    (sealClocks s).now = s.now ∧ (sealClocks s).free = s.free ∧ (sealClocks s).pending = s.pending ∧ (sealClocks s).regs = s.regs ∧
    (sealClocks s).cmds = s.cmds ∧ (sealClocks s).out = s.out ∧ (sealClocks s).berths = s.berths ∧ (sealClocks s).ports = s.ports ∧
    (sealClocks s).lock = s.lock ∧ (sealClocks s).weir = s.weir ∧ (sealClocks s).sluice = s.sluice ∧ (sealClocks s).refloat = s.refloat ∧
    (sealClocks s).drc = s.drc ∧ (sealClocks s).fmm = s.fmm ∧ (sealClocks s).chart = s.chart ∧ (sealClocks s).gauge = s.gauge ∧
    (sealClocks s).fly = s.fly ∧ (sealClocks s).seq = s.seq ∧ (sealClocks s).log = s.log ∧ (sealClocks s).tow = s.tow ∧
    (sealClocks s).keep = s.keep ∧ (sealClocks s).cfg = s.cfg ∧ (sealClocks s).pke = s.pke ∧ (sealClocks s).mgmt = s.mgmt ∧
    (sealClocks s).pins = s.pins ∧ (sealClocks s).enginesOut = s.enginesOut := by
  unfold sealClocks
  simp

@[simp] theorem sealFlash_frame (s : State) :
    (sealFlash s).now = s.now ∧ (sealFlash s).free = s.free ∧ (sealFlash s).pending = s.pending ∧ (sealFlash s).regs = s.regs ∧
    (sealFlash s).cmds = s.cmds ∧ (sealFlash s).out = s.out ∧ (sealFlash s).berths = s.berths ∧ (sealFlash s).ports = s.ports ∧
    (sealFlash s).lock = s.lock ∧ (sealFlash s).weir = s.weir ∧ (sealFlash s).sluice = s.sluice ∧ (sealFlash s).refloat = s.refloat ∧
    (sealFlash s).drc = s.drc ∧ (sealFlash s).chart = s.chart ∧ (sealFlash s).gauge = s.gauge ∧ (sealFlash s).fly = s.fly ∧
    (sealFlash s).seq = s.seq ∧ (sealFlash s).log = s.log ∧ (sealFlash s).tow = s.tow ∧ (sealFlash s).keep = s.keep ∧
    (sealFlash s).cfg = s.cfg ∧ (sealFlash s).pke = s.pke ∧ (sealFlash s).clk = s.clk ∧ (sealFlash s).mgmt = s.mgmt ∧
    (sealFlash s).pins = s.pins ∧ (sealFlash s).enginesOut = s.enginesOut := by
  unfold sealFlash
  simp

@[simp] theorem stageSequencer_frame (x : SeqSection) (s : State) :
    (stageSequencer x s).now = s.now ∧ (stageSequencer x s).free = s.free ∧ (stageSequencer x s).pending = s.pending ∧
    (stageSequencer x s).regs = s.regs ∧ (stageSequencer x s).cmds = s.cmds ∧ (stageSequencer x s).out = s.out ∧
    (stageSequencer x s).berths = s.berths ∧ (stageSequencer x s).ports = s.ports ∧ (stageSequencer x s).lock = s.lock ∧
    (stageSequencer x s).weir = s.weir ∧ (stageSequencer x s).sluice = s.sluice ∧ (stageSequencer x s).refloat = s.refloat ∧
    (stageSequencer x s).drc = s.drc ∧ (stageSequencer x s).fmm = s.fmm ∧ (stageSequencer x s).chart = s.chart ∧
    (stageSequencer x s).gauge = s.gauge ∧ (stageSequencer x s).fly = s.fly ∧ (stageSequencer x s).log = s.log ∧
    (stageSequencer x s).tow = s.tow ∧ (stageSequencer x s).keep = s.keep ∧ (stageSequencer x s).cfg = s.cfg ∧
    (stageSequencer x s).pke = s.pke ∧ (stageSequencer x s).clk = s.clk ∧ (stageSequencer x s).mgmt = s.mgmt ∧
    (stageSequencer x s).pins = s.pins ∧ (stageSequencer x s).enginesOut = s.enginesOut := by
  unfold stageSequencer
  simp

@[simp] theorem sealImage_frame (b : List Byte) (s : State) :
    (sealImage b s).now = s.now ∧ (sealImage b s).free = s.free ∧ (sealImage b s).pending = s.pending ∧ (sealImage b s).cmds = s.cmds ∧
    (sealImage b s).out = s.out ∧ (sealImage b s).berths = s.berths ∧ (sealImage b s).ports = s.ports ∧ (sealImage b s).lock = s.lock ∧
    (sealImage b s).sluice = s.sluice ∧ (sealImage b s).refloat = s.refloat ∧ (sealImage b s).chart = s.chart ∧
    (sealImage b s).log = s.log ∧ (sealImage b s).tow = s.tow ∧ (sealImage b s).mgmt = s.mgmt ∧ (sealImage b s).pins = s.pins ∧
    (sealImage b s).enginesOut = s.enginesOut ∧ (sealImage b s).keep.reports = s.keep.reports := by
  unfold sealImage
  simp

@[simp] theorem imageRead_frame (b : List Byte) (s : State) :
    (imageRead b s).now = s.now ∧ (imageRead b s).free = s.free ∧ (imageRead b s).pending = s.pending ∧
    (imageRead b s).berths = s.berths ∧ (imageRead b s).ports = s.ports ∧ (imageRead b s).lock = s.lock ∧
    (imageRead b s).sluice = s.sluice ∧ (imageRead b s).chart = s.chart ∧ (imageRead b s).tow = s.tow ∧ (imageRead b s).pins = s.pins ∧
    (imageRead b s).enginesOut = s.enginesOut ∧ (imageRead b s).keep.reports = s.keep.reports := by
  unfold imageRead
  dsimp only
  (repeat' split) <;> simp

@[simp] theorem writeRead_frame (n : Nat) (b : List Byte) (s : State) :
    (writeRead n b s).now = s.now ∧ (writeRead n b s).free = s.free ∧ (writeRead n b s).pending = s.pending ∧
    (writeRead n b s).berths = s.berths ∧ (writeRead n b s).ports = s.ports ∧ (writeRead n b s).lock = s.lock ∧
    (writeRead n b s).weir = s.weir ∧ (writeRead n b s).sluice = s.sluice ∧ (writeRead n b s).refloat = s.refloat ∧
    (writeRead n b s).drc = s.drc ∧ (writeRead n b s).fmm = s.fmm ∧ (writeRead n b s).chart = s.chart ∧
    (writeRead n b s).gauge = s.gauge ∧ (writeRead n b s).fly = s.fly ∧ (writeRead n b s).seq = s.seq ∧ (writeRead n b s).log = s.log ∧
    (writeRead n b s).tow = s.tow ∧ (writeRead n b s).keep = s.keep ∧ (writeRead n b s).pke = s.pke ∧ (writeRead n b s).clk = s.clk ∧
    (writeRead n b s).pins = s.pins ∧ (writeRead n b s).enginesOut = s.enginesOut := by
  unfold writeRead
  simp

@[simp] theorem sendDue_frame (n : Nat) (s : State) :
    (sendDue n s).now = s.now ∧ (sendDue n s).free = s.free ∧ (sendDue n s).pending = s.pending ∧ (sendDue n s).regs = s.regs ∧
    (sendDue n s).cmds = s.cmds ∧ (sendDue n s).berths = s.berths ∧ (sendDue n s).ports = s.ports ∧ (sendDue n s).lock = s.lock ∧
    (sendDue n s).weir = s.weir ∧ (sendDue n s).sluice = s.sluice ∧ (sendDue n s).refloat = s.refloat ∧ (sendDue n s).drc = s.drc ∧
    (sendDue n s).fmm = s.fmm ∧ (sendDue n s).chart = s.chart ∧ (sendDue n s).gauge = s.gauge ∧ (sendDue n s).fly = s.fly ∧
    (sendDue n s).seq = s.seq ∧ (sendDue n s).log = s.log ∧ (sendDue n s).tow = s.tow ∧ (sendDue n s).keep = s.keep ∧
    (sendDue n s).cfg = s.cfg ∧ (sendDue n s).pke = s.pke ∧ (sendDue n s).clk = s.clk ∧ (sendDue n s).pins = s.pins ∧
    (sendDue n s).enginesOut = s.enginesOut := by
  unfold sendDue
  simp

@[simp] theorem channelsUp_frame (d : Nat) (s : State) :
    (channelsUp d s).now = s.now ∧ (channelsUp d s).free = s.free ∧ (channelsUp d s).pending = s.pending ∧
    (channelsUp d s).regs = s.regs ∧ (channelsUp d s).cmds = s.cmds ∧ (channelsUp d s).out = s.out ∧ (channelsUp d s).berths = s.berths ∧
    (channelsUp d s).ports = s.ports ∧ (channelsUp d s).lock = s.lock ∧ (channelsUp d s).weir = s.weir ∧
    (channelsUp d s).sluice = s.sluice ∧ (channelsUp d s).refloat = s.refloat ∧ (channelsUp d s).chart = s.chart ∧
    (channelsUp d s).gauge = s.gauge ∧ (channelsUp d s).fly = s.fly ∧ (channelsUp d s).seq = s.seq ∧ (channelsUp d s).log = s.log ∧
    (channelsUp d s).tow = s.tow ∧ (channelsUp d s).keep = s.keep ∧ (channelsUp d s).cfg = s.cfg ∧ (channelsUp d s).pke = s.pke ∧
    (channelsUp d s).clk = s.clk ∧ (channelsUp d s).mgmt = s.mgmt ∧ (channelsUp d s).pins = s.pins ∧
    (channelsUp d s).enginesOut = s.enginesOut := by
  unfold channelsUp
  simp

@[simp] theorem portOpen_frame (p : Nat) (s : State) :
    (portOpen p s).now = s.now ∧ (portOpen p s).free = s.free ∧ (portOpen p s).pending = s.pending ∧ (portOpen p s).regs = s.regs ∧
    (portOpen p s).cmds = s.cmds ∧ (portOpen p s).berths = s.berths ∧ (portOpen p s).lock = s.lock ∧ (portOpen p s).weir = s.weir ∧
    (portOpen p s).sluice = s.sluice ∧ (portOpen p s).refloat = s.refloat ∧ (portOpen p s).drc = s.drc ∧ (portOpen p s).fmm = s.fmm ∧
    (portOpen p s).chart = s.chart ∧ (portOpen p s).gauge = s.gauge ∧ (portOpen p s).fly = s.fly ∧ (portOpen p s).seq = s.seq ∧
    (portOpen p s).log = s.log ∧ (portOpen p s).tow = s.tow ∧ (portOpen p s).keep = s.keep ∧ (portOpen p s).cfg = s.cfg ∧
    (portOpen p s).pke = s.pke ∧ (portOpen p s).clk = s.clk ∧ (portOpen p s).mgmt = s.mgmt ∧ (portOpen p s).pins = s.pins ∧
    (portOpen p s).enginesOut = s.enginesOut := by
  unfold portOpen
  simp

@[simp] theorem domainUp_frame (d : Nat) (s : State) :
    (domainUp d s).now = s.now ∧ (domainUp d s).free = s.free ∧ (domainUp d s).pending = s.pending ∧ (domainUp d s).regs = s.regs ∧
    (domainUp d s).cmds = s.cmds ∧ (domainUp d s).berths = s.berths ∧ (domainUp d s).lock = s.lock ∧ (domainUp d s).weir = s.weir ∧
    (domainUp d s).sluice = s.sluice ∧ (domainUp d s).refloat = s.refloat ∧ (domainUp d s).chart = s.chart ∧
    (domainUp d s).gauge = s.gauge ∧ (domainUp d s).fly = s.fly ∧ (domainUp d s).log = s.log ∧ (domainUp d s).tow = s.tow ∧
    (domainUp d s).keep = s.keep ∧ (domainUp d s).pins = s.pins ∧ (domainUp d s).enginesOut = s.enginesOut := by
  unfold domainUp
  simp

@[simp] theorem checkArrives_frame (w : BitVec 32) (s : State) :
    (checkArrives w s).now = s.now ∧ (checkArrives w s).free = s.free ∧ (checkArrives w s).pending = s.pending ∧
    (checkArrives w s).regs = s.regs ∧ (checkArrives w s).cmds = s.cmds ∧ (checkArrives w s).berths = s.berths ∧
    (checkArrives w s).lock = s.lock ∧ (checkArrives w s).weir = s.weir ∧ (checkArrives w s).sluice = s.sluice ∧
    (checkArrives w s).refloat = s.refloat ∧ (checkArrives w s).chart = s.chart ∧ (checkArrives w s).gauge = s.gauge ∧
    (checkArrives w s).fly = s.fly ∧ (checkArrives w s).log = s.log ∧ (checkArrives w s).tow = s.tow ∧ (checkArrives w s).keep = s.keep ∧
    (checkArrives w s).pins = s.pins ∧ (checkArrives w s).enginesOut = s.enginesOut := by
  unfold checkArrives
  dsimp only
  (repeat' split) <;> simp

@[simp] theorem seenOff_frame (d : Nat) (s : State) :
    (seenOff d s).now = s.now ∧ (seenOff d s).free = s.free ∧ (seenOff d s).pending = s.pending ∧ (seenOff d s).regs = s.regs ∧
    (seenOff d s).cmds = s.cmds ∧ (seenOff d s).out = s.out ∧ (seenOff d s).berths = s.berths ∧ (seenOff d s).ports = s.ports ∧
    (seenOff d s).lock = s.lock ∧ (seenOff d s).weir = s.weir ∧ (seenOff d s).sluice = s.sluice ∧ (seenOff d s).refloat = s.refloat ∧
    (seenOff d s).drc = s.drc ∧ (seenOff d s).fmm = s.fmm ∧ (seenOff d s).chart = s.chart ∧ (seenOff d s).gauge = s.gauge ∧
    (seenOff d s).fly = s.fly ∧ (seenOff d s).log = s.log ∧ (seenOff d s).tow = s.tow ∧ (seenOff d s).keep = s.keep ∧
    (seenOff d s).cfg = s.cfg ∧ (seenOff d s).pke = s.pke ∧ (seenOff d s).clk = s.clk ∧ (seenOff d s).mgmt = s.mgmt ∧
    (seenOff d s).pins = s.pins ∧ (seenOff d s).enginesOut = s.enginesOut := by
  unfold seenOff
  simp

@[simp] theorem itemArrives_frame (w : BitVec 32) (s : State) :
    (itemArrives w s).now = s.now ∧ (itemArrives w s).free = s.free ∧ (itemArrives w s).pending = s.pending ∧
    (itemArrives w s).regs = s.regs ∧ (itemArrives w s).cmds = s.cmds ∧ (itemArrives w s).berths = s.berths ∧
    (itemArrives w s).lock = s.lock ∧ (itemArrives w s).weir = s.weir ∧ (itemArrives w s).sluice = s.sluice ∧
    (itemArrives w s).refloat = s.refloat ∧ (itemArrives w s).chart = s.chart ∧ (itemArrives w s).gauge = s.gauge ∧
    (itemArrives w s).fly = s.fly ∧ (itemArrives w s).log = s.log ∧ (itemArrives w s).tow = s.tow ∧ (itemArrives w s).keep = s.keep ∧
    (itemArrives w s).pins = s.pins ∧ (itemArrives w s).enginesOut = s.enginesOut := by
  unfold itemArrives
  simp

@[simp] theorem nextUp_frame (s : State) :
    (nextUp s).now = s.now ∧ (nextUp s).free = s.free ∧ (nextUp s).pending = s.pending ∧ (nextUp s).regs = s.regs ∧
    (nextUp s).cmds = s.cmds ∧ (nextUp s).berths = s.berths ∧ (nextUp s).lock = s.lock ∧ (nextUp s).weir = s.weir ∧
    (nextUp s).sluice = s.sluice ∧ (nextUp s).refloat = s.refloat ∧ (nextUp s).chart = s.chart ∧ (nextUp s).gauge = s.gauge ∧
    (nextUp s).fly = s.fly ∧ (nextUp s).log = s.log ∧ (nextUp s).tow = s.tow ∧ (nextUp s).keep = s.keep ∧ (nextUp s).pins = s.pins ∧
    (nextUp s).enginesOut = s.enginesOut := by
  unfold nextUp
  (repeat' split) <;> simp

@[simp] theorem loaderStart_frame (s : State) :
    (loaderStart s).now = s.now ∧ (loaderStart s).free = s.free ∧ (loaderStart s).pending = s.pending ∧ (loaderStart s).regs = s.regs ∧
    (loaderStart s).cmds = s.cmds ∧ (loaderStart s).out = s.out ∧ (loaderStart s).berths = s.berths ∧ (loaderStart s).ports = s.ports ∧
    (loaderStart s).lock = s.lock ∧ (loaderStart s).weir = s.weir ∧ (loaderStart s).sluice = s.sluice ∧
    (loaderStart s).refloat = s.refloat ∧ (loaderStart s).drc = s.drc ∧ (loaderStart s).fmm = s.fmm ∧ (loaderStart s).chart = s.chart ∧
    (loaderStart s).gauge = s.gauge ∧ (loaderStart s).fly = s.fly ∧ (loaderStart s).seq = s.seq ∧ (loaderStart s).log = s.log ∧
    (loaderStart s).tow = s.tow ∧ (loaderStart s).keep = s.keep ∧ (loaderStart s).pke = s.pke ∧ (loaderStart s).clk = s.clk ∧
    (loaderStart s).mgmt = s.mgmt ∧ (loaderStart s).pins = s.pins ∧ (loaderStart s).enginesOut = s.enginesOut := by
  unfold loaderStart
  simp

@[simp] theorem sluiceDone_frame (s : State) :
    (sluiceDone s).now = s.now ∧ (sluiceDone s).free = s.free ∧ (sluiceDone s).pending = s.pending ∧ (sluiceDone s).tow = s.tow ∧
    (sluiceDone s).pins = s.pins := by
  unfold sluiceDone
  dsimp only
  (repeat' split) <;> simp

@[simp] theorem endProgram_frame (p : Nat) (s : State) :
    (endProgram p s).now = s.now ∧ (endProgram p s).free = s.free ∧ (endProgram p s).pending = s.pending ∧
    (endProgram p s).pins = s.pins := by
  unfold endProgram
  simp

@[simp] theorem reportDropped_frame (s : State) :
    (reportDropped s).now = s.now ∧ (reportDropped s).free = s.free ∧ (reportDropped s).pending = s.pending ∧
    (reportDropped s).cmds = s.cmds ∧ (reportDropped s).berths = s.berths ∧ (reportDropped s).ports = s.ports ∧
    (reportDropped s).lock = s.lock ∧ (reportDropped s).weir = s.weir ∧ (reportDropped s).sluice = s.sluice ∧
    (reportDropped s).refloat = s.refloat ∧ (reportDropped s).drc = s.drc ∧ (reportDropped s).fmm = s.fmm ∧
    (reportDropped s).chart = s.chart ∧ (reportDropped s).gauge = s.gauge ∧ (reportDropped s).fly = s.fly ∧
    (reportDropped s).seq = s.seq ∧ (reportDropped s).tow = s.tow ∧ (reportDropped s).keep = s.keep ∧ (reportDropped s).cfg = s.cfg ∧
    (reportDropped s).pke = s.pke ∧ (reportDropped s).clk = s.clk ∧ (reportDropped s).pins = s.pins ∧
    (reportDropped s).enginesOut = s.enginesOut := by
  unfold reportDropped
  simp

@[simp] theorem setOcRun_frame (k : Fin 2) (n : Nat) (s : State) :
    (setOcRun k n s).now = s.now ∧ (setOcRun k n s).free = s.free ∧ (setOcRun k n s).pending = s.pending ∧
    (setOcRun k n s).regs = s.regs ∧ (setOcRun k n s).cmds = s.cmds ∧ (setOcRun k n s).out = s.out ∧ (setOcRun k n s).berths = s.berths ∧
    (setOcRun k n s).ports = s.ports ∧ (setOcRun k n s).lock = s.lock ∧ (setOcRun k n s).weir = s.weir ∧
    (setOcRun k n s).sluice = s.sluice ∧ (setOcRun k n s).refloat = s.refloat ∧ (setOcRun k n s).drc = s.drc ∧
    (setOcRun k n s).fmm = s.fmm ∧ (setOcRun k n s).chart = s.chart ∧ (setOcRun k n s).gauge = s.gauge ∧ (setOcRun k n s).seq = s.seq ∧
    (setOcRun k n s).log = s.log ∧ (setOcRun k n s).tow = s.tow ∧ (setOcRun k n s).keep = s.keep ∧ (setOcRun k n s).cfg = s.cfg ∧
    (setOcRun k n s).pke = s.pke ∧ (setOcRun k n s).clk = s.clk ∧ (setOcRun k n s).mgmt = s.mgmt ∧ (setOcRun k n s).pins = s.pins ∧
    (setOcRun k n s).enginesOut = s.enginesOut := by
  unfold setOcRun
  simp

@[simp] theorem unreserve_frame (i : Nat) (f : Flight) (s : State) :
    (unreserve i f s).now = s.now ∧ (unreserve i f s).free = s.free ∧ (unreserve i f s).pending = s.pending ∧
    (unreserve i f s).regs = s.regs ∧ (unreserve i f s).cmds = s.cmds ∧ (unreserve i f s).out = s.out ∧
    (unreserve i f s).ports = s.ports ∧ (unreserve i f s).lock = s.lock ∧ (unreserve i f s).weir = s.weir ∧
    (unreserve i f s).sluice = s.sluice ∧ (unreserve i f s).refloat = s.refloat ∧ (unreserve i f s).drc = s.drc ∧
    (unreserve i f s).fmm = s.fmm ∧ (unreserve i f s).chart = s.chart ∧ (unreserve i f s).gauge = s.gauge ∧
    (unreserve i f s).fly = s.fly ∧ (unreserve i f s).seq = s.seq ∧ (unreserve i f s).log = s.log ∧ (unreserve i f s).tow = s.tow ∧
    (unreserve i f s).keep = s.keep ∧ (unreserve i f s).cfg = s.cfg ∧ (unreserve i f s).pke = s.pke ∧ (unreserve i f s).clk = s.clk ∧
    (unreserve i f s).mgmt = s.mgmt ∧ (unreserve i f s).pins = s.pins ∧ (unreserve i f s).enginesOut = s.enginesOut := by
  unfold unreserve
  simp

@[simp] theorem drbgDraw_frame (s : State) :
    (drbgDraw s).1.now = s.now ∧ (drbgDraw s).1.pending = s.pending ∧ (drbgDraw s).1.regs = s.regs ∧ (drbgDraw s).1.cmds = s.cmds ∧ (drbgDraw s).1.out = s.out ∧ (drbgDraw s).1.berths = s.berths ∧ (drbgDraw s).1.ports = s.ports ∧ (drbgDraw s).1.lock = s.lock ∧ (drbgDraw s).1.weir = s.weir ∧ (drbgDraw s).1.sluice = s.sluice ∧ (drbgDraw s).1.refloat = s.refloat ∧ (drbgDraw s).1.drc = s.drc ∧ (drbgDraw s).1.fmm = s.fmm ∧ (drbgDraw s).1.chart = s.chart ∧ (drbgDraw s).1.gauge = s.gauge ∧ (drbgDraw s).1.fly = s.fly ∧ (drbgDraw s).1.seq = s.seq ∧ (drbgDraw s).1.log = s.log ∧ (drbgDraw s).1.tow = s.tow ∧ (drbgDraw s).1.keep = s.keep ∧ (drbgDraw s).1.cfg = s.cfg ∧ (drbgDraw s).1.clk = s.clk ∧ (drbgDraw s).1.mgmt = s.mgmt ∧ (drbgDraw s).1.pins = s.pins ∧ (drbgDraw s).1.enginesOut = s.enginesOut := by
  unfold drbgDraw
  dsimp only
  split <;> simp

@[simp] theorem gaugeOutcome_frame (o : POp) (s : State) :
    (gaugeOutcome o s).now = s.now ∧ (gaugeOutcome o s).pending = s.pending ∧ (gaugeOutcome o s).berths = s.berths ∧
    (gaugeOutcome o s).ports = s.ports ∧ (gaugeOutcome o s).lock = s.lock ∧ (gaugeOutcome o s).weir = s.weir ∧
    (gaugeOutcome o s).sluice = s.sluice ∧ (gaugeOutcome o s).refloat = s.refloat ∧ (gaugeOutcome o s).drc = s.drc ∧
    (gaugeOutcome o s).fmm = s.fmm ∧ (gaugeOutcome o s).chart = s.chart ∧ (gaugeOutcome o s).fly = s.fly ∧
    (gaugeOutcome o s).seq = s.seq ∧ (gaugeOutcome o s).tow = s.tow ∧ (gaugeOutcome o s).cfg = s.cfg ∧ (gaugeOutcome o s).clk = s.clk ∧
    (gaugeOutcome o s).pins = s.pins ∧ (gaugeOutcome o s).enginesOut = s.enginesOut := by
  unfold gaugeOutcome
  simp

@[simp] theorem pkeResult_frame (status : Nat) (valid : Bool) (rx : Nat) (ry : Nat) (t : Nat) (s : State) :
    (pkeResult status valid rx ry t s).now = s.now ∧ (pkeResult status valid rx ry t s).free = s.free ∧
    (pkeResult status valid rx ry t s).pending = s.pending ∧ (pkeResult status valid rx ry t s).cmds = s.cmds ∧
    (pkeResult status valid rx ry t s).out = s.out ∧ (pkeResult status valid rx ry t s).berths = s.berths ∧
    (pkeResult status valid rx ry t s).ports = s.ports ∧ (pkeResult status valid rx ry t s).lock = s.lock ∧
    (pkeResult status valid rx ry t s).weir = s.weir ∧ (pkeResult status valid rx ry t s).sluice = s.sluice ∧
    (pkeResult status valid rx ry t s).refloat = s.refloat ∧ (pkeResult status valid rx ry t s).drc = s.drc ∧
    (pkeResult status valid rx ry t s).fmm = s.fmm ∧ (pkeResult status valid rx ry t s).chart = s.chart ∧
    (pkeResult status valid rx ry t s).gauge = s.gauge ∧ (pkeResult status valid rx ry t s).fly = s.fly ∧
    (pkeResult status valid rx ry t s).seq = s.seq ∧ (pkeResult status valid rx ry t s).log = s.log ∧
    (pkeResult status valid rx ry t s).tow = s.tow ∧ (pkeResult status valid rx ry t s).keep = s.keep ∧
    (pkeResult status valid rx ry t s).cfg = s.cfg ∧ (pkeResult status valid rx ry t s).clk = s.clk ∧
    (pkeResult status valid rx ry t s).mgmt = s.mgmt ∧ (pkeResult status valid rx ry t s).pins = s.pins ∧
    (pkeResult status valid rx ry t s).enginesOut = s.enginesOut := by
  unfold pkeResult
  simp

@[simp] theorem rackOutcome_frame (o : POp) (s : State) :
    (rackOutcome o s).now = s.now ∧ (rackOutcome o s).pending = s.pending ∧ (rackOutcome o s).cmds = s.cmds ∧
    (rackOutcome o s).out = s.out ∧ (rackOutcome o s).berths = s.berths ∧ (rackOutcome o s).ports = s.ports ∧
    (rackOutcome o s).lock = s.lock ∧ (rackOutcome o s).weir = s.weir ∧ (rackOutcome o s).sluice = s.sluice ∧
    (rackOutcome o s).refloat = s.refloat ∧ (rackOutcome o s).drc = s.drc ∧ (rackOutcome o s).fmm = s.fmm ∧
    (rackOutcome o s).chart = s.chart ∧ (rackOutcome o s).gauge = s.gauge ∧ (rackOutcome o s).fly = s.fly ∧
    (rackOutcome o s).seq = s.seq ∧ (rackOutcome o s).log = s.log ∧ (rackOutcome o s).tow = s.tow ∧ (rackOutcome o s).keep = s.keep ∧
    (rackOutcome o s).cfg = s.cfg ∧ (rackOutcome o s).clk = s.clk ∧ (rackOutcome o s).mgmt = s.mgmt ∧ (rackOutcome o s).pins = s.pins ∧
    (rackOutcome o s).enginesOut = s.enginesOut := by
  unfold rackOutcome
  dsimp only
  (repeat' split) <;> simp

@[simp] theorem takeReading_frame (x : RailReading) (s : State) :
    (takeReading x s).now = s.now ∧ (takeReading x s).free = s.free ∧ (takeReading x s).pending = s.pending ∧
    (takeReading x s).cmds = s.cmds ∧ (takeReading x s).berths = s.berths ∧ (takeReading x s).ports = s.ports ∧
    (takeReading x s).lock = s.lock ∧ (takeReading x s).weir = s.weir ∧ (takeReading x s).sluice = s.sluice ∧
    (takeReading x s).refloat = s.refloat ∧ (takeReading x s).drc = s.drc ∧ (takeReading x s).fmm = s.fmm ∧
    (takeReading x s).chart = s.chart ∧ (takeReading x s).gauge = s.gauge ∧ (takeReading x s).fly = s.fly ∧
    (takeReading x s).tow = s.tow ∧ (takeReading x s).cfg = s.cfg ∧ (takeReading x s).pke = s.pke ∧ (takeReading x s).clk = s.clk ∧
    (takeReading x s).pins = s.pins ∧ (takeReading x s).enginesOut = s.enginesOut := by
  unfold takeReading
  simp

@[simp] theorem probeWrite_frame (c : Nat) (s : State) :
    (probeWrite c s).now = s.now ∧ (probeWrite c s).free = s.free ∧ (probeWrite c s).pending = s.pending ∧
    (probeWrite c s).regs = s.regs ∧ (probeWrite c s).cmds = s.cmds ∧ (probeWrite c s).out = s.out ∧ (probeWrite c s).berths = s.berths ∧
    (probeWrite c s).ports = s.ports ∧ (probeWrite c s).lock = s.lock ∧ (probeWrite c s).weir = s.weir ∧
    (probeWrite c s).sluice = s.sluice ∧ (probeWrite c s).refloat = s.refloat ∧ (probeWrite c s).fmm = s.fmm ∧
    (probeWrite c s).chart = s.chart ∧ (probeWrite c s).gauge = s.gauge ∧ (probeWrite c s).fly = s.fly ∧ (probeWrite c s).seq = s.seq ∧
    (probeWrite c s).log = s.log ∧ (probeWrite c s).tow = s.tow ∧ (probeWrite c s).keep = s.keep ∧ (probeWrite c s).cfg = s.cfg ∧
    (probeWrite c s).pke = s.pke ∧ (probeWrite c s).clk = s.clk ∧ (probeWrite c s).mgmt = s.mgmt ∧ (probeWrite c s).pins = s.pins ∧
    (probeWrite c s).enginesOut = s.enginesOut := by
  unfold probeWrite
  simp

@[simp] theorem startAuth_frame (s : State) :
    (startAuth s).now = s.now ∧ (startAuth s).free = s.free ∧ (startAuth s).pending = s.pending ∧ (startAuth s).regs = s.regs ∧
    (startAuth s).cmds = s.cmds ∧ (startAuth s).out = s.out ∧ (startAuth s).berths = s.berths ∧ (startAuth s).ports = s.ports ∧
    (startAuth s).lock = s.lock ∧ (startAuth s).weir = s.weir ∧ (startAuth s).sluice = s.sluice ∧ (startAuth s).refloat = s.refloat ∧
    (startAuth s).drc = s.drc ∧ (startAuth s).fmm = s.fmm ∧ (startAuth s).chart = s.chart ∧ (startAuth s).fly = s.fly ∧
    (startAuth s).seq = s.seq ∧ (startAuth s).log = s.log ∧ (startAuth s).tow = s.tow ∧ (startAuth s).keep = s.keep ∧
    (startAuth s).cfg = s.cfg ∧ (startAuth s).pke = s.pke ∧ (startAuth s).clk = s.clk ∧ (startAuth s).mgmt = s.mgmt ∧
    (startAuth s).pins = s.pins ∧ (startAuth s).enginesOut = s.enginesOut := by
  unfold startAuth
  simp

@[simp] theorem programStart_frame (s : State) :
    (programStart s).now = s.now ∧ (programStart s).free = s.free ∧ (programStart s).pending = s.pending ∧
    (programStart s).cmds = s.cmds ∧ (programStart s).berths = s.berths ∧ (programStart s).weir = s.weir ∧ (programStart s).drc = s.drc ∧
    (programStart s).fmm = s.fmm ∧ (programStart s).chart = s.chart ∧ (programStart s).fly = s.fly ∧ (programStart s).pke = s.pke ∧
    (programStart s).pins = s.pins ∧ (programStart s).enginesOut = s.enginesOut ∧ (programStart s).keep.reports = s.keep.reports := by
  unfold programStart
  simp

@[simp] theorem moveFrom_frame (k : Nat) (row : Nat) (s : State) :
    (moveFrom k row s).now = s.now ∧ (moveFrom k row s).free = s.free ∧ (moveFrom k row s).pending = s.pending ∧
    (moveFrom k row s).cmds = s.cmds ∧ (moveFrom k row s).berths = s.berths ∧ (moveFrom k row s).ports = s.ports ∧
    (moveFrom k row s).lock = s.lock ∧ (moveFrom k row s).weir = s.weir ∧ (moveFrom k row s).sluice = s.sluice ∧
    (moveFrom k row s).refloat = s.refloat ∧ (moveFrom k row s).drc = s.drc ∧ (moveFrom k row s).chart = s.chart ∧
    (moveFrom k row s).gauge = s.gauge ∧ (moveFrom k row s).fly = s.fly ∧ (moveFrom k row s).seq = s.seq ∧
    (moveFrom k row s).log = s.log ∧ (moveFrom k row s).tow = s.tow ∧ (moveFrom k row s).cfg = s.cfg ∧ (moveFrom k row s).pke = s.pke ∧
    (moveFrom k row s).clk = s.clk ∧ (moveFrom k row s).mgmt = s.mgmt ∧ (moveFrom k row s).pins = s.pins ∧
    (moveFrom k row s).enginesOut = s.enginesOut := by
  unfold moveFrom
  simp

@[simp] theorem programFailed_frame (k : Nat) (n : Nat) (row : Nat) (s : State) :
    (programFailed k n row s).now = s.now ∧ (programFailed k n row s).free = s.free ∧ (programFailed k n row s).pending = s.pending ∧
    (programFailed k n row s).cmds = s.cmds ∧ (programFailed k n row s).berths = s.berths ∧ (programFailed k n row s).ports = s.ports ∧
    (programFailed k n row s).lock = s.lock ∧ (programFailed k n row s).weir = s.weir ∧ (programFailed k n row s).refloat = s.refloat ∧
    (programFailed k n row s).chart = s.chart ∧ (programFailed k n row s).gauge = s.gauge ∧ (programFailed k n row s).fly = s.fly ∧
    (programFailed k n row s).seq = s.seq ∧ (programFailed k n row s).log = s.log ∧ (programFailed k n row s).tow = s.tow ∧
    (programFailed k n row s).cfg = s.cfg ∧ (programFailed k n row s).pke = s.pke ∧ (programFailed k n row s).clk = s.clk ∧
    (programFailed k n row s).mgmt = s.mgmt ∧ (programFailed k n row s).pins = s.pins ∧
    (programFailed k n row s).enginesOut = s.enginesOut := by
  unfold programFailed
  simp

@[simp] theorem sanProgramFailed_frame (k : Nat) (n : Nat) (s : State) :
    (sanProgramFailed k n s).now = s.now ∧ (sanProgramFailed k n s).free = s.free ∧ (sanProgramFailed k n s).pending = s.pending ∧
    (sanProgramFailed k n s).cmds = s.cmds ∧ (sanProgramFailed k n s).berths = s.berths ∧ (sanProgramFailed k n s).ports = s.ports ∧
    (sanProgramFailed k n s).lock = s.lock ∧ (sanProgramFailed k n s).weir = s.weir ∧ (sanProgramFailed k n s).sluice = s.sluice ∧
    (sanProgramFailed k n s).refloat = s.refloat ∧ (sanProgramFailed k n s).drc = s.drc ∧ (sanProgramFailed k n s).chart = s.chart ∧
    (sanProgramFailed k n s).gauge = s.gauge ∧ (sanProgramFailed k n s).fly = s.fly ∧ (sanProgramFailed k n s).seq = s.seq ∧
    (sanProgramFailed k n s).log = s.log ∧ (sanProgramFailed k n s).tow = s.tow ∧ (sanProgramFailed k n s).cfg = s.cfg ∧
    (sanProgramFailed k n s).pke = s.pke ∧ (sanProgramFailed k n s).clk = s.clk ∧ (sanProgramFailed k n s).mgmt = s.mgmt ∧
    (sanProgramFailed k n s).pins = s.pins ∧ (sanProgramFailed k n s).enginesOut = s.enginesOut := by
  unfold sanProgramFailed
  simp

@[simp] theorem oneConfirmed_frame (n : Nat) (s : State) :
    (oneConfirmed n s).now = s.now ∧ (oneConfirmed n s).free = s.free ∧ (oneConfirmed n s).pending = s.pending ∧
    (oneConfirmed n s).regs = s.regs ∧ (oneConfirmed n s).cmds = s.cmds ∧ (oneConfirmed n s).out = s.out ∧
    (oneConfirmed n s).berths = s.berths ∧ (oneConfirmed n s).ports = s.ports ∧ (oneConfirmed n s).lock = s.lock ∧
    (oneConfirmed n s).weir = s.weir ∧ (oneConfirmed n s).sluice = s.sluice ∧ (oneConfirmed n s).refloat = s.refloat ∧
    (oneConfirmed n s).drc = s.drc ∧ (oneConfirmed n s).fmm = s.fmm ∧ (oneConfirmed n s).chart = s.chart ∧
    (oneConfirmed n s).gauge = s.gauge ∧ (oneConfirmed n s).fly = s.fly ∧ (oneConfirmed n s).seq = s.seq ∧
    (oneConfirmed n s).log = s.log ∧ (oneConfirmed n s).tow = s.tow ∧ (oneConfirmed n s).keep = s.keep ∧ (oneConfirmed n s).pke = s.pke ∧
    (oneConfirmed n s).clk = s.clk ∧ (oneConfirmed n s).mgmt = s.mgmt ∧ (oneConfirmed n s).pins = s.pins ∧
    (oneConfirmed n s).enginesOut = s.enginesOut := by
  unfold oneConfirmed
  simp

@[simp] theorem chooseImage_frame (s : State) :
    (chooseImage s).now = s.now ∧ (chooseImage s).free = s.free ∧ (chooseImage s).pending = s.pending ∧ (chooseImage s).cmds = s.cmds ∧
    (chooseImage s).berths = s.berths ∧ (chooseImage s).ports = s.ports ∧ (chooseImage s).lock = s.lock ∧
    (chooseImage s).sluice = s.sluice ∧ (chooseImage s).drc = s.drc ∧ (chooseImage s).fmm = s.fmm ∧ (chooseImage s).chart = s.chart ∧
    (chooseImage s).seq = s.seq ∧ (chooseImage s).tow = s.tow ∧ (chooseImage s).keep = s.keep ∧ (chooseImage s).pke = s.pke ∧
    (chooseImage s).clk = s.clk ∧ (chooseImage s).pins = s.pins ∧ (chooseImage s).enginesOut = s.enginesOut := by
  unfold chooseImage
  dsimp only
  (repeat' split) <;> simp

@[simp] theorem chainPageAdd_frame (i : Nat) (n : Nat) (s : State) :
    (chainPageAdd i n s).now = s.now ∧ (chainPageAdd i n s).free = s.free ∧ (chainPageAdd i n s).pending = s.pending ∧
    (chainPageAdd i n s).regs = s.regs ∧ (chainPageAdd i n s).cmds = s.cmds ∧ (chainPageAdd i n s).ports = s.ports ∧
    (chainPageAdd i n s).lock = s.lock ∧ (chainPageAdd i n s).weir = s.weir ∧ (chainPageAdd i n s).sluice = s.sluice ∧
    (chainPageAdd i n s).refloat = s.refloat ∧ (chainPageAdd i n s).drc = s.drc ∧ (chainPageAdd i n s).gauge = s.gauge ∧
    (chainPageAdd i n s).fly = s.fly ∧ (chainPageAdd i n s).seq = s.seq ∧ (chainPageAdd i n s).log = s.log ∧
    (chainPageAdd i n s).tow = s.tow ∧ (chainPageAdd i n s).keep = s.keep ∧ (chainPageAdd i n s).cfg = s.cfg ∧
    (chainPageAdd i n s).pke = s.pke ∧ (chainPageAdd i n s).clk = s.clk ∧ (chainPageAdd i n s).mgmt = s.mgmt ∧
    (chainPageAdd i n s).pins = s.pins ∧ (chainPageAdd i n s).enginesOut = s.enginesOut := by
  unfold chainPageAdd
  simp

@[simp] theorem writeLine_frame (l : Line) (s : State) :
    (writeLine l s).now = s.now ∧ (writeLine l s).free = s.free ∧ (writeLine l s).pending = s.pending ∧ (writeLine l s).regs = s.regs ∧
    (writeLine l s).cmds = s.cmds ∧ (writeLine l s).out = s.out ∧ (writeLine l s).berths = s.berths ∧ (writeLine l s).ports = s.ports ∧
    (writeLine l s).lock = s.lock ∧ (writeLine l s).weir = s.weir ∧ (writeLine l s).sluice = s.sluice ∧
    (writeLine l s).refloat = s.refloat ∧ (writeLine l s).fmm = s.fmm ∧ (writeLine l s).chart = s.chart ∧
    (writeLine l s).gauge = s.gauge ∧ (writeLine l s).fly = s.fly ∧ (writeLine l s).seq = s.seq ∧ (writeLine l s).log = s.log ∧
    (writeLine l s).tow = s.tow ∧ (writeLine l s).keep = s.keep ∧ (writeLine l s).cfg = s.cfg ∧ (writeLine l s).pke = s.pke ∧
    (writeLine l s).clk = s.clk ∧ (writeLine l s).mgmt = s.mgmt ∧ (writeLine l s).pins = s.pins ∧
    (writeLine l s).enginesOut = s.enginesOut := by
  unfold writeLine
  simp

@[simp] theorem commit_frame (i : Nat) (f : Flight) (p : Place) (payload : Nat) (s : State) :
    (commit i f p payload s).now = s.now ∧ (commit i f p payload s).free = s.free ∧ (commit i f p payload s).pending = s.pending ∧
    (commit i f p payload s).cmds = s.cmds ∧ (commit i f p payload s).ports = s.ports ∧ (commit i f p payload s).lock = s.lock ∧
    (commit i f p payload s).weir = s.weir ∧ (commit i f p payload s).sluice = s.sluice ∧ (commit i f p payload s).refloat = s.refloat ∧
    (commit i f p payload s).gauge = s.gauge ∧ (commit i f p payload s).fly = s.fly ∧ (commit i f p payload s).seq = s.seq ∧
    (commit i f p payload s).log = s.log ∧ (commit i f p payload s).tow = s.tow ∧ (commit i f p payload s).cfg = s.cfg ∧
    (commit i f p payload s).pke = s.pke ∧ (commit i f p payload s).clk = s.clk ∧ (commit i f p payload s).mgmt = s.mgmt ∧
    (commit i f p payload s).pins = s.pins ∧ (commit i f p payload s).enginesOut = s.enginesOut := by
  unfold commit
  simp

@[simp] theorem readyNow_frame (s : State) :
    (readyNow s).now = s.now ∧ (readyNow s).free = s.free ∧ (readyNow s).pending = s.pending ∧ (readyNow s).cmds = s.cmds ∧
    (readyNow s).berths = s.berths ∧ (readyNow s).lock = s.lock ∧ (readyNow s).weir = s.weir ∧ (readyNow s).sluice = s.sluice ∧
    (readyNow s).drc = s.drc ∧ (readyNow s).chart = s.chart ∧ (readyNow s).gauge = s.gauge ∧ (readyNow s).fly = s.fly ∧
    (readyNow s).seq = s.seq ∧ (readyNow s).tow = s.tow ∧ (readyNow s).cfg = s.cfg ∧ (readyNow s).pke = s.pke ∧ (readyNow s).clk = s.clk ∧
    (readyNow s).enginesOut = s.enginesOut ∧ (readyNow s).keep.reports = s.keep.reports := by
  unfold readyNow
  simp

@[simp] theorem countersAbove_frame (m : Manifest) (s : State) :
    (countersAbove m s).now = s.now ∧ (countersAbove m s).free = s.free ∧ (countersAbove m s).pending = s.pending ∧
    (countersAbove m s).regs = s.regs ∧ (countersAbove m s).cmds = s.cmds ∧ (countersAbove m s).out = s.out ∧
    (countersAbove m s).berths = s.berths ∧ (countersAbove m s).ports = s.ports ∧ (countersAbove m s).lock = s.lock ∧
    (countersAbove m s).weir = s.weir ∧ (countersAbove m s).sluice = s.sluice ∧ (countersAbove m s).refloat = s.refloat ∧
    (countersAbove m s).drc = s.drc ∧ (countersAbove m s).chart = s.chart ∧ (countersAbove m s).gauge = s.gauge ∧
    (countersAbove m s).fly = s.fly ∧ (countersAbove m s).seq = s.seq ∧ (countersAbove m s).log = s.log ∧
    (countersAbove m s).tow = s.tow ∧ (countersAbove m s).keep = s.keep ∧ (countersAbove m s).cfg = s.cfg ∧
    (countersAbove m s).pke = s.pke ∧ (countersAbove m s).clk = s.clk ∧ (countersAbove m s).mgmt = s.mgmt ∧
    (countersAbove m s).pins = s.pins ∧ (countersAbove m s).enginesOut = s.enginesOut := by
  unfold countersAbove
  simp

@[simp] theorem factoryMarks_frame (marks : List (Nat × Nat)) (s : State) :
    (factoryMarks marks s).now = s.now ∧ (factoryMarks marks s).free = s.free ∧ (factoryMarks marks s).pending = s.pending ∧
    (factoryMarks marks s).regs = s.regs ∧ (factoryMarks marks s).cmds = s.cmds ∧ (factoryMarks marks s).out = s.out ∧
    (factoryMarks marks s).berths = s.berths ∧ (factoryMarks marks s).ports = s.ports ∧ (factoryMarks marks s).lock = s.lock ∧
    (factoryMarks marks s).weir = s.weir ∧ (factoryMarks marks s).sluice = s.sluice ∧ (factoryMarks marks s).refloat = s.refloat ∧
    (factoryMarks marks s).drc = s.drc ∧ (factoryMarks marks s).chart = s.chart ∧ (factoryMarks marks s).gauge = s.gauge ∧
    (factoryMarks marks s).fly = s.fly ∧ (factoryMarks marks s).seq = s.seq ∧ (factoryMarks marks s).log = s.log ∧
    (factoryMarks marks s).tow = s.tow ∧ (factoryMarks marks s).cfg = s.cfg ∧ (factoryMarks marks s).pke = s.pke ∧
    (factoryMarks marks s).clk = s.clk ∧ (factoryMarks marks s).mgmt = s.mgmt ∧ (factoryMarks marks s).pins = s.pins ∧
    (factoryMarks marks s).enginesOut = s.enginesOut := by
  unfold factoryMarks
  simp

@[simp] theorem loadBerths_frame (m : Manifest) (chains : Tbl (List Rec)) (s : State) :
    (loadBerths m chains s).now = s.now ∧ (loadBerths m chains s).free = s.free ∧ (loadBerths m chains s).pending = s.pending ∧
    (loadBerths m chains s).regs = s.regs ∧ (loadBerths m chains s).cmds = s.cmds ∧ (loadBerths m chains s).out = s.out ∧
    (loadBerths m chains s).lock = s.lock ∧ (loadBerths m chains s).weir = s.weir ∧ (loadBerths m chains s).sluice = s.sluice ∧
    (loadBerths m chains s).refloat = s.refloat ∧ (loadBerths m chains s).drc = s.drc ∧ (loadBerths m chains s).fmm = s.fmm ∧
    (loadBerths m chains s).chart = s.chart ∧ (loadBerths m chains s).gauge = s.gauge ∧ (loadBerths m chains s).fly = s.fly ∧
    (loadBerths m chains s).seq = s.seq ∧ (loadBerths m chains s).log = s.log ∧ (loadBerths m chains s).tow = s.tow ∧
    (loadBerths m chains s).keep = s.keep ∧ (loadBerths m chains s).cfg = s.cfg ∧ (loadBerths m chains s).pke = s.pke ∧
    (loadBerths m chains s).clk = s.clk ∧ (loadBerths m chains s).mgmt = s.mgmt ∧ (loadBerths m chains s).pins = s.pins ∧
    (loadBerths m chains s).enginesOut = s.enginesOut := by
  unfold loadBerths
  dsimp only
  refine ⟨?_, ?_, ?_, ?_, ?_, ?_, ?_, ?_, ?_, ?_, ?_, ?_, ?_, ?_, ?_, ?_, ?_, ?_, ?_, ?_, ?_, ?_, ?_, ?_, ?_⟩
  · refine (forEach_now _ _ (fun a u => ?_) _).trans (by first | rfl | simp)
    (repeat' split) <;> simp
  · refine (forEach_free _ _ (fun a u => ?_) _).trans (by first | rfl | simp)
    (repeat' split) <;> simp
  · refine (forEach_pending _ _ (fun a u => ?_) _).trans (by first | rfl | simp)
    (repeat' split) <;> simp
  · refine (forEach_regs _ _ (fun a u => ?_) _).trans (by first | rfl | simp)
    (repeat' split) <;> simp
  · refine (forEach_cmds _ _ (fun a u => ?_) _).trans (by first | rfl | simp)
    (repeat' split) <;> simp
  · refine (forEach_out _ _ (fun a u => ?_) _).trans (by first | rfl | simp)
    (repeat' split) <;> simp
  · refine (forEach_lock _ _ (fun a u => ?_) _).trans (by first | rfl | simp)
    (repeat' split) <;> simp
  · refine (forEach_weir _ _ (fun a u => ?_) _).trans (by first | rfl | simp)
    (repeat' split) <;> simp
  · refine (forEach_sluice _ _ (fun a u => ?_) _).trans (by first | rfl | simp)
    (repeat' split) <;> simp
  · refine (forEach_refloat _ _ (fun a u => ?_) _).trans (by first | rfl | simp)
    (repeat' split) <;> simp
  · refine (forEach_drc _ _ (fun a u => ?_) _).trans (by first | rfl | simp)
    (repeat' split) <;> simp
  · refine (forEach_fmm _ _ (fun a u => ?_) _).trans (by first | rfl | simp)
    (repeat' split) <;> simp
  · refine (forEach_chart _ _ (fun a u => ?_) _).trans (by first | rfl | simp)
    (repeat' split) <;> simp
  · refine (forEach_gauge _ _ (fun a u => ?_) _).trans (by first | rfl | simp)
    (repeat' split) <;> simp
  · refine (forEach_fly _ _ (fun a u => ?_) _).trans (by first | rfl | simp)
    (repeat' split) <;> simp
  · refine (forEach_seq _ _ (fun a u => ?_) _).trans (by first | rfl | simp)
    (repeat' split) <;> simp
  · refine (forEach_log _ _ (fun a u => ?_) _).trans (by first | rfl | simp)
    (repeat' split) <;> simp
  · refine (forEach_tow _ _ (fun a u => ?_) _).trans (by first | rfl | simp)
    (repeat' split) <;> simp
  · refine (forEach_keep _ _ (fun a u => ?_) _).trans (by first | rfl | simp)
    (repeat' split) <;> simp
  · refine (forEach_cfg _ _ (fun a u => ?_) _).trans (by first | rfl | simp)
    (repeat' split) <;> simp
  · refine (forEach_pke _ _ (fun a u => ?_) _).trans (by first | rfl | simp)
    (repeat' split) <;> simp
  · refine (forEach_clk _ _ (fun a u => ?_) _).trans (by first | rfl | simp)
    (repeat' split) <;> simp
  · refine (forEach_mgmt _ _ (fun a u => ?_) _).trans (by first | rfl | simp)
    (repeat' split) <;> simp
  · refine (forEach_pins _ _ (fun a u => ?_) _).trans (by first | rfl | simp)
    (repeat' split) <;> simp
  · refine (forEach_enginesOut _ _ (fun a u => ?_) _).trans (by first | rfl | simp)
    (repeat' split) <;> simp

@[simp] theorem openRun_frame (s : State) :
    (openRun s).now = s.now ∧ (openRun s).free = s.free ∧ (openRun s).pending = s.pending ∧ (openRun s).cmds = s.cmds ∧
    (openRun s).berths = s.berths ∧ (openRun s).ports = s.ports ∧ (openRun s).lock = s.lock ∧ (openRun s).weir = s.weir ∧
    (openRun s).sluice = s.sluice ∧ (openRun s).drc = s.drc ∧ (openRun s).chart = s.chart ∧ (openRun s).gauge = s.gauge ∧
    (openRun s).fly = s.fly ∧ (openRun s).seq = s.seq ∧ (openRun s).log = s.log ∧ (openRun s).tow = s.tow ∧ (openRun s).cfg = s.cfg ∧
    (openRun s).pke = s.pke ∧ (openRun s).clk = s.clk ∧ (openRun s).mgmt = s.mgmt ∧ (openRun s).pins = s.pins ∧
    (openRun s).enginesOut = s.enginesOut := by
  unfold openRun
  simp

@[simp] theorem locate_frame (g : Nat) (bseq : Nat) (e : DirEnt) (s : State) :
    (locate g bseq e s).now = s.now ∧ (locate g bseq e s).free = s.free ∧ (locate g bseq e s).pending = s.pending ∧
    (locate g bseq e s).regs = s.regs ∧ (locate g bseq e s).cmds = s.cmds ∧ (locate g bseq e s).out = s.out ∧
    (locate g bseq e s).ports = s.ports ∧ (locate g bseq e s).lock = s.lock ∧ (locate g bseq e s).weir = s.weir ∧
    (locate g bseq e s).sluice = s.sluice ∧ (locate g bseq e s).refloat = s.refloat ∧ (locate g bseq e s).drc = s.drc ∧
    (locate g bseq e s).fmm = s.fmm ∧ (locate g bseq e s).chart = s.chart ∧ (locate g bseq e s).gauge = s.gauge ∧
    (locate g bseq e s).fly = s.fly ∧ (locate g bseq e s).seq = s.seq ∧ (locate g bseq e s).log = s.log ∧
    (locate g bseq e s).tow = s.tow ∧ (locate g bseq e s).keep = s.keep ∧ (locate g bseq e s).cfg = s.cfg ∧
    (locate g bseq e s).pke = s.pke ∧ (locate g bseq e s).clk = s.clk ∧ (locate g bseq e s).mgmt = s.mgmt ∧
    (locate g bseq e s).pins = s.pins ∧ (locate g bseq e s).enginesOut = s.enginesOut := by
  unfold locate
  simp

@[simp] theorem takeBarge_frame (scan : Scan) (x : Nat × Nat × Row) (s : State) :
    (takeBarge scan x s).now = s.now ∧ (takeBarge scan x s).free = s.free ∧ (takeBarge scan x s).pending = s.pending ∧
    (takeBarge scan x s).regs = s.regs ∧ (takeBarge scan x s).cmds = s.cmds ∧ (takeBarge scan x s).out = s.out ∧
    (takeBarge scan x s).ports = s.ports ∧ (takeBarge scan x s).lock = s.lock ∧ (takeBarge scan x s).weir = s.weir ∧
    (takeBarge scan x s).sluice = s.sluice ∧ (takeBarge scan x s).refloat = s.refloat ∧ (takeBarge scan x s).drc = s.drc ∧
    (takeBarge scan x s).chart = s.chart ∧ (takeBarge scan x s).gauge = s.gauge ∧ (takeBarge scan x s).fly = s.fly ∧
    (takeBarge scan x s).seq = s.seq ∧ (takeBarge scan x s).log = s.log ∧ (takeBarge scan x s).tow = s.tow ∧
    (takeBarge scan x s).keep = s.keep ∧ (takeBarge scan x s).cfg = s.cfg ∧ (takeBarge scan x s).pke = s.pke ∧
    (takeBarge scan x s).clk = s.clk ∧ (takeBarge scan x s).mgmt = s.mgmt ∧ (takeBarge scan x s).pins = s.pins ∧
    (takeBarge scan x s).enginesOut = s.enginesOut := by
  unfold takeBarge
  simp

@[simp] theorem pagesLine_frame (i : Nat) (s : State) :
    (pagesLine i s).now = s.now ∧ (pagesLine i s).free = s.free ∧ (pagesLine i s).pending = s.pending ∧ (pagesLine i s).regs = s.regs ∧
    (pagesLine i s).cmds = s.cmds ∧ (pagesLine i s).out = s.out ∧ (pagesLine i s).berths = s.berths ∧ (pagesLine i s).ports = s.ports ∧
    (pagesLine i s).lock = s.lock ∧ (pagesLine i s).weir = s.weir ∧ (pagesLine i s).sluice = s.sluice ∧
    (pagesLine i s).refloat = s.refloat ∧ (pagesLine i s).fmm = s.fmm ∧ (pagesLine i s).chart = s.chart ∧
    (pagesLine i s).gauge = s.gauge ∧ (pagesLine i s).fly = s.fly ∧ (pagesLine i s).seq = s.seq ∧ (pagesLine i s).log = s.log ∧
    (pagesLine i s).tow = s.tow ∧ (pagesLine i s).keep = s.keep ∧ (pagesLine i s).cfg = s.cfg ∧ (pagesLine i s).pke = s.pke ∧
    (pagesLine i s).clk = s.clk ∧ (pagesLine i s).mgmt = s.mgmt ∧ (pagesLine i s).pins = s.pins ∧
    (pagesLine i s).enginesOut = s.enginesOut := by
  unfold pagesLine
  simp

@[simp] theorem berthBack_frame (i : Nat) (s : State) :
    (berthBack i s).now = s.now ∧ (berthBack i s).free = s.free ∧ (berthBack i s).pending = s.pending ∧ (berthBack i s).regs = s.regs ∧
    (berthBack i s).cmds = s.cmds ∧ (berthBack i s).ports = s.ports ∧ (berthBack i s).lock = s.lock ∧ (berthBack i s).weir = s.weir ∧
    (berthBack i s).sluice = s.sluice ∧ (berthBack i s).gauge = s.gauge ∧ (berthBack i s).fly = s.fly ∧ (berthBack i s).seq = s.seq ∧
    (berthBack i s).log = s.log ∧ (berthBack i s).tow = s.tow ∧ (berthBack i s).keep = s.keep ∧ (berthBack i s).cfg = s.cfg ∧
    (berthBack i s).pke = s.pke ∧ (berthBack i s).clk = s.clk ∧ (berthBack i s).mgmt = s.mgmt ∧ (berthBack i s).pins = s.pins ∧
    (berthBack i s).enginesOut = s.enginesOut := by
  unfold berthBack
  simp

@[simp] theorem recount_frame (s : State) :
    (recount s).now = s.now ∧ (recount s).free = s.free ∧ (recount s).pending = s.pending ∧ (recount s).regs = s.regs ∧
    (recount s).cmds = s.cmds ∧ (recount s).out = s.out ∧ (recount s).berths = s.berths ∧ (recount s).ports = s.ports ∧
    (recount s).lock = s.lock ∧ (recount s).weir = s.weir ∧ (recount s).sluice = s.sluice ∧ (recount s).refloat = s.refloat ∧
    (recount s).drc = s.drc ∧ (recount s).chart = s.chart ∧ (recount s).gauge = s.gauge ∧ (recount s).fly = s.fly ∧
    (recount s).seq = s.seq ∧ (recount s).log = s.log ∧ (recount s).tow = s.tow ∧ (recount s).keep = s.keep ∧ (recount s).cfg = s.cfg ∧
    (recount s).pke = s.pke ∧ (recount s).clk = s.clk ∧ (recount s).mgmt = s.mgmt ∧ (recount s).pins = s.pins ∧
    (recount s).enginesOut = s.enginesOut := by
  unfold recount
  simp

@[simp] theorem rowUnbuilt_frame (c : BitVec 17) (r : Row) (s : State) :
    (rowUnbuilt c r s).now = s.now ∧ (rowUnbuilt c r s).free = s.free ∧ (rowUnbuilt c r s).pending = s.pending ∧
    (rowUnbuilt c r s).regs = s.regs ∧ (rowUnbuilt c r s).cmds = s.cmds ∧ (rowUnbuilt c r s).out = s.out ∧
    (rowUnbuilt c r s).ports = s.ports ∧ (rowUnbuilt c r s).lock = s.lock ∧ (rowUnbuilt c r s).weir = s.weir ∧
    (rowUnbuilt c r s).sluice = s.sluice ∧ (rowUnbuilt c r s).refloat = s.refloat ∧ (rowUnbuilt c r s).drc = s.drc ∧
    (rowUnbuilt c r s).fmm = s.fmm ∧ (rowUnbuilt c r s).chart = s.chart ∧ (rowUnbuilt c r s).gauge = s.gauge ∧
    (rowUnbuilt c r s).fly = s.fly ∧ (rowUnbuilt c r s).seq = s.seq ∧ (rowUnbuilt c r s).log = s.log ∧ (rowUnbuilt c r s).tow = s.tow ∧
    (rowUnbuilt c r s).keep = s.keep ∧ (rowUnbuilt c r s).cfg = s.cfg ∧ (rowUnbuilt c r s).pke = s.pke ∧ (rowUnbuilt c r s).clk = s.clk ∧
    (rowUnbuilt c r s).mgmt = s.mgmt ∧ (rowUnbuilt c r s).pins = s.pins ∧ (rowUnbuilt c r s).enginesOut = s.enginesOut := by
  unfold rowUnbuilt
  simp

@[simp] theorem verifyRow_frame (k : Nat) (row : Nat) (cws : List (Fin 1024 × Fin 17 × Fin 16 × CwRead)) (s : State) :
    (verifyRow k row cws s).now = s.now ∧ (verifyRow k row cws s).free = s.free ∧ (verifyRow k row cws s).pending = s.pending ∧
    (verifyRow k row cws s).regs = s.regs ∧ (verifyRow k row cws s).cmds = s.cmds ∧ (verifyRow k row cws s).out = s.out ∧
    (verifyRow k row cws s).ports = s.ports ∧ (verifyRow k row cws s).lock = s.lock ∧ (verifyRow k row cws s).weir = s.weir ∧
    (verifyRow k row cws s).sluice = s.sluice ∧ (verifyRow k row cws s).refloat = s.refloat ∧ (verifyRow k row cws s).drc = s.drc ∧
    (verifyRow k row cws s).chart = s.chart ∧ (verifyRow k row cws s).gauge = s.gauge ∧ (verifyRow k row cws s).fly = s.fly ∧
    (verifyRow k row cws s).seq = s.seq ∧ (verifyRow k row cws s).log = s.log ∧ (verifyRow k row cws s).tow = s.tow ∧
    (verifyRow k row cws s).keep = s.keep ∧ (verifyRow k row cws s).cfg = s.cfg ∧ (verifyRow k row cws s).pke = s.pke ∧
    (verifyRow k row cws s).clk = s.clk ∧ (verifyRow k row cws s).mgmt = s.mgmt ∧ (verifyRow k row cws s).pins = s.pins ∧
    (verifyRow k row cws s).enginesOut = s.enginesOut := by
  unfold verifyRow
  simp

@[simp] theorem trimSegs_frame (s : State) :
    (trimSegs s).now = s.now ∧ (trimSegs s).free = s.free ∧ (trimSegs s).pending = s.pending ∧ (trimSegs s).regs = s.regs ∧
    (trimSegs s).cmds = s.cmds ∧ (trimSegs s).out = s.out ∧ (trimSegs s).berths = s.berths ∧ (trimSegs s).ports = s.ports ∧
    (trimSegs s).lock = s.lock ∧ (trimSegs s).weir = s.weir ∧ (trimSegs s).sluice = s.sluice ∧ (trimSegs s).refloat = s.refloat ∧
    (trimSegs s).drc = s.drc ∧ (trimSegs s).chart = s.chart ∧ (trimSegs s).gauge = s.gauge ∧ (trimSegs s).fly = s.fly ∧
    (trimSegs s).seq = s.seq ∧ (trimSegs s).log = s.log ∧ (trimSegs s).tow = s.tow ∧ (trimSegs s).keep = s.keep ∧
    (trimSegs s).cfg = s.cfg ∧ (trimSegs s).pke = s.pke ∧ (trimSegs s).clk = s.clk ∧ (trimSegs s).mgmt = s.mgmt ∧
    (trimSegs s).pins = s.pins ∧ (trimSegs s).enginesOut = s.enginesOut := by
  unfold trimSegs
  dsimp only
  (repeat' split) <;> simp

@[simp] theorem verifyEntry_frame (g : Nat) (e : DirEnt) (s : State) :
    (verifyEntry g e s).now = s.now ∧ (verifyEntry g e s).free = s.free ∧ (verifyEntry g e s).pending = s.pending ∧
    (verifyEntry g e s).regs = s.regs ∧ (verifyEntry g e s).cmds = s.cmds ∧ (verifyEntry g e s).ports = s.ports ∧
    (verifyEntry g e s).lock = s.lock ∧ (verifyEntry g e s).weir = s.weir ∧ (verifyEntry g e s).sluice = s.sluice ∧
    (verifyEntry g e s).refloat = s.refloat ∧ (verifyEntry g e s).drc = s.drc ∧ (verifyEntry g e s).gauge = s.gauge ∧
    (verifyEntry g e s).fly = s.fly ∧ (verifyEntry g e s).seq = s.seq ∧ (verifyEntry g e s).log = s.log ∧
    (verifyEntry g e s).tow = s.tow ∧ (verifyEntry g e s).keep = s.keep ∧ (verifyEntry g e s).cfg = s.cfg ∧
    (verifyEntry g e s).pke = s.pke ∧ (verifyEntry g e s).clk = s.clk ∧ (verifyEntry g e s).mgmt = s.mgmt ∧
    (verifyEntry g e s).pins = s.pins ∧ (verifyEntry g e s).enginesOut = s.enginesOut := by
  unfold verifyEntry
  dsimp only
  (repeat' split) <;> simp

@[simp] theorem verifyPage_frame (g : Nat) (e : DirEnt) (s : State) :
    (verifyPage g e s).now = s.now ∧ (verifyPage g e s).free = s.free ∧ (verifyPage g e s).pending = s.pending ∧
    (verifyPage g e s).regs = s.regs ∧ (verifyPage g e s).cmds = s.cmds ∧ (verifyPage g e s).out = s.out ∧
    (verifyPage g e s).berths = s.berths ∧ (verifyPage g e s).ports = s.ports ∧ (verifyPage g e s).lock = s.lock ∧
    (verifyPage g e s).weir = s.weir ∧ (verifyPage g e s).sluice = s.sluice ∧ (verifyPage g e s).refloat = s.refloat ∧
    (verifyPage g e s).drc = s.drc ∧ (verifyPage g e s).chart = s.chart ∧ (verifyPage g e s).gauge = s.gauge ∧
    (verifyPage g e s).fly = s.fly ∧ (verifyPage g e s).seq = s.seq ∧ (verifyPage g e s).log = s.log ∧ (verifyPage g e s).tow = s.tow ∧
    (verifyPage g e s).keep = s.keep ∧ (verifyPage g e s).cfg = s.cfg ∧ (verifyPage g e s).pke = s.pke ∧ (verifyPage g e s).clk = s.clk ∧
    (verifyPage g e s).mgmt = s.mgmt ∧ (verifyPage g e s).pins = s.pins ∧ (verifyPage g e s).enginesOut = s.enginesOut := by
  unfold verifyPage
  dsimp only
  (repeat' split) <;> simp

@[simp] theorem verifyBarge_frame (r : Row) (s : State) :
    (verifyBarge r s).now = s.now ∧ (verifyBarge r s).free = s.free ∧ (verifyBarge r s).pending = s.pending ∧
    (verifyBarge r s).regs = s.regs ∧ (verifyBarge r s).cmds = s.cmds ∧ (verifyBarge r s).ports = s.ports ∧
    (verifyBarge r s).lock = s.lock ∧ (verifyBarge r s).weir = s.weir ∧ (verifyBarge r s).sluice = s.sluice ∧
    (verifyBarge r s).refloat = s.refloat ∧ (verifyBarge r s).drc = s.drc ∧ (verifyBarge r s).gauge = s.gauge ∧
    (verifyBarge r s).fly = s.fly ∧ (verifyBarge r s).seq = s.seq ∧ (verifyBarge r s).log = s.log ∧ (verifyBarge r s).tow = s.tow ∧
    (verifyBarge r s).keep = s.keep ∧ (verifyBarge r s).cfg = s.cfg ∧ (verifyBarge r s).pke = s.pke ∧ (verifyBarge r s).clk = s.clk ∧
    (verifyBarge r s).mgmt = s.mgmt ∧ (verifyBarge r s).pins = s.pins ∧ (verifyBarge r s).enginesOut = s.enginesOut := by
  unfold verifyBarge
  simp

@[simp] theorem verifySb_frame (k : Nat) (s : State) :
    (verifySb k s).now = s.now ∧ (verifySb k s).free = s.free ∧ (verifySb k s).pending = s.pending ∧ (verifySb k s).regs = s.regs ∧
    (verifySb k s).cmds = s.cmds ∧ (verifySb k s).ports = s.ports ∧ (verifySb k s).lock = s.lock ∧ (verifySb k s).weir = s.weir ∧
    (verifySb k s).sluice = s.sluice ∧ (verifySb k s).refloat = s.refloat ∧ (verifySb k s).drc = s.drc ∧ (verifySb k s).gauge = s.gauge ∧
    (verifySb k s).fly = s.fly ∧ (verifySb k s).seq = s.seq ∧ (verifySb k s).log = s.log ∧ (verifySb k s).tow = s.tow ∧
    (verifySb k s).keep = s.keep ∧ (verifySb k s).cfg = s.cfg ∧ (verifySb k s).pke = s.pke ∧ (verifySb k s).clk = s.clk ∧
    (verifySb k s).mgmt = s.mgmt ∧ (verifySb k s).pins = s.pins ∧ (verifySb k s).enginesOut = s.enginesOut := by
  unfold verifySb
  simp

@[simp] theorem verifyRefloat_frame (cws : List (BitVec 20 × Fin 1024 × Fin 17 × Fin 16 × CwRead)) (k : Nat) (s : State) :
    (verifyRefloat cws k s).now = s.now ∧ (verifyRefloat cws k s).free = s.free ∧ (verifyRefloat cws k s).pending = s.pending ∧
    (verifyRefloat cws k s).cmds = s.cmds ∧ (verifyRefloat cws k s).ports = s.ports ∧ (verifyRefloat cws k s).lock = s.lock ∧
    (verifyRefloat cws k s).weir = s.weir ∧ (verifyRefloat cws k s).sluice = s.sluice ∧ (verifyRefloat cws k s).drc = s.drc ∧
    (verifyRefloat cws k s).gauge = s.gauge ∧ (verifyRefloat cws k s).fly = s.fly ∧ (verifyRefloat cws k s).seq = s.seq ∧
    (verifyRefloat cws k s).log = s.log ∧ (verifyRefloat cws k s).tow = s.tow ∧ (verifyRefloat cws k s).cfg = s.cfg ∧
    (verifyRefloat cws k s).pke = s.pke ∧ (verifyRefloat cws k s).clk = s.clk ∧ (verifyRefloat cws k s).mgmt = s.mgmt ∧
    (verifyRefloat cws k s).pins = s.pins ∧ (verifyRefloat cws k s).enginesOut = s.enginesOut := by
  unfold verifyRefloat
  simp

@[simp] theorem replyIn_frame (a : Nat) (f : List Byte) (s : State) :
    (replyIn a f s).now = s.now ∧ (replyIn a f s).free = s.free ∧ (replyIn a f s).pending = s.pending ∧
    (replyIn a f s).refloat = s.refloat ∧ (replyIn a f s).pke = s.pke ∧ (replyIn a f s).clk = s.clk ∧
    (replyIn a f s).enginesOut = s.enginesOut := by
  unfold replyIn
  simp

@[simp] theorem channelsReady_frame (s : State) :
    (channelsReady s).now = s.now ∧ (channelsReady s).free = s.free ∧ (channelsReady s).pending = s.pending ∧
    (channelsReady s).regs = s.regs ∧ (channelsReady s).cmds = s.cmds ∧ (channelsReady s).out = s.out ∧
    (channelsReady s).berths = s.berths ∧ (channelsReady s).ports = s.ports ∧ (channelsReady s).lock = s.lock ∧
    (channelsReady s).weir = s.weir ∧ (channelsReady s).sluice = s.sluice ∧ (channelsReady s).refloat = s.refloat ∧
    (channelsReady s).fmm = s.fmm ∧ (channelsReady s).chart = s.chart ∧ (channelsReady s).gauge = s.gauge ∧
    (channelsReady s).fly = s.fly ∧ (channelsReady s).seq = s.seq ∧ (channelsReady s).log = s.log ∧ (channelsReady s).tow = s.tow ∧
    (channelsReady s).keep = s.keep ∧ (channelsReady s).cfg = s.cfg ∧ (channelsReady s).pke = s.pke ∧ (channelsReady s).clk = s.clk ∧
    (channelsReady s).mgmt = s.mgmt ∧ (channelsReady s).pins = s.pins ∧ (channelsReady s).enginesOut = s.enginesOut := by
  unfold channelsReady
  simp

@[simp] theorem confirmImage_frame (s : State) :
    (confirmImage s).now = s.now ∧ (confirmImage s).free = s.free ∧ (confirmImage s).pending = s.pending ∧
    (confirmImage s).cmds = s.cmds ∧ (confirmImage s).berths = s.berths ∧ (confirmImage s).ports = s.ports ∧
    (confirmImage s).lock = s.lock ∧ (confirmImage s).weir = s.weir ∧ (confirmImage s).sluice = s.sluice ∧ (confirmImage s).drc = s.drc ∧
    (confirmImage s).chart = s.chart ∧ (confirmImage s).gauge = s.gauge ∧ (confirmImage s).fly = s.fly ∧ (confirmImage s).seq = s.seq ∧
    (confirmImage s).tow = s.tow ∧ (confirmImage s).pke = s.pke ∧ (confirmImage s).clk = s.clk ∧ (confirmImage s).pins = s.pins ∧
    (confirmImage s).enginesOut = s.enginesOut := by
  unfold confirmImage
  simp

@[simp] theorem railRead_frame (x : RailReading) (s : State) :
    (railRead x s).now = s.now ∧ (railRead x s).free = s.free ∧ (railRead x s).pending = s.pending ∧ (railRead x s).regs = s.regs ∧
    (railRead x s).cmds = s.cmds ∧ (railRead x s).out = s.out ∧ (railRead x s).berths = s.berths ∧ (railRead x s).ports = s.ports ∧
    (railRead x s).lock = s.lock ∧ (railRead x s).weir = s.weir ∧ (railRead x s).sluice = s.sluice ∧ (railRead x s).refloat = s.refloat ∧
    (railRead x s).drc = s.drc ∧ (railRead x s).fmm = s.fmm ∧ (railRead x s).chart = s.chart ∧ (railRead x s).gauge = s.gauge ∧
    (railRead x s).fly = s.fly ∧ (railRead x s).log = s.log ∧ (railRead x s).tow = s.tow ∧ (railRead x s).keep = s.keep ∧
    (railRead x s).cfg = s.cfg ∧ (railRead x s).pke = s.pke ∧ (railRead x s).clk = s.clk ∧ (railRead x s).mgmt = s.mgmt ∧
    (railRead x s).pins = s.pins ∧ (railRead x s).enginesOut = s.enginesOut := by
  unfold railRead
  simp

@[simp] theorem portsOff_frame (s : State) :
    (portsOff s).now = s.now ∧ (portsOff s).free = s.free ∧ (portsOff s).pending = s.pending ∧ (portsOff s).sluice = s.sluice ∧
    (portsOff s).fly = s.fly ∧ (portsOff s).log = s.log ∧ (portsOff s).tow = s.tow ∧ (portsOff s).pins = s.pins := by
  unfold portsOff
  simp

@[simp] theorem wakeHeld_frame (s : State) :
    (wakeHeld s).now = s.now ∧ (wakeHeld s).free = s.free ∧ (wakeHeld s).pending = s.pending ∧ (wakeHeld s).regs = s.regs ∧
    (wakeHeld s).cmds = s.cmds ∧ (wakeHeld s).out = s.out ∧ (wakeHeld s).berths = s.berths ∧ (wakeHeld s).ports = s.ports ∧
    (wakeHeld s).lock = s.lock ∧ (wakeHeld s).weir = s.weir ∧ (wakeHeld s).sluice = s.sluice ∧ (wakeHeld s).refloat = s.refloat ∧
    (wakeHeld s).drc = s.drc ∧ (wakeHeld s).fmm = s.fmm ∧ (wakeHeld s).chart = s.chart ∧ (wakeHeld s).gauge = s.gauge ∧
    (wakeHeld s).fly = s.fly ∧ (wakeHeld s).log = s.log ∧ (wakeHeld s).tow = s.tow ∧ (wakeHeld s).keep = s.keep ∧
    (wakeHeld s).cfg = s.cfg ∧ (wakeHeld s).pke = s.pke ∧ (wakeHeld s).clk = s.clk ∧ (wakeHeld s).mgmt = s.mgmt ∧
    (wakeHeld s).pins = s.pins ∧ (wakeHeld s).enginesOut = s.enginesOut := by
  unfold wakeHeld
  (repeat' split) <;> simp

@[simp] theorem drainFlight_frame (i : Nat) (f : Flight) (s : State) :
    (drainFlight i f s).now = s.now ∧ (drainFlight i f s).free = s.free ∧ (drainFlight i f s).pending = s.pending ∧
    (drainFlight i f s).cmds = s.cmds ∧ (drainFlight i f s).out = s.out ∧ (drainFlight i f s).ports = s.ports ∧
    (drainFlight i f s).lock = s.lock ∧ (drainFlight i f s).weir = s.weir ∧ (drainFlight i f s).sluice = s.sluice ∧
    (drainFlight i f s).refloat = s.refloat ∧ (drainFlight i f s).drc = s.drc ∧ (drainFlight i f s).fmm = s.fmm ∧
    (drainFlight i f s).chart = s.chart ∧ (drainFlight i f s).gauge = s.gauge ∧ (drainFlight i f s).fly = s.fly ∧
    (drainFlight i f s).seq = s.seq ∧ (drainFlight i f s).log = s.log ∧ (drainFlight i f s).tow = s.tow ∧
    (drainFlight i f s).keep = s.keep ∧ (drainFlight i f s).cfg = s.cfg ∧ (drainFlight i f s).pke = s.pke ∧
    (drainFlight i f s).clk = s.clk ∧ (drainFlight i f s).mgmt = s.mgmt ∧ (drainFlight i f s).pins = s.pins ∧
    (drainFlight i f s).enginesOut = s.enginesOut := by
  unfold drainFlight
  (repeat' split) <;> simp

@[simp] theorem drainBerth_frame (i : Nat) (s : State) :
    (drainBerth i s).now = s.now ∧ (drainBerth i s).free = s.free ∧ (drainBerth i s).pending = s.pending ∧
    (drainBerth i s).cmds = s.cmds ∧ (drainBerth i s).lock = s.lock ∧ (drainBerth i s).sluice = s.sluice ∧
    (drainBerth i s).refloat = s.refloat ∧ (drainBerth i s).gauge = s.gauge ∧ (drainBerth i s).fly = s.fly ∧
    (drainBerth i s).seq = s.seq ∧ (drainBerth i s).log = s.log ∧ (drainBerth i s).tow = s.tow ∧ (drainBerth i s).cfg = s.cfg ∧
    (drainBerth i s).pke = s.pke ∧ (drainBerth i s).clk = s.clk ∧ (drainBerth i s).pins = s.pins ∧
    (drainBerth i s).enginesOut = s.enginesOut := by
  unfold drainBerth
  simp

@[simp] theorem drainLoop_frame (i : Nat) (x1 : Nat) (s : State) :
    (drainLoop i x1 s).now = s.now ∧ (drainLoop i x1 s).free = s.free ∧ (drainLoop i x1 s).pending = s.pending ∧
    (drainLoop i x1 s).cmds = s.cmds ∧ (drainLoop i x1 s).lock = s.lock ∧ (drainLoop i x1 s).sluice = s.sluice ∧
    (drainLoop i x1 s).refloat = s.refloat ∧ (drainLoop i x1 s).gauge = s.gauge ∧ (drainLoop i x1 s).fly = s.fly ∧
    (drainLoop i x1 s).seq = s.seq ∧ (drainLoop i x1 s).log = s.log ∧ (drainLoop i x1 s).tow = s.tow ∧ (drainLoop i x1 s).cfg = s.cfg ∧
    (drainLoop i x1 s).pke = s.pke ∧ (drainLoop i x1 s).clk = s.clk ∧ (drainLoop i x1 s).pins = s.pins ∧
    (drainLoop i x1 s).enginesOut = s.enginesOut := by
  induction x1 generalizing s with
  | zero => simp [drainLoop]
  | succ n ih =>
    unfold drainLoop
    (repeat' split) <;> simp [ih]

@[simp] theorem sluiceTorn_frame (s : State) :
    (sluiceTorn s).now = s.now ∧ (sluiceTorn s).free = s.free ∧ (sluiceTorn s).pending = s.pending ∧ (sluiceTorn s).tow = s.tow ∧
    (sluiceTorn s).pins = s.pins := by
  unfold sluiceTorn
  simp

@[simp] theorem sealNow_frame (s : State) :
    (sealNow s).now = s.now ∧ (sealNow s).free = s.free ∧ (sealNow s).pending = s.pending ∧ (sealNow s).tow = s.tow ∧
    (sealNow s).pins = s.pins := by
  unfold sealNow
  simp

@[simp] theorem moduleHere_frame (i : Nat) (serial : BitVec 128) (s : State) :
    (moduleHere i serial s).now = s.now ∧ (moduleHere i serial s).free = s.free ∧ (moduleHere i serial s).pending = s.pending ∧
    (moduleHere i serial s).cmds = s.cmds ∧ (moduleHere i serial s).berths = s.berths ∧ (moduleHere i serial s).ports = s.ports ∧
    (moduleHere i serial s).lock = s.lock ∧ (moduleHere i serial s).weir = s.weir ∧ (moduleHere i serial s).sluice = s.sluice ∧
    (moduleHere i serial s).refloat = s.refloat ∧ (moduleHere i serial s).drc = s.drc ∧ (moduleHere i serial s).fmm = s.fmm ∧
    (moduleHere i serial s).chart = s.chart ∧ (moduleHere i serial s).fly = s.fly ∧ (moduleHere i serial s).seq = s.seq ∧
    (moduleHere i serial s).tow = s.tow ∧ (moduleHere i serial s).keep = s.keep ∧ (moduleHere i serial s).cfg = s.cfg ∧
    (moduleHere i serial s).pke = s.pke ∧ (moduleHere i serial s).clk = s.clk ∧ (moduleHere i serial s).pins = s.pins ∧
    (moduleHere i serial s).enginesOut = s.enginesOut := by
  unfold moduleHere
  simp

@[simp] theorem pollOne_frame (i : Nat) (a : Option (BitVec 128 × BitVec 8)) (s : State) :
    (pollOne i a s).now = s.now ∧ (pollOne i a s).free = s.free ∧ (pollOne i a s).pending = s.pending ∧
    (pollOne i a s).berths = s.berths ∧ (pollOne i a s).ports = s.ports ∧ (pollOne i a s).lock = s.lock ∧ (pollOne i a s).weir = s.weir ∧
    (pollOne i a s).sluice = s.sluice ∧ (pollOne i a s).refloat = s.refloat ∧ (pollOne i a s).drc = s.drc ∧ (pollOne i a s).fmm = s.fmm ∧
    (pollOne i a s).chart = s.chart ∧ (pollOne i a s).fly = s.fly ∧ (pollOne i a s).seq = s.seq ∧ (pollOne i a s).tow = s.tow ∧
    (pollOne i a s).cfg = s.cfg ∧ (pollOne i a s).pke = s.pke ∧ (pollOne i a s).clk = s.clk ∧ (pollOne i a s).pins = s.pins ∧
    (pollOne i a s).enginesOut = s.enginesOut := by
  unfold pollOne
  dsimp only
  (repeat' split) <;> simp

@[simp] theorem mediumKept_frame (s : State) :
    (mediumKept s).pending = s.pending ∧ (mediumKept s).out = s.out := by
  simp [mediumKept]

@[simp] theorem present_frame (p : Nat) (t : Word) (s : State) :
    (present p t s).now = s.now ∧ (present p t s).free = s.free ∧ (present p t s).pending = s.pending ∧ (present p t s).cmds = s.cmds ∧
    (present p t s).lock = s.lock ∧ (present p t s).sluice = s.sluice ∧ (present p t s).refloat = s.refloat ∧
    (present p t s).gauge = s.gauge ∧ (present p t s).fly = s.fly ∧ (present p t s).seq = s.seq ∧ (present p t s).log = s.log ∧
    (present p t s).tow = s.tow ∧ (present p t s).cfg = s.cfg ∧ (present p t s).pke = s.pke ∧ (present p t s).clk = s.clk ∧
    (present p t s).pins = s.pins ∧ (present p t s).enginesOut = s.enginesOut := by
  unfold present
  simp

@[simp] theorem readbackFail_frame (k : Nat) (row : Nat) (cws : List (Fin 1024 × Fin 17 × Fin 16 × CwRead)) (s : State) :
    (readbackFail k row cws s).now = s.now ∧ (readbackFail k row cws s).free = s.free ∧ (readbackFail k row cws s).pending = s.pending ∧
    (readbackFail k row cws s).cmds = s.cmds ∧ (readbackFail k row cws s).ports = s.ports ∧ (readbackFail k row cws s).lock = s.lock ∧
    (readbackFail k row cws s).weir = s.weir ∧ (readbackFail k row cws s).sluice = s.sluice ∧
    (readbackFail k row cws s).refloat = s.refloat ∧ (readbackFail k row cws s).gauge = s.gauge ∧ (readbackFail k row cws s).fly = s.fly ∧
    (readbackFail k row cws s).seq = s.seq ∧ (readbackFail k row cws s).log = s.log ∧ (readbackFail k row cws s).tow = s.tow ∧
    (readbackFail k row cws s).cfg = s.cfg ∧ (readbackFail k row cws s).pke = s.pke ∧ (readbackFail k row cws s).clk = s.clk ∧
    (readbackFail k row cws s).mgmt = s.mgmt ∧ (readbackFail k row cws s).pins = s.pins ∧
    (readbackFail k row cws s).enginesOut = s.enginesOut := by
  unfold readbackFail
  simp

@[simp] theorem sanErase_frame (s : State) :
    (sanErase s).now = s.now ∧ (sanErase s).free = s.free ∧ (sanErase s).pending = s.pending ∧ (sanErase s).regs = s.regs ∧
    (sanErase s).cmds = s.cmds ∧ (sanErase s).berths = s.berths ∧ (sanErase s).ports = s.ports ∧ (sanErase s).lock = s.lock ∧
    (sanErase s).weir = s.weir ∧ (sanErase s).sluice = s.sluice ∧ (sanErase s).refloat = s.refloat ∧ (sanErase s).drc = s.drc ∧
    (sanErase s).chart = s.chart ∧ (sanErase s).gauge = s.gauge ∧ (sanErase s).fly = s.fly ∧ (sanErase s).seq = s.seq ∧
    (sanErase s).log = s.log ∧ (sanErase s).tow = s.tow ∧ (sanErase s).keep = s.keep ∧ (sanErase s).cfg = s.cfg ∧
    (sanErase s).pke = s.pke ∧ (sanErase s).clk = s.clk ∧ (sanErase s).mgmt = s.mgmt ∧ (sanErase s).pins = s.pins ∧
    (sanErase s).enginesOut = s.enginesOut := by
  unfold sanErase
  simp

@[simp] theorem sanVerified_frame (failed : Bool) (s : State) :
    (sanVerified failed s).now = s.now ∧ (sanVerified failed s).free = s.free ∧ (sanVerified failed s).pending = s.pending ∧
    (sanVerified failed s).cmds = s.cmds ∧ (sanVerified failed s).berths = s.berths ∧ (sanVerified failed s).ports = s.ports ∧
    (sanVerified failed s).lock = s.lock ∧ (sanVerified failed s).weir = s.weir ∧ (sanVerified failed s).sluice = s.sluice ∧
    (sanVerified failed s).refloat = s.refloat ∧ (sanVerified failed s).drc = s.drc ∧ (sanVerified failed s).chart = s.chart ∧
    (sanVerified failed s).gauge = s.gauge ∧ (sanVerified failed s).fly = s.fly ∧ (sanVerified failed s).seq = s.seq ∧
    (sanVerified failed s).log = s.log ∧ (sanVerified failed s).tow = s.tow ∧ (sanVerified failed s).cfg = s.cfg ∧
    (sanVerified failed s).pke = s.pke ∧ (sanVerified failed s).clk = s.clk ∧ (sanVerified failed s).mgmt = s.mgmt ∧
    (sanVerified failed s).pins = s.pins ∧ (sanVerified failed s).enginesOut = s.enginesOut := by
  unfold sanVerified
  simp

@[simp] theorem dramSlots_frame (s : State) :
    (dramSlots s).now = s.now ∧ (dramSlots s).free = s.free ∧ (dramSlots s).pending = s.pending ∧ (dramSlots s).regs = s.regs ∧
    (dramSlots s).cmds = s.cmds ∧ (dramSlots s).out = s.out ∧ (dramSlots s).berths = s.berths ∧ (dramSlots s).ports = s.ports ∧
    (dramSlots s).lock = s.lock ∧ (dramSlots s).weir = s.weir ∧ (dramSlots s).sluice = s.sluice ∧ (dramSlots s).refloat = s.refloat ∧
    (dramSlots s).fmm = s.fmm ∧ (dramSlots s).chart = s.chart ∧ (dramSlots s).gauge = s.gauge ∧ (dramSlots s).fly = s.fly ∧
    (dramSlots s).seq = s.seq ∧ (dramSlots s).log = s.log ∧ (dramSlots s).tow = s.tow ∧ (dramSlots s).keep = s.keep ∧
    (dramSlots s).cfg = s.cfg ∧ (dramSlots s).pke = s.pke ∧ (dramSlots s).clk = s.clk ∧ (dramSlots s).mgmt = s.mgmt ∧
    (dramSlots s).pins = s.pins ∧ (dramSlots s).enginesOut = s.enginesOut := by
  unfold dramSlots
  simp

@[simp] theorem fieldsOf_frame (b : List Byte) (s : State) :
    (fieldsOf b s).now = s.now ∧ (fieldsOf b s).free = s.free ∧ (fieldsOf b s).pending = s.pending ∧ (fieldsOf b s).cmds = s.cmds ∧
    (fieldsOf b s).out = s.out ∧ (fieldsOf b s).berths = s.berths ∧ (fieldsOf b s).ports = s.ports ∧ (fieldsOf b s).lock = s.lock ∧
    (fieldsOf b s).weir = s.weir ∧ (fieldsOf b s).sluice = s.sluice ∧ (fieldsOf b s).refloat = s.refloat ∧ (fieldsOf b s).drc = s.drc ∧
    (fieldsOf b s).fmm = s.fmm ∧ (fieldsOf b s).chart = s.chart ∧ (fieldsOf b s).gauge = s.gauge ∧ (fieldsOf b s).fly = s.fly ∧
    (fieldsOf b s).seq = s.seq ∧ (fieldsOf b s).log = s.log ∧ (fieldsOf b s).tow = s.tow ∧ (fieldsOf b s).keep = s.keep ∧
    (fieldsOf b s).cfg = s.cfg ∧ (fieldsOf b s).pke = s.pke ∧ (fieldsOf b s).clk = s.clk ∧ (fieldsOf b s).mgmt = s.mgmt ∧
    (fieldsOf b s).pins = s.pins ∧ (fieldsOf b s).enginesOut = s.enginesOut := by
  unfold fieldsOf
  simp

@[simp] theorem State.withFetchWord_frame (s : State) (nbits : Nat) (w : Nat) :
    (State.withFetchWord s nbits w).now = s.now ∧ (State.withFetchWord s nbits w).free = s.free ∧
    (State.withFetchWord s nbits w).regs = s.regs ∧ (State.withFetchWord s nbits w).cmds = s.cmds ∧
    (State.withFetchWord s nbits w).out = s.out ∧ (State.withFetchWord s nbits w).berths = s.berths ∧
    (State.withFetchWord s nbits w).ports = s.ports ∧ (State.withFetchWord s nbits w).lock = s.lock ∧
    (State.withFetchWord s nbits w).weir = s.weir ∧ (State.withFetchWord s nbits w).sluice = s.sluice ∧
    (State.withFetchWord s nbits w).refloat = s.refloat ∧ (State.withFetchWord s nbits w).drc = s.drc ∧
    (State.withFetchWord s nbits w).fmm = s.fmm ∧ (State.withFetchWord s nbits w).chart = s.chart ∧
    (State.withFetchWord s nbits w).gauge = s.gauge ∧ (State.withFetchWord s nbits w).fly = s.fly ∧
    (State.withFetchWord s nbits w).seq = s.seq ∧ (State.withFetchWord s nbits w).log = s.log ∧
    (State.withFetchWord s nbits w).tow = s.tow ∧ (State.withFetchWord s nbits w).keep = s.keep ∧
    (State.withFetchWord s nbits w).cfg = s.cfg ∧ (State.withFetchWord s nbits w).pke = s.pke ∧
    (State.withFetchWord s nbits w).clk = s.clk ∧ (State.withFetchWord s nbits w).mgmt = s.mgmt ∧
    (State.withFetchWord s nbits w).pins = s.pins ∧ (State.withFetchWord s nbits w).enginesOut = s.enginesOut := by
  unfold State.withFetchWord
  (repeat' split) <;> simp

@[simp] theorem tick_frame (s : State) :
    (tick s).free = s.free ∧ (tick s).pending = s.pending ∧ (tick s).regs = s.regs ∧ (tick s).cmds = s.cmds ∧ (tick s).out = s.out ∧
    (tick s).berths = s.berths ∧ (tick s).ports = s.ports ∧ (tick s).lock = s.lock ∧ (tick s).weir = s.weir ∧ (tick s).sluice = s.sluice ∧
    (tick s).refloat = s.refloat ∧ (tick s).fmm = s.fmm ∧ (tick s).chart = s.chart ∧ (tick s).gauge = s.gauge ∧ (tick s).fly = s.fly ∧
    (tick s).seq = s.seq ∧ (tick s).log = s.log ∧ (tick s).tow = s.tow ∧ (tick s).keep = s.keep ∧ (tick s).cfg = s.cfg ∧
    (tick s).pke = s.pke ∧ (tick s).clk = s.clk ∧ (tick s).mgmt = s.mgmt ∧ (tick s).pins = s.pins ∧ (tick s).enginesOut = s.enginesOut := by
  unfold tick
  simp

end Sys2Proof.Machine
end

