-- ==== Sys2Proof/Laws/Table.lean ====
section
/-! SUPPORT. Laws of the sparse table: reads after writes, and the canonical form of what an update leaves. -/

namespace Sys2Proof.Machine

theorem tget_tins_same {α : Type} (d : α) (t : Tbl α) (i : Nat) (v : α) : tget d (tins t i v) i = v := by
  induction t with
  | nil => simp [tins, tget]
  | cons p t ih =>
    obtain ⟨k, w⟩ := p
    unfold tins
    split
    · simp [tget]
    · split
      · simp [tget]
      · simp_all [tget]

theorem tget_tins_other {α : Type} (d : α) (t : Tbl α) (i j : Nat) (v : α) (h : j ≠ i) : tget d (tins t i v) j = tget d t j := by
  induction t with
  | nil => simp [tins, tget, Ne.symm h]
  | cons p t ih =>
    obtain ⟨k, w⟩ := p
    unfold tins
    split
    · simp [tget, Ne.symm h]
    · split
      · subst_vars; simp [tget, Ne.symm h]
      · simp only [tget, ih]

theorem tget_tdel_other {α : Type} (d : α) (t : Tbl α) (i j : Nat) (h : j ≠ i) : tget d (tdel t i) j = tget d t j := by
  induction t with
  | nil => rfl
  | cons p t ih =>
    obtain ⟨k, w⟩ := p
    unfold tdel
    split
    · subst_vars; simp [tget, Ne.symm h]
    · simp only [tget, ih]

/-- A write at one key leaves every other key. -/
theorem tget_tset_other {α : Type} [DecidableEq α] (d : α) (t : Tbl α) (i j : Nat) (v : α) (h : j ≠ i) :
    tget d (tset d t i v) j = tget d t j := by
  unfold tset
  split
  · exact tget_tdel_other d t i j h
  · exact tget_tins_other d t i j v h

/-- A read after a write of a value that is not the default. -/
theorem tget_tset_same {α : Type} [DecidableEq α] (d : α) (t : Tbl α) (i : Nat) (v : α) (h : v ≠ d) : tget d (tset d t i v) i = v := by
  simp [tset, h, tget_tins_same]

theorem tsorted_some {α : Type} (l : Nat) (t : Tbl α) :
    tsorted (some l) t = true ↔ (∀ p ∈ t, l < p.1) ∧ t.Pairwise (fun a b => a.1 < b.1) := by
  induction t generalizing l with
  | nil => simp [tsorted]
  | cons p t ih =>
    obtain ⟨k, v⟩ := p
    simp only [tsorted, Bool.and_eq_true, decide_eq_true_eq, ih, List.mem_cons, forall_eq_or_imp, List.pairwise_cons]
    constructor
    · rintro ⟨h, h1, h2⟩
      exact ⟨⟨h, fun p hp => lt_trans h (h1 p hp)⟩, h1, h2⟩
    · rintro ⟨⟨h, _⟩, h1, h2⟩
      exact ⟨h, h1, h2⟩

/-- A sorted table is one whose keys rise. -/
theorem tsorted_none {α : Type} (t : Tbl α) : tsorted none t = true ↔ t.Pairwise (fun a b => a.1 < b.1) := by
  cases t with
  | nil => simp [tsorted]
  | cons p t => obtain ⟨k, v⟩ := p; simp [tsorted, tsorted_some]

theorem twf_iff {α : Type} [DecidableEq α] (d : α) (t : Tbl α) :
    twf d t = true ↔ t.Pairwise (fun a b => a.1 < b.1) ∧ ∀ p ∈ t, p.2 ≠ d := by
  simp [twf, tsorted_none]

theorem mem_tins {α : Type} {t : Tbl α} {i : Nat} {v : α} {p : Nat × α} (h : p ∈ tins t i v) : p = (i, v) ∨ p ∈ t := by
  induction t with
  | nil => simp [tins] at h; exact Or.inl h
  | cons q t ih =>
    obtain ⟨k, w⟩ := q
    unfold tins at h
    split at h
    · simpa using h
    · split at h
      · simp at h; rcases h with h | h
        · exact Or.inl h
        · exact Or.inr (List.mem_cons_of_mem _ h)
      · simp at h; rcases h with h | h
        · exact Or.inr (by simp [h])
        · rcases ih h with h | h
          · exact Or.inl h
          · exact Or.inr (List.mem_cons_of_mem _ h)

theorem mem_tdel {α : Type} {t : Tbl α} {i : Nat} {p : Nat × α} (h : p ∈ tdel t i) : p ∈ t := by
  induction t with
  | nil => exact h
  | cons q t ih =>
    obtain ⟨k, w⟩ := q
    unfold tdel at h
    split at h
    · exact List.mem_cons_of_mem _ h
    · simp at h; rcases h with h | h
      · simp [h]
      · exact List.mem_cons_of_mem _ (ih h)

theorem mem_tset {α : Type} [DecidableEq α] {d : α} {t : Tbl α} {i : Nat} {v : α} {p : Nat × α} (h : p ∈ tset d t i v) :
    p = (i, v) ∨ p ∈ t := by
  unfold tset at h
  split at h
  · exact Or.inr (mem_tdel h)
  · exact mem_tins h

theorem sorted_tins {α : Type} {t : Tbl α} (i : Nat) (v : α) (h : t.Pairwise (fun a b => a.1 < b.1)) :
    (tins t i v).Pairwise (fun a b => a.1 < b.1) := by
  induction t with
  | nil => simp [tins]
  | cons q t ih =>
    obtain ⟨k, w⟩ := q
    obtain ⟨h1, h2⟩ := List.pairwise_cons.1 h
    unfold tins
    split
    · rename_i hk
      refine List.pairwise_cons.2 ⟨fun p hp => ?_, h⟩
      rcases List.mem_cons.1 hp with rfl | hp
      · exact hk
      · exact lt_trans hk (h1 p hp)
    · split
      · rename_i hk; subst hk
        exact List.pairwise_cons.2 ⟨h1, h2⟩
      · refine List.pairwise_cons.2 ⟨fun p hp => ?_, ih h2⟩
        rcases mem_tins hp with rfl | hp
        · simp only; omega
        · exact h1 p hp

theorem sorted_tdel {α : Type} {t : Tbl α} (i : Nat) (h : t.Pairwise (fun a b => a.1 < b.1)) :
    (tdel t i).Pairwise (fun a b => a.1 < b.1) := by
  induction t with
  | nil => exact h
  | cons q t ih =>
    obtain ⟨k, w⟩ := q
    obtain ⟨h1, h2⟩ := List.pairwise_cons.1 h
    unfold tdel
    split
    · exact h2
    · exact List.pairwise_cons.2 ⟨fun p hp => h1 p (mem_tdel hp), ih h2⟩

/-- A write keeps the canonical form. -/
theorem twf_tset {α : Type} [DecidableEq α] {d : α} {t : Tbl α} (i : Nat) (v : α) (h : twf d t = true) : twf d (tset d t i v) = true := by
  rw [twf_iff] at h ⊢
  unfold tset
  split
  · exact ⟨sorted_tdel i h.1, fun p hp => h.2 p (mem_tdel hp)⟩
  · rename_i hv
    refine ⟨sorted_tins i v h.1, fun p hp => ?_⟩
    rcases mem_tins hp with rfl | hp
    · exact hv
    · exact h.2 p hp

theorem mem_tmap {α : Type} [DecidableEq α] {d : α} {f : Nat → α → α} {t : Tbl α} {p : Nat × α} (h : p ∈ tmap d f t) :
    p.2 ≠ d ∧ ∃ v, (p.1, v) ∈ t ∧ p.2 = f p.1 v := by
  induction t with
  | nil => simp [tmap] at h
  | cons q t ih =>
    have e : tmap d f (q :: t) = if f q.1 q.2 = d then tmap d f t else (q.1, f q.1 q.2) :: tmap d f t := rfl
    rw [e] at h
    split at h
    · obtain ⟨a, v, hv, e⟩ := ih h
      exact ⟨a, v, List.mem_cons_of_mem _ hv, e⟩
    · rename_i hne
      simp at h
      rcases h with rfl | h
      · exact ⟨hne, q.2, by simp, rfl⟩
      · obtain ⟨a, v, hv, e⟩ := ih h
        exact ⟨a, v, List.mem_cons_of_mem _ hv, e⟩

/-- Changing every entry keeps the canonical form. -/
theorem twf_tmap {α : Type} [DecidableEq α] {d : α} {t : Tbl α} (f : Nat → α → α) (h : twf d t = true) : twf d (tmap d f t) = true := by
  rw [twf_iff] at h ⊢
  refine ⟨?_, fun p hp => (mem_tmap hp).1⟩
  obtain ⟨h, -⟩ := h
  induction t with
  | nil => exact h
  | cons q t ih =>
    obtain ⟨h1, h2⟩ := List.pairwise_cons.1 h
    have e : tmap d f (q :: t) = if f q.1 q.2 = d then tmap d f t else (q.1, f q.1 q.2) :: tmap d f t := rfl
    rw [e]
    split
    · exact ih h2
    · refine List.pairwise_cons.2 ⟨fun p hp => ?_, ih h2⟩
      obtain ⟨_, v, hv, _⟩ := mem_tmap hp
      exact h1 (p.1, v) hv

theorem tget_below {α : Type} (d : α) {t : Tbl α} {i : Nat} (h : ∀ p ∈ t, i < p.1) : tget d t i = d := by
  induction t with
  | nil => rfl
  | cons q t ih =>
    have h1 : q.1 ≠ i := Nat.ne_of_gt (h q (by simp))
    simp only [tget, h1, if_false]
    exact ih (fun p hp => h p (List.mem_cons_of_mem _ hp))

/-- A read after a write in a canonical table, the default included. -/
theorem tget_tset_wf {α : Type} [DecidableEq α] {d : α} {t : Tbl α} (i : Nat) (v : α) (h : twf d t = true) :
    tget d (tset d t i v) i = v := by
  by_cases hv : v = d
  · have hs := ((twf_iff d t).1 h).1
    subst hv
    simp only [tset, if_true]
    clear h
    induction t with
    | nil => rfl
    | cons q t ih =>
      obtain ⟨h1, h2⟩ := List.pairwise_cons.1 hs
      unfold tdel
      split
      · rename_i hk
        exact tget_below v (fun p hp => hk ▸ h1 p hp)
      · rename_i hk
        simp only [tget, hk, if_false]
        exact ih h2
  · exact tget_tset_same d t i v hv

/-- A read after every entry of a canonical table is changed, by a change that leaves the default. -/
theorem tget_tmap {α : Type} [DecidableEq α] {d : α} {t : Tbl α} {f : Nat → α → α} (i : Nat) (h : twf d t = true)
    (hf : f i d = d) : tget d (tmap d f t) i = f i (tget d t i) := by
  have hs := ((twf_iff d t).1 h).1
  clear h
  induction t with
  | nil => exact hf.symm
  | cons q t ih =>
    obtain ⟨h1, h2⟩ := List.pairwise_cons.1 hs
    have e : tmap d f (q :: t) = if f q.1 q.2 = d then tmap d f t else (q.1, f q.1 q.2) :: tmap d f t := rfl
    rw [e]
    by_cases hk : q.1 = i
    · subst hk
      have hb : tget d t q.1 = d := tget_below d h1
      split
      · rename_i hz
        rw [ih h2, hb, hf]
        simp [tget, hz]
      · simp [tget]
    · split
      · rw [ih h2]; simp [tget, hk]
      · simp [tget, hk, ih h2]

/-- Dropping entries keeps the canonical form. -/
theorem twf_filter {α : Type} [DecidableEq α] {d : α} {t : Tbl α} (p : Nat × α → Bool) (h : twf d t = true) : twf d (t.filter p) = true := by
  rw [twf_iff] at h ⊢
  exact ⟨h.1.filter p, fun q hq => h.2 q (List.mem_of_mem_filter hq)⟩

/-- The sum over a table in which every other entry counts nothing. -/
theorem tsum_tins {α : Type} (f : Nat → α → Nat) (t : Tbl α) (i : Nat) (v : α) (h : ∀ p ∈ t, f p.1 p.2 = 0) :
    tsum f (tins t i v) = f i v := by
  have z : ∀ (u : Tbl α) (a : Nat), (∀ p ∈ u, f p.1 p.2 = 0) → u.foldl (fun a p => a + f p.1 p.2) a = a := by
    intro u
    induction u with
    | nil => intros; rfl
    | cons q u ih => intro a hu; simp [List.foldl_cons, hu q (by simp)]; exact ih a (fun p hp => hu p (List.mem_cons_of_mem _ hp))
  unfold tsum
  induction t with
  | nil => simp [tins]
  | cons q t ih =>
    obtain ⟨k, w⟩ := q
    have hq : f k w = 0 := h (k, w) (by simp)
    have ht : ∀ p ∈ t, f p.1 p.2 = 0 := fun p hp => h p (List.mem_cons_of_mem _ hp)
    unfold tins
    split
    · simp only [List.foldl_cons, hq, Nat.zero_add, Nat.add_zero]
      exact z t _ ht
    · split
      · simp only [List.foldl_cons, Nat.zero_add]; exact z t _ ht
      · simpa only [List.foldl_cons, hq, Nat.zero_add] using ih ht

/-- The first entry that g takes in a table in which g takes no other entry. -/
theorem findSome_tins {α β : Type} (g : Nat × α → Option β) (t : Tbl α) (i : Nat) (v : α) (h : ∀ p ∈ t, g p = none) :
    (tins t i v).findSome? g = g (i, v) := by
  induction t with
  | nil => simp [tins]
  | cons q t ih =>
    obtain ⟨k, w⟩ := q
    have hq : g (k, w) = none := h (k, w) (by simp)
    have ht : ∀ p ∈ t, g p = none := fun p hp => h p (List.mem_cons_of_mem _ hp)
    have hz : t.findSome? g = none := by simpa using ht
    unfold tins
    split
    · simp only [List.findSome?_cons, hq, hz]; cases g (i, v) <;> rfl
    · split
      · simp only [List.findSome?_cons, hz]; cases g (i, v) <;> rfl
      · simp only [List.findSome?_cons, hq]; exact ih ht

end Sys2Proof.Machine
end

