-- ==== Sys2Proof/Laws/Steps.lean ====
section
/-! SUPPORT. The settling of reports, and the turn of one descriptor: the laws that the statements of single commands rest on. -/

namespace Sys2Proof.Machine

open Sys2Proof Sys2Proof.Safety

/-- With no report waiting, settling changes nothing. -/
theorem settle_nil {s : State} (h : s.keep.reports = []) : settle s = s := by simp [settle, settleLoop, h]

theorem settleLoop_reports (n : Nat) (s : State) : (settleLoop n s).keep.reports = [] := by
  induction n generalizing s with
  | zero => rfl
  | succ n ih =>
    unfold settleLoop
    split
    · assumption
    · exact ih _

/-- After settling no report waits. -/
@[simp] theorem settle_reports (s : State) : (settle s).keep.reports = [] := settleLoop_reports _ s

/-- An access that nothing stands before acts at once (R34, R375). -/
theorem viaPort_clear (c : Instr) (f : State → Res) {s : State} (h : Clear s) : viaPort c false f s = f s := by
  simp [viaPort, portHolds, h.1]

/-- So does a write of the charter window while no berth command runs (R375). -/
theorem viaPort_charter (c : Instr) (f : State → Res) {s : State} (h : Clear s) (hd : (s.cmd kBerth).done = true) : viaPort c true f s = f s := by
  simp [viaPort, portHolds, h.1, hd]

/-- An access that has to wait is queued with what the trigger makes of it, and does nothing else (R81, R375). -/
theorem viaPort_held (c : Instr) (charter : Bool) (f : State → Res) {s : State} (h : portHolds charter s = true) :
    viaPort c charter f s = .next { s with mgmt := { s.mgmt with held := s.mgmt.held ++ [(c, !s.sluiced)] } } := by
  simp [viaPort, h]

/-- A control write where no command runs takes the next ticket and starts (R372). -/
theorem cmdTake_done {k : Nat} {s : State} (h : (s.cmd k).done = true) :
    cmdTake k s = s.setCmd k { done := false, ticket := (s.cmd k).ticket + 1, result := 0, refused := false } := by
  simp [cmdTake, h]

theorem cmdStart_done {k : Nat} {f : State → State} {s : State} (h : (s.cmd k).done = true) : cmdStart k f s = f (cmdTake k s) := by
  simp [cmdStart, h]

/-- A control write while a command runs is refused: it takes a ticket and starts nothing (R374). -/
theorem cmdStart_busy {k : Nat} {f : State → State} {s : State} (h : (s.cmd k).done = false) :
    cmdStart k f s = s.setCmd k { s.cmd k with ticket := (s.cmd k).ticket + 1, refused := true } := by
  simp [cmdStart, cmdTake, h]

theorem berth_setBerth_same (s : State) (i : Nat) (b : Berth) (h : b ≠ Berth.none) : (s.setBerth i b).berth i = b :=
  tget_tset_same _ _ _ _ h

theorem berth_setBerth_other (s : State) (i j : Nat) (b : Berth) (h : j ≠ i) : (s.setBerth i b).berth j = s.berth j :=
  tget_tset_other _ _ _ _ _ h

theorem ne_none_of_flights {b : Berth} {f : Flight} {l : List Flight} (h : b.flights = f :: l) : b ≠ Berth.none := by
  intro e; rw [e] at h; simp [Berth.none] at h

theorem ne_none_of_st {b : Berth} (h : b.st ≠ .free) : b ≠ Berth.none := by
  intro e; rw [e] at h; simp [Berth.none] at h

theorem tins_tins {α : Type} (t : Tbl α) (i : Nat) (a b : α) : tins (tins t i a) i b = tins t i b := by
  induction t with
  | nil => simp [tins]
  | cons p t ih =>
    obtain ⟨k, w⟩ := p
    by_cases h1 : i < k
    · simp [tins, h1]
    · by_cases h2 : k = i
      · simp [tins, h2]
      · simp [tins, h1, h2, ih]

/-- The later of two writes of one berth stands. -/
theorem setBerth_setBerth (s : State) (i : Nat) (a b : Berth) (ha : a ≠ Berth.none) (hb : b ≠ Berth.none) :
    (s.setBerth i a).setBerth i b = s.setBerth i b := by
  simp [State.setBerth, tset, ha, hb, tins_tins]

theorem nextReady_of_quiet {b : Berth} (h : b.flights.filter (fun f => f.stage == .returned) = []) : nextReady b = none := by
  unfold nextReady
  simp only
  split
  · rename_i f l hl
    have hm : f ∈ b.flights := by
      have : f ∈ b.flights.dropWhile (fun f => f.stage.isDone || f.stage.isReading) := by rw [hl]; simp
      exact List.dropWhile_subset _ this
    have hr : f.stage ≠ .returned := by
      intro e
      have : f ∈ b.flights.filter (fun f => f.stage == .returned) := List.mem_filter.2 ⟨hm, by simp [e]⟩
      rw [h] at this; simp at this
    split
    · rename_i e _; exact absurd e hr
    · rfl
  · rfl

theorem tsum_zero {α : Type} (f : Nat → α → Nat) (t : Tbl α) (h : tsum f t = 0) : ∀ p ∈ t, f p.1 p.2 = 0 := by
  have g : ∀ (u : Tbl α) (a : Nat), a ≤ u.foldl (fun a p => a + f p.1 p.2) a := by
    intro u
    induction u with
    | nil => intro a; simp
    | cons q u ih => intro a; simp only [List.foldl_cons]; exact le_trans (Nat.le_add_right _ _) (ih _)
  unfold tsum at h
  have : ∀ (u : Tbl α) (a : Nat), u.foldl (fun a p => a + f p.1 p.2) a = 0 → ∀ p ∈ u, f p.1 p.2 = 0 := by
    intro u
    induction u with
    | nil => simp
    | cons q u ih =>
      intro a hu p hp
      simp only [List.foldl_cons] at hu
      have h1 := g u (a + f q.1 q.2)
      rcases List.mem_cons.1 hp with rfl | hp
      · omega
      · exact ih _ hu p hp
  exact this t 0 h

/-- While the oldest descriptor of a berth is not finished, nothing is posted. -/
theorem postAll_idle {i : Nat} {s : State} {f : Flight} {l : List Flight} (h : (s.berth i).flights = f :: l)
    (hd : f.stage.isDone = false) : postAll i s = s := by
  have hl : postLoop i (s.berth i).flights.length s = s := by
    rw [h, List.length_cons, postLoop, h]
    simp only
    split
    · rename_i c hc; rw [hc] at hd; simp [Stage.isDone] at hd
    · rfl
  simp [postAll, hl]

/-- The flight once its descriptor's words are here. -/
def landed (f : Flight) (d : Desc) : Flight := { f with desc := some d, tag := d.tag, len := d.length, stage := .returned }

/-- A berth's one awaited descriptor arrives where no other waits its turn: it is carried out, and the berth's due completions are
posted. -/
theorem descriptorIn_one {i : Nat} {f : Flight} {d : Desc} {s : State} (h : Awaits i f s) :
    descriptorIn i d s =
      settle (postAll i (carryOut i (landed f d) d (s.setBerth i (alone (s.berth i) (landed f d))))) := by
  obtain ⟨hf, hst, hq⟩ := h
  have hidx : fetchingIdx s i = some f.idx := by simp [fetchingIdx, hf, hst]
  have hset : setFlight i f.idx (fun f => { f with desc := some d, tag := d.tag, len := d.length, stage := .returned }) s =
      s.setBerth i (alone (s.berth i) (landed f d)) := by
    simp [setFlight, State.updBerth, hf, landed, alone]
  have hne : alone (s.berth i) (landed f d) ≠ Berth.none := ne_none_of_flights rfl
  have hb := berth_setBerth_same s i _ hne
  have hz : ∀ p ∈ s.berths, (p.2.flights.filter (fun f => f.stage == .returned)).length = 0 := fun p hp => tsum_zero _ _ hq p hp
  have hpost : postAll i (s.setBerth i (alone (s.berth i) (landed f d))) = s.setBerth i (alone (s.berth i) (landed f d)) :=
    postAll_idle (by rw [hb]; rfl) rfl
  have hc : returnedCount (s.setBerth i (alone (s.berth i) (landed f d))) = 1 := by
    simp only [returnedCount, State.setBerth, tset, hne, if_false]
    rw [tsum_tins _ _ _ _ hz]
    simp [landed, alone]
  have hp : pump (s.setBerth i (alone (s.berth i) (landed f d))) =
      postAll i (carryOut i (landed f d) d (s.setBerth i (alone (s.berth i) (landed f d)))) := by
    have hfind : (s.setBerth i (alone (s.berth i) (landed f d))).berths.findSome?
        (fun p => (nextReady p.2).map (fun fd => (p.1, fd))) = some (i, landed f d, d) := by
      simp only [State.setBerth, tset, hne, if_false]
      rw [findSome_tins]
      · simp [nextReady, landed, alone, Stage.isDone, Stage.isReading]
      · intro p hp
        rw [nextReady_of_quiet (List.length_eq_zero_iff.1 (hz p hp))]; rfl
    rw [pump, hc, pumpLoop, hfind]
    rfl
  simp only [descriptorIn, hidx, hset, goOn, hpost, hp]

/-- From its boundary on a descriptor is under the policy its berth has (R79). -/
theorem setPolicy (i : Nat) (f : Flight) (d : Desc) (x : Berth) (s : State) :
    setFlight i (landed f d).idx (fun y => { y with spillOk := x.spillOk, vector := x.vector }) (s.setBerth i (alone x (landed f d))) =
      s.setBerth i (alone x (arrived x f d)) := by
  have h1 : alone x (landed f d) ≠ Berth.none := ne_none_of_flights (f := landed f d) (l := []) rfl
  have h2 : alone x (arrived x f d) ≠ Berth.none := ne_none_of_flights (f := arrived x f d) (l := []) rfl
  simp only [setFlight, State.updBerth, berth_setBerth_same _ _ _ h1]
  rw [show ({ alone x (landed f d) with flights := (alone x (landed f d)).flights.map (fun y =>
      if y.idx = (landed f d).idx then { y with spillOk := x.spillOk, vector := x.vector } else y) } : Berth) = alone x (arrived x f d) by
    simp [alone, landed, arrived]]
  exact setBerth_setBerth s i _ _ h1 h2

/-- A descriptor alone at its berth is checked and carried out under the berth's policy (R54, R60, R79). -/
theorem carryOut_arrived (i : Nat) (f : Flight) (d : Desc) (s : State) :
    carryOut i (landed f d) d (s.setBerth i (alone (s.berth i) (landed f d))) =
      let u := s.setBerth i (alone (s.berth i) (arrived (s.berth i) f d))
      match checkDesc i (alone (s.berth i) (arrived (s.berth i) f d)) (landed f d) d u with
      | some c => finishFlight i f.idx c u
      | none =>
        match d.opcode with
        | 1 => doPut i (landed f d) d u
        | 2 => doRetire i (landed f d) d u
        | 3 => doFetch i (landed f d) d u
        | 5 => doQuery i (landed f d) d u
        | _ => finishFlight i f.idx (Cpl.now u durable 0) u := by
  have h1 : alone (s.berth i) (landed f d) ≠ Berth.none := ne_none_of_flights (f := landed f d) (l := []) rfl
  have h2 : alone (s.berth i) (arrived (s.berth i) f d) ≠ Berth.none := ne_none_of_flights (f := arrived (s.berth i) f d) (l := []) rfl
  have e := setPolicy i f d (s.berth i) s
  unfold carryOut
  rw [show ((s.setBerth i (alone (s.berth i) (landed f d))).berth i).spillOk = (s.berth i).spillOk by rw [berth_setBerth_same _ _ _ h1]; rfl,
    show ((s.setBerth i (alone (s.berth i) (landed f d))).berth i).vector = (s.berth i).vector by rw [berth_setBerth_same _ _ _ h1]; rfl, e]
  simp only [berth_setBerth_same _ _ _ h2]
  rfl

theorem finishFlight_alone (i : Nat) (f : Flight) (d : Desc) (c : Cpl) (s : State) (x : Berth) (hc : c.status ≠ dmaFault) :
    finishFlight i f.idx c (s.setBerth i (alone x (arrived x f d))) = s.setBerth i (alone x (decided x f d c)) := by
  have h1 : alone x (arrived x f d) ≠ Berth.none := ne_none_of_flights (f := arrived x f d) (l := []) rfl
  have h2 : alone x (decided x f d c) ≠ Berth.none := ne_none_of_flights (f := decided x f d c) (l := []) rfl
  have e : ({ alone x (arrived x f d) with flights := (alone x (arrived x f d)).flights.map (fun y =>
      if y.idx = f.idx then { y with stage := .done c } else y) } : Berth) = alone x (decided x f d c) := by
    simp [alone, decided, arrived]
  simp only [finishFlight, setFlight, State.updBerth, hc, if_false, berth_setBerth_same _ _ _ h1]
  rw [e]
  exact setBerth_setBerth s i _ _ h1 h2

theorem exec_desc {b : BerthId} {d : Desc} {c : Instr} {s : State}
    (h : c ∈ [Instr.nop b d, Instr.put b d, Instr.retire b d, Instr.fetch b d, Instr.query b d]) :
    exec c s = .next (descriptorIn b.toNat d s) := by
  simp only [List.mem_cons, List.not_mem_nil, or_false] at h
  rcases h with rfl | rfl | rfl | rfl | rfl <;> rfl

theorem exec_check {b : BerthId} {d : Desc} {f : Flight} {s : State} {k : Cpl} {c : Instr} (hs : Settled s) (ha : Awaits b.toNat f s)
    (h : c ∈ [Instr.nop b d, Instr.put b d, Instr.retire b d, Instr.fetch b d, Instr.query b d])
    (hk : ∀ u : State, u.now = s.now →
      checkDesc b.toNat (alone (s.berth b.toNat) (arrived (s.berth b.toNat) f d)) (landed f d) d u = some k)
    (hd : k.status ≠ dmaFault) :
    exec c s = .next (postAll b.toNat (s.setBerth b.toNat (alone (s.berth b.toNat) (decided (s.berth b.toNat) f d k)))) := by
  rw [exec_desc h, descriptorIn_one ha, carryOut_arrived]
  dsimp only
  rw [hk _ (by simp)]
  dsimp only
  rw [finishFlight_alone _ _ _ _ _ _ hd, settle_nil]
  simpa using hs

theorem carryOut_go {b : BerthId} {d : Desc} {f : Flight} {s : State} {c : Instr} {t : State} (ha : Awaits b.toNat f s)
    (h : c ∈ [Instr.nop b d, Instr.put b d, Instr.retire b d, Instr.fetch b d, Instr.query b d])
    (ht : carryOut b.toNat (landed f d) d (s.setBerth b.toNat (alone (s.berth b.toNat) (landed f d))) = t)
    (hr : t.keep.reports = []) : exec c s = .next (postAll b.toNat t) := by
  rw [exec_desc h, descriptorIn_one ha, ht, settle_nil]
  simpa using hr

theorem carryOut_open {i : Nat} {d : Desc} {f : Flight} {s : State} (hc : d.crcOk = true) (hb : badDesc d i (s.berth i) = false)
    (hf : (s.berth i).st ≠ .fenced) (hp : d.opcode = 1 → f.mode ≠ 1 ∧ (s.berth i).st ≠ .refloating ∧ (s.berth i).st ≠ .exhausted) :
    ∀ u, checkDesc i (alone (s.berth i) (arrived (s.berth i) f d)) (landed f d) d u = none := by
  intro u
  have hb' : badDesc d i (alone (s.berth i) (arrived (s.berth i) f d)) = false := hb
  simp only [checkDesc, hc, hb']
  by_cases h : d.opcode = 1
  · obtain ⟨h1, h2, h3⟩ := hp h
    simp_all [alone, landed]
  · simp_all [alone, landed]

/-- A descriptor that passes the checks of R54 is carried out by its opcode. -/
theorem carryOut_op {i : Nat} {d : Desc} {f : Flight} {s : State} (hc : d.crcOk = true) (hb : badDesc d i (s.berth i) = false)
    (hf : (s.berth i).st ≠ .fenced) (hp : d.opcode = 1 → f.mode ≠ 1 ∧ (s.berth i).st ≠ .refloating ∧ (s.berth i).st ≠ .exhausted) :
    carryOut i (landed f d) d (s.setBerth i (alone (s.berth i) (landed f d))) =
      let u := s.setBerth i (alone (s.berth i) (arrived (s.berth i) f d))
      match d.opcode with
      | 1 => doPut i (landed f d) d u
      | 2 => doRetire i (landed f d) d u
      | 3 => doFetch i (landed f d) d u
      | 5 => doQuery i (landed f d) d u
      | _ => finishFlight i f.idx (Cpl.now u durable 0) u := by
  rw [carryOut_arrived]
  dsimp only
  rw [carryOut_open hc hb hf hp]

/-- What retiring records of berth i leaves of a state: the berth's state, points and flights, every other berth, the reports and the time. -/
structure Kept (i : Nat) (b0 : Berth) (s0 s : State) : Prop where
  fl : (s.berth i).flights = b0.flights
  rp : (s.berth i).retirePoint = b0.retirePoint
  st : (s.berth i).st = b0.st
  ns : (s.berth i).nextSeq = b0.nextSeq
  ls : (s.berth i).lastSurvivor = b0.lastSurvivor
  oth : ∀ j, j ≠ i → s.berth j = s0.berth j
  rpt : s.keep.reports = s0.keep.reports
  now : s.now = s0.now

theorem kept_upd {i : Nat} {b0 : Berth} {s0 s : State} (h : Kept i b0 s0 s) (g : Berth → Berth) (hne : b0.flights ≠ [])
    (h1 : ∀ b, (g b).flights = b.flights) (h2 : ∀ b, (g b).retirePoint = b.retirePoint) (h3 : ∀ b, (g b).st = b.st)
    (h4 : ∀ b, (g b).nextSeq = b.nextSeq) (h5 : ∀ b, (g b).lastSurvivor = b.lastSurvivor) : Kept i b0 s0 (s.updBerth i g) := by
  have hn : g (s.berth i) ≠ Berth.none := by
    intro e
    have := h1 (s.berth i)
    rw [e, h.fl] at this
    exact hne this.symm
  have hb : (s.updBerth i g).berth i = g (s.berth i) := berth_setBerth_same _ _ _ hn
  refine ⟨by rw [hb, h1, h.fl], by rw [hb, h2, h.rp], by rw [hb, h3, h.st], by rw [hb, h4, h.ns], by rw [hb, h5, h.ls], ?_, h.rpt, h.now⟩
  intro j hj
  rw [← h.oth j hj]
  exact berth_setBerth_other _ _ _ _ hj

theorem berth_fmm {s t : State} (h : t.berths = s.berths) (i : Nat) : t.berth i = s.berth i := by simp [State.berth, h]

theorem kept_same {i : Nat} {b0 : Berth} {s0 s t : State} (h : Kept i b0 s0 s) (hb : t.berths = s.berths)
    (hr : t.keep.reports = s.keep.reports) (hn : t.now = s.now) : Kept i b0 s0 t := by
  have e := fun j => berth_fmm hb j
  exact ⟨by rw [e, h.fl], by rw [e, h.rp], by rw [e, h.st], by rw [e, h.ns], by rw [e, h.ls], fun j hj => by rw [e, h.oth j hj],
    by rw [hr, h.rpt], by rw [hn, h.now]⟩

theorem dropRec_berth (i : Nat) (r : Rec) (s : State) : (dropRec i r s).berths = (s.updBerth i (fun b => { b with
    chain := b.chain.filter (fun x => x.seq != r.seq), unret := b.unret - r.len,
    held := if r.place.isSome then b.held - r.len else b.held,
    unpers := if r.basin.isNone then b.unpers - r.len else b.unpers })).berths := by
  unfold dropRec
  simp only
  split
  · simp
  · split <;> simp

theorem kept_dropRec {i : Nat} {b0 : Berth} {s0 s : State} (r : Rec) (h : Kept i b0 s0 s) (hne : b0.flights ≠ []) :
    Kept i b0 s0 (dropRec i r s) ∧ ((dropRec i r s).berth i).chain = (s.berth i).chain.filter (fun x => x.seq != r.seq) := by
  have h1 := kept_upd h (fun b => { b with
    chain := b.chain.filter (fun x => x.seq != r.seq), unret := b.unret - r.len,
    held := if r.place.isSome then b.held - r.len else b.held,
    unpers := if r.basin.isNone then b.unpers - r.len else b.unpers }) hne (fun _ => rfl) (fun _ => rfl) (fun _ => rfl) (fun _ => rfl) (fun _ => rfl)
  refine ⟨kept_same h1 (dropRec_berth i r s) (by simp) (by simp), ?_⟩
  rw [berth_fmm (dropRec_berth i r s)]
  refine congrArg Berth.chain (berth_setBerth_same _ _ _ ?_)
  intro e
  have := congrArg Berth.flights e
  simp only [h.fl] at this
  exact hne this

theorem kept_drops {i : Nat} {b0 : Berth} {s0 : State} (l : List Rec) (hne : b0.flights ≠ []) : ∀ s, Kept i b0 s0 s →
    Kept i b0 s0 (forEach l s (dropRec i)) ∧
      ((forEach l s (dropRec i)).berth i).chain = (s.berth i).chain.filter (fun x => l.all (fun r => x.seq != r.seq)) := by
  induction l with
  | nil => intro s h; exact ⟨h, by simp [forEach]⟩
  | cons r l ih =>
    intro s h
    obtain ⟨h1, h2⟩ := kept_dropRec r h hne
    obtain ⟨h3, h4⟩ := ih _ h1
    refine ⟨h3, ?_⟩
    show ((forEach l (dropRec i r s) (dropRec i)).berth i).chain = _
    rw [h4, h2, List.filter_filter]
    congr 1
    funext x
    simp [Bool.and_comm]

theorem kept_pages {i rp : Nat} {b0 : Berth} {s0 : State} (hne : b0.flights ≠ []) (n : Nat) : ∀ s, Kept i b0 s0 s →
    Kept i b0 s0 (chainPagesRetire i rp n s) ∧ ((chainPagesRetire i rp n s).berth i).chain = (s.berth i).chain := by
  induction n with
  | zero => intro s h; exact ⟨h, rfl⟩
  | succ n ih =>
    intro s h
    unfold chainPagesRetire
    simp only
    split
    · let s1 := ({ s with chart := if (s.page (s.berth i).firstCpn).st = 3 then { s.chart with used := s.chart.used - 1 } else s.chart }).setPage
        (s.berth i).firstCpn Cpt.free
      have k1 : Kept i b0 s0 s1 := kept_same h rfl rfl rfl
      have k2 := kept_upd k1 (fun b =>
        { b with firstCpn := (s.page (s.berth i).firstCpn).next, lastCpn := if (s.page (s.berth i).firstCpn).next = noCpn then noCpn else b.lastCpn,
                 fetchCpn := if b.fetchCpn = b.firstCpn then noCpn else b.fetchCpn }) hne (fun _ => rfl) (fun _ => rfl) (fun _ => rfl) (fun _ => rfl) (fun _ => rfl)
      obtain ⟨k3, k4⟩ := ih _ k2
      refine ⟨k3, k4.trans ?_⟩
      have hn : ({ s1.berth i with
          firstCpn := (s.page (s.berth i).firstCpn).next, lastCpn := if (s.page (s.berth i).firstCpn).next = noCpn then noCpn else (s1.berth i).lastCpn,
          fetchCpn := if (s1.berth i).fetchCpn = (s1.berth i).firstCpn then noCpn else (s1.berth i).fetchCpn } : Berth) ≠ Berth.none := by
        intro e
        have := congrArg Berth.flights e
        simp only [k1.fl] at this
        exact hne this
      exact Eq.trans (congrArg Berth.chain (berth_setBerth_same s1 i _ hn)) rfl
    · exact ⟨h, rfl⟩

/-- Everything a retire does to berths (R65, R40): the berth's retire point is the greater of its own and the target, the records at or
below it leave the chain and no others, and a REFLOATING berth whose last survivor is covered goes on. -/
theorem retireTo_spec (i target : Nat) (s : State) (hne : (s.berth i).flights ≠ []) :
    ((retireTo i target s).berth i).retirePoint = max (s.berth i).retirePoint target ∧
    ((retireTo i target s).berth i).flights = (s.berth i).flights ∧
    (∀ r, r ∈ ((retireTo i target s).berth i).chain ↔ r ∈ (s.berth i).chain ∧ max (s.berth i).retirePoint target < r.seq) ∧
    ((retireTo i target s).berth i).st = (if (s.berth i).st = .refloating ∧ (s.berth i).lastSurvivor ≤ max (s.berth i).retirePoint target
      then (if (s.berth i).nextSeq < 2 ^ 48 then .opened else .exhausted) else (s.berth i).st) ∧
    (∀ j, j ≠ i → (retireTo i target s).berth j = s.berth j) := by
  have k0 : Kept i (s.berth i) s s := ⟨rfl, rfl, rfl, rfl, rfl, fun _ _ => rfl, rfl, rfl⟩
  generalize hrp : max (s.berth i).retirePoint target = rp
  obtain ⟨k1, c1⟩ := kept_drops ((s.berth i).chain.filter (fun r => decide (r.seq ≤ rp))) hne s k0
  generalize hs2 : forEach ((s.berth i).chain.filter (fun r => decide (r.seq ≤ rp))) s (dropRec i) = s2 at k1 c1
  have k2 : Kept i (s.berth i) s (dropAssembled i rp s2) := kept_same k1 rfl rfl rfl
  obtain ⟨k3, c3⟩ := kept_pages (rp := rp) hne (dropAssembled i rp s2).fmm.pages.length _ k2
  have c2 : ((dropAssembled i rp s2).berth i).chain = (s2.berth i).chain := rfl
  rw [c2, c1] at c3
  let touched : State → State := fun z => if (z.berth i).retirePoint < rp then touchEntry i rp z else z
  have tk : ∀ z, (touched z).berths = z.berths ∧ (touched z).keep = z.keep ∧ (touched z).now = z.now := by
    intro z
    simp only [touched]
    split <;> simp
  have hu : retireTo i target s = (touched (chainPagesRetire i rp (dropAssembled i rp s2).fmm.pages.length (dropAssembled i rp s2))).updBerth i (fun b =>
    { b with retirePoint := rp, lastSurvivor := if b.lastSurvivor ≤ rp then 0 else b.lastSurvivor,
             st := if b.st = .refloating ∧ b.lastSurvivor ≤ rp then (if b.nextSeq < 2 ^ 48 then .opened else .exhausted) else b.st }) := by
    unfold retireTo
    simp only [hrp, hs2]
    rfl
  generalize chainPagesRetire i rp (dropAssembled i rp s2).fmm.pages.length (dropAssembled i rp s2) = s9 at k3 c3 hu
  replace k3 := kept_same k3 (tk s9).1 (by rw [(tk s9).2.1]) (tk s9).2.2
  rw [← berth_fmm (tk s9).1] at c3
  generalize touched s9 = s3 at k3 c3 hu
  have hub : (retireTo i target s).berth i = { s3.berth i with
      retirePoint := rp, lastSurvivor := if (s3.berth i).lastSurvivor ≤ rp then 0 else (s3.berth i).lastSurvivor,
      st := if (s3.berth i).st = .refloating ∧ (s3.berth i).lastSurvivor ≤ rp then
        (if (s3.berth i).nextSeq < 2 ^ 48 then .opened else .exhausted) else (s3.berth i).st } := by
    rw [hu]
    refine berth_setBerth_same s3 i _ ?_
    intro e
    have h5 := congrArg Berth.flights e
    simp only [k3.fl] at h5
    exact hne h5
  rw [hub]
  refine ⟨rfl, k3.fl, fun r => ?_, by simp only [k3.st, k3.ls, k3.ns], fun j hj => ?_⟩
  · simp only [c3, List.mem_filter, List.all_eq_true, decide_eq_true_eq, bne_iff_ne, ne_eq, and_imp]
    constructor
    · rintro ⟨h1, h2⟩
      refine ⟨h1, Nat.lt_of_not_le (fun hle => h2 r h1 hle rfl)⟩
    · rintro ⟨h1, h2⟩
      refine ⟨h1, fun q _ hq e => ?_⟩
      rw [e] at h2
      omega
  · rw [hu, show (s3.updBerth i _).berth j = s3.berth j from berth_setBerth_other _ _ _ _ hj]
    exact k3.oth j hj

theorem sortBy_nil {α : Type} (k : α → Nat) : sortBy k ([] : List α) = [] := rfl
theorem sortBy_one {α : Type} (k : α → Nat) (a : α) : sortBy k [a] = [a] := rfl

theorem insertBy_ne {α : Type} (k : α → Nat) (a : α) (l : List α) : insertBy k a l ≠ [] := by
  cases l with
  | nil => simp [insertBy]
  | cons b l => simp only [insertBy]; split <;> simp

theorem sortBy_eq_nil {α : Type} {k : α → Nat} {l : List α} (h : sortBy k l = []) : l = [] := by
  cases l with
  | nil => rfl
  | cons a l => exact absurd h (insertBy_ne _ _ _)

theorem flatMap_tins {α β : Type} (g : Nat × α → List β) (t : Tbl α) (i : Nat) (v : α) (h : ∀ p ∈ t, g p = []) :
    (tins t i v).flatMap g = g (i, v) := by
  induction t with
  | nil => simp [tins]
  | cons q t ih =>
    obtain ⟨k, w⟩ := q
    have hq : g (k, w) = [] := h (k, w) (by simp)
    have ht : ∀ p ∈ t, g p = [] := fun p hp => h p (List.mem_cons_of_mem _ hp)
    have hz : t.flatMap g = [] := by simpa [List.flatMap_eq_nil_iff] using ht
    unfold tins
    split
    · simp [List.flatMap_cons, hq, hz]
    · split
      · simp [List.flatMap_cons, hz]
      · simp only [List.flatMap_cons, hq, List.nil_append]; exact ih ht

theorem waiters_one {i : Nat} {s : State} {x : Berth} {w : Flight} (hw : waiters s = []) (hst : w.stage = .held) :
    waiters (s.setBerth i (alone x w)) = [(i, w)] := by
  have h2 : alone x w ≠ Berth.none := ne_none_of_flights (f := w) (l := []) rfl
  have h := sortBy_eq_nil (sortBy_eq_nil (sortBy_eq_nil hw))
  rw [List.flatMap_eq_nil_iff] at h
  unfold waiters
  simp only [State.setBerth, tset, h2, if_false]
  rw [flatMap_tins _ _ _ _ h]
  simp [alone, hst, sortBy_one]

theorem throttleTake_bucket (x : Nat) (s : State) : bucket (throttleTake x s) = bucket s := by
  unfold throttleTake; split <;> rfl

theorem reg_setReg_other (s : State) {a b : Nat} (w : Word) (h : a ≠ b) : (s.setReg b w).reg a = s.reg a := tget_tset_other _ _ _ _ _ h

theorem reg_bump_other (s : State) {a b : Nat} (hi lo k : Nat) (h : a ≠ b) : (s.bump b hi lo k).reg a = s.reg a := reg_setReg_other _ _ h

/-- What raising bit n of GLB_IRQ_STATUS does: that register alone, the ingress bucket left, and at most one message (R380). -/
theorem raiseIrq_spec (n : Nat) (s : State) :
    (∀ a, a ≠ offGLB_IRQ_STATUS → (raiseIrq n s).reg a = s.reg a) ∧ (raiseIrq n s).weir = s.weir ∧
    ∃ irq, (irq = [] ∨ irq = [Out.mgmtMsix n]) ∧ (raiseIrq n s).out = s.out ++ irq := by
  have key : ∀ t : State, (sendIrq n t).regs = t.regs ∧ (sendIrq n t).weir = t.weir ∧
      ∃ irq, (irq = [] ∨ irq = [Out.mgmtMsix n]) ∧ (sendIrq n t).out = t.out ++ irq := by
    intro t
    refine ⟨by simp, by simp, ?_⟩
    unfold sendIrq
    split
    · split
      · exact ⟨[], .inl rfl, by simp⟩
      · exact ⟨[.mgmtMsix n], .inr rfl, rfl⟩
    · exact ⟨[], .inl rfl, by simp⟩
  unfold raiseIrq
  dsimp only
  split
  · exact ⟨fun _ _ => rfl, rfl, [], .inl rfl, by simp⟩
  · split
    · exact ⟨fun _ _ => rfl, rfl, [], .inl rfl, by simp⟩
    · split
      · exact ⟨fun _ h => reg_setReg_other _ _ h, rfl, [], .inl rfl, by simp⟩
      · obtain ⟨h1, h2, irq, h3, h4⟩ := key (s.setReg offGLB_IRQ_STATUS (setFld (s.reg offGLB_IRQ_STATUS) n n 1))
        refine ⟨fun a h => ?_, h2, irq, h3, h4⟩
        show tget 0 (sendIrq n _).regs a = s.reg a
        rw [h1]
        exact reg_setReg_other _ _ h

theorem setWeir_spec (w : WSt) (s : State) :
    (∀ a, a ≠ offGLB_IRQ_STATUS → (setWeir w s).reg a = s.reg a) ∧
    (setWeir w s).weir.tokens = s.weir.tokens ∧ (setWeir w s).weir.tokensAt = s.weir.tokensAt ∧
    ∃ irq, (irq = [] ∨ irq = [Out.mgmtMsix 4]) ∧ (setWeir w s).out = s.out ++ irq := by
  unfold setWeir
  split
  · exact ⟨fun _ _ => rfl, rfl, rfl, [], .inl rfl, by simp⟩
  · obtain ⟨h1, h2, h3⟩ := raiseIrq_spec 4 { s with weir := { s.weir with st := w } }
    exact ⟨h1, by rw [h2], by rw [h2], h3⟩

/-- What the state rows of R107 touch of the registers, the bucket and the outputs. -/
theorem weirState_spec (s : State) :
    (∀ a, a ≠ offGLB_IRQ_STATUS → a ≠ offWEIR_CNT_OVER → (weirState s).reg a = s.reg a) ∧
    (weirState s).weir.tokens = s.weir.tokens ∧ (weirState s).weir.tokensAt = s.weir.tokensAt ∧
    ∃ irq, (irq = [] ∨ irq = [Out.mgmtMsix 4]) ∧ (weirState s).out = s.out ++ irq := by
  have same : (∀ a, a ≠ offGLB_IRQ_STATUS → a ≠ offWEIR_CNT_OVER → s.reg a = s.reg a) ∧ s.weir.tokens = s.weir.tokens ∧
      s.weir.tokensAt = s.weir.tokensAt ∧ ∃ irq, (irq = [] ∨ irq = [Out.mgmtMsix 4]) ∧ s.out = s.out ++ irq :=
    ⟨fun _ _ _ => rfl, rfl, rfl, [], .inl rfl, by simp⟩
  have set : ∀ w, (∀ a, a ≠ offGLB_IRQ_STATUS → a ≠ offWEIR_CNT_OVER → (setWeir w s).reg a = s.reg a) ∧
      (setWeir w s).weir.tokens = s.weir.tokens ∧ (setWeir w s).weir.tokensAt = s.weir.tokensAt ∧
      ∃ irq, (irq = [] ∨ irq = [Out.mgmtMsix 4]) ∧ (setWeir w s).out = s.out ++ irq :=
    fun w => ⟨fun a h _ => (setWeir_spec w s).1 a h, (setWeir_spec w s).2⟩
  unfold weirState
  dsimp only
  split
  · split
    · obtain ⟨h1, h2⟩ := setWeir_spec .over (s.bump offWEIR_CNT_OVER 63 0 1)
      exact ⟨fun a h h' => (h1 a h).trans (reg_bump_other _ _ _ _ h'), h2⟩
    · exact same
  · split
    · exact set _
    · exact same
  · split
    · split
      · exact set _
      · exact set _
    · exact same
  · exact same

/-- A grant where one PUT waits alone (R98, R107, R109): what it reserves, its place, its read or its wait in the shaper, and the weir's
message where its state changes. -/
theorem grantPut_alone {i : Nat} {s : State} {x : Berth} {w : Flight} {d : Desc} (pl : Place) (v : Nat) (hd : w.desc = some d) :
    let u := grantPut i w pl v (s.setBerth i (alone x w))
    u.keep = s.keep ∧ (∀ j, j ≠ i → u.berth j = s.berth j) ∧ ∃ irq, (irq = [] ∨ irq = [Out.mgmtMsix 4]) ∧
    (shaperLets s w.len = true → u.out = s.out ++ irq ++ [.readReq x.port d.w1 (w.len * 512)] ∧
      u.berth i = { alone x { w with place := some pl, stage := .reading } with held := x.held + w.len, unret := x.unret + w.len, unpers := x.unpers + w.len }) ∧
    (shaperLets s w.len = false → u.out = s.out ++ irq ∧
      u.berth i = { alone x { w with place := some pl, stage := .shaped, wasShaped := true } with held := x.held + w.len, unret := x.unret + w.len, unpers := x.unpers + w.len }) := by
  have n0 : alone x w ≠ Berth.none := ne_none_of_flights (f := w) (l := []) rfl
  have n2 : ∀ y : Flight, ({ alone x y with held := x.held + w.len, unret := x.unret + w.len, unpers := x.unpers + w.len } : Berth) ≠ Berth.none := fun y => ne_none_of_flights (f := y) (l := []) rfl
  let y : State := (s.setBerth i (alone x w)).setBerth i { alone x w with held := x.held + w.len, unret := x.unret + w.len, unpers := x.unpers + w.len }
  obtain ⟨wr, wt, wa, irq, hirq, wo⟩ := weirState_spec y
  let a : State := throttleTake v (weirState y)
  let b : State := { a with fmm := { a.fmm with ingress := a.fmm.ingress + w.len } }
  let c : State := headPast pl w.len { b with drc := { b.drc with rotor := b.drc.rotor + 1 } }
  have cbs : c.berths = y.berths := by simp [c, b, a]
  have cb : c.berth i = { alone x w with held := x.held + w.len, unret := x.unret + w.len, unpers := x.unpers + w.len } := by
    rw [berth_fmm cbs]; exact berth_setBerth_same _ _ _ (n2 w)
  have co : ∀ j, j ≠ i → c.berth j = s.berth j := fun j hj => by
    rw [berth_fmm cbs]; exact (berth_setBerth_other _ _ _ _ hj).trans (berth_setBerth_other _ _ _ _ hj)
  have ck : c.keep = s.keep := by simp [c, b, a, y]
  have cout : c.out = s.out ++ irq := by
    have : c.out = (weirState y).out := by simp [c, b, a]
    rw [this, wo]; rfl
  have cr : ∀ k, k ≠ offGLB_IRQ_STATUS → k ≠ offWEIR_CNT_OVER → c.reg k = s.reg k := by
    intro k h1 h2
    have : c.regs = (weirState y).regs := by simp [c, b, a]
    simp only [State.reg, this]
    exact wr k h1 h2
  have hI : c.reg offWEIR_INGRESS = s.reg offWEIR_INGRESS := cr _ (by decide) (by decide)
  have hB : c.WEIR_INGRESS_BURST = s.WEIR_INGRESS_BURST := by simp only [State.WEIR_INGRESS_BURST, hI]
  have hR : c.WEIR_INGRESS_RATE = s.WEIR_INGRESS_RATE := by simp only [State.WEIR_INGRESS_RATE, hI]
  have hw : c.weir = (weirState y).weir := by simp [c, b, a]
  have hn : c.now = s.now := by simp [c, b, a, y]
  have hbk : bucket c = bucket s := by
    simp only [bucket, hB, hR, hw, hn, wt, wa]; rfl
  let e : State := c.setBerth i { alone x { w with place := some pl } with held := x.held + w.len, unret := x.unret + w.len, unpers := x.unpers + w.len }
  have he : setFlight i w.idx (fun f => { f with place := some pl }) c = e := by
    simp only [setFlight, State.updBerth, cb, e]
    congr 1
    simp [alone]
  have eb := berth_setBerth_same c i _ (n2 { w with place := some pl })
  have hsh : shaperLets e w.len = shaperLets s w.len := by
    have h1 : bucket e = bucket s := by rw [← hbk]; rfl
    have h2 : e.WEIR_INGRESS_BURST = s.WEIR_INGRESS_BURST := hB
    simp only [shaperLets, h1, h2]
  have hgp : grantPut i w pl v (s.setBerth i (alone x w)) = if shaperLets e w.len then startRead i w e else setFlight i w.idx (fun f => { f with stage := .shaped, wasShaped := true }) e := by
    rw [← he]
    simp only [grantPut, State.updBerth, berth_setBerth_same _ _ _ n0]
    rfl
  intro u
  have hu : u = if shaperLets e w.len then startRead i w e else setFlight i w.idx (fun f => { f with stage := .shaped, wasShaped := true }) e := hgp
  refine ⟨?_, ?_, irq, hirq, ?_⟩
  · rw [hu]; split <;> simpa [e] using ck
  · intro j hj
    have hc : e.berth j = s.berth j := (berth_setBerth_other _ _ _ _ hj).trans (co j hj)
    rw [hu, ← hc]
    split
    · exact berth_setBerth_other _ _ _ _ hj
    · exact berth_setBerth_other _ _ _ _ hj
  refine ⟨fun hsl => ?_, fun hsl => ?_⟩
  · rw [hsh, hsl, if_pos rfl] at hu
    have hsf : setFlight i w.idx (fun f => { f with stage := .reading })
        { e with weir := { e.weir with tokens := bucket e - (w.len * 512 : Nat), tokensAt := e.now } } =
        ({ e with weir := { e.weir with tokens := bucket e - (w.len * 512 : Nat), tokensAt := e.now } } : State).setBerth i
          { alone x { w with place := some pl, stage := .reading } with held := x.held + w.len, unret := x.unret + w.len, unpers := x.unpers + w.len } := by
      have eb2 : ({ e with weir := { e.weir with tokens := bucket e - (w.len * 512 : Nat), tokensAt := e.now } } : State).berth i = e.berth i := rfl
      simp only [setFlight, State.updBerth, eb2, e, eb]
      congr 1
      simp [alone]
    have hpb := berth_setBerth_same ({ e with weir := { e.weir with tokens := bucket e - (w.len * 512 : Nat), tokensAt := e.now } } : State) i _
      (n2 { w with place := some pl, stage := .reading })
    have hu2 : u = (({ e with weir := { e.weir with tokens := bucket e - (w.len * 512 : Nat), tokensAt := e.now } } : State).setBerth i
        { alone x { w with place := some pl, stage := .reading } with held := x.held + w.len, unret := x.unret + w.len, unpers := x.unpers + w.len }).emit
        (.readReq x.port d.w1 (w.len * 512)) := by
      rw [hu]
      unfold startRead
      dsimp only
      rw [hsf, hpb]
      split
      · next d1 h => obtain rfl := Option.some.inj (h.symm.trans hd); rfl
      · next h => exact absurd (h.symm.trans hd) (by simp)
    rw [hu2]
    exact ⟨by show c.out ++ _ = _; rw [cout], hpb⟩
  · rw [hsh, hsl, if_neg (by simp)] at hu
    have hsf : u = e.setBerth i { alone x { w with place := some pl, stage := .shaped, wasShaped := true } with held := x.held + w.len, unret := x.unret + w.len, unpers := x.unpers + w.len } := by
      rw [hu]
      simp only [setFlight, State.updBerth, e, eb]
      congr 1
      simp [alone]
    rw [hsf]
    exact ⟨cout, berth_setBerth_same e i _ (n2 _)⟩

/-- The page of a FETCH read: what it puts on the outputs, the berth's resume page, and what it leaves of the basin (R66, R164, R166,
R170). -/
theorem fetchPage_spec (i k : Nat) (r : Rec) (s : State) :
    (fetchPage i k r s).out = s.out ++ (if (s.page k).st = 3 ∧ s.chart.st = 1 then [Out.chart (s.page k).loc false] else []) ∧
    (fetchPage i k r s).berths = (s.updBerth i (fun b => { b with fetchCpn := k })).berths ∧
    (fetchPage i k r s).fmm.barges = s.fmm.barges ∧ (fetchPage i k r s).fmm.sbs = s.fmm.sbs ∧
    (fetchPage i k r s).fmm.lostDies = s.fmm.lostDies ∧ (fetchPage i k r s).fmm.chans = s.fmm.chans := by
  let s1 := s.updBerth i (fun b => { b with fetchCpn := k })
  have frames : ∀ t : State, (framesOut t).out = t.out ∧ (framesOut t).berths = t.berths ∧ (framesOut t).fmm.barges = t.fmm.barges ∧
      (framesOut t).fmm.sbs = t.fmm.sbs ∧ (framesOut t).fmm.lostDies = t.fmm.lostDies ∧ (framesOut t).fmm.chans = t.fmm.chans := by
    intro t
    refine ⟨by simp, by simp, ?_⟩
    have loop : ∀ (l : List (Nat × Cpt)) (u : State), let v := forEach l u (fun p s => s.setPage p.1 { s.page p.1 with st := 4, loc := 0 });
        v.fmm.barges = u.fmm.barges ∧ v.fmm.sbs = u.fmm.sbs ∧ v.fmm.lostDies = u.fmm.lostDies ∧ v.fmm.chans = u.fmm.chans := by
      intro l
      induction l with
      | nil => intro u; exact ⟨rfl, rfl, rfl, rfl⟩
      | cons p l ih => intro u; exact ih _
    unfold framesOut
    dsimp only
    split
    · exact ⟨rfl, rfl, rfl, rfl⟩
    · exact loop _ _
  unfold fetchPage
  dsimp only
  have hp : s1.page k = s.page k := rfl
  have hc : s1.chart = s.chart := rfl
  have reads : ∀ (ls : List Line) (t : State), (forEach ls t readLine).out = t.out ∧ (forEach ls t readLine).berths = t.berths ∧
      (forEach ls t readLine).fmm = t.fmm := fun ls t => ⟨by simp, by simp, by simp⟩
  refine ⟨?_, ?_, ?_⟩
  · rw [(reads _ _).1, hp, hc]
    split
    · split
      · next h3 h1 => simp only [h3, h1, and_self, if_true]; rfl
      · next h3 h1 => simp only [h3, h1, and_false, if_false, List.append_nil]; rfl
    · next h3 =>
      simp only [h3, false_and, if_false, List.append_nil]
      split
      · next h4 => rw [(frames _).1]; unfold intoFrame; dsimp only; rw [hp, if_neg h3, if_pos h4]; rfl
      · rfl
  · rw [(reads _ _).2.1, hp, hc]
    split
    · split <;> rfl
    · next h3 =>
      split
      · next h4 => rw [(frames _).2.1]; unfold intoFrame; dsimp only; rw [hp, if_neg h3, if_pos h4]; rfl
      · rfl
  · rw [(reads _ _).2.2, hp, hc]
    split
    · split <;> exact ⟨rfl, rfl, rfl, rfl⟩
    · next h3 =>
      split
      · next h4 =>
        obtain ⟨_, _, f1, f2, f3, f4⟩ := frames (intoFrame k s1)
        have e : intoFrame k s1 = s1.setPage k { s.page k with st := 2, loc := freeFrame s1 } := by
          unfold intoFrame
          dsimp only
          rw [hp, if_neg h3, if_pos h4]
        rw [f1, f2, f3, f4, e]
        exact ⟨rfl, rfl, rfl, rfl⟩
      · exact ⟨rfl, rfl, rfl, rfl⟩

/-- The state from which a FETCH is answered: its page read. -/
def askPage (i : Nat) (pg : Option Nat) (r : Rec) (s : State) : State :=
  match pg with
  | none => s
  | some k => fetchPage i k r s

theorem end_facts (i : Nat) (s u : State) (x : Berth) (f : Flight) (d : Desc) (c : Cpl) (cpn : Nat) (hc : c.status ≠ dmaFault)
    (hb : u.berth i = { alone x (arrived x f d) with fetchCpn := cpn }) (ho : ∀ j, j ≠ i → u.berth j = s.berth j) :
    (finishFlight i f.idx c u).out = u.out ∧ (finishFlight i f.idx c u).berth i = { alone x (decided x f d c) with fetchCpn := cpn } ∧
    (∀ j, j ≠ i → (finishFlight i f.idx c u).berth j = s.berth j) ∧ (finishFlight i f.idx c u).keep = u.keep := by
  have h2 : ({ alone x (decided x f d c) with fetchCpn := cpn } : Berth) ≠ Berth.none := ne_none_of_flights (f := decided x f d c) (l := []) rfl
  have e : finishFlight i f.idx c u = u.setBerth i { alone x (decided x f d c) with fetchCpn := cpn } := by
    simp only [finishFlight, setFlight, State.updBerth, hc, if_false, hb]
    congr 1
    simp [alone, decided, arrived]
  rw [e]
  exact ⟨rfl, berth_setBerth_same _ _ _ h2, fun j hj => (berth_setBerth_other _ _ _ _ hj).trans (ho j hj), rfl⟩

theorem pageOf_fmm {s t : State} (h : t.fmm = s.fmm) (n : Nat) : ∀ fuel k, pageOf t n fuel k = pageOf s n fuel k := by
  intro fuel
  induction fuel with
  | zero => intro k; rfl
  | succ m ih =>
    intro k
    have hp : ∀ k, t.page k = s.page k := fun k => by simp only [State.page, h]
    simp only [pageOf, hp, ih]

/-- A FETCH alone at its berth: what is answered for each place where the record may be (R66). -/
theorem doFetch_alone (i : Nat) (f : Flight) (d : Desc) (x : Berth) (s : State) (hx : s.berth i = x) :
    doFetch i (landed f d) d (s.setBerth i (alone x (arrived x f d))) =
  match findRec x d.sequence with
  | none => finishFlight i f.idx (Cpl.now s fetchEnd d.sequence) (s.setBerth i (alone x (arrived x f d)))
  | some r =>
    let u := askPage i (pageOf s r.seq s.fmm.pages.length
      (if x.fetchCpn ≠ noCpn ∧ (s.page x.fetchCpn).firstSeq ≤ d.sequence then x.fetchCpn else x.firstCpn)) r (s.setBerth i (alone x (arrived x f d)))
    match r.place, r.basin with
    | some p, _ => endFetch i (landed f d) d r false false (dramRead .berth p r.len u)
    | none, some (g, o) =>
      if g = lostBarge then endFetch i (landed f d) d r false true u
      else if !quadUp u (quadOfBarge u g) then endFetch i (landed f d) d r true false u
      else readRun none g o r.len (setFlight i f.idx (fun y => { y with stage := .basin r.seq }) u)
    | none, none => endFetch i (landed f d) d r false true u := by
  subst hx
  have h1 : alone (s.berth i) (arrived (s.berth i) f d) ≠ Berth.none := ne_none_of_flights (f := arrived (s.berth i) f d) (l := []) rfl
  have hb1 := berth_setBerth_same s i _ h1
  have e2 : (s.setBerth i (alone (s.berth i) (arrived (s.berth i) f d))).fmm = s.fmm := rfl
  have e3 : ∀ k, (s.setBerth i (alone (s.berth i) (arrived (s.berth i) f d))).page k = s.page k := fun _ => rfl
  unfold doFetch
  simp only [hb1, pageOf_fmm e2, e2, e3]
  rfl

/-- An answered FETCH: what is written, and its completion decided (R66, R67). -/
theorem end_case {b : BerthId} {d : Desc} {f : Flight} {s v : State} (r : Rec) (deferred lost : Bool) (cpn : Nat) (pre : List Out)
    (hp : s.portSends (s.berth b.toNat).port = true)
    (hv : v.out = s.out ++ pre) (hvb : v.berth b.toNat = { alone (s.berth b.toNat) (arrived (s.berth b.toNat) f d) with fetchCpn := cpn })
    (hvo : ∀ j, j ≠ b.toNat → v.berth j = s.berth j) (hq : v.seq = s.seq) (hpo : v.ports = s.ports)
    (hn : v.now = s.now) :
    let w := !deferred && !lost && decide (r.len ≤ d.length)
    let u := endFetch b.toNat (landed f d) d r deferred lost v
    u.keep = v.keep ∧ u.out = s.out ++ pre ++ ((if w then [Out.payload (s.berth b.toNat).port d.w1 (r.len * 512) r.payload] else []) ++
      [Out.block (s.berth b.toNat).port d.w4 (infoBlock r.tag r.seq r.len deferred lost w)]) ∧
    u.berth b.toNat = { alone (s.berth b.toNat) (decided (s.berth b.toNat) f d (Cpl.now s (if lost then lostMedium else fetched) r.seq)) with fetchCpn := cpn } ∧
    ∀ j, j ≠ b.toNat → u.berth j = s.berth j := by
  intro w u
  have hport : (v.berth b.toNat).port = (s.berth b.toNat).port := by rw [hvb]; rfl
  have hps : v.portSends (s.berth b.toNat).port = true := by
    simp only [State.portSends, State.port, State.inService] at hp ⊢
    rw [hq, hpo]; exact hp
  have hu : u = finishFlight b.toNat f.idx (Cpl.now s (if lost then lostMedium else fetched) r.seq)
      (v.emits ((if w then [Out.payload (s.berth b.toNat).port d.w1 (r.len * 512) r.payload] else []) ++
        [Out.block (s.berth b.toNat).port d.w4 (infoBlock r.tag r.seq r.len deferred lost w)])) := by
    simp only [u, endFetch, hport, hps, if_true, Cpl.now]
    rw [show ∀ os, (v.emits os).now = s.now from fun _ => hn]
    rfl
  have hst : (Cpl.now s (if lost then lostMedium else fetched) r.seq).status ≠ dmaFault := by
    cases lost <;> simp [Cpl.now, lostMedium, fetched, dmaFault]
  obtain ⟨c1, c2, c3, c4⟩ := end_facts b.toNat s (v.emits ((if w then [Out.payload (s.berth b.toNat).port d.w1 (r.len * 512) r.payload] else []) ++
        [Out.block (s.berth b.toNat).port d.w4 (infoBlock r.tag r.seq r.len deferred lost w)])) (s.berth b.toNat) f d _ cpn hst hvb hvo
  rw [← hu] at c1 c2 c3 c4
  refine ⟨c4, ?_, c2, c3⟩
  rw [c1]; show v.out ++ _ = _; rw [hv]

/-- No descriptor waits its turn. -/
def Quiet (s : State) : Prop := ∀ p ∈ s.berths, ∀ f ∈ p.2.flights, f.stage ≠ .returned

theorem tsum_of_zero {α : Type} (f : Nat → α → Nat) (t : Tbl α) (h : ∀ p ∈ t, f p.1 p.2 = 0) : Machine.tsum f t = 0 := by
  unfold Machine.tsum
  induction t with
  | nil => rfl
  | cons q t ih => simp only [List.foldl_cons, h q (by simp)]; exact ih (fun p hp => h p (List.mem_cons_of_mem _ hp))

theorem quiet_iff (s : State) : returnedCount s = 0 ↔ Quiet s := by
  constructor
  · intro h p hp f hf e
    have := tsum_zero _ _ h p hp
    simp only [List.length_eq_zero_iff, List.filter_eq_nil_iff, beq_iff_eq] at this
    exact this f hf e
  · intro h
    refine tsum_of_zero _ _ (fun p hp => ?_)
    simp only [List.length_eq_zero_iff, List.filter_eq_nil_iff, beq_iff_eq]
    exact h p hp

theorem quiet_pump {s : State} (h : Quiet s) : pump s = s := by simp [pump, (quiet_iff s).2 h, pumpLoop]

theorem quiet_berth {s : State} (h : Quiet s) (i : Nat) : ∀ f ∈ (s.berth i).flights, f.stage ≠ .returned := by
  have g : ∀ t : Tbl Berth, (∀ p ∈ t, ∀ f ∈ p.2.flights, f.stage ≠ .returned) → ∀ f ∈ (tget Berth.none t i).flights, f.stage ≠ .returned := by
    intro t
    induction t with
    | nil => intro _ f hf; simp [tget, Berth.none] at hf
    | cons q t ih =>
      obtain ⟨k, v⟩ := q
      intro ht f hf
      unfold tget at hf
      split at hf
      · exact ht (k, v) (by simp) f hf
      · exact ih (fun p hp => ht p (List.mem_cons_of_mem _ hp)) f hf
  exact g _ h

theorem quiet_setBerth {s : State} (h : Quiet s) (i : Nat) (b : Berth) (hb : ∀ f ∈ b.flights, f.stage ≠ .returned) : Quiet (s.setBerth i b) := by
  intro p hp
  rcases mem_tset hp with rfl | hp
  · exact hb
  · exact h p hp

theorem quiet_same {s t : State} (h : Quiet s) (e : t.berths = s.berths) : Quiet t := by
  intro p hp; rw [e] at hp; exact h p hp

theorem quiet_fence {s : State} (h : Quiet s) (r i : Nat) : Quiet (fenceBerth r i s) := by
  unfold fenceBerth
  simp only
  split
  · exact h
  · refine quiet_setBerth h i _ (fun f hf => ?_)
    simp only [List.mem_map] at hf
    obtain ⟨g, hg, rfl⟩ := hf
    split
    · simp
    · exact quiet_berth h i g hg

theorem quiet_writeCpl {s : State} (h : Quiet s) (i : Nat) (f : Flight) (c : Cpl) : Quiet (writeCpl i f c s) := by
  unfold writeCpl
  simp only
  have h0 := quiet_setBerth h i { s.berth i with
    flights := (s.berth i).flights.drop 1, cqTail := ((s.berth i).cqTail + 1) % 2 ^ (s.berth i).log2,
    phase := if (s.berth i).cqTail + 1 = 2 ^ (s.berth i).log2 then !(s.berth i).phase else (s.berth i).phase }
    (fun g hg => quiet_berth h i g (List.mem_of_mem_drop hg))
  have key : ∀ (u : State) (p : Nat) (o : Out), Quiet u → Quiet (if u.portSends p then u.emit o else fenceBerth 3 i u) := by
    intro u p o hu
    split
    · exact quiet_same hu rfl
    · exact quiet_fence hu _ _
  exact key _ _ _ (quiet_same h0 (by simp))

theorem quiet_postLoop {i : Nat} (n : Nat) : ∀ s, Quiet s → Quiet (postLoop i n s) := by
  induction n with
  | zero => intro s h; exact h
  | succ n ih =>
    intro s h
    unfold postLoop
    split
    · exact h
    · split
      · split
        · exact ih _ (quiet_writeCpl h _ _ _)
        · exact h
      · exact h

/-- Posting completions lets no descriptor wait its turn that did not before. -/
theorem quiet_postAll {s : State} (h : Quiet s) (i : Nat) : Quiet (postAll i s) := by
  unfold postAll
  simp only
  split
  · exact quiet_same (quiet_postLoop (i := i) (s.berth i).flights.length s h) (by simp)
  · exact quiet_postLoop _ _ h

theorem quiet_goOn {s : State} (h : Quiet s) (i : Nat) : goOn i s = postAll i s := quiet_pump (quiet_postAll h i)

theorem finish_fault {i : Nat} {f : Flight} {u s : State} {x : Berth} (hn : u.now = s.now) (hf : x.flights = [f]) (hu : u.berth i = x) :
    finishFlight i f.idx (Cpl.now u dmaFault 0) u =
      (u.setBerth i (alone x { f with stage := .done (Cpl.now s dmaFault 0) })).bump (offPORT_ERR + 0x1000 * x.port) 63 32 1 := by
  have n1 : ∀ y, alone x y ≠ Berth.none := fun y => ne_none_of_flights (f := y) (l := []) rfl
  have e : ({ x with flights := x.flights.map (fun z => if z.idx = f.idx then { z with stage := .done (Cpl.now u dmaFault 0) } else z) } : Berth) = alone x { f with stage := .done (Cpl.now s dmaFault 0) } := by
    simp [alone, hf, Cpl.now, hn]
  simp only [finishFlight, setFlight, State.updBerth, hu]
  rw [e, berth_setBerth_same _ _ _ (n1 _)]
  rfl

end Sys2Proof.Machine
end

