-- ==== Sys2Proof/Laws/Invariant.lean ====
section
/-! SUPPORT. What each function over State that reaches the clocks or the key engine keeps of the machine's invariant (Safety.Inv). -/

namespace Sys2Proof.Machine

open Sys2Proof Sys2Proof.Safety

theorem forEach_keeps {α : Type} {P : State → Prop} (l : List α) (f : α → State → State) (h : ∀ a s, P s → P (f a s)) (s : State)
    (hs : P s) : P (forEach l s f) := by
  unfold forEach; induction l generalizing s with
  | nil => exact hs
  | cons a t ih => simp only [List.foldl_cons]; exact ih _ (h a s hs)

@[simp] theorem forEach_clocks {α : Type} (l : List α) (f : α → State → State) (s : State)
    (h : ∀ a s, ClocksOk s.clk → ClocksOk (f a s).clk) (hs : ClocksOk s.clk) : ClocksOk (forEach l s f).clk :=
  forEach_keeps (P := fun s => ClocksOk s.clk) l f h s hs

@[simp] theorem forEach_engine {α : Type} (l : List α) (f : α → State → State) (s : State)
    (h : ∀ a s, EngineOk s.pke → EngineOk (f a s).pke) (hs : EngineOk s.pke) : EngineOk (forEach l s f).pke :=
  forEach_keeps (P := fun s => EngineOk s.pke) l f h s hs

@[simp] theorem forEach_plain {α : Type} (l : List α) (f : α → State → State) (s : State)
    (h : ∀ a s, s.mgmt.honoured = false → (f a s).mgmt.honoured = false) (hs : s.mgmt.honoured = false) : (forEach l s f).mgmt.honoured = false :=
  forEach_keeps (P := fun s => s.mgmt.honoured = false) l f h s hs

@[simp] theorem honoured_ite {p : Prop} {_ : Decidable p} {a b : Mgmt} :
    (if p then a else b).honoured = if p then a.honoured else b.honoured := by split <;> rfl

theorem keeps_ite {P : State → Prop} {p : Prop} {_ : Decidable p} {a b : State} (h1 : P a) (h2 : P b) : P (if p then a else b) := by
  split <;> assumption

@[simp] theorem clocksOk_ite {p : Prop} {_ : Decidable p} {a b : Clk} (h1 : ClocksOk a) (h2 : ClocksOk b) :
    ClocksOk (if p then a else b) := by split <;> assumption

@[simp] theorem engineOk_ite {p : Prop} {_ : Decidable p} {a b : Pke} (h1 : EngineOk a) (h2 : EngineOk b) :
    EngineOk (if p then a else b) := by split <;> assumption

/-- A clock word that agrees keeps doing so when only dividers and the cause change. -/
theorem clocksOk_same {c d : Clk} (h : ClocksOk c) (h1 : d.holdover = c.holdover) (h2 : d.rootOk = c.rootOk)
    (h3 : d.supLock = c.supLock) (h4 : d.mainSel = c.mainSel) (h5 : d.aLock = true → c.aLock = true) : ClocksOk d := by
  refine ⟨fun e => ?_, fun e => ?_⟩
  · rw [h2, h3]; exact h.1 (h1 ▸ e)
  · have := h.2 (h4 ▸ e); cases hd : d.aLock <;> simp_all

/-! The engine: its queue and its results. An operation that ends leaves the engine with none running for a moment. -/

theorem rackOps_nil {x : Pke} (h1 : x.cur = none) (h2 : x.queue = []) : rackOps x = 0 := by simp [rackOps, h1, h2]

theorem rackBusy_ops (s : State) (h : rackBusy s = false) : rackOps s.pke = 0 := by
  unfold rackBusy at h
  simp only [Bool.or_eq_false_iff, List.any_eq_false] at h
  unfold rackOps
  rw [List.length_eq_zero_iff, List.filter_eq_nil_iff]
  intro a ha
  rcases List.mem_append.1 ha with h1 | h1
  · rcases hc : s.pke.cur with _ | o
    · simp [hc] at h1
    · simp only [hc, Option.toList_some, List.mem_singleton] at h1 h
      subst h1; simpa using h.2
  · exact h.1 a h1

theorem pkeStart_rackOps (s : State) : rackOps (pkeStart s).pke = rackOps s.pke := by
  unfold pkeStart
  split
  · rename_i h1 h2
    simp only [State.setPke_pke, rackOps, h1, h2, Option.toList_some, Option.toList_none, List.nil_append, List.singleton_append, List.filter_cons]
    split <;> rfl
  · rfl

theorem pkeStart_result {s : State} (h : ResultOk s.pke) : ResultOk (pkeStart s).pke := by
  have e := pkeStart_rackOps s
  unfold ResultOk at *
  rw [e]
  refine ⟨h.1, ?_, ?_⟩ <;>
  · unfold pkeStart
    split
    · rw [State.setPke_pke]; first | exact h.2.1 | exact h.2.2
    · first | exact h.2.1 | exact h.2.2

theorem pkeStart_engine {s : State} (h : ResultOk s.pke) : EngineOk (pkeStart s).pke := by
  refine ⟨?_, pkeStart_result h⟩
  unfold pkeStart
  split
  · simp
  · rename_i h1
    intro hc
    rcases hq : s.pke.queue with _ | ⟨o, t⟩
    · rfl
    · exact absurd hq (by intro hq; exact h1 o t hc hq)

theorem queued_rackOps (o : POp) (x : Pke) :
    rackOps { x with queue := x.queue ++ [o] } = rackOps x + (if o.who = .rack then 1 else 0) := by
  unfold rackOps
  rw [← List.append_assoc, List.filter_append, List.length_append]
  congr 1
  by_cases h : o.who = .rack <;> simp [h]

/-- Queueing another requester's operation. -/
theorem pkeQueue_engine {o : POp} (ho : o.who ≠ .rack) {s : State} (h : ResultOk s.pke) : EngineOk (pkeQueue o s).pke := by
  unfold pkeQueue
  apply pkeStart_engine
  rw [State.setPke_pke]
  unfold ResultOk at *
  rw [queued_rackOps, if_neg ho]
  exact h

@[simp] theorem pkeWrite_engine (key : Byte) (op : Nat) (gen : Bool) (s : State) (h : EngineOk s.pke) :
    EngineOk (pkeWrite key op gen s).pke := by
  unfold pkeWrite
  split
  · simpa using h
  · rename_i hb
    simp only [not_or, Bool.not_eq_true] at hb
    have h0 := rackBusy_ops s hb.2
    unfold pkeQueue
    apply pkeStart_engine
    rw [State.setPke_pke, State.setPke_pke]
    unfold ResultOk
    rw [queued_rackOps]
    have e : ∀ (a : BitVec 16) (b : Bool) (c : BitVec 16) (d : Nat) (f : Bool) (g i j : Nat),
        rackOps { s.pke with issue := a, rDone := b, rTicket := c, rStatus := d, rValid := f, rx := g, ry := i, rTime := j } =
          rackOps s.pke := by intros; rfl
    rw [e, h0]
    simp

theorem drbg_result {x : Pke} (h : ResultOk x) (d : Drbg) : ResultOk { x with drbg := d } := h

theorem drbg_engine {x : Pke} (h : EngineOk x) (d : Drbg) : EngineOk { x with drbg := d } := h

@[simp] theorem drbgReseed_engine (s : State) (h : EngineOk s.pke) : EngineOk (drbgReseed s).pke := by
  unfold drbgReseed
  exact drbg_engine h _

theorem drbgDraw_result {s : State} (h : ResultOk s.pke) : ResultOk (drbgDraw s).1.pke := by
  unfold drbgDraw
  dsimp only [State.setPke_pke]
  apply drbg_result
  split
  · unfold drbgReseed; exact drbg_result h _
  · exact h

theorem drbgDraw_eq (s : State) : ∃ d, (drbgDraw s).1 =
    (if s.pke.drbg.seeds = 0 ∨ 2 ^ 20 ≤ s.pke.drbg.requests then drbgReseed s else s).setPke
      { (if s.pke.drbg.seeds = 0 ∨ 2 ^ 20 ≤ s.pke.drbg.requests then drbgReseed s else s).pke with drbg := d } := by
  unfold drbgDraw
  exact ⟨_, rfl⟩

theorem drbgDraw_cur (s : State) : (drbgDraw s).1.pke.cur = s.pke.cur ∧ (drbgDraw s).1.pke.queue = s.pke.queue := by
  have h : ∀ (p : Prop) [Decidable p], (if p then drbgReseed s else s).pke.cur = s.pke.cur ∧
      (if p then drbgReseed s else s).pke.queue = s.pke.queue := by
    intro p _
    split
    · unfold drbgReseed; rw [State.setPke_pke]; exact ⟨rfl, rfl⟩
    · exact ⟨rfl, rfl⟩
  obtain ⟨d, e⟩ := drbgDraw_eq s
  rw [e, State.setPke_pke]
  exact h _

theorem drbgDraw_rackOps (s : State) : rackOps (drbgDraw s).1.pke = rackOps s.pke := by
  unfold rackOps; rw [(drbgDraw_cur s).1, (drbgDraw_cur s).2]

theorem pkeResult_result {status : Nat} {valid : Bool} {rx ry t : Nat} {s : State} (h : rackOps s.pke = 0) :
    ResultOk (pkeResult status valid rx ry t s).pke := by
  unfold pkeResult
  simp only [State.bump_pke, State.setPke_pke]
  have e : ∀ (b : Bool) (c : BitVec 16) (d : Nat) (f : Bool) (g i j : Nat),
        rackOps { s.pke with rDone := b, rTicket := c, rStatus := d, rValid := f, rx := g, ry := i, rTime := j } =
          rackOps s.pke := by intros; rfl
  unfold ResultOk
  rw [e, h]
  simp

theorem rackOutcome_result (o : POp) {s : State} (h : rackOps s.pke = 0) : ResultOk (rackOutcome o s).pke := by
  unfold rackOutcome
  split
  · exact pkeResult_result h
  · exact pkeResult_result h
  · split <;> exact pkeResult_result h
  · split
    · exact pkeResult_result h
    · exact pkeResult_result (by rw [drbgDraw_rackOps]; exact h)
  · exact pkeResult_result h

theorem authNext_result {s : State} (h : ResultOk s.pke) : ResultOk (authNext s).pke := by
  unfold authNext
  split
  · exact h
  · split
    · exact h
    · exact (pkeQueue_engine (by simp) h).2

theorem gaugeOutcome_result (o : POp) {s : State} (h : ResultOk s.pke) : ResultOk (gaugeOutcome o s).pke := by
  unfold gaugeOutcome
  dsimp only
  split
  · exact (pkeQueue_engine (by simp) h).2
  · split
    · exact authNext_result (by simpa using h)
    · simpa using drbgDraw_result h

@[simp] theorem sendIrq_plain (n : Nat) (s : State) (hw : s.mgmt.honoured = false) : (sendIrq n s).mgmt.honoured = false := by
  unfold sendIrq
  try dsimp only
  (repeat' split) <;> first | (simp (maxDischargeDepth := 30) +contextual [hw]; done) | with_reducible exact hw

@[simp] theorem raiseIrq_plain (n : Nat) (s : State) (hw : s.mgmt.honoured = false) : (raiseIrq n s).mgmt.honoured = false := by
  unfold raiseIrq
  try dsimp only
  (repeat' split) <;> first | (simp (maxDischargeDepth := 30) +contextual [hw]; done) | with_reducible exact hw

@[simp] theorem queueLog_plain (kind : Nat) (source : Nat) (detail : Nat) (first : Bool) (data : List Word) (s : State) (hw : s.mgmt.honoured = false) : (queueLog kind source detail first data s).mgmt.honoured = false := by
  unfold queueLog
  try dsimp only
  (repeat' split) <;> first | (simp (maxDischargeDepth := 30) +contextual [hw]; done) | with_reducible exact hw

@[simp] theorem logRec_plain (kind : Nat) (source : Nat) (detail : Nat) (data : List Word) (s : State) (hw : s.mgmt.honoured = false) : (logRec kind source detail data s).mgmt.honoured = false := by
  unfold logRec
  try dsimp only
  (repeat' split) <;> first | (simp (maxDischargeDepth := 30) +contextual [hw]; done) | with_reducible exact hw

@[simp] theorem towSend_plain (cmd : Nat) (mask : Byte) (s : State) (hw : s.mgmt.honoured = false) : (towSend cmd mask s).mgmt.honoured = false := by
  unfold towSend
  try dsimp only
  (repeat' split) <;> first | (simp (maxDischargeDepth := 30) +contextual [hw]; done) | with_reducible exact hw

@[simp] theorem groupSluice_plain (s : State) (hw : s.mgmt.honoured = false) : (groupSluice s).mgmt.honoured = false := by
  unfold groupSluice
  try dsimp only
  (repeat' split) <;> first | (simp (maxDischargeDepth := 30) +contextual [hw]; done) | with_reducible exact hw

@[simp] theorem triggerAgain_plain (c : Nat) (s : State) (hw : s.mgmt.honoured = false) : (triggerAgain c s).mgmt.honoured = false := by
  unfold triggerAgain
  try dsimp only
  (repeat' split) <;> first | (simp (maxDischargeDepth := 30) +contextual [hw]; done) | with_reducible exact hw

@[simp] theorem setWeir_plain (w : WSt) (s : State) (hw : s.mgmt.honoured = false) : (setWeir w s).mgmt.honoured = false := by
  unfold setWeir
  try dsimp only
  (repeat' split) <;> first | (simp (maxDischargeDepth := 30) +contextual [hw]; done) | with_reducible exact hw

@[simp] theorem abandonProgram_plain (s : State) (hw : s.mgmt.honoured = false) : (abandonProgram s).mgmt.honoured = false := by
  unfold abandonProgram
  try dsimp only
  (repeat' split) <;> first | (simp (maxDischargeDepth := 30) +contextual [hw]; done) | with_reducible exact hw

@[simp] theorem startProgram_plain (p : Nat) (s : State) (hw : s.mgmt.honoured = false) : (startProgram p s).mgmt.honoured = false := by
  unfold startProgram
  try dsimp only
  (repeat' split) <;> first | (simp (maxDischargeDepth := 30) +contextual [hw]; done) | with_reducible exact hw

@[simp] theorem switchProgram_plain (p : Nat) (s : State) (hw : s.mgmt.honoured = false) : (switchProgram p s).mgmt.honoured = false := by
  unfold switchProgram
  try dsimp only
  (repeat' split) <;> first | (simp (maxDischargeDepth := 30) +contextual [hw]; done) | with_reducible exact hw

@[simp] theorem cmdEnd_plain (k : Nat) (result : Nat) (s : State) (hw : s.mgmt.honoured = false) : (cmdEnd k result s).mgmt.honoured = false := by
  unfold cmdEnd
  try dsimp only
  (repeat' split) <;> first | (simp (maxDischargeDepth := 30) +contextual [hw]; done) | with_reducible exact hw

@[simp] theorem endGaugeCmd_plain (op : Nat) (result : Nat) (s : State) (hw : s.mgmt.honoured = false) : (endGaugeCmd op result s).mgmt.honoured = false := by
  unfold endGaugeCmd
  try dsimp only
  (repeat' split) <;> first | (simp (maxDischargeDepth := 30) +contextual [hw]; done) | with_reducible exact hw

@[simp] theorem stopCapTest_plain (s : State) (hw : s.mgmt.honoured = false) : (stopCapTest s).mgmt.honoured = false := by
  unfold stopCapTest
  try dsimp only
  (repeat' split) <;> first | (simp (maxDischargeDepth := 30) +contextual [hw]; done) | with_reducible exact hw

@[simp] theorem stopCfg_plain (s : State) (hw : s.mgmt.honoured = false) : (stopCfg s).mgmt.honoured = false := by
  unfold stopCfg
  try dsimp only
  (repeat' split) <;> first | (simp (maxDischargeDepth := 30) +contextual [hw]; done) | with_reducible exact hw

@[simp] theorem triggerAround_plain (s : State) (hw : s.mgmt.honoured = false) : (triggerAround s).mgmt.honoured = false := by
  unfold triggerAround
  try dsimp only
  (repeat' split) <;> first | (simp (maxDischargeDepth := 30) +contextual [hw]; done) | with_reducible exact hw

@[simp] theorem triggerEarly_plain (c : Nat) (s : State) (hw : s.mgmt.honoured = false) : (triggerEarly c s).mgmt.honoured = false := by
  unfold triggerEarly
  try dsimp only
  (repeat' split) <;> first | (simp (maxDischargeDepth := 30) +contextual [hw]; done) | with_reducible exact hw

@[simp] theorem weirState_plain (s : State) (hw : s.mgmt.honoured = false) : (weirState s).mgmt.honoured = false := by
  unfold weirState
  try dsimp only
  (repeat' split) <;> first | (simp (maxDischargeDepth := 30) +contextual [hw]; done) | with_reducible exact hw

@[simp] theorem grantPut_plain (i : Nat) (f : Flight) (pl : Place) (x : Nat) (s : State) (hw : s.mgmt.honoured = false) : (grantPut i f pl x s).mgmt.honoured = false := by
  unfold grantPut
  try dsimp only
  (repeat' split) <;> first | (simp (maxDischargeDepth := 30) +contextual [hw]; done) | with_reducible exact hw

@[simp] theorem grantLoop_plain (l : List (Nat × Flight)) (pa ra : Bool) (s : State) (h : s.mgmt.honoured = false) :
    (grantLoop l pa ra s).mgmt.honoured = false := by
  induction l generalizing pa ra s with
  | nil => exact h
  | cons a t ih => unfold grantLoop; dsimp only; split <;> simp [h, ih]

@[simp] theorem grantAll_plain (s : State) (hw : s.mgmt.honoured = false) : (grantAll s).mgmt.honoured = false := by
  unfold grantAll
  try dsimp only
  (repeat' split) <;> first | (simp (maxDischargeDepth := 30) +contextual [hw]; done) | with_reducible exact hw

@[simp] theorem doPut_plain (i : Nat) (f : Flight) (d : Desc) (s : State) (hw : s.mgmt.honoured = false) : (doPut i f d s).mgmt.honoured = false := by
  unfold doPut
  try dsimp only
  (repeat' split) <;> first | (simp (maxDischargeDepth := 30) +contextual [hw]; done) | with_reducible exact hw

@[simp] theorem doRetire_plain (i : Nat) (f : Flight) (d : Desc) (s : State) (hw : s.mgmt.honoured = false) : (doRetire i f d s).mgmt.honoured = false := by
  unfold doRetire
  try dsimp only
  (repeat' split) <;> first | (simp (maxDischargeDepth := 30) +contextual [hw]; done) | with_reducible exact hw

@[simp] theorem carryOut_plain (i : Nat) (f : Flight) (d : Desc) (s : State) (hw : s.mgmt.honoured = false) : (carryOut i f d s).mgmt.honoured = false := by
  unfold carryOut
  try dsimp only
  (repeat' split) <;> first | (simp (maxDischargeDepth := 30) +contextual [hw]; done) | with_reducible exact hw

@[simp] theorem pumpLoop_plain (n : Nat) (s : State) (h : s.mgmt.honoured = false) : (pumpLoop n s).mgmt.honoured = false := by
  induction n generalizing s with
  | zero => exact h
  | succ n ih => unfold pumpLoop; split <;> simp [h, ih]

@[simp] theorem pump_plain (s : State) (hw : s.mgmt.honoured = false) : (pump s).mgmt.honoured = false := by
  unfold pump
  try dsimp only
  (repeat' split) <;> first | (simp (maxDischargeDepth := 30) +contextual [hw]; done) | with_reducible exact hw

@[simp] theorem triggerSluice_plain (c : Nat) (s : State) (hw : s.mgmt.honoured = false) : (triggerSluice c s).mgmt.honoured = false := by
  unfold triggerSluice
  try dsimp only
  (repeat' split) <;> first | (simp (maxDischargeDepth := 30) +contextual [hw]; done) | with_reducible exact hw

@[simp] theorem trigger_plain (c : Nat) (s : State) (hw : s.mgmt.honoured = false) : (trigger c s).mgmt.honoured = false := by
  unfold trigger
  try dsimp only
  (repeat' split) <;> first | (simp (maxDischargeDepth := 30) +contextual [hw]; done) | with_reducible exact hw

@[simp] theorem reserveCheck_plain (s : State) (hw : s.mgmt.honoured = false) : (reserveCheck s).mgmt.honoured = false := by
  unfold reserveCheck
  try dsimp only
  (repeat' split) <;> first | (simp (maxDischargeDepth := 30) +contextual [hw]; done) | with_reducible exact hw

@[simp] theorem acLost_plain (s : State) (hw : s.mgmt.honoured = false) : (acLost s).mgmt.honoured = false := by
  unfold acLost
  try dsimp only
  (repeat' split) <;> first | (simp (maxDischargeDepth := 30) +contextual [hw]; done) | with_reducible exact hw

@[simp] theorem flyFault_plain (cause : Nat) (phase : Nat) (s : State) (hw : s.mgmt.honoured = false) : (flyFault cause phase s).mgmt.honoured = false := by
  unfold flyFault
  try dsimp only
  (repeat' split) <;> first | (simp (maxDischargeDepth := 30) +contextual [hw]; done) | with_reducible exact hw

@[simp] theorem flyOff_plain (s : State) (hw : s.mgmt.honoured = false) : (flyOff s).mgmt.honoured = false := by
  unfold flyOff
  try dsimp only
  (repeat' split) <;> first | (simp (maxDischargeDepth := 30) +contextual [hw]; done) | with_reducible exact hw

@[simp] theorem goOn_plain (i : Nat) (s : State) (hw : s.mgmt.honoured = false) : (goOn i s).mgmt.honoured = false := by
  unfold goOn
  try dsimp only
  (repeat' split) <;> first | (simp (maxDischargeDepth := 30) +contextual [hw]; done) | with_reducible exact hw

@[simp] theorem quarantine_plain (i : Nat) (s : State) (hw : s.mgmt.honoured = false) : (quarantine i s).mgmt.honoured = false := by
  unfold quarantine
  try dsimp only
  (repeat' split) <;> first | (simp (maxDischargeDepth := 30) +contextual [hw]; done) | with_reducible exact hw

@[simp] theorem authStop_plain (s : State) (hw : s.mgmt.honoured = false) : (authStop s).mgmt.honoured = false := by
  unfold authStop
  try dsimp only
  (repeat' split) <;> first | (simp (maxDischargeDepth := 30) +contextual [hw]; done) | with_reducible exact hw

@[simp] theorem coreReset_clocks (s : State) (h : ClocksOk s.clk) : ClocksOk (coreReset s).clk := by
  unfold coreReset
  exact clocksOk_same h (by simp) (by simp) (by simp) (by simp) (by simp)

theorem engineOk_reset : EngineOk State.reset.pke := by
  refine ⟨fun _ => rfl, by decide, fun _ => by decide, fun _ => by decide⟩

@[simp] theorem coreReset_engine (s : State) : EngineOk (coreReset s).pke := by
  unfold coreReset
  exact engineOk_reset

@[simp] theorem coreReset_plain (s : State) : (coreReset s).mgmt.honoured = false := by
  unfold coreReset
  rfl

@[simp] theorem mgmtReset_plain (s : State) : (mgmtReset s).mgmt.honoured = false := by
  unfold mgmtReset
  rfl

@[simp] theorem domainOff_clocks (d : Nat) (s : State) (hw : ClocksOk s.clk) : ClocksOk (domainOff d s).clk := by
  unfold domainOff
  try dsimp only
  (repeat' split) <;> simp (maxDischargeDepth := 30) +contextual [hw]

@[simp] theorem domainOff_engine (d : Nat) (s : State) (hw : EngineOk s.pke) : EngineOk (domainOff d s).pke := by
  unfold domainOff
  try dsimp only
  (repeat' split) <;> simp (maxDischargeDepth := 30) +contextual [hw]

@[simp] theorem domainOff_plain (d : Nat) (s : State) (hw : s.mgmt.honoured = false) : (domainOff d s).mgmt.honoured = false := by
  unfold domainOff
  try dsimp only
  (repeat' split) <;> first | (simp (maxDischargeDepth := 30) +contextual [hw]; done) | with_reducible exact hw

@[simp] theorem allDomainsOff_clocks (s : State) (hw : ClocksOk s.clk) : ClocksOk (allDomainsOff s).clk := by
  unfold allDomainsOff
  try dsimp only
  (repeat' split) <;> simp (maxDischargeDepth := 30) +contextual [hw]

@[simp] theorem allDomainsOff_engine (s : State) (hw : EngineOk s.pke) : EngineOk (allDomainsOff s).pke := by
  unfold allDomainsOff
  try dsimp only
  (repeat' split) <;> simp (maxDischargeDepth := 30) +contextual [hw]

@[simp] theorem allDomainsOff_plain (s : State) (hw : s.mgmt.honoured = false) : (allDomainsOff s).mgmt.honoured = false := by
  unfold allDomainsOff
  try dsimp only
  (repeat' split) <;> first | (simp (maxDischargeDepth := 30) +contextual [hw]; done) | with_reducible exact hw

@[simp] theorem setItem_clocks (w : BitVec 32) (on : Bool) (s : State) (hw : ClocksOk s.clk) : ClocksOk (setItem w on s).clk := by
  unfold setItem
  try dsimp only
  (repeat' split) <;> simp (maxDischargeDepth := 30) +contextual [hw]

@[simp] theorem setItem_engine (w : BitVec 32) (on : Bool) (s : State) (hw : EngineOk s.pke) : EngineOk (setItem w on s).pke := by
  unfold setItem
  try dsimp only
  (repeat' split) <;> simp (maxDischargeDepth := 30) +contextual [hw]

@[simp] theorem setItem_plain (w : BitVec 32) (on : Bool) (s : State) (hw : s.mgmt.honoured = false) : (setItem w on s).mgmt.honoured = false := by
  unfold setItem
  try dsimp only
  (repeat' split) <;> first | (simp (maxDischargeDepth := 30) +contextual [hw]; done) | with_reducible exact hw

@[simp] theorem goDown_clocks (l : List (BitVec 32)) (s : State) (h : ClocksOk s.clk) : ClocksOk (goDown l s).clk := by
  induction l generalizing s with
  | nil => unfold goDown; dsimp only; split <;> exact h
  | cons w t ih => unfold goDown; dsimp only; split <;> simp [h, ih]

@[simp] theorem goDown_engine (l : List (BitVec 32)) (s : State) (h : EngineOk s.pke) : EngineOk (goDown l s).pke := by
  induction l generalizing s with
  | nil => unfold goDown; dsimp only; split <;> exact h
  | cons w t ih => unfold goDown; dsimp only; split <;> simp [h, ih]

@[simp] theorem goDown_plain (l : List (BitVec 32)) (s : State) (h : s.mgmt.honoured = false) : (goDown l s).mgmt.honoured = false := by
  induction l generalizing s with
  | nil => unfold goDown; dsimp only; split <;> exact h
  | cons w t ih => unfold goDown; dsimp only; split <;> simp [h, ih]

@[simp] theorem domainsDown_clocks (was : BitVec 24) (s : State) (hw : ClocksOk s.clk) : ClocksOk (domainsDown was s).clk := by
  unfold domainsDown
  try dsimp only
  (repeat' split) <;> simp (maxDischargeDepth := 30) +contextual [hw]

@[simp] theorem domainsDown_engine (was : BitVec 24) (s : State) (hw : EngineOk s.pke) : EngineOk (domainsDown was s).pke := by
  unfold domainsDown
  try dsimp only
  (repeat' split) <;> simp (maxDischargeDepth := 30) +contextual [hw]

@[simp] theorem domainsDown_plain (was : BitVec 24) (s : State) (hw : s.mgmt.honoured = false) : (domainsDown was s).mgmt.honoured = false := by
  unfold domainsDown
  try dsimp only
  (repeat' split) <;> first | (simp (maxDischargeDepth := 30) +contextual [hw]; done) | with_reducible exact hw

@[simp] theorem globalReset_clocks (cause : Nat) (s : State) (h : ClocksOk s.clk) : ClocksOk (globalReset cause s).clk := by
  unfold globalReset
  dsimp only
  have ht : ClocksOk (handledOn (restoreStartSources (flySafe (allDomainsOff (assertAllResets (abandonProgram s)))))).clk := by simp [h]
  generalize handledOn (restoreStartSources (flySafe (allDomainsOff (assertAllResets (abandonProgram s))))) = t at ht
  have hu : ClocksOk ({ t with clk := { t.clk with cause := cause } } : State).clk := ht
  apply domainsDown_clocks
  split
  · exact hu
  · rw [setSeqSt_clk]; exact hu

@[simp] theorem globalReset_engine (cause : Nat) (s : State) (hw : EngineOk s.pke) : EngineOk (globalReset cause s).pke := by
  unfold globalReset
  try dsimp only
  (repeat' split) <;> simp (maxDischargeDepth := 30) +contextual [hw]

@[simp] theorem globalReset_plain (cause : Nat) (s : State) (hw : s.mgmt.honoured = false) : (globalReset cause s).mgmt.honoured = false := by
  unfold globalReset
  try dsimp only
  (repeat' split) <;> first | (simp (maxDischargeDepth := 30) +contextual [hw]; done) | with_reducible exact hw

@[simp] theorem resetRequest_clocks (cause : Nat) (s : State) (hw : ClocksOk s.clk) : ClocksOk (resetRequest cause s).clk := by
  unfold resetRequest
  try dsimp only
  (repeat' split) <;> simp (maxDischargeDepth := 30) +contextual [hw]

@[simp] theorem resetRequest_engine (cause : Nat) (s : State) (hw : EngineOk s.pke) : EngineOk (resetRequest cause s).pke := by
  unfold resetRequest
  try dsimp only
  (repeat' split) <;> simp (maxDischargeDepth := 30) +contextual [hw]

@[simp] theorem resetRequest_plain (cause : Nat) (s : State) (hw : s.mgmt.honoured = false) : (resetRequest cause s).mgmt.honoured = false := by
  unfold resetRequest
  try dsimp only
  (repeat' split) <;> first | (simp (maxDischargeDepth := 30) +contextual [hw]; done) | with_reducible exact hw

@[simp] theorem weirEvent_plain (s : State) (hw : s.mgmt.honoured = false) : (weirEvent s).mgmt.honoured = false := by
  unfold weirEvent
  try dsimp only
  (repeat' split) <;> first | (simp (maxDischargeDepth := 30) +contextual [hw]; done) | with_reducible exact hw

@[simp] theorem weirEval_plain (s : State) (hw : s.mgmt.honoured = false) : (weirEval s).mgmt.honoured = false := by
  unfold weirEval
  try dsimp only
  (repeat' split) <;> first | (simp (maxDischargeDepth := 30) +contextual [hw]; done) | with_reducible exact hw

@[simp] theorem channelRetire_plain (cause : Nat) (c : Nat) (s : State) (hw : s.mgmt.honoured = false) : (channelRetire cause c s).mgmt.honoured = false := by
  unfold channelRetire
  try dsimp only
  (repeat' split) <;> first | (simp (maxDischargeDepth := 30) +contextual [hw]; done) | with_reducible exact hw

@[simp] theorem collModes_plain (s : State) (hw : s.mgmt.honoured = false) : (collModes s).mgmt.honoured = false := by
  unfold collModes
  try dsimp only
  (repeat' split) <;> first | (simp (maxDischargeDepth := 30) +contextual [hw]; done) | with_reducible exact hw

@[simp] theorem basinLoss_plain (hit : Nat → Bool) (quad : Bool) (s : State) (hw : s.mgmt.honoured = false) : (basinLoss hit quad s).mgmt.honoured = false := by
  unfold basinLoss
  try dsimp only
  (repeat' split) <;> first | (simp (maxDischargeDepth := 30) +contextual [hw]; done) | with_reducible exact hw

@[simp] theorem dieLost_plain (d : Nat) (s : State) (hw : s.mgmt.honoured = false) : (dieLost d s).mgmt.honoured = false := by
  unfold dieLost
  try dsimp only
  (repeat' split) <;> first | (simp (maxDischargeDepth := 30) +contextual [hw]; done) | with_reducible exact hw

@[simp] theorem flashChannelLost_plain (c : Nat) (s : State) (hw : s.mgmt.honoured = false) : (flashChannelLost c s).mgmt.honoured = false := by
  unfold flashChannelLost
  try dsimp only
  (repeat' split) <;> first | (simp (maxDischargeDepth := 30) +contextual [hw]; done) | with_reducible exact hw

@[simp] theorem fencePort_plain (reason : Nat) (p : Nat) (s : State) (hw : s.mgmt.honoured = false) : (fencePort reason p s).mgmt.honoured = false := by
  unfold fencePort
  try dsimp only
  (repeat' split) <;> first | (simp (maxDischargeDepth := 30) +contextual [hw]; done) | with_reducible exact hw

@[simp] theorem portRetire_plain (cause : Nat) (p : Nat) (s : State) (hw : s.mgmt.honoured = false) : (portRetire cause p s).mgmt.honoured = false := by
  unfold portRetire
  try dsimp only
  (repeat' split) <;> first | (simp (maxDischargeDepth := 30) +contextual [hw]; done) | with_reducible exact hw

@[simp] theorem domainLost_plain (d : Nat) (s : State) (hw : s.mgmt.honoured = false) : (domainLost d s).mgmt.honoured = false := by
  unfold domainLost
  try dsimp only
  (repeat' split) <;> first | (simp (maxDischargeDepth := 30) +contextual [hw]; done) | with_reducible exact hw

@[simp] theorem railDomains_clocks (r : Nat) (s : State) (hw : ClocksOk s.clk) : ClocksOk (railDomains r s).clk := by
  unfold railDomains
  try dsimp only
  (repeat' split) <;> simp (maxDischargeDepth := 30) +contextual [hw]

@[simp] theorem railDomains_engine (r : Nat) (s : State) (hw : EngineOk s.pke) : EngineOk (railDomains r s).pke := by
  unfold railDomains
  try dsimp only
  (repeat' split) <;> simp (maxDischargeDepth := 30) +contextual [hw]

@[simp] theorem railDomains_plain (r : Nat) (s : State) (hw : s.mgmt.honoured = false) : (railDomains r s).mgmt.honoured = false := by
  unfold railDomains
  try dsimp only
  (repeat' split) <;> first | (simp (maxDischargeDepth := 30) +contextual [hw]; done) | with_reducible exact hw

@[simp] theorem takeSetOut_plain (k : Fin 2) (phase : Nat) (s : State) (hw : s.mgmt.honoured = false) : (takeSetOut k phase s).mgmt.honoured = false := by
  unfold takeSetOut
  try dsimp only
  (repeat' split) <;> first | (simp (maxDischargeDepth := 30) +contextual [hw]; done) | with_reducible exact hw

@[simp] theorem halfLost_plain (h : Nat) (s : State) (hw : s.mgmt.honoured = false) : (halfLost h s).mgmt.honoured = false := by
  unfold halfLost
  try dsimp only
  (repeat' split) <;> first | (simp (maxDischargeDepth := 30) +contextual [hw]; done) | with_reducible exact hw

@[simp] theorem quadLost_plain (q : Nat) (s : State) (hw : s.mgmt.honoured = false) : (quadLost q s).mgmt.honoured = false := by
  unfold quadLost
  try dsimp only
  (repeat' split) <;> first | (simp (maxDischargeDepth := 30) +contextual [hw]; done) | with_reducible exact hw

@[simp] theorem unitsLost_plain (d : Nat) (s : State) (hw : s.mgmt.honoured = false) : (unitsLost d s).mgmt.honoured = false := by
  unfold unitsLost
  try dsimp only
  (repeat' split) <;> first | (simp (maxDischargeDepth := 30) +contextual [hw]; done) | with_reducible exact hw

@[simp] theorem retireSource_clocks (n : Nat) (s : State) (h : ClocksOk s.clk) : ClocksOk (retireSource n s).clk := by
  unfold retireSource
  iterate 15 refine keeps_ite (P := fun s => ClocksOk s.clk) (by simp [h]) ?_
  simp [h]

@[simp] theorem retireSource_engine (n : Nat) (s : State) (h : EngineOk s.pke) : EngineOk (retireSource n s).pke := by
  unfold retireSource
  iterate 15 refine keeps_ite (P := fun s => EngineOk s.pke) (by simp [h]) ?_
  simp [h]

@[simp] theorem retireSource_plain (n : Nat) (s : State) (h : s.mgmt.honoured = false) : (retireSource n s).mgmt.honoured = false := by
  unfold retireSource
  iterate 15 refine keeps_ite (P := fun s => s.mgmt.honoured = false) (by simp [h]) ?_
  simp [h]

@[simp] theorem weirShut_plain (s : State) (hw : s.mgmt.honoured = false) : (weirShut s).mgmt.honoured = false := by
  unfold weirShut
  try dsimp only
  (repeat' split) <;> first | (simp (maxDischargeDepth := 30) +contextual [hw]; done) | with_reducible exact hw

@[simp] theorem shutdownBegin_plain (graceMs10 : Nat) (s : State) (hw : s.mgmt.honoured = false) : (shutdownBegin graceMs10 s).mgmt.honoured = false := by
  unfold shutdownBegin
  try dsimp only
  (repeat' split) <;> first | (simp (maxDischargeDepth := 30) +contextual [hw]; done) | with_reducible exact hw

@[simp] theorem timedBegin_plain (r : Nat) (s : State) (hw : s.mgmt.honoured = false) : (timedBegin r s).mgmt.honoured = false := by
  unfold timedBegin
  try dsimp only
  (repeat' split) <;> first | (simp (maxDischargeDepth := 30) +contextual [hw]; done) | with_reducible exact hw

@[simp] theorem react_clocks (mask n : Nat) (detail : BitVec 48) (s : State) (h : ClocksOk s.clk) : ClocksOk (react mask n detail s).clk := by
  unfold react
  extract_lets b s1 s2 s3 s4 s5 s6 s7 s8
  have h1 : ClocksOk s1.clk := by simp only [s1]; split <;> simp [h]
  have h2 : ClocksOk s2.clk := by simp only [s2]; split <;> simp [h1]
  have h3 : ClocksOk s3.clk := by simp only [s3]; split <;> simp [h2]
  have h4 : ClocksOk s4.clk := by simp only [s4]; split <;> simp [h3]
  have h5 : ClocksOk s5.clk := by simp only [s5]; split <;> simp [h4]
  have h6 : ClocksOk s6.clk := by simp only [s6]; (repeat' split) <;> simp [h5]
  have h8 : ClocksOk s8.clk := by simp only [s8]; split <;> simp [h6]
  split <;> simp [h8]

@[simp] theorem react_engine (mask n : Nat) (detail : BitVec 48) (s : State) (h : EngineOk s.pke) : EngineOk (react mask n detail s).pke := by
  unfold react
  extract_lets b s1 s2 s3 s4 s5 s6 s7 s8
  have h1 : EngineOk s1.pke := by simp only [s1]; split <;> simp [h]
  have h2 : EngineOk s2.pke := by simp only [s2]; split <;> simp [h1]
  have h3 : EngineOk s3.pke := by simp only [s3]; split <;> simp [h2]
  have h4 : EngineOk s4.pke := by simp only [s4]; split <;> simp [h3]
  have h5 : EngineOk s5.pke := by simp only [s5]; split <;> simp [h4]
  have h6 : EngineOk s6.pke := by simp only [s6]; (repeat' split) <;> simp [h5]
  have h8 : EngineOk s8.pke := by simp only [s8]; split <;> simp [h6]
  split <;> simp [h8]

@[simp] theorem react_plain (mask n : Nat) (detail : BitVec 48) (s : State) (h : s.mgmt.honoured = false) : (react mask n detail s).mgmt.honoured = false := by
  unfold react
  extract_lets b s1 s2 s3 s4 s5 s6 s7 s8
  have h1 : s1.mgmt.honoured = false := by simp only [s1]; split <;> simp [h]
  have h2 : s2.mgmt.honoured = false := by simp only [s2]; split <;> simp [h1]
  have h3 : s3.mgmt.honoured = false := by simp only [s3]; split <;> simp [h2]
  have h4 : s4.mgmt.honoured = false := by simp only [s4]; split <;> simp [h3]
  have h5 : s5.mgmt.honoured = false := by simp only [s5]; split <;> simp [h4]
  have h6 : s6.mgmt.honoured = false := by simp only [s6]; (repeat' split) <;> simp [h5]
  have h8 : s8.mgmt.honoured = false := by simp only [s8]; split <;> simp [h6]
  split <;> simp [h8]

@[simp] theorem stopAlive_plain (s : State) (hw : s.mgmt.honoured = false) : (stopAlive s).mgmt.honoured = false := by
  unfold stopAlive
  try dsimp only
  (repeat' split) <;> first | (simp (maxDischargeDepth := 30) +contextual [hw]; done) | with_reducible exact hw

@[simp] theorem classify_clocks (n : Nat) (detail : BitVec 48) (line : Bool) (s : State) (hw : ClocksOk s.clk) : ClocksOk (classify n detail line s).clk := by
  unfold classify
  try dsimp only
  (repeat' split) <;> simp (maxDischargeDepth := 30) +contextual [hw]

@[simp] theorem classify_engine (n : Nat) (detail : BitVec 48) (line : Bool) (s : State) (hw : EngineOk s.pke) : EngineOk (classify n detail line s).pke := by
  unfold classify
  try dsimp only
  (repeat' split) <;> simp (maxDischargeDepth := 30) +contextual [hw]

@[simp] theorem classify_plain (n : Nat) (detail : BitVec 48) (line : Bool) (s : State) (hw : s.mgmt.honoured = false) : (classify n detail line s).mgmt.honoured = false := by
  unfold classify
  try dsimp only
  (repeat' split) <;> first | (simp (maxDischargeDepth := 30) +contextual [hw]; done) | with_reducible exact hw

@[simp] theorem decideEvent_clocks (n : Nat) (severe : Bool) (detail : BitVec 48) (line : Bool) (s : State) (hw : ClocksOk s.clk) : ClocksOk (decideEvent n severe detail line s).clk := by
  unfold decideEvent
  try dsimp only
  (repeat' split) <;> simp (maxDischargeDepth := 30) +contextual [hw]

@[simp] theorem decideEvent_engine (n : Nat) (severe : Bool) (detail : BitVec 48) (line : Bool) (s : State) (hw : EngineOk s.pke) : EngineOk (decideEvent n severe detail line s).pke := by
  unfold decideEvent
  try dsimp only
  (repeat' split) <;> simp (maxDischargeDepth := 30) +contextual [hw]

@[simp] theorem decideEvent_plain (n : Nat) (severe : Bool) (detail : BitVec 48) (line : Bool) (s : State) (hw : s.mgmt.honoured = false) : (decideEvent n severe detail line s).mgmt.honoured = false := by
  unfold decideEvent
  try dsimp only
  (repeat' split) <;> first | (simp (maxDischargeDepth := 30) +contextual [hw]; done) | with_reducible exact hw

@[simp] theorem settleLoop_clocks (n : Nat) (s : State) (h : ClocksOk s.clk) : ClocksOk (settleLoop n s).clk := by
  induction n generalizing s with
  | zero => exact h
  | succ n ih => unfold settleLoop; split <;> simp [h, ih]

@[simp] theorem settleLoop_engine (n : Nat) (s : State) (h : EngineOk s.pke) : EngineOk (settleLoop n s).pke := by
  induction n generalizing s with
  | zero => exact h
  | succ n ih => unfold settleLoop; split <;> simp [h, ih]

@[simp] theorem settleLoop_plain (n : Nat) (s : State) (h : s.mgmt.honoured = false) : (settleLoop n s).mgmt.honoured = false := by
  induction n generalizing s with
  | zero => exact h
  | succ n ih => unfold settleLoop; split <;> simp [h, ih]

@[simp] theorem settle_clocks (s : State) (hw : ClocksOk s.clk) : ClocksOk (settle s).clk := by
  unfold settle
  try dsimp only
  (repeat' split) <;> simp (maxDischargeDepth := 30) +contextual [hw]

@[simp] theorem settle_engine (s : State) (hw : EngineOk s.pke) : EngineOk (settle s).pke := by
  unfold settle
  try dsimp only
  (repeat' split) <;> simp (maxDischargeDepth := 30) +contextual [hw]

@[simp] theorem settle_plain (s : State) (hw : s.mgmt.honoured = false) : (settle s).mgmt.honoured = false := by
  unfold settle
  try dsimp only
  (repeat' split) <;> first | (simp (maxDischargeDepth := 30) +contextual [hw]; done) | with_reducible exact hw

@[simp] theorem doAckAlive_plain (s : State) (hw : s.mgmt.honoured = false) : (doAckAlive s).mgmt.honoured = false := by
  unfold doAckAlive
  try dsimp only
  (repeat' split) <;> first | (simp (maxDischargeDepth := 30) +contextual [hw]; done) | with_reducible exact hw

@[simp] theorem doAckWarn_plain (s : State) (hw : s.mgmt.honoured = false) : (doAckWarn s).mgmt.honoured = false := by
  unfold doAckWarn
  try dsimp only
  (repeat' split) <;> first | (simp (maxDischargeDepth := 30) +contextual [hw]; done) | with_reducible exact hw

@[simp] theorem authNext_engine (s : State) (h : EngineOk s.pke) : EngineOk (authNext s).pke := by
  unfold authNext
  (repeat' split) <;> first | exact h | exact pkeQueue_engine (by simp) h.2

@[simp] theorem doAuth_engine (i : Nat) (s : State) (hw : EngineOk s.pke) : EngineOk (doAuth i s).pke := by
  unfold doAuth
  try dsimp only
  (repeat' split) <;> simp (maxDischargeDepth := 30) +contextual [hw]

@[simp] theorem doAuth_plain (i : Nat) (s : State) (hw : s.mgmt.honoured = false) : (doAuth i s).mgmt.honoured = false := by
  unfold doAuth
  try dsimp only
  (repeat' split) <;> first | (simp (maxDischargeDepth := 30) +contextual [hw]; done) | with_reducible exact hw

@[simp] theorem authFail_plain (i : Nat) (s : State) (hw : s.mgmt.honoured = false) : (authFail i s).mgmt.honoured = false := by
  unfold authFail
  try dsimp only
  (repeat' split) <;> first | (simp (maxDischargeDepth := 30) +contextual [hw]; done) | with_reducible exact hw

@[simp] theorem bindModule_plain (i : Nat) (d : Identity) (s : State) (hw : s.mgmt.honoured = false) : (bindModule i d s).mgmt.honoured = false := by
  unfold bindModule
  try dsimp only
  (repeat' split) <;> first | (simp (maxDischargeDepth := 30) +contextual [hw]; done) | with_reducible exact hw

@[simp] theorem fetchRead_plain (i : Nat) (cws : List CwRead) (s : State) (hw : s.mgmt.honoured = false) : (fetchRead i cws s).mgmt.honoured = false := by
  unfold fetchRead
  try dsimp only
  (repeat' split) <;> first | (simp (maxDischargeDepth := 30) +contextual [hw]; done) | with_reducible exact hw

@[simp] theorem clearLatch_plain (who : Nat) (s : State) (hw : s.mgmt.honoured = false) : (clearLatch who s).mgmt.honoured = false := by
  unfold clearLatch
  try dsimp only
  (repeat' split) <;> first | (simp (maxDischargeDepth := 30) +contextual [hw]; done) | with_reducible exact hw

@[simp] theorem towAct_plain (cmd : Nat) (s : State) (hw : s.mgmt.honoured = false) : (towAct cmd s).mgmt.honoured = false := by
  unfold towAct
  try dsimp only
  (repeat' split) <;> first | (simp (maxDischargeDepth := 30) +contextual [hw]; done) | with_reducible exact hw

@[simp] theorem beaconIn_plain (f : List Byte) (s : State) (hw : s.mgmt.honoured = false) : (beaconIn f s).mgmt.honoured = false := by
  unfold beaconIn
  try dsimp only
  (repeat' split) <;> first | (simp (maxDischargeDepth := 30) +contextual [hw]; done) | with_reducible exact hw

@[simp] theorem doCharter_plain (s : State) (hw : s.mgmt.honoured = false) : (doCharter s).mgmt.honoured = false := by
  unfold doCharter
  try dsimp only
  (repeat' split) <;> first | (simp (maxDischargeDepth := 30) +contextual [hw]; done) | with_reducible exact hw

@[simp] theorem doFence_plain (s : State) (hw : s.mgmt.honoured = false) : (doFence s).mgmt.honoured = false := by
  unfold doFence
  try dsimp only
  (repeat' split) <;> first | (simp (maxDischargeDepth := 30) +contextual [hw]; done) | with_reducible exact hw

@[simp] theorem doModify_plain (s : State) (hw : s.mgmt.honoured = false) : (doModify s).mgmt.honoured = false := by
  unfold doModify
  try dsimp only
  (repeat' split) <;> first | (simp (maxDischargeDepth := 30) +contextual [hw]; done) | with_reducible exact hw

@[simp] theorem endRecharter_plain (i : Nat) (s : State) (hw : s.mgmt.honoured = false) : (endRecharter i s).mgmt.honoured = false := by
  unfold endRecharter
  try dsimp only
  (repeat' split) <;> first | (simp (maxDischargeDepth := 30) +contextual [hw]; done) | with_reducible exact hw

@[simp] theorem doRecharter_plain (s : State) (h : s.mgmt.honoured = false) : (doRecharter s).mgmt.honoured = false := by
  unfold doRecharter whenClear
  dsimp only
  (repeat' split) <;> simp [h]

@[simp] theorem endRelease_plain (i : Nat) (s : State) (hw : s.mgmt.honoured = false) : (endRelease i s).mgmt.honoured = false := by
  unfold endRelease
  try dsimp only
  (repeat' split) <;> first | (simp (maxDischargeDepth := 30) +contextual [hw]; done) | with_reducible exact hw

@[simp] theorem doRelease_plain (s : State) (h : s.mgmt.honoured = false) : (doRelease s).mgmt.honoured = false := by
  unfold doRelease whenClear
  dsimp only
  (repeat' split) <;> simp [h]

@[simp] theorem berthCmd_plain (op : Nat) (s : State) (hw : s.mgmt.honoured = false) : (berthCmd op s).mgmt.honoured = false := by
  unfold berthCmd
  try dsimp only
  (repeat' split) <;> first | (simp (maxDischargeDepth := 30) +contextual [hw]; done) | with_reducible exact hw

@[simp] theorem stageNow_plain (off : Nat) (kind : Nat) (w : Word) (s : State) (hw : s.mgmt.honoured = false) : (stageNow off kind w s).mgmt.honoured = false := by
  unfold stageNow
  try dsimp only
  (repeat' split) <;> first | (simp (maxDischargeDepth := 30) +contextual [hw]; done) | with_reducible exact hw

@[simp] theorem overtop_plain (s : State) (hw : s.mgmt.honoured = false) : (overtop s).mgmt.honoured = false := by
  unfold overtop
  try dsimp only
  (repeat' split) <;> first | (simp (maxDischargeDepth := 30) +contextual [hw]; done) | with_reducible exact hw

@[simp] theorem weirTest_plain (s : State) (hw : s.mgmt.honoured = false) : (weirTest s).mgmt.honoured = false := by
  unfold weirTest
  try dsimp only
  (repeat' split) <;> first | (simp (maxDischargeDepth := 30) +contextual [hw]; done) | with_reducible exact hw

@[simp] theorem doCapTest_plain (s : State) (hw : s.mgmt.honoured = false) : (doCapTest s).mgmt.honoured = false := by
  unfold doCapTest
  try dsimp only
  (repeat' split) <;> first | (simp (maxDischargeDepth := 30) +contextual [hw]; done) | with_reducible exact hw

@[simp] theorem doChartDisable_plain (s : State) (hw : s.mgmt.honoured = false) : (doChartDisable s).mgmt.honoured = false := by
  unfold doChartDisable
  try dsimp only
  (repeat' split) <;> first | (simp (maxDischargeDepth := 30) +contextual [hw]; done) | with_reducible exact hw

@[simp] theorem doChartEnable_plain (s : State) (hw : s.mgmt.honoured = false) : (doChartEnable s).mgmt.honoured = false := by
  unfold doChartEnable
  try dsimp only
  (repeat' split) <;> first | (simp (maxDischargeDepth := 30) +contextual [hw]; done) | with_reducible exact hw

@[simp] theorem downTurn_clocks (s : State) (hw : ClocksOk s.clk) : ClocksOk (downTurn s).clk := by
  unfold downTurn
  try dsimp only
  (repeat' split) <;> simp (maxDischargeDepth := 30) +contextual [hw]

@[simp] theorem downTurn_engine (s : State) (hw : EngineOk s.pke) : EngineOk (downTurn s).pke := by
  unfold downTurn
  try dsimp only
  (repeat' split) <;> simp (maxDischargeDepth := 30) +contextual [hw]

@[simp] theorem downTurn_plain (s : State) (hw : s.mgmt.honoured = false) : (downTurn s).mgmt.honoured = false := by
  unfold downTurn
  try dsimp only
  (repeat' split) <;> first | (simp (maxDischargeDepth := 30) +contextual [hw]; done) | with_reducible exact hw

@[simp] theorem resumeWait_clocks (s : State) (hw : ClocksOk s.clk) : ClocksOk (resumeWait s).clk := by
  unfold resumeWait
  try dsimp only
  (repeat' split) <;> simp (maxDischargeDepth := 30) +contextual [hw]

@[simp] theorem resumeWait_engine (s : State) (hw : EngineOk s.pke) : EngineOk (resumeWait s).pke := by
  unfold resumeWait
  try dsimp only
  (repeat' split) <;> simp (maxDischargeDepth := 30) +contextual [hw]

@[simp] theorem resumeWait_plain (s : State) (hw : s.mgmt.honoured = false) : (resumeWait s).mgmt.honoured = false := by
  unfold resumeWait
  try dsimp only
  (repeat' split) <;> first | (simp (maxDischargeDepth := 30) +contextual [hw]; done) | with_reducible exact hw

@[simp] theorem doClear_plain (s : State) (hw : s.mgmt.honoured = false) : (doClear s).mgmt.honoured = false := by
  unfold doClear
  try dsimp only
  (repeat' split) <;> first | (simp (maxDischargeDepth := 30) +contextual [hw]; done) | with_reducible exact hw

@[simp] theorem moduleGone_plain (i : Nat) (s : State) (hw : s.mgmt.honoured = false) : (moduleGone i s).mgmt.honoured = false := by
  unfold moduleGone
  try dsimp only
  (repeat' split) <;> first | (simp (maxDischargeDepth := 30) +contextual [hw]; done) | with_reducible exact hw

@[simp] theorem runningFault_plain (r : Nat) (s : State) (hw : s.mgmt.honoured = false) : (runningFault r s).mgmt.honoured = false := by
  unfold runningFault
  try dsimp only
  (repeat' split) <;> first | (simp (maxDischargeDepth := 30) +contextual [hw]; done) | with_reducible exact hw

@[simp] theorem railDown_plain (r : Nat) (s : State) (hw : s.mgmt.honoured = false) : (railDown r s).mgmt.honoured = false := by
  unfold railDown
  try dsimp only
  (repeat' split) <;> first | (simp (maxDischargeDepth := 30) +contextual [hw]; done) | with_reducible exact hw

@[simp] theorem tripTerm_plain (f : Weir → Weir) (s : State) (hw : s.mgmt.honoured = false) : (tripTerm f s).mgmt.honoured = false := by
  unfold tripTerm
  try dsimp only
  (repeat' split) <;> first | (simp (maxDischargeDepth := 30) +contextual [hw]; done) | with_reducible exact hw

@[simp] theorem tripEffect_plain (func : Nat) (index : Nat) (src : Nat) (k : Nat) (s : State) (hw : s.mgmt.honoured = false) : (tripEffect func index src k s).mgmt.honoured = false := by
  unfold tripEffect
  try dsimp only
  (repeat' split) <;> first | (simp (maxDischargeDepth := 30) +contextual [hw]; done) | with_reducible exact hw

@[simp] theorem imageLog_plain (detail : Nat) (data : List Word) (s : State) (hw : s.mgmt.honoured = false) : (imageLog detail data s).mgmt.honoured = false := by
  unfold imageLog
  try dsimp only
  (repeat' split) <;> first | (simp (maxDischargeDepth := 30) +contextual [hw]; done) | with_reducible exact hw

@[simp] theorem testFails_clocks (s : State) (hw : ClocksOk s.clk) : ClocksOk (testFails s).clk := by
  unfold testFails
  try dsimp only
  (repeat' split) <;> simp (maxDischargeDepth := 30) +contextual [hw]

@[simp] theorem testFails_engine (s : State) (hw : EngineOk s.pke) : EngineOk (testFails s).pke := by
  unfold testFails
  try dsimp only
  (repeat' split) <;> simp (maxDischargeDepth := 30) +contextual [hw]

@[simp] theorem testFails_plain (s : State) (hw : s.mgmt.honoured = false) : (testFails s).mgmt.honoured = false := by
  unfold testFails
  try dsimp only
  (repeat' split) <;> first | (simp (maxDischargeDepth := 30) +contextual [hw]; done) | with_reducible exact hw

@[simp] theorem loseSet_plain (k : Fin 2) (phase : Nat) (s : State) (hw : s.mgmt.honoured = false) : (loseSet k phase s).mgmt.honoured = false := by
  unfold loseSet
  try dsimp only
  (repeat' split) <;> first | (simp (maxDischargeDepth := 30) +contextual [hw]; done) | with_reducible exact hw

@[simp] theorem dischargeLate_plain (w : BitVec 32) (s : State) (hw : s.mgmt.honoured = false) : (dischargeLate w s).mgmt.honoured = false := by
  unfold dischargeLate
  try dsimp only
  (repeat' split) <;> first | (simp (maxDischargeDepth := 30) +contextual [hw]; done) | with_reducible exact hw

@[simp] theorem latchFail_clocks (w : BitVec 32) (r : Run) (s : State) (hw : ClocksOk s.clk) : ClocksOk (latchFail w r s).clk := by
  unfold latchFail
  try dsimp only
  (repeat' split) <;> simp (maxDischargeDepth := 30) +contextual [hw]

@[simp] theorem latchFail_engine (w : BitVec 32) (r : Run) (s : State) (hw : EngineOk s.pke) : EngineOk (latchFail w r s).pke := by
  unfold latchFail
  try dsimp only
  (repeat' split) <;> simp (maxDischargeDepth := 30) +contextual [hw]

@[simp] theorem latchFail_plain (w : BitVec 32) (r : Run) (s : State) (hw : s.mgmt.honoured = false) : (latchFail w r s).mgmt.honoured = false := by
  unfold latchFail
  try dsimp only
  (repeat' split) <;> first | (simp (maxDischargeDepth := 30) +contextual [hw]; done) | with_reducible exact hw

@[simp] theorem loadBegin_plain (src : Nat) (cmd : Bool) (s : State) (hw : s.mgmt.honoured = false) : (loadBegin src cmd s).mgmt.honoured = false := by
  unfold loadBegin
  try dsimp only
  (repeat' split) <;> first | (simp (maxDischargeDepth := 30) +contextual [hw]; done) | with_reducible exact hw

@[simp] theorem loadSlotNow_plain (n : Nat) (cmd : Bool) (s : State) (hw : s.mgmt.honoured = false) : (loadSlotNow n cmd s).mgmt.honoured = false := by
  unfold loadSlotNow
  try dsimp only
  (repeat' split) <;> first | (simp (maxDischargeDepth := 30) +contextual [hw]; done) | with_reducible exact hw

@[simp] theorem doLoadSlot_plain (n : Nat) (s : State) (hw : s.mgmt.honoured = false) : (doLoadSlot n s).mgmt.honoured = false := by
  unfold doLoadSlot
  try dsimp only
  (repeat' split) <;> first | (simp (maxDischargeDepth := 30) +contextual [hw]; done) | with_reducible exact hw

@[simp] theorem doPush_plain (s : State) (hw : s.mgmt.honoured = false) : (doPush s).mgmt.honoured = false := by
  unfold doPush
  try dsimp only
  (repeat' split) <;> first | (simp (maxDischargeDepth := 30) +contextual [hw]; done) | with_reducible exact hw

@[simp] theorem doSetTrial_plain (n : Nat) (s : State) (hw : s.mgmt.honoured = false) : (doSetTrial n s).mgmt.honoured = false := by
  unfold doSetTrial
  try dsimp only
  (repeat' split) <;> first | (simp (maxDischargeDepth := 30) +contextual [hw]; done) | with_reducible exact hw

@[simp] theorem writeFails_plain (result : Nat) (s : State) (hw : s.mgmt.honoured = false) : (writeFails result s).mgmt.honoured = false := by
  unfold writeFails
  try dsimp only
  (repeat' split) <;> first | (simp (maxDischargeDepth := 30) +contextual [hw]; done) | with_reducible exact hw

@[simp] theorem doWriteSlot_plain (n : Nat) (s : State) (hw : s.mgmt.honoured = false) : (doWriteSlot n s).mgmt.honoured = false := by
  unfold doWriteSlot
  try dsimp only
  (repeat' split) <;> first | (simp (maxDischargeDepth := 30) +contextual [hw]; done) | with_reducible exact hw

@[simp] theorem cfgOp_plain (op : Nat) (slot : Nat) (s : State) (hw : s.mgmt.honoured = false) : (cfgOp op slot s).mgmt.honoured = false := by
  unfold cfgOp
  try dsimp only
  (repeat' split) <;> first | (simp (maxDischargeDepth := 30) +contextual [hw]; done) | with_reducible exact hw

@[simp] theorem chartOp_plain (op : Nat) (s : State) (hw : s.mgmt.honoured = false) : (chartOp op s).mgmt.honoured = false := by
  unfold chartOp
  try dsimp only
  (repeat' split) <;> first | (simp (maxDischargeDepth := 30) +contextual [hw]; done) | with_reducible exact hw

@[simp] theorem doLockCycle_plain (mode : Nat) (epoch : BitVec 16) (s : State) (hw : s.mgmt.honoured = false) : (doLockCycle mode epoch s).mgmt.honoured = false := by
  unfold doLockCycle
  try dsimp only
  (repeat' split) <;> first | (simp (maxDischargeDepth := 30) +contextual [hw]; done) | with_reducible exact hw

@[simp] theorem doForget_engine (i : Nat) (s : State) (hw : EngineOk s.pke) : EngineOk (doForget i s).pke := by
  unfold doForget
  try dsimp only
  (repeat' split) <;> simp (maxDischargeDepth := 30) +contextual [hw]

@[simp] theorem doForget_plain (i : Nat) (s : State) (hw : s.mgmt.honoured = false) : (doForget i s).mgmt.honoured = false := by
  unfold doForget
  try dsimp only
  (repeat' split) <;> first | (simp (maxDischargeDepth := 30) +contextual [hw]; done) | with_reducible exact hw

@[simp] theorem doLearnAbort_plain (s : State) (hw : s.mgmt.honoured = false) : (doLearnAbort s).mgmt.honoured = false := by
  unfold doLearnAbort
  try dsimp only
  (repeat' split) <;> first | (simp (maxDischargeDepth := 30) +contextual [hw]; done) | with_reducible exact hw

@[simp] theorem doLearnStart_plain (i : Nat) (ack : Bool) (s : State) (hw : s.mgmt.honoured = false) : (doLearnStart i ack s).mgmt.honoured = false := by
  unfold doLearnStart
  try dsimp only
  (repeat' split) <;> first | (simp (maxDischargeDepth := 30) +contextual [hw]; done) | with_reducible exact hw

@[simp] theorem gaugeOp_engine (op : Nat) (i : Nat) (s : State) (hw : EngineOk s.pke) : EngineOk (gaugeOp op i s).pke := by
  unfold gaugeOp
  try dsimp only
  (repeat' split) <;> simp (maxDischargeDepth := 30) +contextual [hw]

@[simp] theorem gaugeOp_plain (op : Nat) (i : Nat) (s : State) (hw : s.mgmt.honoured = false) : (gaugeOp op i s).mgmt.honoured = false := by
  unfold gaugeOp
  try dsimp only
  (repeat' split) <;> first | (simp (maxDischargeDepth := 30) +contextual [hw]; done) | with_reducible exact hw

@[simp] theorem doReset_clocks (s : State) (hw : ClocksOk s.clk) : ClocksOk (doReset s).clk := by
  unfold doReset
  try dsimp only
  (repeat' split) <;> simp (maxDischargeDepth := 30) +contextual [hw]

@[simp] theorem doReset_engine (s : State) (hw : EngineOk s.pke) : EngineOk (doReset s).pke := by
  unfold doReset
  try dsimp only
  (repeat' split) <;> simp (maxDischargeDepth := 30) +contextual [hw]

@[simp] theorem doReset_plain (s : State) (hw : s.mgmt.honoured = false) : (doReset s).mgmt.honoured = false := by
  unfold doReset
  try dsimp only
  (repeat' split) <;> first | (simp (maxDischargeDepth := 30) +contextual [hw]; done) | with_reducible exact hw

@[simp] theorem glbOp_clocks (op : Nat) (s : State) (hw : ClocksOk s.clk) : ClocksOk (glbOp op s).clk := by
  unfold glbOp
  try dsimp only
  (repeat' split) <;> simp (maxDischargeDepth := 30) +contextual [hw]

@[simp] theorem glbOp_engine (op : Nat) (s : State) (hw : EngineOk s.pke) : EngineOk (glbOp op s).pke := by
  unfold glbOp
  try dsimp only
  (repeat' split) <;> simp (maxDischargeDepth := 30) +contextual [hw]

@[simp] theorem glbOp_plain (op : Nat) (s : State) (hw : s.mgmt.honoured = false) : (glbOp op s).mgmt.honoured = false := by
  unfold glbOp
  try dsimp only
  (repeat' split) <;> first | (simp (maxDischargeDepth := 30) +contextual [hw]; done) | with_reducible exact hw

@[simp] theorem doRestore_plain (n : Nat) (s : State) (hw : s.mgmt.honoured = false) : (doRestore n s).mgmt.honoured = false := by
  unfold doRestore
  try dsimp only
  (repeat' split) <;> first | (simp (maxDischargeDepth := 30) +contextual [hw]; done) | with_reducible exact hw

@[simp] theorem doRestoreAll_plain (s : State) (hw : s.mgmt.honoured = false) : (doRestoreAll s).mgmt.honoured = false := by
  unfold doRestoreAll
  try dsimp only
  (repeat' split) <;> first | (simp (maxDischargeDepth := 30) +contextual [hw]; done) | with_reducible exact hw

@[simp] theorem keepOp_plain (op : Nat) (src : Nat) (s : State) (hw : s.mgmt.honoured = false) : (keepOp op src s).mgmt.honoured = false := by
  unfold keepOp
  try dsimp only
  (repeat' split) <;> first | (simp (maxDischargeDepth := 30) +contextual [hw]; done) | with_reducible exact hw

@[simp] theorem doPortRetire_plain (p : Nat) (s : State) (hw : s.mgmt.honoured = false) : (doPortRetire p s).mgmt.honoured = false := by
  unfold doPortRetire
  try dsimp only
  (repeat' split) <;> first | (simp (maxDischargeDepth := 30) +contextual [hw]; done) | with_reducible exact hw

@[simp] theorem portOp_plain (p : Nat) (op : Nat) (s : State) (hw : s.mgmt.honoured = false) : (portOp p op s).mgmt.honoured = false := by
  unfold portOp
  try dsimp only
  (repeat' split) <;> first | (simp (maxDischargeDepth := 30) +contextual [hw]; done) | with_reducible exact hw

@[simp] theorem doRailCmd_plain (ack : Bool) (s : State) (hw : s.mgmt.honoured = false) : (doRailCmd ack s).mgmt.honoured = false := by
  unfold doRailCmd
  try dsimp only
  (repeat' split) <;> first | (simp (maxDischargeDepth := 30) +contextual [hw]; done) | with_reducible exact hw

@[simp] theorem doRunService_plain (s : State) (hw : s.mgmt.honoured = false) : (doRunService s).mgmt.honoured = false := by
  unfold doRunService
  try dsimp only
  (repeat' split) <;> first | (simp (maxDischargeDepth := 30) +contextual [hw]; done) | with_reducible exact hw

@[simp] theorem seqOp_plain (op : Nat) (s : State) (hw : s.mgmt.honoured = false) : (seqOp op s).mgmt.honoured = false := by
  unfold seqOp
  try dsimp only
  (repeat' split) <;> first | (simp (maxDischargeDepth := 30) +contextual [hw]; done) | with_reducible exact hw

@[simp] theorem lineFaulted_clocks (n : Nat) (s : State) (hw : ClocksOk s.clk) : ClocksOk (lineFaulted n s).clk := by
  unfold lineFaulted
  try dsimp only
  (repeat' split) <;> simp (maxDischargeDepth := 30) +contextual [hw]

@[simp] theorem lineFaulted_engine (n : Nat) (s : State) (hw : EngineOk s.pke) : EngineOk (lineFaulted n s).pke := by
  unfold lineFaulted
  try dsimp only
  (repeat' split) <;> simp (maxDischargeDepth := 30) +contextual [hw]

@[simp] theorem lineFaulted_plain (n : Nat) (s : State) (hw : s.mgmt.honoured = false) : (lineFaulted n s).mgmt.honoured = false := by
  unfold lineFaulted
  try dsimp only
  (repeat' split) <;> first | (simp (maxDischargeDepth := 30) +contextual [hw]; done) | with_reducible exact hw

@[simp] theorem ownEffect_plain (n : Nat) (severe : Bool) (d : BitVec 48) (s : State) (hw : s.mgmt.honoured = false) : (ownEffect n severe d s).mgmt.honoured = false := by
  unfold ownEffect
  try dsimp only
  (repeat' split) <;> first | (simp (maxDischargeDepth := 30) +contextual [hw]; done) | with_reducible exact hw

@[simp] theorem rootSource_plain (s : State) (hw : s.mgmt.honoured = false) : (rootSource s).mgmt.honoured = false := by
  unfold rootSource
  try dsimp only
  (repeat' split) <;> first | (simp (maxDischargeDepth := 30) +contextual [hw]; done) | with_reducible exact hw

@[simp] theorem rootLost_clocks (s : State) (h : ClocksOk s.clk) : ClocksOk (rootLost s).clk := by
  unfold rootLost
  split
  · exact h
  · dsimp only
    apply domainsDown_clocks
    have e : ∀ c : Clk, ClocksOk c → ClocksOk { c with rootOk := false, holdover := true, supLock := false, cause := 5 } :=
      fun c h => ⟨fun _ => ⟨rfl, rfl⟩, h.2⟩
    split <;> simp [h, e]

@[simp] theorem rootLost_engine (s : State) (hw : EngineOk s.pke) : EngineOk (rootLost s).pke := by
  unfold rootLost
  try dsimp only
  (repeat' split) <;> simp (maxDischargeDepth := 30) +contextual [hw]

@[simp] theorem rootLost_plain (s : State) (hw : s.mgmt.honoured = false) : (rootLost s).mgmt.honoured = false := by
  unfold rootLost
  try dsimp only
  (repeat' split) <;> first | (simp (maxDischargeDepth := 30) +contextual [hw]; done) | with_reducible exact hw

@[simp] theorem raise_clocks (n : Nat) (severe : Bool) (d : BitVec 48) (s : State) (hw : ClocksOk s.clk) : ClocksOk (raise n severe d s).clk := by
  unfold raise
  try dsimp only
  (repeat' split) <;> simp (maxDischargeDepth := 30) +contextual [hw]

@[simp] theorem raise_engine (n : Nat) (severe : Bool) (d : BitVec 48) (s : State) (hw : EngineOk s.pke) : EngineOk (raise n severe d s).pke := by
  unfold raise
  try dsimp only
  (repeat' split) <;> simp (maxDischargeDepth := 30) +contextual [hw]

@[simp] theorem raise_plain (n : Nat) (severe : Bool) (d : BitVec 48) (s : State) (hw : s.mgmt.honoured = false) : (raise n severe d s).mgmt.honoured = false := by
  unfold raise
  try dsimp only
  (repeat' split) <;> first | (simp (maxDischargeDepth := 30) +contextual [hw]; done) | with_reducible exact hw

@[simp] theorem inject_clocks (w : Word) (s : State) (hw : ClocksOk s.clk) : ClocksOk (inject w s).clk := by
  unfold inject
  try dsimp only
  (repeat' split) <;> simp (maxDischargeDepth := 30) +contextual [hw]

@[simp] theorem inject_engine (w : Word) (s : State) (hw : EngineOk s.pke) : EngineOk (inject w s).pke := by
  unfold inject
  try dsimp only
  (repeat' split) <;> simp (maxDischargeDepth := 30) +contextual [hw]

@[simp] theorem inject_plain (w : Word) (s : State) (hw : s.mgmt.honoured = false) : (inject w s).mgmt.honoured = false := by
  unfold inject
  try dsimp only
  (repeat' split) <;> first | (simp (maxDischargeDepth := 30) +contextual [hw]; done) | with_reducible exact hw

@[simp] theorem sluiceWrite_plain (key : Byte) (start : Bool) (s : State) (hw : s.mgmt.honoured = false) : (sluiceWrite key start s).mgmt.honoured = false := by
  unfold sluiceWrite
  try dsimp only
  (repeat' split) <;> first | (simp (maxDischargeDepth := 30) +contextual [hw]; done) | with_reducible exact hw

@[simp] theorem towOp_plain (op : Nat) (mask : Byte) (s : State) (hw : s.mgmt.honoured = false) : (towOp op mask s).mgmt.honoured = false := by
  unfold towOp
  try dsimp only
  (repeat' split) <;> first | (simp (maxDischargeDepth := 30) +contextual [hw]; done) | with_reducible exact hw

theorem control_clocks {off : Nat} {d : Word} {s0 : State} {k c : Nat} {f : State → State} (hc : control off d s0 = some (k, c, f))
    (s : State) (h : ClocksOk s.clk) : ClocksOk (f s).clk := by
  unfold control at hc
  dsimp only at hc
  (repeat' split at hc) <;> simp only [Option.some.injEq, Prod.mk.injEq, reduceCtorEq] at hc <;> obtain ⟨-, -, rfl⟩ := hc
  · simp [h]
  · unfold cfgOp; split <;> simp [h]
  · unfold seqOp; split <;> simp [h]
  · unfold keepOp; split <;> simp [h]
  · simp [h]
  · simp [h]
  · unfold chartOp; split <;> simp [h]
  · unfold portOp; split <;> simp [h]

@[simp] theorem keyWrite_clocks (off : Nat) (d : Word) (s : State) (h : ClocksOk s.clk) : ClocksOk (keyWrite off d s).clk := by
  unfold keyWrite
  dsimp only
  split
  · rename_i hc
    split
    · unfold cmdStart
      split
      · exact control_clocks hc _ (by simp [h])
      · simp [h]
    · exact h
  · (repeat' split) <;> simp [h]

theorem control_engine {off : Nat} {d : Word} {s0 : State} {k c : Nat} {f : State → State} (hc : control off d s0 = some (k, c, f))
    (s : State) (h : EngineOk s.pke) : EngineOk (f s).pke := by
  unfold control at hc
  dsimp only at hc
  (repeat' split at hc) <;> simp only [Option.some.injEq, Prod.mk.injEq, reduceCtorEq] at hc <;> obtain ⟨-, -, rfl⟩ := hc
  · simp [h]
  · unfold cfgOp; split <;> simp [h]
  · unfold seqOp; split <;> simp [h]
  · unfold keepOp; split <;> simp [h]
  · simp [h]
  · simp [h]
  · unfold chartOp; split <;> simp [h]
  · unfold portOp; split <;> simp [h]

@[simp] theorem keyWrite_engine (off : Nat) (d : Word) (s : State) (h : EngineOk s.pke) : EngineOk (keyWrite off d s).pke := by
  unfold keyWrite
  dsimp only
  split
  · rename_i hc
    split
    · unfold cmdStart
      split
      · exact control_engine hc _ (by simp [h])
      · simp [h]
    · exact h
  · (repeat' split) <;> simp [h]

theorem control_plain {off : Nat} {d : Word} {s0 : State} {k c : Nat} {f : State → State} (hc : control off d s0 = some (k, c, f))
    (s : State) (h : s.mgmt.honoured = false) : (f s).mgmt.honoured = false := by
  unfold control at hc
  dsimp only at hc
  (repeat' split at hc) <;> simp only [Option.some.injEq, Prod.mk.injEq, reduceCtorEq] at hc <;> obtain ⟨-, -, rfl⟩ := hc
  · simp [h]
  · unfold cfgOp; split <;> simp [h]
  · unfold seqOp; split <;> simp [h]
  · unfold keepOp; split <;> simp [h]
  · simp [h]
  · simp [h]
  · unfold chartOp; split <;> simp [h]
  · unfold portOp; split <;> simp [h]

@[simp] theorem keyWrite_plain (off : Nat) (d : Word) (s : State) (h : s.mgmt.honoured = false) : (keyWrite off d s).mgmt.honoured = false := by
  unfold keyWrite
  dsimp only
  split
  · rename_i hc
    split
    · unfold cmdStart
      split
      · exact control_plain hc _ (by simp [h])
      · simp [h]
    · exact h
  · (repeat' split) <;> simp [h]

@[simp] theorem sendPending_plain (n : Nat) (s : State) (hw : s.mgmt.honoured = false) : (sendPending n s).mgmt.honoured = false := by
  unfold sendPending
  try dsimp only
  (repeat' split) <;> first | (simp (maxDischargeDepth := 30) +contextual [hw]; done) | with_reducible exact hw

@[simp] theorem msixWrite_plain (k : Nat) (lane : Word) (data : Word) (s : State) (hw : s.mgmt.honoured = false) : (msixWrite k lane data s).mgmt.honoured = false := by
  unfold msixWrite
  try dsimp only
  (repeat' split) <;> first | (simp (maxDischargeDepth := 30) +contextual [hw]; done) | with_reducible exact hw

@[simp] theorem irqWritten_plain (off : Nat) (data : Word) (s : State) (hw : s.mgmt.honoured = false) : (irqWritten off data s).mgmt.honoured = false := by
  unfold irqWritten
  try dsimp only
  (repeat' split) <;> first | (simp (maxDischargeDepth := 30) +contextual [hw]; done) | with_reducible exact hw

@[simp] theorem shutWritten_plain (old : Nat) (s : State) (hw : s.mgmt.honoured = false) : (shutWritten old s).mgmt.honoured = false := by
  unfold shutWritten
  try dsimp only
  (repeat' split) <;> first | (simp (maxDischargeDepth := 30) +contextual [hw]; done) | with_reducible exact hw

@[simp] theorem plainWrite_plain (r : RegInfo) (off : Nat) (lane : Word) (data : Word) (s : State) (hw : s.mgmt.honoured = false) : (plainWrite r off lane data s).mgmt.honoured = false := by
  unfold plainWrite
  try dsimp only
  (repeat' split) <;> first | (simp (maxDischargeDepth := 30) +contextual [hw]; done) | with_reducible exact hw

@[simp] theorem regWrite_clocks (off : Nat) (size : Nat) (d : Word) (s : State) (hw : ClocksOk s.clk) : ClocksOk (regWrite off size d s).clk := by
  unfold regWrite
  try dsimp only
  (repeat' split) <;> simp (maxDischargeDepth := 30) +contextual [hw]

@[simp] theorem regWrite_engine (off : Nat) (size : Nat) (d : Word) (s : State) (hw : EngineOk s.pke) : EngineOk (regWrite off size d s).pke := by
  unfold regWrite
  try dsimp only
  (repeat' split) <;> simp (maxDischargeDepth := 30) +contextual [hw]

@[simp] theorem regWrite_plain (off : Nat) (size : Nat) (d : Word) (s : State) (hw : s.mgmt.honoured = false) : (regWrite off size d s).mgmt.honoured = false := by
  unfold regWrite
  try dsimp only
  (repeat' split) <;> first | (simp (maxDischargeDepth := 30) +contextual [hw]; done) | with_reducible exact hw

@[simp] theorem mgmtWrite_clocks (off : Nat) (size : Nat) (d : Word) (s : State) (hw : ClocksOk s.clk) : ClocksOk (mgmtWrite off size d s).clk := by
  unfold mgmtWrite
  try dsimp only
  (repeat' split) <;> simp (maxDischargeDepth := 30) +contextual [hw]

@[simp] theorem mgmtWrite_engine (off : Nat) (size : Nat) (d : Word) (s : State) (hw : EngineOk s.pke) : EngineOk (mgmtWrite off size d s).pke := by
  unfold mgmtWrite
  try dsimp only
  (repeat' split) <;> simp (maxDischargeDepth := 30) +contextual [hw]

@[simp] theorem mgmtWrite_plain (off : Nat) (size : Nat) (d : Word) (s : State) (hw : s.mgmt.honoured = false) : (mgmtWrite off size d s).mgmt.honoured = false := by
  unfold mgmtWrite
  try dsimp only
  (repeat' split) <;> first | (simp (maxDischargeDepth := 30) +contextual [hw]; done) | with_reducible exact hw

@[simp] theorem fenceEnds_plain (op i : Nat) (s : State) : (fenceEnds op i s).mgmt.honoured = false := by
  unfold fenceEnds
  rfl

@[simp] theorem descriptorIn_clocks (i : Nat) (d : Desc) (s : State) (hw : ClocksOk s.clk) : ClocksOk (descriptorIn i d s).clk := by
  unfold descriptorIn
  try dsimp only
  (repeat' split) <;> simp (maxDischargeDepth := 30) +contextual [hw]

@[simp] theorem descriptorIn_engine (i : Nat) (d : Desc) (s : State) (hw : EngineOk s.pke) : EngineOk (descriptorIn i d s).pke := by
  unfold descriptorIn
  try dsimp only
  (repeat' split) <;> simp (maxDischargeDepth := 30) +contextual [hw]

@[simp] theorem descriptorIn_plain (i : Nat) (d : Desc) (s : State) (hw : s.mgmt.honoured = false) : (descriptorIn i d s).mgmt.honoured = false := by
  unfold descriptorIn
  try dsimp only
  (repeat' split) <;> first | (simp (maxDischargeDepth := 30) +contextual [hw]; done) | with_reducible exact hw

@[simp] theorem confirmed_plain (s : State) (hw : s.mgmt.honoured = false) : (confirmed s).mgmt.honoured = false := by
  unfold confirmed
  try dsimp only
  (repeat' split) <;> first | (simp (maxDischargeDepth := 30) +contextual [hw]; done) | with_reducible exact hw

@[simp] theorem gaugeStep_plain (x : GaugeSample) (s : State) (hw : s.mgmt.honoured = false) : (gaugeStep x s).mgmt.honoured = false := by
  unfold gaugeStep
  try dsimp only
  (repeat' split) <;> first | (simp (maxDischargeDepth := 30) +contextual [hw]; done) | with_reducible exact hw

@[simp] theorem endLoad_plain (cmd : Option Nat) (result : Nat) (s : State) (hw : s.mgmt.honoured = false) : (endLoad cmd result s).mgmt.honoured = false := by
  unfold endLoad
  try dsimp only
  (repeat' split) <;> first | (simp (maxDischargeDepth := 30) +contextual [hw]; done) | with_reducible exact hw

@[simp] theorem safeHarbour_plain (f : ImgFail) (s : State) (hw : s.mgmt.honoured = false) : (safeHarbour f s).mgmt.honoured = false := by
  unfold safeHarbour
  try dsimp only
  (repeat' split) <;> first | (simp (maxDischargeDepth := 30) +contextual [hw]; done) | with_reducible exact hw

@[simp] theorem sealClocks_clocks (s : State) (h : ClocksOk s.clk) : ClocksOk (sealClocks s).clk := by
  unfold sealClocks
  exact clocksOk_same h rfl rfl rfl rfl id

@[simp] theorem sealImage_clocks (b : List Byte) (s : State) (hw : ClocksOk s.clk) : ClocksOk (sealImage b s).clk := by
  unfold sealImage
  try dsimp only
  (repeat' split) <;> simp (maxDischargeDepth := 30) +contextual [hw]

@[simp] theorem sealImage_engine (b : List Byte) (s : State) (hw : EngineOk s.pke) : EngineOk (sealImage b s).pke := by
  unfold sealImage
  try dsimp only
  (repeat' split) <;> simp (maxDischargeDepth := 30) +contextual [hw]

@[simp] theorem imageRead_clocks (b : List Byte) (s : State) (hw : ClocksOk s.clk) : ClocksOk (imageRead b s).clk := by
  unfold imageRead
  try dsimp only
  (repeat' split) <;> simp (maxDischargeDepth := 30) +contextual [hw]

@[simp] theorem imageRead_engine (b : List Byte) (s : State) (hw : EngineOk s.pke) : EngineOk (imageRead b s).pke := by
  unfold imageRead
  try dsimp only
  (repeat' split) <;> simp (maxDischargeDepth := 30) +contextual [hw]

@[simp] theorem imageRead_plain (b : List Byte) (s : State) (hw : s.mgmt.honoured = false) : (imageRead b s).mgmt.honoured = false := by
  unfold imageRead
  try dsimp only
  (repeat' split) <;> first | (simp (maxDischargeDepth := 30) +contextual [hw]; done) | with_reducible exact hw

@[simp] theorem writeRead_plain (n : Nat) (b : List Byte) (s : State) (hw : s.mgmt.honoured = false) : (writeRead n b s).mgmt.honoured = false := by
  unfold writeRead
  try dsimp only
  (repeat' split) <;> first | (simp (maxDischargeDepth := 30) +contextual [hw]; done) | with_reducible exact hw

@[simp] theorem sendDue_plain (n : Nat) (s : State) (hw : s.mgmt.honoured = false) : (sendDue n s).mgmt.honoured = false := by
  unfold sendDue
  try dsimp only
  (repeat' split) <;> first | (simp (maxDischargeDepth := 30) +contextual [hw]; done) | with_reducible exact hw

@[simp] theorem domainUp_clocks (d : Nat) (s : State) (h : ClocksOk s.clk) : ClocksOk (domainUp d s).clk := by
  unfold domainUp
  try dsimp only
  (repeat' split) <;> simp [h]
  exact ⟨h.1, by simp⟩

@[simp] theorem domainUp_engine (d : Nat) (s : State) (hw : EngineOk s.pke) : EngineOk (domainUp d s).pke := by
  unfold domainUp
  try dsimp only
  (repeat' split) <;> simp (maxDischargeDepth := 30) +contextual [hw]

@[simp] theorem domainUp_plain (d : Nat) (s : State) (hw : s.mgmt.honoured = false) : (domainUp d s).mgmt.honoured = false := by
  unfold domainUp
  try dsimp only
  (repeat' split) <;> first | (simp (maxDischargeDepth := 30) +contextual [hw]; done) | with_reducible exact hw

@[simp] theorem checkArrives_clocks (w : BitVec 32) (s : State) (hw : ClocksOk s.clk) : ClocksOk (checkArrives w s).clk := by
  unfold checkArrives
  try dsimp only
  (repeat' split) <;> simp (maxDischargeDepth := 30) +contextual [hw]

@[simp] theorem checkArrives_engine (w : BitVec 32) (s : State) (hw : EngineOk s.pke) : EngineOk (checkArrives w s).pke := by
  unfold checkArrives
  try dsimp only
  (repeat' split) <;> simp (maxDischargeDepth := 30) +contextual [hw]

@[simp] theorem checkArrives_plain (w : BitVec 32) (s : State) (hw : s.mgmt.honoured = false) : (checkArrives w s).mgmt.honoured = false := by
  unfold checkArrives
  try dsimp only
  (repeat' split) <;> first | (simp (maxDischargeDepth := 30) +contextual [hw]; done) | with_reducible exact hw

@[simp] theorem itemArrives_clocks (w : BitVec 32) (s : State) (hw : ClocksOk s.clk) : ClocksOk (itemArrives w s).clk := by
  unfold itemArrives
  try dsimp only
  (repeat' split) <;> simp (maxDischargeDepth := 30) +contextual [hw]

@[simp] theorem itemArrives_engine (w : BitVec 32) (s : State) (hw : EngineOk s.pke) : EngineOk (itemArrives w s).pke := by
  unfold itemArrives
  try dsimp only
  (repeat' split) <;> simp (maxDischargeDepth := 30) +contextual [hw]

@[simp] theorem itemArrives_plain (w : BitVec 32) (s : State) (hw : s.mgmt.honoured = false) : (itemArrives w s).mgmt.honoured = false := by
  unfold itemArrives
  try dsimp only
  (repeat' split) <;> first | (simp (maxDischargeDepth := 30) +contextual [hw]; done) | with_reducible exact hw

@[simp] theorem nextUp_clocks (s : State) (hw : ClocksOk s.clk) : ClocksOk (nextUp s).clk := by
  unfold nextUp
  try dsimp only
  (repeat' split) <;> simp (maxDischargeDepth := 30) +contextual [hw]

@[simp] theorem nextUp_engine (s : State) (hw : EngineOk s.pke) : EngineOk (nextUp s).pke := by
  unfold nextUp
  try dsimp only
  (repeat' split) <;> simp (maxDischargeDepth := 30) +contextual [hw]

@[simp] theorem nextUp_plain (s : State) (hw : s.mgmt.honoured = false) : (nextUp s).mgmt.honoured = false := by
  unfold nextUp
  try dsimp only
  (repeat' split) <;> first | (simp (maxDischargeDepth := 30) +contextual [hw]; done) | with_reducible exact hw

@[simp] theorem sluiceDone_clocks (s : State) (hw : ClocksOk s.clk) : ClocksOk (sluiceDone s).clk := by
  unfold sluiceDone
  try dsimp only
  (repeat' split) <;> simp (maxDischargeDepth := 30) +contextual [hw]

@[simp] theorem sluiceDone_engine (s : State) (hw : EngineOk s.pke) : EngineOk (sluiceDone s).pke := by
  unfold sluiceDone
  try dsimp only
  (repeat' split) <;> simp (maxDischargeDepth := 30) +contextual [hw]

@[simp] theorem sluiceDone_plain (s : State) (hw : s.mgmt.honoured = false) : (sluiceDone s).mgmt.honoured = false := by
  unfold sluiceDone
  try dsimp only
  (repeat' split) <;> first | (simp (maxDischargeDepth := 30) +contextual [hw]; done) | with_reducible exact hw

@[simp] theorem endProgram_clocks (p : Nat) (s : State) (hw : ClocksOk s.clk) : ClocksOk (endProgram p s).clk := by
  unfold endProgram
  try dsimp only
  (repeat' split) <;> simp (maxDischargeDepth := 30) +contextual [hw]

@[simp] theorem endProgram_engine (p : Nat) (s : State) (hw : EngineOk s.pke) : EngineOk (endProgram p s).pke := by
  unfold endProgram
  try dsimp only
  (repeat' split) <;> simp (maxDischargeDepth := 30) +contextual [hw]

@[simp] theorem endProgram_plain (p : Nat) (s : State) (hw : s.mgmt.honoured = false) : (endProgram p s).mgmt.honoured = false := by
  unfold endProgram
  try dsimp only
  (repeat' split) <;> first | (simp (maxDischargeDepth := 30) +contextual [hw]; done) | with_reducible exact hw

@[simp] theorem reportDropped_plain (s : State) (hw : s.mgmt.honoured = false) : (reportDropped s).mgmt.honoured = false := by
  unfold reportDropped
  try dsimp only
  (repeat' split) <;> first | (simp (maxDischargeDepth := 30) +contextual [hw]; done) | with_reducible exact hw

@[simp] theorem takeReading_plain (x : RailReading) (s : State) (hw : s.mgmt.honoured = false) : (takeReading x s).mgmt.honoured = false := by
  unfold takeReading
  try dsimp only
  (repeat' split) <;> first | (simp (maxDischargeDepth := 30) +contextual [hw]; done) | with_reducible exact hw

@[simp] theorem programStart_clocks (s : State) (h : ClocksOk s.clk) : ClocksOk (programStart s).clk := by
  have e : ∀ (c : Clk) (a b : Bool), ClocksOk c → ClocksOk { c with aLock := a, bLock := b, mainSel := false } :=
    fun c a b h => ⟨h.1, by simp⟩
  unfold programStart
  simp [h, e]

@[simp] theorem programStart_plain (s : State) (hw : s.mgmt.honoured = false) : (programStart s).mgmt.honoured = false := by
  unfold programStart
  try dsimp only
  (repeat' split) <;> first | (simp (maxDischargeDepth := 30) +contextual [hw]; done) | with_reducible exact hw

@[simp] theorem chooseImage_plain (s : State) (hw : s.mgmt.honoured = false) : (chooseImage s).mgmt.honoured = false := by
  unfold chooseImage
  try dsimp only
  (repeat' split) <;> first | (simp (maxDischargeDepth := 30) +contextual [hw]; done) | with_reducible exact hw

@[simp] theorem readyNow_plain (s : State) (hw : s.mgmt.honoured = false) : (readyNow s).mgmt.honoured = false := by
  unfold readyNow
  try dsimp only
  (repeat' split) <;> first | (simp (maxDischargeDepth := 30) +contextual [hw]; done) | with_reducible exact hw

@[simp] theorem replyIn_plain (a : Nat) (f : List Byte) (s : State) (hw : s.mgmt.honoured = false) : (replyIn a f s).mgmt.honoured = false := by
  unfold replyIn
  try dsimp only
  (repeat' split) <;> first | (simp (maxDischargeDepth := 30) +contextual [hw]; done) | with_reducible exact hw

@[simp] theorem confirmImage_plain (s : State) (hw : s.mgmt.honoured = false) : (confirmImage s).mgmt.honoured = false := by
  unfold confirmImage
  try dsimp only
  (repeat' split) <;> first | (simp (maxDischargeDepth := 30) +contextual [hw]; done) | with_reducible exact hw

@[simp] theorem portsOff_clocks (s : State) (hw : ClocksOk s.clk) : ClocksOk (portsOff s).clk := by
  unfold portsOff
  try dsimp only
  (repeat' split) <;> simp (maxDischargeDepth := 30) +contextual [hw]

@[simp] theorem portsOff_engine (s : State) (hw : EngineOk s.pke) : EngineOk (portsOff s).pke := by
  unfold portsOff
  try dsimp only
  (repeat' split) <;> simp (maxDischargeDepth := 30) +contextual [hw]

@[simp] theorem portsOff_plain (s : State) (hw : s.mgmt.honoured = false) : (portsOff s).mgmt.honoured = false := by
  unfold portsOff
  try dsimp only
  (repeat' split) <;> first | (simp (maxDischargeDepth := 30) +contextual [hw]; done) | with_reducible exact hw

@[simp] theorem drainBerth_plain (i : Nat) (s : State) (hw : s.mgmt.honoured = false) : (drainBerth i s).mgmt.honoured = false := by
  unfold drainBerth
  try dsimp only
  (repeat' split) <;> first | (simp (maxDischargeDepth := 30) +contextual [hw]; done) | with_reducible exact hw

@[simp] theorem drainLoop_plain (i n : Nat) (s : State) (h : s.mgmt.honoured = false) : (drainLoop i n s).mgmt.honoured = false := by
  induction n generalizing s with
  | zero => exact h
  | succ n ih => unfold drainLoop; split <;> simp [h, ih]

@[simp] theorem sluiceTorn_clocks (s : State) (hw : ClocksOk s.clk) : ClocksOk (sluiceTorn s).clk := by
  unfold sluiceTorn
  try dsimp only
  (repeat' split) <;> simp (maxDischargeDepth := 30) +contextual [hw]

@[simp] theorem sluiceTorn_engine (s : State) (hw : EngineOk s.pke) : EngineOk (sluiceTorn s).pke := by
  unfold sluiceTorn
  try dsimp only
  (repeat' split) <;> simp (maxDischargeDepth := 30) +contextual [hw]

@[simp] theorem sluiceTorn_plain (s : State) (hw : s.mgmt.honoured = false) : (sluiceTorn s).mgmt.honoured = false := by
  unfold sluiceTorn
  try dsimp only
  (repeat' split) <;> first | (simp (maxDischargeDepth := 30) +contextual [hw]; done) | with_reducible exact hw

@[simp] theorem sealNow_clocks (s : State) (hw : ClocksOk s.clk) : ClocksOk (sealNow s).clk := by
  unfold sealNow
  try dsimp only
  (repeat' split) <;> simp (maxDischargeDepth := 30) +contextual [hw]

@[simp] theorem sealNow_engine (s : State) (hw : EngineOk s.pke) : EngineOk (sealNow s).pke := by
  unfold sealNow
  try dsimp only
  (repeat' split) <;> simp (maxDischargeDepth := 30) +contextual [hw]

@[simp] theorem sealNow_plain (s : State) (hw : s.mgmt.honoured = false) : (sealNow s).mgmt.honoured = false := by
  unfold sealNow
  try dsimp only
  (repeat' split) <;> first | (simp (maxDischargeDepth := 30) +contextual [hw]; done) | with_reducible exact hw

@[simp] theorem moduleHere_plain (i : Nat) (serial : BitVec 128) (s : State) (hw : s.mgmt.honoured = false) : (moduleHere i serial s).mgmt.honoured = false := by
  unfold moduleHere
  try dsimp only
  (repeat' split) <;> first | (simp (maxDischargeDepth := 30) +contextual [hw]; done) | with_reducible exact hw

@[simp] theorem pollOne_plain (i : Nat) (a : Option (BitVec 128 × BitVec 8)) (s : State) (hw : s.mgmt.honoured = false) : (pollOne i a s).mgmt.honoured = false := by
  unfold pollOne
  try dsimp only
  (repeat' split) <;> first | (simp (maxDischargeDepth := 30) +contextual [hw]; done) | with_reducible exact hw

theorem clocksOk_reset : ClocksOk State.reset.clk := ⟨by decide, by decide⟩

@[simp] theorem mediumKept_clocks (s : State) : ClocksOk (mediumKept s).clk := by
  unfold mediumKept
  exact clocksOk_reset

@[simp] theorem mediumKept_engine (s : State) : EngineOk (mediumKept s).pke := by
  unfold mediumKept
  exact engineOk_reset

@[simp] theorem mediumKept_plain (s : State) : (mediumKept s).mgmt.honoured = false := by
  unfold mediumKept
  rfl

@[simp] theorem present_plain (p : Nat) (t : Word) (s : State) (hw : s.mgmt.honoured = false) : (present p t s).mgmt.honoured = false := by
  unfold present
  try dsimp only
  (repeat' split) <;> first | (simp (maxDischargeDepth := 30) +contextual [hw]; done) | with_reducible exact hw

end Sys2Proof.Machine
end

