-- ==== Sys2Proof/Laws/Canonical.lean ====
section
/-! SUPPORT. The tables of registers, command status, berths and ports keep their canonical form, function by function. -/

namespace Sys2Proof.Machine

open Sys2Proof Sys2Proof.Safety

/-! regs -/

@[simp] theorem regsWf_tset {t : Tbl Word} (i : Nat) (v : Word) (h : RegsWf t) : RegsWf (tset 0 t i v) := twf_tset i v h

@[simp] theorem regsWf_tmap {t : Tbl Word} (f : Nat → Word → Word) (h : RegsWf t) : RegsWf (tmap 0 f t) := twf_tmap f h

@[simp] theorem regsWf_filter {t : Tbl Word} (p : Nat × Word → Bool) (h : RegsWf t) : RegsWf (t.filter p) := twf_filter p h

@[simp] theorem regsWf_nil : RegsWf [] := rfl

@[simp] theorem regsWf_ite {p : Prop} {_ : Decidable p} {a b : Tbl Word} (h1 : RegsWf a) (h2 : RegsWf b) : RegsWf (if p then a else b) := by
  split <;> assumption

@[simp] theorem forEach_regsWf {α : Type} (l : List α) (f : α → State → State) (s : State)
    (h : ∀ a s, RegsWf s.regs → RegsWf (f a s).regs) (hs : RegsWf s.regs) : RegsWf (forEach l s f).regs :=
  forEach_keeps (P := fun s => RegsWf s.regs) l f h s hs

@[simp] theorem setReg_regsWf (s : State) (off : Nat) (w : Word) (hw : RegsWf s.regs) : RegsWf (State.setReg s off w).regs := by
  exact twf_tset _ _ hw

@[simp] theorem bump_regsWf (s : State) (off : Nat) (hi : Nat) (lo : Nat) (k : Nat) (hw : RegsWf s.regs) : RegsWf (State.bump s off hi lo k).regs := by
  exact twf_tset _ _ hw

@[simp] theorem raiseIrq_regsWf (n : Nat) (s : State) (hw : RegsWf s.regs) : RegsWf (raiseIrq n s).regs := by
  unfold raiseIrq
  try dsimp only
  (repeat' split) <;> simp (maxDischargeDepth := 30) +contextual [hw]

@[simp] theorem queueLog_regsWf (kind : Nat) (source : Nat) (detail : Nat) (first : Bool) (data : List Word) (s : State) (hw : RegsWf s.regs) : RegsWf (queueLog kind source detail first data s).regs := by
  unfold queueLog
  try dsimp only
  (repeat' split) <;> simp (maxDischargeDepth := 30) +contextual [hw]

@[simp] theorem logRec_regsWf (kind : Nat) (source : Nat) (detail : Nat) (data : List Word) (s : State) (hw : RegsWf s.regs) : RegsWf (logRec kind source detail data s).regs := by
  unfold logRec
  try dsimp only
  (repeat' split) <;> simp (maxDischargeDepth := 30) +contextual [hw]

@[simp] theorem towSend_regsWf (cmd : Nat) (mask : Byte) (s : State) (hw : RegsWf s.regs) : RegsWf (towSend cmd mask s).regs := by
  unfold towSend
  try dsimp only
  (repeat' split) <;> simp (maxDischargeDepth := 30) +contextual [hw]

@[simp] theorem groupSluice_regsWf (s : State) (hw : RegsWf s.regs) : RegsWf (groupSluice s).regs := by
  unfold groupSluice
  try dsimp only
  (repeat' split) <;> simp (maxDischargeDepth := 30) +contextual [hw]

@[simp] theorem triggerAgain_regsWf (c : Nat) (s : State) (hw : RegsWf s.regs) : RegsWf (triggerAgain c s).regs := by
  unfold triggerAgain
  try dsimp only
  (repeat' split) <;> simp (maxDischargeDepth := 30) +contextual [hw]

@[simp] theorem setWeir_regsWf (w : WSt) (s : State) (hw : RegsWf s.regs) : RegsWf (setWeir w s).regs := by
  unfold setWeir
  try dsimp only
  (repeat' split) <;> simp (maxDischargeDepth := 30) +contextual [hw]

@[simp] theorem abandonProgram_regsWf (s : State) (hw : RegsWf s.regs) : RegsWf (abandonProgram s).regs := by
  unfold abandonProgram
  try dsimp only
  (repeat' split) <;> simp (maxDischargeDepth := 30) +contextual [hw]

@[simp] theorem startProgram_regsWf (p : Nat) (s : State) (hw : RegsWf s.regs) : RegsWf (startProgram p s).regs := by
  unfold startProgram
  try dsimp only
  (repeat' split) <;> simp (maxDischargeDepth := 30) +contextual [hw]

@[simp] theorem switchProgram_regsWf (p : Nat) (s : State) (hw : RegsWf s.regs) : RegsWf (switchProgram p s).regs := by
  unfold switchProgram
  try dsimp only
  (repeat' split) <;> simp (maxDischargeDepth := 30) +contextual [hw]

@[simp] theorem cmdEnd_regsWf (k : Nat) (result : Nat) (s : State) (hw : RegsWf s.regs) : RegsWf (cmdEnd k result s).regs := by
  unfold cmdEnd
  try dsimp only
  (repeat' split) <;> simp (maxDischargeDepth := 30) +contextual [hw]

@[simp] theorem endGaugeCmd_regsWf (op : Nat) (result : Nat) (s : State) (hw : RegsWf s.regs) : RegsWf (endGaugeCmd op result s).regs := by
  unfold endGaugeCmd
  try dsimp only
  (repeat' split) <;> simp (maxDischargeDepth := 30) +contextual [hw]

@[simp] theorem stopCapTest_regsWf (s : State) (hw : RegsWf s.regs) : RegsWf (stopCapTest s).regs := by
  unfold stopCapTest
  try dsimp only
  (repeat' split) <;> simp (maxDischargeDepth := 30) +contextual [hw]

@[simp] theorem stopCfg_regsWf (s : State) (hw : RegsWf s.regs) : RegsWf (stopCfg s).regs := by
  unfold stopCfg
  try dsimp only
  (repeat' split) <;> simp (maxDischargeDepth := 30) +contextual [hw]

@[simp] theorem triggerAround_regsWf (s : State) (hw : RegsWf s.regs) : RegsWf (triggerAround s).regs := by
  unfold triggerAround
  try dsimp only
  (repeat' split) <;> simp (maxDischargeDepth := 30) +contextual [hw]

@[simp] theorem triggerEarly_regsWf (c : Nat) (s : State) (hw : RegsWf s.regs) : RegsWf (triggerEarly c s).regs := by
  unfold triggerEarly
  try dsimp only
  (repeat' split) <;> simp (maxDischargeDepth := 30) +contextual [hw]

@[simp] theorem refuseProgram_regsWf (k : Nat) (s : State) (hw : RegsWf s.regs) : RegsWf (refuseProgram k s).regs := by
  unfold refuseProgram
  try dsimp only
  (repeat' split) <;> simp (maxDischargeDepth := 30) +contextual [hw]

@[simp] theorem issueNext_regsWf (k : Nat) (s : State) (hw : RegsWf s.regs) : RegsWf (issueNext k s).regs := by
  unfold issueNext
  try dsimp only
  (repeat' split) <;> simp (maxDischargeDepth := 30) +contextual [hw]

theorem formBarge_regsWf {st : Stream} {qs : List Nat} {kind : Nat} {dir : List DirEnt} {id : Option Nat} {s t : State}
    (h : formBarge st qs kind dir id s = some t) (hw : RegsWf s.regs) : RegsWf t.regs := by
  unfold formBarge at h
  rw [Option.map_eq_some_iff] at h
  obtain ⟨⟨k, u⟩, h1, rfl⟩ := h
  have := formRow_frame st qs kind dir id s k u h1
  exact issueNext_regsWf _ _ (by simpa [this] using hw)

@[simp] theorem closeAsm_regsWf (st : Sys2Proof.Stream) (key : Nat) (s : State) (hw : RegsWf s.regs) : RegsWf (closeAsm st key s).regs := by
  have e : RegsWf (s.setAsm key Asm.empty).regs := by simpa using hw
  unfold closeAsm
  dsimp only
  split
  · exact hw
  · split
    · exact hw
    · rename_i t h
      have := formBarge_regsWf h e
      exact this

@[simp] theorem asmAdd_regsWf (st : Sys2Proof.Stream) (key : Nat) (e : DirEnt) (s : State) (hw : RegsWf s.regs) : RegsWf (asmAdd st key e s).regs := by
  unfold asmAdd
  try dsimp only
  (repeat' split) <;> simp (maxDischargeDepth := 30) +contextual [hw]

@[simp] theorem giveUp_regsWf (g : Nat) (dir : List DirEnt) (rebuilt : Bool) (again : Bool) (s : State) (hw : RegsWf s.regs) : RegsWf (giveUp g dir rebuilt again s).regs := by
  unfold giveUp
  dsimp only
  rw [show ∀ t : State, (t.setBarge g Barge.free).regs = t.regs from fun t => by simp]
  refine forEach_regsWf _ _ _ (fun e s hw => ?_) hw
  (repeat' split) <;> simp [hw]

@[simp] theorem dropRow_regsWf (k : Nat) (row : Nat) (rebuilt : Bool) (again : Bool) (s : State) (hw : RegsWf s.regs) : RegsWf (dropRow k row rebuilt again s).regs := by
  unfold dropRow
  try dsimp only
  (repeat' split) <;> simp (maxDischargeDepth := 30) +contextual [hw]

@[simp] theorem dropStreams_regsWf (s : State) (hw : RegsWf s.regs) : RegsWf (dropStreams s).regs := by
  unfold dropStreams
  try dsimp only
  (repeat' split) <;> simp (maxDischargeDepth := 30) +contextual [hw]

@[simp] theorem writeCpl_regsWf (i : Nat) (f : Flight) (c : Cpl) (s : State) (hw : RegsWf s.regs) : RegsWf (writeCpl i f c s).regs := by
  unfold writeCpl
  try dsimp only
  (repeat' split) <;> simp (maxDischargeDepth := 30) +contextual [hw]

@[simp] theorem postLoop_regsWf (i : Nat) (x1 : Nat) (s : State) (hw : RegsWf s.regs) : RegsWf (postLoop i x1 s).regs := by
  induction x1 generalizing s with
  | zero => exact hw
  | succ n ih =>
    unfold postLoop
    try dsimp only
    (repeat' split) <;> first | exact hw | simp (maxDischargeDepth := 30) [hw, ih]

@[simp] theorem postAll_regsWf (i : Nat) (s : State) (hw : RegsWf s.regs) : RegsWf (postAll i s).regs := by
  unfold postAll
  try dsimp only
  (repeat' split) <;> simp (maxDischargeDepth := 30) +contextual [hw]

@[simp] theorem finishFlight_regsWf (i : Nat) (idx : Nat) (c : Cpl) (s : State) (hw : RegsWf s.regs) : RegsWf (finishFlight i idx c s).regs := by
  unfold finishFlight
  try dsimp only
  (repeat' split) <;> simp (maxDischargeDepth := 30) +contextual [hw]

@[simp] theorem endFetch_regsWf (i : Nat) (f : Flight) (d : Desc) (r : Rec) (deferred : Bool) (lost : Bool) (s : State) (hw : RegsWf s.regs) : RegsWf (endFetch i f d r deferred lost s).regs := by
  unfold endFetch
  try dsimp only
  (repeat' split) <;> simp (maxDischargeDepth := 30) +contextual [hw]

@[simp] theorem lineBad_regsWf (l : Line) (s : State) (hw : RegsWf s.regs) : RegsWf (lineBad l s).regs := by
  unfold lineBad
  try dsimp only
  (repeat' split) <;> simp (maxDischargeDepth := 30) +contextual [hw]

@[simp] theorem repairCopy_regsWf (l : Line) (c : Nat) (s : State) (hw : RegsWf s.regs) : RegsWf (repairCopy l c s).regs := by
  unfold repairCopy
  try dsimp only
  (repeat' split) <;> simp (maxDischargeDepth := 30) +contextual [hw]

@[simp] theorem readLine_regsWf (l : Line) (s : State) (hw : RegsWf s.regs) : RegsWf (readLine l s).regs := by
  unfold readLine
  try dsimp only
  (repeat' split) <;> simp (maxDischargeDepth := 30) +contextual [hw]

@[simp] theorem fetchPage_regsWf (i : Nat) (k : Nat) (r : Rec) (s : State) (hw : RegsWf s.regs) : RegsWf (fetchPage i k r s).regs := by
  unfold fetchPage
  try dsimp only
  (repeat' split) <;> simp (maxDischargeDepth := 30) +contextual [hw]

@[simp] theorem doFetch_regsWf (i : Nat) (f : Flight) (d : Desc) (s : State) (hw : RegsWf s.regs) : RegsWf (doFetch i f d s).regs := by
  unfold doFetch
  try dsimp only
  (repeat' split) <;> simp (maxDischargeDepth := 30) +contextual [hw]

@[simp] theorem weirState_regsWf (s : State) (hw : RegsWf s.regs) : RegsWf (weirState s).regs := by
  unfold weirState
  try dsimp only
  (repeat' split) <;> simp (maxDischargeDepth := 30) +contextual [hw]

@[simp] theorem grantPut_regsWf (i : Nat) (f : Flight) (pl : Place) (x : Nat) (s : State) (hw : RegsWf s.regs) : RegsWf (grantPut i f pl x s).regs := by
  unfold grantPut
  try dsimp only
  (repeat' split) <;> simp (maxDischargeDepth := 30) +contextual [hw]

@[simp] theorem grantLoop_regsWf (x0 : List (Nat × Flight)) (x1 : Bool) (x2 : Bool) (s : State) (hw : RegsWf s.regs) : RegsWf (grantLoop x0 x1 x2 s).regs := by
  induction x0 generalizing x1 x2 s with
  | nil => exact hw
  | cons a t ih =>
    unfold grantLoop
    dsimp only
    split <;> simp [hw, ih]

@[simp] theorem grantAll_regsWf (s : State) (hw : RegsWf s.regs) : RegsWf (grantAll s).regs := by
  unfold grantAll
  try dsimp only
  (repeat' split) <;> simp (maxDischargeDepth := 30) +contextual [hw]

@[simp] theorem doPut_regsWf (i : Nat) (f : Flight) (d : Desc) (s : State) (hw : RegsWf s.regs) : RegsWf (doPut i f d s).regs := by
  unfold doPut
  try dsimp only
  (repeat' split) <;> simp (maxDischargeDepth := 30) +contextual [hw]

@[simp] theorem doQuery_regsWf (i : Nat) (f : Flight) (d : Desc) (s : State) (hw : RegsWf s.regs) : RegsWf (doQuery i f d s).regs := by
  unfold doQuery
  try dsimp only
  (repeat' split) <;> simp (maxDischargeDepth := 30) +contextual [hw]

@[simp] theorem doRetire_regsWf (i : Nat) (f : Flight) (d : Desc) (s : State) (hw : RegsWf s.regs) : RegsWf (doRetire i f d s).regs := by
  unfold doRetire
  try dsimp only
  (repeat' split) <;> simp (maxDischargeDepth := 30) +contextual [hw]

@[simp] theorem carryOut_regsWf (i : Nat) (f : Flight) (d : Desc) (s : State) (hw : RegsWf s.regs) : RegsWf (carryOut i f d s).regs := by
  unfold carryOut
  try dsimp only
  (repeat' split) <;> simp (maxDischargeDepth := 30) +contextual [hw]

@[simp] theorem pumpLoop_regsWf (x0 : Nat) (s : State) (hw : RegsWf s.regs) : RegsWf (pumpLoop x0 s).regs := by
  induction x0 generalizing s with
  | zero => exact hw
  | succ n ih =>
    unfold pumpLoop
    try dsimp only
    (repeat' split) <;> first | exact hw | simp (maxDischargeDepth := 30) [hw, ih]

@[simp] theorem pump_regsWf (s : State) (hw : RegsWf s.regs) : RegsWf (pump s).regs := by
  unfold pump
  try dsimp only
  (repeat' split) <;> simp (maxDischargeDepth := 30) +contextual [hw]

@[simp] theorem triggerSluice_regsWf (c : Nat) (s : State) (hw : RegsWf s.regs) : RegsWf (triggerSluice c s).regs := by
  unfold triggerSluice
  try dsimp only
  (repeat' split) <;> simp (maxDischargeDepth := 30) +contextual [hw]

@[simp] theorem trigger_regsWf (c : Nat) (s : State) (hw : RegsWf s.regs) : RegsWf (trigger c s).regs := by
  unfold trigger
  try dsimp only
  (repeat' split) <;> simp (maxDischargeDepth := 30) +contextual [hw]

@[simp] theorem reserveCheck_regsWf (s : State) (hw : RegsWf s.regs) : RegsWf (reserveCheck s).regs := by
  unfold reserveCheck
  try dsimp only
  (repeat' split) <;> simp (maxDischargeDepth := 30) +contextual [hw]

@[simp] theorem acLost_regsWf (s : State) (hw : RegsWf s.regs) : RegsWf (acLost s).regs := by
  unfold acLost
  try dsimp only
  (repeat' split) <;> simp (maxDischargeDepth := 30) +contextual [hw]

@[simp] theorem flyFault_regsWf (cause : Nat) (phase : Nat) (s : State) (hw : RegsWf s.regs) : RegsWf (flyFault cause phase s).regs := by
  unfold flyFault
  try dsimp only
  (repeat' split) <;> simp (maxDischargeDepth := 30) +contextual [hw]

@[simp] theorem flyOff_regsWf (s : State) (hw : RegsWf s.regs) : RegsWf (flyOff s).regs := by
  unfold flyOff
  try dsimp only
  (repeat' split) <;> simp (maxDischargeDepth := 30) +contextual [hw]

@[simp] theorem goOn_regsWf (i : Nat) (s : State) (hw : RegsWf s.regs) : RegsWf (goOn i s).regs := by
  unfold goOn
  try dsimp only
  (repeat' split) <;> simp (maxDischargeDepth := 30) +contextual [hw]

@[simp] theorem quarantine_regsWf (i : Nat) (s : State) (hw : RegsWf s.regs) : RegsWf (quarantine i s).regs := by
  unfold quarantine
  try dsimp only
  (repeat' split) <;> simp (maxDischargeDepth := 30) +contextual [hw]

@[simp] theorem portDown_regsWf (timer : Bool) (p : Nat) (s : State) (hw : RegsWf s.regs) : RegsWf (portDown timer p s).regs := by
  unfold portDown
  try dsimp only
  (repeat' split) <;> simp (maxDischargeDepth := 30) +contextual [hw]

@[simp] theorem clusterOff_regsWf (d : Nat) (s : State) (hw : RegsWf s.regs) : RegsWf (clusterOff d s).regs := by
  unfold clusterOff
  try dsimp only
  (repeat' split) <;> simp (maxDischargeDepth := 30) +contextual [hw]

@[simp] theorem authStop_regsWf (s : State) (hw : RegsWf s.regs) : RegsWf (authStop s).regs := by
  unfold authStop
  try dsimp only
  (repeat' split) <;> simp (maxDischargeDepth := 30) +contextual [hw]

@[simp] theorem clearRegs_regsWf (lo : Nat) (hi : Nat) (s : State) (hw : RegsWf s.regs) : RegsWf (clearRegs lo hi s).regs := by
  unfold clearRegs
  try dsimp only
  (repeat' split) <;> simp (maxDischargeDepth := 30) +contextual [hw]

@[simp] theorem coreReset_regsWf (s : State) (hw : RegsWf s.regs) : RegsWf (coreReset s).regs := by
  have a : RegsWf (authStop s).regs := by simp [hw]
  unfold coreReset
  exact clearRegs_regsWf _ _ _ (clearRegs_regsWf _ _ _ (clearRegs_regsWf _ _ _ (clearRegs_regsWf _ _ _ a)))

@[simp] theorem mgmtReset_regsWf (s : State) (hw : RegsWf s.regs) : RegsWf (mgmtReset s).regs := by
  unfold mgmtReset
  try dsimp only
  (repeat' split) <;> simp (maxDischargeDepth := 30) +contextual [hw]

@[simp] theorem deferBerth_regsWf (i : Nat) (s : State) (hw : RegsWf s.regs) : RegsWf (deferBerth i s).regs := by
  unfold deferBerth
  refine forEach_regsWf _ _ _ (fun e s hw => ?_) hw
  (repeat' split) <;> simp [hw]

@[simp] theorem quadDefer_regsWf (s : State) (hw : RegsWf s.regs) : RegsWf (quadDefer s).regs := by
  unfold quadDefer
  try dsimp only
  (repeat' split) <;> simp (maxDischargeDepth := 30) +contextual [hw]

@[simp] theorem domainOff_regsWf (d : Nat) (s : State) (hw : RegsWf s.regs) : RegsWf (domainOff d s).regs := by
  unfold domainOff
  try dsimp only
  (repeat' split) <;> simp (maxDischargeDepth := 30) +contextual [hw]

@[simp] theorem allDomainsOff_regsWf (s : State) (hw : RegsWf s.regs) : RegsWf (allDomainsOff s).regs := by
  unfold allDomainsOff
  try dsimp only
  (repeat' split) <;> simp (maxDischargeDepth := 30) +contextual [hw]

@[simp] theorem setItem_regsWf (w : BitVec 32) (on : Bool) (s : State) (hw : RegsWf s.regs) : RegsWf (setItem w on s).regs := by
  unfold setItem
  try dsimp only
  (repeat' split) <;> simp (maxDischargeDepth := 30) +contextual [hw]

@[simp] theorem goDown_regsWf (x0 : List (BitVec 32)) (s : State) (hw : RegsWf s.regs) : RegsWf (goDown x0 s).regs := by
  induction x0 generalizing s with
  | nil => unfold goDown; dsimp only; split <;> exact hw
  | cons a t ih => unfold goDown; dsimp only; split <;> simp [hw, ih]

@[simp] theorem domainsDown_regsWf (was : BitVec 24) (s : State) (hw : RegsWf s.regs) : RegsWf (domainsDown was s).regs := by
  unfold domainsDown
  try dsimp only
  (repeat' split) <;> simp (maxDischargeDepth := 30) +contextual [hw]

@[simp] theorem globalReset_regsWf (cause : Nat) (s : State) (hw : RegsWf s.regs) : RegsWf (globalReset cause s).regs := by
  unfold globalReset
  try dsimp only
  (repeat' split) <;> simp (maxDischargeDepth := 30) +contextual [hw]

@[simp] theorem resetRequest_regsWf (cause : Nat) (s : State) (hw : RegsWf s.regs) : RegsWf (resetRequest cause s).regs := by
  unfold resetRequest
  try dsimp only
  (repeat' split) <;> simp (maxDischargeDepth := 30) +contextual [hw]

@[simp] theorem spillTake_regsWf (g : Nat) (x : Nat × Rec × Bool × Nat) (s : State) (hw : RegsWf s.regs) : RegsWf (spillTake g x s).regs := by
  unfold spillTake
  try dsimp only
  (repeat' split) <;> simp (maxDischargeDepth := 30) +contextual [hw]

@[simp] theorem spillLoop_regsWf (x0 : List (Nat × Rec × Bool × Nat)) (x1 : Nat) (s : State) (hw : RegsWf s.regs) : RegsWf (spillLoop x0 x1 s).regs := by
  induction x0 generalizing x1 s with
  | nil => exact hw
  | cons a t ih =>
    unfold spillLoop
    dsimp only
    (repeat' split) <;> simp [hw, ih]

@[simp] theorem spillRun_regsWf (s : State) (hw : RegsWf s.regs) : RegsWf (spillRun s).regs := by
  unfold spillRun
  try dsimp only
  (repeat' split) <;> simp (maxDischargeDepth := 30) +contextual [hw]

@[simp] theorem weirEvent_regsWf (s : State) (hw : RegsWf s.regs) : RegsWf (weirEvent s).regs := by
  unfold weirEvent
  try dsimp only
  (repeat' split) <;> simp (maxDischargeDepth := 30) +contextual [hw]

@[simp] theorem weirEval_regsWf (s : State) (hw : RegsWf s.regs) : RegsWf (weirEval s).regs := by
  unfold weirEval
  try dsimp only
  (repeat' split) <;> simp (maxDischargeDepth := 30) +contextual [hw]

@[simp] theorem channelRetire_regsWf (cause : Nat) (c : Nat) (s : State) (hw : RegsWf s.regs) : RegsWf (channelRetire cause c s).regs := by
  unfold channelRetire
  try dsimp only
  (repeat' split) <;> simp (maxDischargeDepth := 30) +contextual [hw]

@[simp] theorem collModes_regsWf (s : State) (hw : RegsWf s.regs) : RegsWf (collModes s).regs := by
  unfold collModes
  try dsimp only
  (repeat' split) <;> simp (maxDischargeDepth := 30) +contextual [hw]

@[simp] theorem moveRow_regsWf (st : Sys2Proof.Stream) (qs : List Nat) (r : Row) (s : State) (hw : RegsWf s.regs) : RegsWf (moveRow st qs r s).regs := by
  unfold moveRow
  dsimp only
  split
  · rename_i k t h
    have := formRow_frame _ _ _ _ _ _ _ _ h
    exact issueNext_regsWf _ _ (by simpa [this] using hw)
  · exact hw

@[simp] theorem moveOut_regsWf (k : Nat) (s : State) (hw : RegsWf s.regs) : RegsWf (moveOut k s).regs := by
  unfold moveOut
  try dsimp only
  (repeat' split) <;> simp (maxDischargeDepth := 30) +contextual [hw]

@[simp] theorem rewriteRow_regsWf (k : Nat) (row : Nat) (rebuilt : Bool) (s : State) (hw : RegsWf s.regs) : RegsWf (rewriteRow k row rebuilt s).regs := by
  unfold rewriteRow
  try dsimp only
  (repeat' split) <;> simp (maxDischargeDepth := 30) +contextual [hw]

@[simp] theorem sbRewrite_regsWf (gone : BitVec 17) (quad : Bool) (k : Nat) (s : State) (hw : RegsWf s.regs) : RegsWf (sbRewrite gone quad k s).regs := by
  unfold sbRewrite
  try dsimp only
  (repeat' split) <;> simp (maxDischargeDepth := 30) +contextual [hw]

@[simp] theorem sbSluiceLoss_regsWf (gone : BitVec 17) (quad : Bool) (k : Nat) (s : State) (hw : RegsWf s.regs) : RegsWf (sbSluiceLoss gone quad k s).regs := by
  unfold sbSluiceLoss
  try dsimp only
  (repeat' split) <;> simp (maxDischargeDepth := 30) +contextual [hw]

@[simp] theorem sbLoss_regsWf (hit : Nat → Bool) (quad : Bool) (k : Nat) (s : State) (hw : RegsWf s.regs) : RegsWf (sbLoss hit quad k s).regs := by
  unfold sbLoss
  try dsimp only
  (repeat' split) <;> simp (maxDischargeDepth := 30) +contextual [hw]

@[simp] theorem basinLoss_regsWf (hit : Nat → Bool) (quad : Bool) (s : State) (hw : RegsWf s.regs) : RegsWf (basinLoss hit quad s).regs := by
  unfold basinLoss
  try dsimp only
  (repeat' split) <;> simp (maxDischargeDepth := 30) +contextual [hw]

@[simp] theorem dieLost_regsWf (d : Nat) (s : State) (hw : RegsWf s.regs) : RegsWf (dieLost d s).regs := by
  unfold dieLost
  try dsimp only
  (repeat' split) <;> simp (maxDischargeDepth := 30) +contextual [hw]

@[simp] theorem flashChannelLost_regsWf (c : Nat) (s : State) (hw : RegsWf s.regs) : RegsWf (flashChannelLost c s).regs := by
  unfold flashChannelLost
  try dsimp only
  (repeat' split) <;> simp (maxDischargeDepth := 30) +contextual [hw]

@[simp] theorem fencePort_regsWf (reason : Nat) (p : Nat) (s : State) (hw : RegsWf s.regs) : RegsWf (fencePort reason p s).regs := by
  unfold fencePort
  try dsimp only
  (repeat' split) <;> simp (maxDischargeDepth := 30) +contextual [hw]

@[simp] theorem portRetire_regsWf (cause : Nat) (p : Nat) (s : State) (hw : RegsWf s.regs) : RegsWf (portRetire cause p s).regs := by
  unfold portRetire
  try dsimp only
  (repeat' split) <;> simp (maxDischargeDepth := 30) +contextual [hw]

@[simp] theorem domainLost_regsWf (d : Nat) (s : State) (hw : RegsWf s.regs) : RegsWf (domainLost d s).regs := by
  unfold domainLost
  try dsimp only
  (repeat' split) <;> simp (maxDischargeDepth := 30) +contextual [hw]

@[simp] theorem railDomains_regsWf (r : Nat) (s : State) (hw : RegsWf s.regs) : RegsWf (railDomains r s).regs := by
  unfold railDomains
  try dsimp only
  (repeat' split) <;> simp (maxDischargeDepth := 30) +contextual [hw]

@[simp] theorem takeSetOut_regsWf (k : Fin 2) (phase : Nat) (s : State) (hw : RegsWf s.regs) : RegsWf (takeSetOut k phase s).regs := by
  unfold takeSetOut
  try dsimp only
  (repeat' split) <;> simp (maxDischargeDepth := 30) +contextual [hw]

@[simp] theorem halfLost_regsWf (h : Nat) (s : State) (hw : RegsWf s.regs) : RegsWf (halfLost h s).regs := by
  unfold halfLost
  try dsimp only
  (repeat' split) <;> simp (maxDischargeDepth := 30) +contextual [hw]

@[simp] theorem quadLost_regsWf (q : Nat) (s : State) (hw : RegsWf s.regs) : RegsWf (quadLost q s).regs := by
  unfold quadLost
  try dsimp only
  (repeat' split) <;> simp (maxDischargeDepth := 30) +contextual [hw]

@[simp] theorem unitsLost_regsWf (d : Nat) (s : State) (hw : RegsWf s.regs) : RegsWf (unitsLost d s).regs := by
  unfold unitsLost
  refine keeps_ite (P := fun s => RegsWf s.regs) (forEach_regsWf _ _ _ (fun p s hw => by simp [hw]) hw) ?_
  iterate 3 refine keeps_ite (P := fun s => RegsWf s.regs) (by simp [hw]) ?_
  exact hw

@[simp] theorem retireSource_regsWf (n : Nat) (s : State) (hw : RegsWf s.regs) : RegsWf (retireSource n s).regs := by
  unfold retireSource
  iterate 15 refine keeps_ite (P := fun s => RegsWf s.regs) (by simp [hw]) ?_
  simp [hw]

@[simp] theorem weirShut_regsWf (s : State) (hw : RegsWf s.regs) : RegsWf (weirShut s).regs := by
  unfold weirShut
  try dsimp only
  (repeat' split) <;> simp (maxDischargeDepth := 30) +contextual [hw]

@[simp] theorem shutdownBegin_regsWf (graceMs10 : Nat) (s : State) (hw : RegsWf s.regs) : RegsWf (shutdownBegin graceMs10 s).regs := by
  unfold shutdownBegin
  try dsimp only
  (repeat' split) <;> simp (maxDischargeDepth := 30) +contextual [hw]

@[simp] theorem timedBegin_regsWf (r : Nat) (s : State) (hw : RegsWf s.regs) : RegsWf (timedBegin r s).regs := by
  unfold timedBegin
  try dsimp only
  (repeat' split) <;> simp (maxDischargeDepth := 30) +contextual [hw]

@[simp] theorem react_regsWf (mask : Nat) (n : Nat) (detail : BitVec 48) (s : State) (hw : RegsWf s.regs) : RegsWf (react mask n detail s).regs := by
  unfold react
  extract_lets b s1 s2 s3 s4 s5 s6 s7 s8
  have h1 : RegsWf s1.regs := by simp only [s1]; split <;> simp [hw]
  have h2 : RegsWf s2.regs := by simp only [s2]; split <;> simp [h1]
  have h3 : RegsWf s3.regs := by simp only [s3]; split <;> simp [h2]
  have h4 : RegsWf s4.regs := by simp only [s4]; split <;> simp [h3]
  have h5 : RegsWf s5.regs := by simp only [s5]; split <;> simp [h4]
  have h6 : RegsWf s6.regs := by simp only [s6]; (repeat' split) <;> simp [h5]
  have h8 : RegsWf s8.regs := by simp only [s8]; split <;> simp [h6]
  split <;> simp [h8]

@[simp] theorem stopAlive_regsWf (s : State) (hw : RegsWf s.regs) : RegsWf (stopAlive s).regs := by
  unfold stopAlive
  try dsimp only
  (repeat' split) <;> simp (maxDischargeDepth := 30) +contextual [hw]

@[simp] theorem classify_regsWf (n : Nat) (detail : BitVec 48) (line : Bool) (s : State) (hw : RegsWf s.regs) : RegsWf (classify n detail line s).regs := by
  unfold classify
  try dsimp only
  (repeat' split) <;> simp (maxDischargeDepth := 30) +contextual [hw]

@[simp] theorem decideEvent_regsWf (n : Nat) (severe : Bool) (detail : BitVec 48) (line : Bool) (s : State) (hw : RegsWf s.regs) : RegsWf (decideEvent n severe detail line s).regs := by
  unfold decideEvent
  try dsimp only
  (repeat' split) <;> simp (maxDischargeDepth := 30) +contextual [hw]

@[simp] theorem settleLoop_regsWf (x0 : Nat) (s : State) (hw : RegsWf s.regs) : RegsWf (settleLoop x0 s).regs := by
  induction x0 generalizing s with
  | zero => exact hw
  | succ n ih => unfold settleLoop; split <;> simp [hw, ih]

@[simp] theorem settle_regsWf (s : State) (hw : RegsWf s.regs) : RegsWf (settle s).regs := by
  unfold settle
  try dsimp only
  (repeat' split) <;> simp (maxDischargeDepth := 30) +contextual [hw]

@[simp] theorem doAckAlive_regsWf (s : State) (hw : RegsWf s.regs) : RegsWf (doAckAlive s).regs := by
  unfold doAckAlive
  try dsimp only
  (repeat' split) <;> simp (maxDischargeDepth := 30) +contextual [hw]

@[simp] theorem doAckWarn_regsWf (s : State) (hw : RegsWf s.regs) : RegsWf (doAckWarn s).regs := by
  unfold doAckWarn
  try dsimp only
  (repeat' split) <;> simp (maxDischargeDepth := 30) +contextual [hw]

@[simp] theorem aonSequencer_regsWf (s : State) (hw : RegsWf s.regs) : RegsWf (aonSequencer s).regs := by
  unfold aonSequencer
  try dsimp only
  (repeat' split) <;> simp (maxDischargeDepth := 30) +contextual [hw]

@[simp] theorem loadRegs_regsWf (own : Nat → Bool) (l : List (Nat × Word)) (s : State) (hw : RegsWf s.regs) : RegsWf (loadRegs own l s).regs := by
  unfold loadRegs
  refine forEach_regsWf _ _ _ (fun p s hw => setReg_regsWf _ _ _ hw) ?_
  show RegsWf (tmap 0 (fun off w => if own off then w &&& ~~~ rwlOf off else w) s.regs)
  exact regsWf_tmap _ hw

@[simp] theorem gaugeValues_regsWf (l : List (Nat × Word)) (s : State) (hw : RegsWf s.regs) : RegsWf (gaugeValues l s).regs := by
  unfold gaugeValues
  try dsimp only
  (repeat' split) <;> simp (maxDischargeDepth := 30) +contextual [hw]

@[simp] theorem loadKeeper_regsWf (sec : List Byte) (s : State) (hw : RegsWf s.regs) : RegsWf (loadKeeper sec s).regs := by
  unfold loadKeeper
  try dsimp only
  (repeat' split) <;> simp (maxDischargeDepth := 30) +contextual [hw]

@[simp] theorem flyLoaded_regsWf (n : Nat) (s : State) (hw : RegsWf s.regs) : RegsWf (flyLoaded n s).regs := by
  unfold flyLoaded
  try dsimp only
  (repeat' split) <;> simp (maxDischargeDepth := 30) +contextual [hw]

@[simp] theorem loadWindlass_regsWf (sec : List Byte) (s : State) (hw : RegsWf s.regs) : RegsWf (loadWindlass sec s).regs := by
  unfold loadWindlass
  try dsimp only
  (repeat' split) <;> simp (maxDischargeDepth := 30) +contextual [hw]

@[simp] theorem romKeeper_regsWf (s : State) (hw : RegsWf s.regs) : RegsWf (romKeeper s).regs := by
  unfold romKeeper
  try dsimp only
  (repeat' split) <;> simp (maxDischargeDepth := 30) +contextual [hw]

@[simp] theorem aonSections_regsWf (s : State) (hw : RegsWf s.regs) : RegsWf (aonSections s).regs := by
  unfold aonSections
  try dsimp only
  (repeat' split) <;> simp (maxDischargeDepth := 30) +contextual [hw]

@[simp] theorem logStart_regsWf (s : State) (hw : RegsWf s.regs) : RegsWf (logStart s).regs := by
  unfold logStart
  try dsimp only
  (repeat' split) <;> simp (maxDischargeDepth := 30) +contextual [hw]

@[simp] theorem pkeWrite_regsWf (key : Byte) (op : Nat) (gen : Bool) (s : State) (hw : RegsWf s.regs) : RegsWf (pkeWrite key op gen s).regs := by
  unfold pkeWrite
  try dsimp only
  (repeat' split) <;> simp (maxDischargeDepth := 30) +contextual [hw]

@[simp] theorem doAuth_regsWf (i : Nat) (s : State) (hw : RegsWf s.regs) : RegsWf (doAuth i s).regs := by
  unfold doAuth
  try dsimp only
  (repeat' split) <;> simp (maxDischargeDepth := 30) +contextual [hw]

@[simp] theorem authFail_regsWf (i : Nat) (s : State) (hw : RegsWf s.regs) : RegsWf (authFail i s).regs := by
  unfold authFail
  try dsimp only
  (repeat' split) <;> simp (maxDischargeDepth := 30) +contextual [hw]

@[simp] theorem bindModule_regsWf (i : Nat) (d : Identity) (s : State) (hw : RegsWf s.regs) : RegsWf (bindModule i d s).regs := by
  unfold bindModule
  try dsimp only
  (repeat' split) <;> simp (maxDischargeDepth := 30) +contextual [hw]

@[simp] theorem writePages_regsWf (st : Sys2Proof.Stream) (src : Bool) (l : List (Nat × Cpt)) (s : State) (hw : RegsWf s.regs) : RegsWf (writePages st src l s).regs := by
  unfold writePages
  refine forEach_regsWf _ _ _ (fun ps u hw => ?_) hw
  rcases h : formBarge st (quadsUp u) 4 (pageDir src ps u) none u with _ | t
  · exact hw
  · exact formBarge_regsWf h hw

@[simp] theorem writeSegment_regsWf (st : Sys2Proof.Stream) (s : State) (hw : RegsWf s.regs) : RegsWf (writeSegment st s).regs := by
  unfold writeSegment
  dsimp only
  split
  · simp [hw]
  · rename_i h
    have := formRow_frame _ _ _ _ _ _ _ _ h
    exact issueNext_regsWf _ _ (by simpa [this] using writePages_regsWf st false (dirtyPages s) s hw)

@[simp] theorem segmentDue_regsWf (s : State) (hw : RegsWf s.regs) : RegsWf (segmentDue s).regs := by
  unfold segmentDue
  try dsimp only
  (repeat' split) <;> simp (maxDischargeDepth := 30) +contextual [hw]

@[simp] theorem collectRead_regsWf (key : Nat) (cws : List CwRead) (s : State) (hw : RegsWf s.regs) : RegsWf (collectRead key cws s).regs := by
  unfold collectRead
  try dsimp only
  (repeat' split) <;> simp (maxDischargeDepth := 30) +contextual [hw]

@[simp] theorem fetchRead_regsWf (i : Nat) (cws : List CwRead) (s : State) (hw : RegsWf s.regs) : RegsWf (fetchRead i cws s).regs := by
  unfold fetchRead
  try dsimp only
  (repeat' split) <;> simp (maxDischargeDepth := 30) +contextual [hw]

@[simp] theorem issueErase_regsWf (n : Nat) (s : State) (hw : RegsWf s.regs) : RegsWf (issueErase n s).regs := by
  unfold issueErase
  try dsimp only
  (repeat' split) <;> simp (maxDischargeDepth := 30) +contextual [hw]

@[simp] theorem issueErases_regsWf (s : State) (hw : RegsWf s.regs) : RegsWf (issueErases s).regs := by
  unfold issueErases
  try dsimp only
  (repeat' split) <;> simp (maxDischargeDepth := 30) +contextual [hw]

@[simp] theorem moveWaiting_regsWf (s : State) (hw : RegsWf s.regs) : RegsWf (moveWaiting s).regs := by
  unfold moveWaiting
  try dsimp only
  (repeat' split) <;> simp (maxDischargeDepth := 30) +contextual [hw]

@[simp] theorem sweep_regsWf (s : State) (hw : RegsWf s.regs) : RegsWf (sweep s).regs := by
  unfold sweep
  refine forEach_regsWf _ _ _ (fun k s hw => ?_) hw
  beta_reduce
  refine keeps_ite (P := fun s => RegsWf s.regs) hw ?_
  extract_lets b s1 s2 s3 s4
  have h1 : RegsWf s1.regs := forEach_regsWf _ _ _ (fun r s h => by split <;> simp [h]) hw
  have h2 : RegsWf s2.regs := forEach_regsWf _ _ _ (fun r s h => by simp [h]) h1
  have h3 : RegsWf s3.regs := by simp [s3, h2]
  have h4 : RegsWf s4.regs := forEach_regsWf _ _ _ (fun r s h => by split <;> simp [h]) h3
  refine forEach_regsWf _ _ _ (fun r s h => ?_) h4
  dsimp only
  (repeat' split) <;> simp [h]

@[simp] theorem upkeep_regsWf (s : State) (hw : RegsWf s.regs) : RegsWf (upkeep s).regs := by
  unfold upkeep
  try dsimp only
  (repeat' split) <;> simp (maxDischargeDepth := 30) +contextual [hw]

@[simp] theorem clearLatch_regsWf (who : Nat) (s : State) (hw : RegsWf s.regs) : RegsWf (clearLatch who s).regs := by
  unfold clearLatch
  try dsimp only
  (repeat' split) <;> simp (maxDischargeDepth := 30) +contextual [hw]

@[simp] theorem towAct_regsWf (cmd : Nat) (s : State) (hw : RegsWf s.regs) : RegsWf (towAct cmd s).regs := by
  unfold towAct
  try dsimp only
  (repeat' split) <;> simp (maxDischargeDepth := 30) +contextual [hw]

@[simp] theorem beaconIn_regsWf (f : List Byte) (s : State) (hw : RegsWf s.regs) : RegsWf (beaconIn f s).regs := by
  unfold beaconIn
  try dsimp only
  (repeat' split) <;> simp (maxDischargeDepth := 30) +contextual [hw]

@[simp] theorem countMissed_regsWf (s : State) (hw : RegsWf s.regs) : RegsWf (countMissed s).regs := by
  unfold countMissed
  try dsimp only
  (repeat' split) <;> simp (maxDischargeDepth := 30) +contextual [hw]

@[simp] theorem doCharter_regsWf (s : State) (hw : RegsWf s.regs) : RegsWf (doCharter s).regs := by
  unfold doCharter
  try dsimp only
  (repeat' split) <;> simp (maxDischargeDepth := 30) +contextual [hw]

@[simp] theorem doFence_regsWf (s : State) (hw : RegsWf s.regs) : RegsWf (doFence s).regs := by
  unfold doFence
  try dsimp only
  (repeat' split) <;> simp (maxDischargeDepth := 30) +contextual [hw]

@[simp] theorem doModify_regsWf (s : State) (hw : RegsWf s.regs) : RegsWf (doModify s).regs := by
  unfold doModify
  try dsimp only
  (repeat' split) <;> simp (maxDischargeDepth := 30) +contextual [hw]

@[simp] theorem endRecharter_regsWf (i : Nat) (s : State) (hw : RegsWf s.regs) : RegsWf (endRecharter i s).regs := by
  unfold endRecharter
  try dsimp only
  (repeat' split) <;> simp (maxDischargeDepth := 30) +contextual [hw]

@[simp] theorem doRecharter_regsWf (s : State) (hw : RegsWf s.regs) : RegsWf (doRecharter s).regs := by
  unfold doRecharter whenClear
  dsimp only
  (repeat' split) <;> simp [hw]

@[simp] theorem endRelease_regsWf (i : Nat) (s : State) (hw : RegsWf s.regs) : RegsWf (endRelease i s).regs := by
  unfold endRelease
  try dsimp only
  (repeat' split) <;> simp (maxDischargeDepth := 30) +contextual [hw]

@[simp] theorem doRelease_regsWf (s : State) (hw : RegsWf s.regs) : RegsWf (doRelease s).regs := by
  unfold doRelease whenClear
  dsimp only
  (repeat' split) <;> simp [hw]

@[simp] theorem berthCmd_regsWf (op : Nat) (s : State) (hw : RegsWf s.regs) : RegsWf (berthCmd op s).regs := by
  unfold berthCmd
  try dsimp only
  (repeat' split) <;> simp (maxDischargeDepth := 30) +contextual [hw]

@[simp] theorem selectBerth_regsWf (w : Word) (s : State) (hw : RegsWf s.regs) : RegsWf (selectBerth w s).regs := by
  unfold selectBerth
  try dsimp only
  (repeat' split) <;> simp (maxDischargeDepth := 30) +contextual [hw]

@[simp] theorem stageNow_regsWf (off : Nat) (kind : Nat) (w : Word) (s : State) (hw : RegsWf s.regs) : RegsWf (stageNow off kind w s).regs := by
  unfold stageNow
  try dsimp only
  (repeat' split) <;> simp (maxDischargeDepth := 30) +contextual [hw]

theorem formParts_regsWf {st : Stream} (n : Nat) {s t : State} {ps : List (List Nat)} (h : formParts st n s = some (t, ps)) (hw : RegsWf s.regs) :
    RegsWf t.regs := by
  induction n generalizing s ps with
  | zero => cases h; exact hw
  | succ n ih =>
    obtain ⟨u, hu, hv⟩ := Option.bind_eq_some_iff.1 h
    simp only [Option.map_eq_some_iff, Prod.mk.injEq, Prod.exists] at hv
    obtain ⟨a, b, ha, rfl, _⟩ := hv
    exact ih ha (formBarge_regsWf hu hw)

@[simp] theorem writeManifest_regsWf (st : Stream) (m : Manifest) (s : State) (hw : RegsWf s.regs) : RegsWf (writeManifest st m s).regs := by
  unfold writeManifest
  split
  · exact hw
  · rename_i t ps h
    have := formParts_regsWf _ h hw
    exact this

@[simp] theorem openTry_regsWf (s : State) (hw : RegsWf s.regs) : RegsWf (openTry s).regs := by
  unfold openTry
  try dsimp only
  (repeat' split) <;> simp (maxDischargeDepth := 30) +contextual [hw]

@[simp] theorem closeStreams_regsWf (s : State) (hw : RegsWf s.regs) : RegsWf (closeStreams s).regs := by
  unfold closeStreams
  try dsimp only
  (repeat' split) <;> simp (maxDischargeDepth := 30) +contextual [hw]

@[simp] theorem sluicePound_regsWf (s : State) (hw : RegsWf s.regs) : RegsWf (sluicePound s).regs := by
  unfold sluicePound
  refine forEach_regsWf _ _ _ (fun e s hw => ?_) hw
  (repeat' split) <;> simp [hw]

@[simp] theorem flushBack_regsWf (s : State) (hw : RegsWf s.regs) : RegsWf (flushBack s).regs := by
  unfold flushBack
  try dsimp only
  (repeat' split) <;> simp (maxDischargeDepth := 30) +contextual [hw]

@[simp] theorem flushPages_regsWf (s : State) (hw : RegsWf s.regs) : RegsWf (flushPages s).regs := by
  unfold flushPages
  try dsimp only
  (repeat' split) <;> simp (maxDischargeDepth := 30) +contextual [hw]

@[simp] theorem flushSealed_regsWf (s : State) (hw : RegsWf s.regs) : RegsWf (flushSealed s).regs := by
  unfold flushSealed
  try dsimp only
  (repeat' split) <;> simp (maxDischargeDepth := 30) +contextual [hw]

@[simp] theorem flushSegment_regsWf (s : State) (hw : RegsWf s.regs) : RegsWf (flushSegment s).regs := by
  unfold flushSegment
  try dsimp only
  (repeat' split) <;> simp (maxDischargeDepth := 30) +contextual [hw]

@[simp] theorem flushStep_regsWf (s : State) (hw : RegsWf s.regs) : RegsWf (flushStep s).regs := by
  unfold flushStep
  try dsimp only
  (repeat' split) <;> simp (maxDischargeDepth := 30) +contextual [hw]

@[simp] theorem writeOpen_regsWf (s : State) (hw : RegsWf s.regs) : RegsWf (writeOpen s).regs := by
  unfold writeOpen
  try dsimp only
  (repeat' split) <;> simp (maxDischargeDepth := 30) +contextual [hw]

@[simp] theorem sluiceGo_regsWf (s : State) (hw : RegsWf s.regs) : RegsWf (sluiceGo s).regs := by
  unfold sluiceGo
  try dsimp only
  (repeat' split) <;> simp (maxDischargeDepth := 30) +contextual [hw]

@[simp] theorem blankGo_regsWf (s : State) (hw : RegsWf s.regs) : RegsWf (blankGo s).regs := by
  unfold blankGo
  try dsimp only
  (repeat' split) <;> simp (maxDischargeDepth := 30) +contextual [hw]

@[simp] theorem sanEmpty_regsWf (s : State) (hw : RegsWf s.regs) : RegsWf (sanEmpty s).regs := by
  unfold sanEmpty
  try dsimp only
  (repeat' split) <;> simp (maxDischargeDepth := 30) +contextual [hw]

@[simp] theorem sanWear_regsWf (s : State) (hw : RegsWf s.regs) : RegsWf (sanWear s).regs := by
  unfold sanWear
  dsimp only
  split
  · exact hw
  · rename_i h1
    have e1 := sanOpen_frame _ _ _ _ h1
    split
    · exact hw
    · rename_i h2
      have e2 := sanOpen_frame _ _ _ _ h2
      split
      · exact hw
      · rename_i h3
        have e3 := formOn_frame _ _ _ _ _ _ _ h3
        split
        · exact hw
        · rename_i h4
          have e4 := formOn_frame _ _ _ _ _ _ _ h4
          exact issueNext_regsWf _ _ (issueNext_regsWf _ _ (by simpa [e1, e2, e3, e4] using hw))

@[simp] theorem sanGo_regsWf (s : State) (hw : RegsWf s.regs) : RegsWf (sanGo s).regs := by
  unfold sanGo
  try dsimp only
  (repeat' split) <;> simp (maxDischargeDepth := 30) +contextual [hw]

@[simp] theorem overtop_regsWf (s : State) (hw : RegsWf s.regs) : RegsWf (overtop s).regs := by
  unfold overtop
  try dsimp only
  (repeat' split) <;> simp (maxDischargeDepth := 30) +contextual [hw]

@[simp] theorem weirTest_regsWf (s : State) (hw : RegsWf s.regs) : RegsWf (weirTest s).regs := by
  unfold weirTest
  try dsimp only
  (repeat' split) <;> simp (maxDischargeDepth := 30) +contextual [hw]

@[simp] theorem doCapTest_regsWf (s : State) (hw : RegsWf s.regs) : RegsWf (doCapTest s).regs := by
  unfold doCapTest
  try dsimp only
  (repeat' split) <;> simp (maxDischargeDepth := 30) +contextual [hw]

@[simp] theorem doChartDisable_regsWf (s : State) (hw : RegsWf s.regs) : RegsWf (doChartDisable s).regs := by
  unfold doChartDisable
  try dsimp only
  (repeat' split) <;> simp (maxDischargeDepth := 30) +contextual [hw]

@[simp] theorem doChartEnable_regsWf (s : State) (hw : RegsWf s.regs) : RegsWf (doChartEnable s).regs := by
  unfold doChartEnable
  try dsimp only
  (repeat' split) <;> simp (maxDischargeDepth := 30) +contextual [hw]

@[simp] theorem chartPage_regsWf (cpn : Nat) (hit : Bool) (s : State) (hw : RegsWf s.regs) : RegsWf (chartPage cpn hit s).regs := by
  unfold chartPage
  try dsimp only
  (repeat' split) <;> simp (maxDischargeDepth := 30) +contextual [hw]

@[simp] theorem downTurn_regsWf (s : State) (hw : RegsWf s.regs) : RegsWf (downTurn s).regs := by
  unfold downTurn
  try dsimp only
  (repeat' split) <;> simp (maxDischargeDepth := 30) +contextual [hw]

@[simp] theorem resumeWait_regsWf (s : State) (hw : RegsWf s.regs) : RegsWf (resumeWait s).regs := by
  unfold resumeWait
  try dsimp only
  (repeat' split) <;> simp (maxDischargeDepth := 30) +contextual [hw]

@[simp] theorem rowDone_regsWf (k : Nat) (s : State) (hw : RegsWf s.regs) : RegsWf (rowDone k s).regs := by
  unfold rowDone
  try dsimp only
  (repeat' split) <;> simp (maxDischargeDepth := 30) +contextual [hw]

@[simp] theorem chunkDone_regsWf (k : Nat) (j : Nat) (row : Nat) (s : State) (hw : RegsWf s.regs) : RegsWf (chunkDone k j row s).regs := by
  unfold chunkDone
  try dsimp only
  (repeat' split) <;> simp (maxDischargeDepth := 30) +contextual [hw]

@[simp] theorem doClear_regsWf (s : State) (hw : RegsWf s.regs) : RegsWf (doClear s).regs := by
  unfold doClear
  try dsimp only
  (repeat' split) <;> simp (maxDischargeDepth := 30) +contextual [hw]

@[simp] theorem pagesOut_regsWf (st : Sys2Proof.Stream) (k : Nat) (s : State) (hw : RegsWf s.regs) : RegsWf (pagesOut st k s).regs := by
  unfold pagesOut
  try dsimp only
  (repeat' split) <;> simp (maxDischargeDepth := 30) +contextual [hw]

@[simp] theorem takeUp_regsWf (key : Nat) (k : Nat) (wear : Bool) (s : State) (hw : RegsWf s.regs) : RegsWf (takeUp key k wear s).regs := by
  unfold takeUp
  try dsimp only
  (repeat' split) <;> simp (maxDischargeDepth := 30) +contextual [hw]

@[simp] theorem beginMove_regsWf (q : Nat) (victim : Option Nat) (wear : Bool) (s : State) (hw : RegsWf s.regs) : RegsWf (beginMove q victim wear s).regs := by
  unfold beginMove
  try dsimp only
  (repeat' split) <;> simp (maxDischargeDepth := 30) +contextual [hw]

@[simp] theorem moduleGone_regsWf (i : Nat) (s : State) (hw : RegsWf s.regs) : RegsWf (moduleGone i s).regs := by
  unfold moduleGone
  try dsimp only
  (repeat' split) <;> simp (maxDischargeDepth := 30) +contextual [hw]

@[simp] theorem runningFault_regsWf (r : Nat) (s : State) (hw : RegsWf s.regs) : RegsWf (runningFault r s).regs := by
  unfold runningFault
  try dsimp only
  (repeat' split) <;> simp (maxDischargeDepth := 30) +contextual [hw]

@[simp] theorem railDown_regsWf (r : Nat) (s : State) (hw : RegsWf s.regs) : RegsWf (railDown r s).regs := by
  unfold railDown
  try dsimp only
  (repeat' split) <;> simp (maxDischargeDepth := 30) +contextual [hw]

@[simp] theorem tripTerm_regsWf (f : Weir → Weir) (s : State) (hw : RegsWf s.regs) : RegsWf (tripTerm f s).regs := by
  unfold tripTerm
  try dsimp only
  (repeat' split) <;> simp (maxDischargeDepth := 30) +contextual [hw]

@[simp] theorem tripEffect_regsWf (func : Nat) (index : Nat) (src : Nat) (k : Nat) (s : State) (hw : RegsWf s.regs) : RegsWf (tripEffect func index src k s).regs := by
  unfold tripEffect
  try dsimp only
  (repeat' split) <;> simp (maxDischargeDepth := 30) +contextual [hw]

@[simp] theorem imageLog_regsWf (detail : Nat) (data : List Word) (s : State) (hw : RegsWf s.regs) : RegsWf (imageLog detail data s).regs := by
  unfold imageLog
  try dsimp only
  (repeat' split) <;> simp (maxDischargeDepth := 30) +contextual [hw]

@[simp] theorem testFails_regsWf (s : State) (hw : RegsWf s.regs) : RegsWf (testFails s).regs := by
  unfold testFails
  try dsimp only
  (repeat' split) <;> simp (maxDischargeDepth := 30) +contextual [hw]

@[simp] theorem loseSet_regsWf (k : Fin 2) (phase : Nat) (s : State) (hw : RegsWf s.regs) : RegsWf (loseSet k phase s).regs := by
  unfold loseSet
  try dsimp only
  (repeat' split) <;> simp (maxDischargeDepth := 30) +contextual [hw]

@[simp] theorem countRead_regsWf (p : Nat) (why : ReadFail) (s : State) (hw : RegsWf s.regs) : RegsWf (countRead p why s).regs := by
  unfold countRead
  try dsimp only
  (repeat' split) <;> simp (maxDischargeDepth := 30) +contextual [hw]

@[simp] theorem dischargeLate_regsWf (w : BitVec 32) (s : State) (hw : RegsWf s.regs) : RegsWf (dischargeLate w s).regs := by
  unfold dischargeLate
  try dsimp only
  (repeat' split) <;> simp (maxDischargeDepth := 30) +contextual [hw]

@[simp] theorem latchFail_regsWf (w : BitVec 32) (r : Run) (s : State) (hw : RegsWf s.regs) : RegsWf (latchFail w r s).regs := by
  unfold latchFail
  try dsimp only
  (repeat' split) <;> simp (maxDischargeDepth := 30) +contextual [hw]

@[simp] theorem eraseFailed_regsWf (n : Nat) (s : State) (hw : RegsWf s.regs) : RegsWf (eraseFailed n s).regs := by
  unfold eraseFailed
  try dsimp only
  (repeat' split) <;> simp (maxDischargeDepth := 30) +contextual [hw]

@[simp] theorem sanErased_regsWf (die : Nat) (block : Nat) (pass : Bool) (s : State) (hw : RegsWf s.regs) : RegsWf (sanErased die block pass s).regs := by
  unfold sanErased
  try dsimp only
  (repeat' split) <;> simp (maxDischargeDepth := 30) +contextual [hw]

@[simp] theorem sanStep4_regsWf (die : Nat) (block : Nat) (pass : Bool) (s : State) (hw : RegsWf s.regs) : RegsWf (sanStep4 die block pass s).regs := by
  unfold sanStep4
  try dsimp only
  (repeat' split) <;> simp (maxDischargeDepth := 30) +contextual [hw]

@[simp] theorem sanStep6_regsWf (die : Nat) (block : Nat) (pass : Bool) (s : State) (hw : RegsWf s.regs) : RegsWf (sanStep6 die block pass s).regs := by
  unfold sanStep6
  try dsimp only
  (repeat' split) <;> simp (maxDischargeDepth := 30) +contextual [hw]

@[simp] theorem clearRc_regsWf (off : Nat) (s : State) (hw : RegsWf s.regs) : RegsWf (clearRc off s).regs := by
  unfold clearRc
  try dsimp only
  (repeat' split) <;> simp (maxDischargeDepth := 30) +contextual [hw]

@[simp] theorem readSide_regsWf (off : Nat) (s : State) (hw : RegsWf s.regs) : RegsWf (readSide off s).regs := by
  unfold readSide
  try dsimp only
  (repeat' split) <;> simp (maxDischargeDepth := 30) +contextual [hw]

@[simp] theorem mgmtRead_regsWf (off : Nat) (size : Nat) (s : State) (hw : RegsWf s.regs) : RegsWf (mgmtRead off size s).regs := by
  unfold mgmtRead
  try dsimp only
  (repeat' split) <;> simp (maxDischargeDepth := 30) +contextual [hw]

@[simp] theorem loadBegin_regsWf (src : Nat) (cmd : Bool) (s : State) (hw : RegsWf s.regs) : RegsWf (loadBegin src cmd s).regs := by
  unfold loadBegin
  try dsimp only
  (repeat' split) <;> simp (maxDischargeDepth := 30) +contextual [hw]

@[simp] theorem loadSlotNow_regsWf (n : Nat) (cmd : Bool) (s : State) (hw : RegsWf s.regs) : RegsWf (loadSlotNow n cmd s).regs := by
  unfold loadSlotNow
  try dsimp only
  (repeat' split) <;> simp (maxDischargeDepth := 30) +contextual [hw]

@[simp] theorem doLoadSlot_regsWf (n : Nat) (s : State) (hw : RegsWf s.regs) : RegsWf (doLoadSlot n s).regs := by
  unfold doLoadSlot
  try dsimp only
  (repeat' split) <;> simp (maxDischargeDepth := 30) +contextual [hw]

@[simp] theorem doPush_regsWf (s : State) (hw : RegsWf s.regs) : RegsWf (doPush s).regs := by
  unfold doPush
  try dsimp only
  (repeat' split) <;> simp (maxDischargeDepth := 30) +contextual [hw]

@[simp] theorem doSetTrial_regsWf (n : Nat) (s : State) (hw : RegsWf s.regs) : RegsWf (doSetTrial n s).regs := by
  unfold doSetTrial
  try dsimp only
  (repeat' split) <;> simp (maxDischargeDepth := 30) +contextual [hw]

@[simp] theorem writeFails_regsWf (result : Nat) (s : State) (hw : RegsWf s.regs) : RegsWf (writeFails result s).regs := by
  unfold writeFails
  try dsimp only
  (repeat' split) <;> simp (maxDischargeDepth := 30) +contextual [hw]

@[simp] theorem doWriteSlot_regsWf (n : Nat) (s : State) (hw : RegsWf s.regs) : RegsWf (doWriteSlot n s).regs := by
  unfold doWriteSlot
  try dsimp only
  (repeat' split) <;> simp (maxDischargeDepth := 30) +contextual [hw]

@[simp] theorem cfgOp_regsWf (op : Nat) (slot : Nat) (s : State) (hw : RegsWf s.regs) : RegsWf (cfgOp op slot s).regs := by
  unfold cfgOp
  try dsimp only
  (repeat' split) <;> simp (maxDischargeDepth := 30) +contextual [hw]

@[simp] theorem chartOp_regsWf (op : Nat) (s : State) (hw : RegsWf s.regs) : RegsWf (chartOp op s).regs := by
  unfold chartOp
  try dsimp only
  (repeat' split) <;> simp (maxDischargeDepth := 30) +contextual [hw]

@[simp] theorem doLockCycle_regsWf (mode : Nat) (epoch : BitVec 16) (s : State) (hw : RegsWf s.regs) : RegsWf (doLockCycle mode epoch s).regs := by
  unfold doLockCycle
  try dsimp only
  (repeat' split) <;> simp (maxDischargeDepth := 30) +contextual [hw]

@[simp] theorem doForget_regsWf (i : Nat) (s : State) (hw : RegsWf s.regs) : RegsWf (doForget i s).regs := by
  unfold doForget
  try dsimp only
  (repeat' split) <;> simp (maxDischargeDepth := 30) +contextual [hw]

@[simp] theorem doLearnAbort_regsWf (s : State) (hw : RegsWf s.regs) : RegsWf (doLearnAbort s).regs := by
  unfold doLearnAbort
  try dsimp only
  (repeat' split) <;> simp (maxDischargeDepth := 30) +contextual [hw]

@[simp] theorem doLearnStart_regsWf (i : Nat) (ack : Bool) (s : State) (hw : RegsWf s.regs) : RegsWf (doLearnStart i ack s).regs := by
  unfold doLearnStart
  try dsimp only
  (repeat' split) <;> simp (maxDischargeDepth := 30) +contextual [hw]

@[simp] theorem gaugeOp_regsWf (op : Nat) (i : Nat) (s : State) (hw : RegsWf s.regs) : RegsWf (gaugeOp op i s).regs := by
  unfold gaugeOp
  try dsimp only
  (repeat' split) <;> simp (maxDischargeDepth := 30) +contextual [hw]

@[simp] theorem doReset_regsWf (s : State) (hw : RegsWf s.regs) : RegsWf (doReset s).regs := by
  unfold doReset
  try dsimp only
  (repeat' split) <;> simp (maxDischargeDepth := 30) +contextual [hw]

@[simp] theorem glbOp_regsWf (op : Nat) (s : State) (hw : RegsWf s.regs) : RegsWf (glbOp op s).regs := by
  unfold glbOp
  try dsimp only
  (repeat' split) <;> simp (maxDischargeDepth := 30) +contextual [hw]

@[simp] theorem doRestore_regsWf (n : Nat) (s : State) (hw : RegsWf s.regs) : RegsWf (doRestore n s).regs := by
  unfold doRestore
  try dsimp only
  (repeat' split) <;> simp (maxDischargeDepth := 30) +contextual [hw]

@[simp] theorem doRestoreAll_regsWf (s : State) (hw : RegsWf s.regs) : RegsWf (doRestoreAll s).regs := by
  unfold doRestoreAll
  try dsimp only
  (repeat' split) <;> simp (maxDischargeDepth := 30) +contextual [hw]

@[simp] theorem keepOp_regsWf (op : Nat) (src : Nat) (s : State) (hw : RegsWf s.regs) : RegsWf (keepOp op src s).regs := by
  unfold keepOp
  try dsimp only
  (repeat' split) <;> simp (maxDischargeDepth := 30) +contextual [hw]

@[simp] theorem doPortRetire_regsWf (p : Nat) (s : State) (hw : RegsWf s.regs) : RegsWf (doPortRetire p s).regs := by
  unfold doPortRetire
  try dsimp only
  (repeat' split) <;> simp (maxDischargeDepth := 30) +contextual [hw]

@[simp] theorem portOp_regsWf (p : Nat) (op : Nat) (s : State) (hw : RegsWf s.regs) : RegsWf (portOp p op s).regs := by
  unfold portOp
  try dsimp only
  (repeat' split) <;> simp (maxDischargeDepth := 30) +contextual [hw]

@[simp] theorem doRailCmd_regsWf (ack : Bool) (s : State) (hw : RegsWf s.regs) : RegsWf (doRailCmd ack s).regs := by
  unfold doRailCmd
  try dsimp only
  (repeat' split) <;> simp (maxDischargeDepth := 30) +contextual [hw]

@[simp] theorem doRunService_regsWf (s : State) (hw : RegsWf s.regs) : RegsWf (doRunService s).regs := by
  unfold doRunService
  try dsimp only
  (repeat' split) <;> simp (maxDischargeDepth := 30) +contextual [hw]

@[simp] theorem seqOp_regsWf (op : Nat) (s : State) (hw : RegsWf s.regs) : RegsWf (seqOp op s).regs := by
  unfold seqOp
  try dsimp only
  (repeat' split) <;> simp (maxDischargeDepth := 30) +contextual [hw]

@[simp] theorem writeHold_regsWf (hold : Bool) (s : State) (hw : RegsWf s.regs) : RegsWf (writeHold hold s).regs := by
  unfold writeHold
  try dsimp only
  (repeat' split) <;> simp (maxDischargeDepth := 30) +contextual [hw]

@[simp] theorem flyOp_regsWf (hold : Bool) (clear : Bool) (s : State) (hw : RegsWf s.regs) : RegsWf (flyOp hold clear s).regs := by
  unfold flyOp
  try dsimp only
  (repeat' split) <;> simp (maxDischargeDepth := 30) +contextual [hw]

@[simp] theorem lineFaulted_regsWf (n : Nat) (s : State) (hw : RegsWf s.regs) : RegsWf (lineFaulted n s).regs := by
  unfold lineFaulted
  try dsimp only
  (repeat' split) <;> simp (maxDischargeDepth := 30) +contextual [hw]

@[simp] theorem ownEffect_regsWf (n : Nat) (severe : Bool) (d : BitVec 48) (s : State) (hw : RegsWf s.regs) : RegsWf (ownEffect n severe d s).regs := by
  unfold ownEffect
  try dsimp only
  (repeat' split) <;> simp (maxDischargeDepth := 30) +contextual [hw]

@[simp] theorem rootSource_regsWf (s : State) (hw : RegsWf s.regs) : RegsWf (rootSource s).regs := by
  unfold rootSource
  try dsimp only
  (repeat' split) <;> simp (maxDischargeDepth := 30) +contextual [hw]

@[simp] theorem rootLost_regsWf (s : State) (hw : RegsWf s.regs) : RegsWf (rootLost s).regs := by
  unfold rootLost
  try dsimp only
  (repeat' split) <;> simp (maxDischargeDepth := 30) +contextual [hw]

@[simp] theorem raise_regsWf (n : Nat) (severe : Bool) (d : BitVec 48) (s : State) (hw : RegsWf s.regs) : RegsWf (raise n severe d s).regs := by
  unfold raise
  try dsimp only
  (repeat' split) <;> simp (maxDischargeDepth := 30) +contextual [hw]

@[simp] theorem inject_regsWf (w : Word) (s : State) (hw : RegsWf s.regs) : RegsWf (inject w s).regs := by
  unfold inject
  try dsimp only
  (repeat' split) <;> simp (maxDischargeDepth := 30) +contextual [hw]

@[simp] theorem sanBegin_regsWf (s : State) (hw : RegsWf s.regs) : RegsWf (sanBegin s).regs := by
  unfold sanBegin
  try dsimp only
  (repeat' split) <;> simp (maxDischargeDepth := 30) +contextual [hw]

@[simp] theorem sanitizeWrite_regsWf (key : Byte) (start : Bool) (s : State) (hw : RegsWf s.regs) : RegsWf (sanitizeWrite key start s).regs := by
  unfold sanitizeWrite
  try dsimp only
  (repeat' split) <;> simp (maxDischargeDepth := 30) +contextual [hw]

@[simp] theorem sluiceWrite_regsWf (key : Byte) (start : Bool) (s : State) (hw : RegsWf s.regs) : RegsWf (sluiceWrite key start s).regs := by
  unfold sluiceWrite
  try dsimp only
  (repeat' split) <;> simp (maxDischargeDepth := 30) +contextual [hw]

@[simp] theorem towOp_regsWf (op : Nat) (mask : Byte) (s : State) (hw : RegsWf s.regs) : RegsWf (towOp op mask s).regs := by
  unfold towOp
  try dsimp only
  (repeat' split) <;> simp (maxDischargeDepth := 30) +contextual [hw]

theorem control_regsWf {off : Nat} {d : Word} {s0 : State} {k c : Nat} {f : State → State} (hc : control off d s0 = some (k, c, f))
    (s : State) (h : RegsWf s.regs) : RegsWf (f s).regs := by
  unfold control at hc
  dsimp only at hc
  (repeat' split at hc) <;> simp only [Option.some.injEq, Prod.mk.injEq, reduceCtorEq] at hc <;> obtain ⟨-, -, rfl⟩ := hc
  · simp [h]
  · unfold cfgOp; split <;> simp [h]
  · unfold seqOp; split <;> simp [h]
  · unfold keepOp; split <;> simp [h]
  · simp [h]
  · simp [h]
  · unfold chartOp; split <;> simp [h]
  · unfold portOp; split <;> simp [h]

@[simp] theorem keyWrite_regsWf (off : Nat) (d : Word) (s : State) (h : RegsWf s.regs) : RegsWf (keyWrite off d s).regs := by
  unfold keyWrite
  dsimp only
  split
  · rename_i hc
    split
    · unfold cmdStart
      split
      · exact control_regsWf hc _ (by simp [h])
      · simp [h]
    · exact h
  · (repeat' split) <;> simp [h]

@[simp] theorem readLog_regsWf (seq : BitVec 32) (s : State) (hw : RegsWf s.regs) : RegsWf (readLog seq s).regs := by
  unfold readLog
  try dsimp only
  (repeat' split) <;> simp (maxDischargeDepth := 30) +contextual [hw]

@[simp] theorem shutWritten_regsWf (old : Nat) (s : State) (hw : RegsWf s.regs) : RegsWf (shutWritten old s).regs := by
  unfold shutWritten
  try dsimp only
  (repeat' split) <;> simp (maxDischargeDepth := 30) +contextual [hw]

@[simp] theorem writeLinkTarget_regsWf (t : Nat) (s : State) (hw : RegsWf s.regs) : RegsWf (writeLinkTarget t s).regs := by
  unfold writeLinkTarget
  try dsimp only
  (repeat' split) <;> simp (maxDischargeDepth := 30) +contextual [hw]

@[simp] theorem plainWrite_regsWf (r : RegInfo) (off : Nat) (lane : Word) (data : Word) (s : State) (hw : RegsWf s.regs) : RegsWf (plainWrite r off lane data s).regs := by
  unfold plainWrite
  try dsimp only
  (repeat' split) <;> simp (maxDischargeDepth := 30) +contextual [hw]

@[simp] theorem regWrite_regsWf (off : Nat) (size : Nat) (d : Word) (s : State) (hw : RegsWf s.regs) : RegsWf (regWrite off size d s).regs := by
  unfold regWrite
  try dsimp only
  (repeat' split) <;> simp (maxDischargeDepth := 30) +contextual [hw]

@[simp] theorem mgmtWrite_regsWf (off : Nat) (size : Nat) (d : Word) (s : State) (hw : RegsWf s.regs) : RegsWf (mgmtWrite off size d s).regs := by
  unfold mgmtWrite
  try dsimp only
  (repeat' split) <;> simp (maxDischargeDepth := 30) +contextual [hw]

@[simp] theorem fenceEnds_regsWf (op : Nat) (i : Nat) (s : State) (hw : RegsWf s.regs) : RegsWf (fenceEnds op i s).regs := by
  unfold fenceEnds
  try dsimp only
  (repeat' split) <;> simp (maxDischargeDepth := 30) +contextual [hw]

@[simp] theorem descriptorIn_regsWf (i : Nat) (d : Desc) (s : State) (hw : RegsWf s.regs) : RegsWf (descriptorIn i d s).regs := by
  unfold descriptorIn
  try dsimp only
  (repeat' split) <;> simp (maxDischargeDepth := 30) +contextual [hw]

@[simp] theorem sanFromErase_regsWf (s : State) (hw : RegsWf s.regs) : RegsWf (sanFromErase s).regs := by
  unfold sanFromErase
  try dsimp only
  (repeat' split) <;> simp (maxDischargeDepth := 30) +contextual [hw]

@[simp] theorem sanFromWear_regsWf (s : State) (hw : RegsWf s.regs) : RegsWf (sanFromWear s).regs := by
  unfold sanFromWear
  try dsimp only
  (repeat' split) <;> simp (maxDischargeDepth := 30) +contextual [hw]

@[simp] theorem sanResume_regsWf (s : State) (hw : RegsWf s.regs) : RegsWf (sanResume s).regs := by
  unfold sanResume
  try dsimp only
  (repeat' split) <;> simp (maxDischargeDepth := 30) +contextual [hw]

@[simp] theorem mountBasin_regsWf (s : State) (hw : RegsWf s.regs) : RegsWf (mountBasin s).regs := by
  unfold mountBasin
  try dsimp only
  (repeat' split) <;> simp (maxDischargeDepth := 30) +contextual [hw]

@[simp] theorem confirmed_regsWf (s : State) (hw : RegsWf s.regs) : RegsWf (confirmed s).regs := by
  unfold confirmed
  try dsimp only
  (repeat' split) <;> simp (maxDischargeDepth := 30) +contextual [hw]

@[simp] theorem jump_regsWf (i : Nat) (s : State) (hw : RegsWf s.regs) : RegsWf (jump i s).regs := by
  unfold jump
  try dsimp only
  (repeat' split) <;> simp (maxDischargeDepth := 30) +contextual [hw]

@[simp] theorem takeAnchor_regsWf (i : Nat) (s : State) (hw : RegsWf s.regs) : RegsWf (takeAnchor i s).regs := by
  unfold takeAnchor
  try dsimp only
  (repeat' split) <;> simp (maxDischargeDepth := 30) +contextual [hw]

@[simp] theorem takeStaged_regsWf (s : State) (hw : RegsWf s.regs) : RegsWf (takeStaged s).regs := by
  unfold takeStaged
  try dsimp only
  (repeat' split) <;> simp (maxDischargeDepth := 30) +contextual [hw]

@[simp] theorem gaugeStep_regsWf (x : GaugeSample) (s : State) (hw : RegsWf s.regs) : RegsWf (gaugeStep x s).regs := by
  unfold gaugeStep
  try dsimp only
  (repeat' split) <;> simp (maxDischargeDepth := 30) +contextual [hw]

@[simp] theorem linkLost_regsWf (p : Nat) (s : State) (hw : RegsWf s.regs) : RegsWf (linkLost p s).regs := by
  unfold linkLost
  try dsimp only
  (repeat' split) <;> simp (maxDischargeDepth := 30) +contextual [hw]

@[simp] theorem endLoad_regsWf (cmd : Option Nat) (result : Nat) (s : State) (hw : RegsWf s.regs) : RegsWf (endLoad cmd result s).regs := by
  unfold endLoad
  try dsimp only
  (repeat' split) <;> simp (maxDischargeDepth := 30) +contextual [hw]

@[simp] theorem safeHarbour_regsWf (f : ImgFail) (s : State) (hw : RegsWf s.regs) : RegsWf (safeHarbour f s).regs := by
  unfold safeHarbour
  try dsimp only
  (repeat' split) <;> simp (maxDischargeDepth := 30) +contextual [hw]

@[simp] theorem sealImage_regsWf (b : List Byte) (s : State) (hw : RegsWf s.regs) : RegsWf (sealImage b s).regs := by
  unfold sealImage
  try dsimp only
  (repeat' split) <;> simp (maxDischargeDepth := 30) +contextual [hw]

@[simp] theorem imageRead_regsWf (b : List Byte) (s : State) (hw : RegsWf s.regs) : RegsWf (imageRead b s).regs := by
  unfold imageRead
  try dsimp only
  (repeat' split) <;> simp (maxDischargeDepth := 30) +contextual [hw]

@[simp] theorem writeRead_regsWf (n : Nat) (b : List Byte) (s : State) (hw : RegsWf s.regs) : RegsWf (writeRead n b s).regs := by
  unfold writeRead
  try dsimp only
  (repeat' split) <;> simp (maxDischargeDepth := 30) +contextual [hw]

@[simp] theorem sluiceDone_regsWf (s : State) (hw : RegsWf s.regs) : RegsWf (sluiceDone s).regs := by
  unfold sluiceDone
  try dsimp only
  (repeat' split) <;> simp (maxDischargeDepth := 30) +contextual [hw]

@[simp] theorem endProgram_regsWf (p : Nat) (s : State) (hw : RegsWf s.regs) : RegsWf (endProgram p s).regs := by
  unfold endProgram
  try dsimp only
  (repeat' split) <;> simp (maxDischargeDepth := 30) +contextual [hw]

@[simp] theorem reportDropped_regsWf (s : State) (hw : RegsWf s.regs) : RegsWf (reportDropped s).regs := by
  unfold reportDropped
  try dsimp only
  (repeat' split) <;> simp (maxDischargeDepth := 30) +contextual [hw]

@[simp] theorem gaugeOutcome_regsWf (o : POp) (s : State) (hw : RegsWf s.regs) : RegsWf (gaugeOutcome o s).regs := by
  unfold gaugeOutcome
  try dsimp only
  (repeat' split) <;> simp (maxDischargeDepth := 30) +contextual [hw]

@[simp] theorem pkeResult_regsWf (status : Nat) (valid : Bool) (rx : Nat) (ry : Nat) (t : Nat) (s : State) (hw : RegsWf s.regs) : RegsWf (pkeResult status valid rx ry t s).regs := by
  unfold pkeResult
  try dsimp only
  (repeat' split) <;> simp (maxDischargeDepth := 30) +contextual [hw]

@[simp] theorem rackOutcome_regsWf (o : POp) (s : State) (hw : RegsWf s.regs) : RegsWf (rackOutcome o s).regs := by
  unfold rackOutcome
  try dsimp only
  (repeat' split) <;> simp (maxDischargeDepth := 30) +contextual [hw]

@[simp] theorem takeReading_regsWf (x : RailReading) (s : State) (hw : RegsWf s.regs) : RegsWf (takeReading x s).regs := by
  unfold takeReading
  try dsimp only
  (repeat' split) <;> simp (maxDischargeDepth := 30) +contextual [hw]

@[simp] theorem programStart_regsWf (s : State) (hw : RegsWf s.regs) : RegsWf (programStart s).regs := by
  unfold programStart
  try dsimp only
  (repeat' split) <;> simp (maxDischargeDepth := 30) +contextual [hw]

@[simp] theorem moveFrom_regsWf (k : Nat) (row : Nat) (s : State) (hw : RegsWf s.regs) : RegsWf (moveFrom k row s).regs := by
  unfold moveFrom
  try dsimp only
  (repeat' split) <;> simp (maxDischargeDepth := 30) +contextual [hw]

@[simp] theorem programFailed_regsWf (k : Nat) (n : Nat) (row : Nat) (s : State) (hw : RegsWf s.regs) : RegsWf (programFailed k n row s).regs := by
  unfold programFailed
  try dsimp only
  (repeat' split) <;> simp (maxDischargeDepth := 30) +contextual [hw]

@[simp] theorem sanProgramFailed_regsWf (k : Nat) (n : Nat) (s : State) (hw : RegsWf s.regs) : RegsWf (sanProgramFailed k n s).regs := by
  unfold sanProgramFailed
  try dsimp only
  (repeat' split) <;> simp (maxDischargeDepth := 30) +contextual [hw]

@[simp] theorem chooseImage_regsWf (s : State) (hw : RegsWf s.regs) : RegsWf (chooseImage s).regs := by
  unfold chooseImage
  try dsimp only
  (repeat' split) <;> simp (maxDischargeDepth := 30) +contextual [hw]

@[simp] theorem commit_regsWf (i : Nat) (f : Flight) (p : Place) (payload : Nat) (s : State) (hw : RegsWf s.regs) : RegsWf (commit i f p payload s).regs := by
  unfold commit
  try dsimp only
  (repeat' split) <;> simp (maxDischargeDepth := 30) +contextual [hw]

@[simp] theorem readyNow_regsWf (s : State) (hw : RegsWf s.regs) : RegsWf (readyNow s).regs := by
  unfold readyNow
  try dsimp only
  (repeat' split) <;> simp (maxDischargeDepth := 30) +contextual [hw]

@[simp] theorem openRun_regsWf (s : State) (hw : RegsWf s.regs) : RegsWf (openRun s).regs := by
  unfold openRun
  try dsimp only
  (repeat' split) <;> simp (maxDischargeDepth := 30) +contextual [hw]

@[simp] theorem verifyRefloat_regsWf (cws : List (BitVec 20 × Fin 1024 × Fin 17 × Fin 16 × CwRead)) (k : Nat) (s : State) (hw : RegsWf s.regs) : RegsWf (verifyRefloat cws k s).regs := by
  unfold verifyRefloat
  try dsimp only
  (repeat' split) <;> simp (maxDischargeDepth := 30) +contextual [hw]

@[simp] theorem replyIn_regsWf (a : Nat) (f : List Byte) (s : State) (hw : RegsWf s.regs) : RegsWf (replyIn a f s).regs := by
  unfold replyIn
  try dsimp only
  (repeat' split) <;> simp (maxDischargeDepth := 30) +contextual [hw]

@[simp] theorem confirmImage_regsWf (s : State) (hw : RegsWf s.regs) : RegsWf (confirmImage s).regs := by
  unfold confirmImage
  try dsimp only
  (repeat' split) <;> simp (maxDischargeDepth := 30) +contextual [hw]

@[simp] theorem portsOff_regsWf (s : State) (hw : RegsWf s.regs) : RegsWf (portsOff s).regs := by
  unfold portsOff
  try dsimp only
  (repeat' split) <;> simp (maxDischargeDepth := 30) +contextual [hw]

@[simp] theorem drainFlight_regsWf (i : Nat) (f : Flight) (s : State) (hw : RegsWf s.regs) : RegsWf (drainFlight i f s).regs := by
  unfold drainFlight
  try dsimp only
  (repeat' split) <;> simp (maxDischargeDepth := 30) +contextual [hw]

@[simp] theorem drainBerth_regsWf (i : Nat) (s : State) (hw : RegsWf s.regs) : RegsWf (drainBerth i s).regs := by
  unfold drainBerth
  try dsimp only
  (repeat' split) <;> simp (maxDischargeDepth := 30) +contextual [hw]

@[simp] theorem drainLoop_regsWf (i : Nat) (x1 : Nat) (s : State) (hw : RegsWf s.regs) : RegsWf (drainLoop i x1 s).regs := by
  induction x1 generalizing s with
  | zero => exact hw
  | succ n ih =>
    unfold drainLoop
    try dsimp only
    (repeat' split) <;> first | exact hw | simp (maxDischargeDepth := 30) [hw, ih]

@[simp] theorem sluiceTorn_regsWf (s : State) (hw : RegsWf s.regs) : RegsWf (sluiceTorn s).regs := by
  unfold sluiceTorn
  try dsimp only
  (repeat' split) <;> simp (maxDischargeDepth := 30) +contextual [hw]

@[simp] theorem sealNow_regsWf (s : State) (hw : RegsWf s.regs) : RegsWf (sealNow s).regs := by
  unfold sealNow
  try dsimp only
  (repeat' split) <;> simp (maxDischargeDepth := 30) +contextual [hw]

@[simp] theorem moduleHere_regsWf (i : Nat) (serial : BitVec 128) (s : State) (hw : RegsWf s.regs) : RegsWf (moduleHere i serial s).regs := by
  unfold moduleHere
  try dsimp only
  (repeat' split) <;> simp (maxDischargeDepth := 30) +contextual [hw]

@[simp] theorem pollOne_regsWf (i : Nat) (a : Option (BitVec 128 × BitVec 8)) (s : State) (hw : RegsWf s.regs) : RegsWf (pollOne i a s).regs := by
  unfold pollOne
  try dsimp only
  (repeat' split) <;> simp (maxDischargeDepth := 30) +contextual [hw]

@[simp] theorem mediumKept_regsWf (s : State) : RegsWf (mediumKept s).regs := by
  unfold mediumKept
  exact rfl

@[simp] theorem present_regsWf (p : Nat) (t : Word) (s : State) (hw : RegsWf s.regs) : RegsWf (present p t s).regs := by
  unfold present
  try dsimp only
  (repeat' split) <;> simp (maxDischargeDepth := 30) +contextual [hw]

@[simp] theorem readbackFail_regsWf (k : Nat) (row : Nat) (cws : List (Fin 1024 × Fin 17 × Fin 16 × CwRead)) (s : State) (hw : RegsWf s.regs) : RegsWf (readbackFail k row cws s).regs := by
  unfold readbackFail
  try dsimp only
  (repeat' split) <;> simp (maxDischargeDepth := 30) +contextual [hw]

@[simp] theorem sanVerified_regsWf (failed : Bool) (s : State) (hw : RegsWf s.regs) : RegsWf (sanVerified failed s).regs := by
  unfold sanVerified
  try dsimp only
  (repeat' split) <;> simp (maxDischargeDepth := 30) +contextual [hw]

@[simp] theorem fieldsOf_regsWf (b : List Byte) (s : State) (hw : RegsWf s.regs) : RegsWf (fieldsOf b s).regs := by
  unfold fieldsOf
  try dsimp only
  (repeat' split) <;> simp (maxDischargeDepth := 30) +contextual [hw]

/-! cmds -/

@[simp] theorem cmdsWf_tset {t : Tbl CmdSt} (i : Nat) (v : CmdSt) (h : CmdsWf t) : CmdsWf (tset CmdSt.idle t i v) := twf_tset i v h

@[simp] theorem cmdsWf_tmap {t : Tbl CmdSt} (f : Nat → CmdSt → CmdSt) (h : CmdsWf t) : CmdsWf (tmap CmdSt.idle f t) := twf_tmap f h

@[simp] theorem cmdsWf_filter {t : Tbl CmdSt} (p : Nat × CmdSt → Bool) (h : CmdsWf t) : CmdsWf (t.filter p) := twf_filter p h

@[simp] theorem cmdsWf_nil : CmdsWf [] := rfl

@[simp] theorem cmdsWf_ite {p : Prop} {_ : Decidable p} {a b : Tbl CmdSt} (h1 : CmdsWf a) (h2 : CmdsWf b) : CmdsWf (if p then a else b) := by
  split <;> assumption

@[simp] theorem forEach_cmdsWf {α : Type} (l : List α) (f : α → State → State) (s : State)
    (h : ∀ a s, CmdsWf s.cmds → CmdsWf (f a s).cmds) (hs : CmdsWf s.cmds) : CmdsWf (forEach l s f).cmds :=
  forEach_keeps (P := fun s => CmdsWf s.cmds) l f h s hs

@[simp] theorem setCmd_cmdsWf (s : State) (k : Nat) (c : CmdSt) (hw : CmdsWf s.cmds) : CmdsWf (State.setCmd s k c).cmds := by
  exact twf_tset _ _ hw

@[simp] theorem cmdEnd_cmdsWf (k : Nat) (result : Nat) (s : State) (hw : CmdsWf s.cmds) : CmdsWf (cmdEnd k result s).cmds := by
  unfold cmdEnd
  try dsimp only
  (repeat' split) <;> simp (maxDischargeDepth := 30) +contextual [hw]

@[simp] theorem endGaugeCmd_cmdsWf (op : Nat) (result : Nat) (s : State) (hw : CmdsWf s.cmds) : CmdsWf (endGaugeCmd op result s).cmds := by
  unfold endGaugeCmd
  try dsimp only
  (repeat' split) <;> simp (maxDischargeDepth := 30) +contextual [hw]

@[simp] theorem stopCapTest_cmdsWf (s : State) (hw : CmdsWf s.cmds) : CmdsWf (stopCapTest s).cmds := by
  unfold stopCapTest
  try dsimp only
  (repeat' split) <;> simp (maxDischargeDepth := 30) +contextual [hw]

@[simp] theorem stopCfg_cmdsWf (s : State) (hw : CmdsWf s.cmds) : CmdsWf (stopCfg s).cmds := by
  unfold stopCfg
  try dsimp only
  (repeat' split) <;> simp (maxDischargeDepth := 30) +contextual [hw]

@[simp] theorem triggerAround_cmdsWf (s : State) (hw : CmdsWf s.cmds) : CmdsWf (triggerAround s).cmds := by
  unfold triggerAround
  try dsimp only
  (repeat' split) <;> simp (maxDischargeDepth := 30) +contextual [hw]

@[simp] theorem triggerEarly_cmdsWf (c : Nat) (s : State) (hw : CmdsWf s.cmds) : CmdsWf (triggerEarly c s).cmds := by
  unfold triggerEarly
  try dsimp only
  (repeat' split) <;> simp (maxDischargeDepth := 30) +contextual [hw]

@[simp] theorem triggerSluice_cmdsWf (c : Nat) (s : State) (hw : CmdsWf s.cmds) : CmdsWf (triggerSluice c s).cmds := by
  unfold triggerSluice
  try dsimp only
  (repeat' split) <;> simp (maxDischargeDepth := 30) +contextual [hw]

@[simp] theorem trigger_cmdsWf (c : Nat) (s : State) (hw : CmdsWf s.cmds) : CmdsWf (trigger c s).cmds := by
  unfold trigger
  try dsimp only
  (repeat' split) <;> simp (maxDischargeDepth := 30) +contextual [hw]

@[simp] theorem reserveCheck_cmdsWf (s : State) (hw : CmdsWf s.cmds) : CmdsWf (reserveCheck s).cmds := by
  unfold reserveCheck
  try dsimp only
  (repeat' split) <;> simp (maxDischargeDepth := 30) +contextual [hw]

@[simp] theorem acLost_cmdsWf (s : State) (hw : CmdsWf s.cmds) : CmdsWf (acLost s).cmds := by
  unfold acLost
  try dsimp only
  (repeat' split) <;> simp (maxDischargeDepth := 30) +contextual [hw]

@[simp] theorem authStop_cmdsWf (s : State) (hw : CmdsWf s.cmds) : CmdsWf (authStop s).cmds := by
  unfold authStop
  try dsimp only
  (repeat' split) <;> simp (maxDischargeDepth := 30) +contextual [hw]

@[simp] theorem coreReset_cmdsWf (s : State) (hw : CmdsWf s.cmds) : CmdsWf (coreReset s).cmds := by
  unfold coreReset
  dsimp only
  simp [hw]

@[simp] theorem mgmtReset_cmdsWf (s : State) (hw : CmdsWf s.cmds) : CmdsWf (mgmtReset s).cmds := by
  unfold mgmtReset
  try dsimp only
  (repeat' split) <;> simp (maxDischargeDepth := 30) +contextual [hw]

@[simp] theorem domainOff_cmdsWf (d : Nat) (s : State) (hw : CmdsWf s.cmds) : CmdsWf (domainOff d s).cmds := by
  unfold domainOff
  try dsimp only
  (repeat' split) <;> simp (maxDischargeDepth := 30) +contextual [hw]

@[simp] theorem allDomainsOff_cmdsWf (s : State) (hw : CmdsWf s.cmds) : CmdsWf (allDomainsOff s).cmds := by
  unfold allDomainsOff
  try dsimp only
  (repeat' split) <;> simp (maxDischargeDepth := 30) +contextual [hw]

@[simp] theorem setItem_cmdsWf (w : BitVec 32) (on : Bool) (s : State) (hw : CmdsWf s.cmds) : CmdsWf (setItem w on s).cmds := by
  unfold setItem
  try dsimp only
  (repeat' split) <;> simp (maxDischargeDepth := 30) +contextual [hw]

@[simp] theorem goDown_cmdsWf (x0 : List (BitVec 32)) (s : State) (hw : CmdsWf s.cmds) : CmdsWf (goDown x0 s).cmds := by
  induction x0 generalizing s with
  | nil => unfold goDown; dsimp only; split <;> exact hw
  | cons a t ih => unfold goDown; dsimp only; split <;> simp [hw, ih]

@[simp] theorem domainsDown_cmdsWf (was : BitVec 24) (s : State) (hw : CmdsWf s.cmds) : CmdsWf (domainsDown was s).cmds := by
  unfold domainsDown
  try dsimp only
  (repeat' split) <;> simp (maxDischargeDepth := 30) +contextual [hw]

@[simp] theorem globalReset_cmdsWf (cause : Nat) (s : State) (hw : CmdsWf s.cmds) : CmdsWf (globalReset cause s).cmds := by
  unfold globalReset
  try dsimp only
  (repeat' split) <;> simp (maxDischargeDepth := 30) +contextual [hw]

@[simp] theorem resetRequest_cmdsWf (cause : Nat) (s : State) (hw : CmdsWf s.cmds) : CmdsWf (resetRequest cause s).cmds := by
  unfold resetRequest
  try dsimp only
  (repeat' split) <;> simp (maxDischargeDepth := 30) +contextual [hw]

@[simp] theorem railDomains_cmdsWf (r : Nat) (s : State) (hw : CmdsWf s.cmds) : CmdsWf (railDomains r s).cmds := by
  unfold railDomains
  try dsimp only
  (repeat' split) <;> simp (maxDischargeDepth := 30) +contextual [hw]

@[simp] theorem unitsLost_cmdsWf (d : Nat) (s : State) (hw : CmdsWf s.cmds) : CmdsWf (unitsLost d s).cmds := by
  unfold unitsLost
  refine keeps_ite (P := fun s => CmdsWf s.cmds) (forEach_cmdsWf _ _ _ (fun p s hw => by simp [hw]) hw) ?_
  iterate 3 refine keeps_ite (P := fun s => CmdsWf s.cmds) (by simp [hw]) ?_
  exact hw

@[simp] theorem retireSource_cmdsWf (n : Nat) (s : State) (hw : CmdsWf s.cmds) : CmdsWf (retireSource n s).cmds := by
  unfold retireSource
  iterate 15 refine keeps_ite (P := fun s => CmdsWf s.cmds) (by simp [hw]) ?_
  simp [hw]

@[simp] theorem react_cmdsWf (mask : Nat) (n : Nat) (detail : BitVec 48) (s : State) (hw : CmdsWf s.cmds) : CmdsWf (react mask n detail s).cmds := by
  unfold react
  extract_lets b s1 s2 s3 s4 s5 s6 s7 s8
  have h1 : CmdsWf s1.cmds := by simp only [s1]; split <;> simp [hw]
  have h2 : CmdsWf s2.cmds := by simp only [s2]; split <;> simp [h1]
  have h3 : CmdsWf s3.cmds := by simp only [s3]; split <;> simp [h2]
  have h4 : CmdsWf s4.cmds := by simp only [s4]; split <;> simp [h3]
  have h5 : CmdsWf s5.cmds := by simp only [s5]; split <;> simp [h4]
  have h6 : CmdsWf s6.cmds := by simp only [s6]; (repeat' split) <;> simp [h5]
  have h8 : CmdsWf s8.cmds := by simp only [s8]; split <;> simp [h6]
  split <;> simp [h8]

@[simp] theorem classify_cmdsWf (n : Nat) (detail : BitVec 48) (line : Bool) (s : State) (hw : CmdsWf s.cmds) : CmdsWf (classify n detail line s).cmds := by
  unfold classify
  try dsimp only
  (repeat' split) <;> simp (maxDischargeDepth := 30) +contextual [hw]

@[simp] theorem decideEvent_cmdsWf (n : Nat) (severe : Bool) (detail : BitVec 48) (line : Bool) (s : State) (hw : CmdsWf s.cmds) : CmdsWf (decideEvent n severe detail line s).cmds := by
  unfold decideEvent
  try dsimp only
  (repeat' split) <;> simp (maxDischargeDepth := 30) +contextual [hw]

@[simp] theorem settleLoop_cmdsWf (x0 : Nat) (s : State) (hw : CmdsWf s.cmds) : CmdsWf (settleLoop x0 s).cmds := by
  induction x0 generalizing s with
  | zero => exact hw
  | succ n ih => unfold settleLoop; split <;> simp [hw, ih]

@[simp] theorem settle_cmdsWf (s : State) (hw : CmdsWf s.cmds) : CmdsWf (settle s).cmds := by
  unfold settle
  try dsimp only
  (repeat' split) <;> simp (maxDischargeDepth := 30) +contextual [hw]

@[simp] theorem doAckAlive_cmdsWf (s : State) (hw : CmdsWf s.cmds) : CmdsWf (doAckAlive s).cmds := by
  unfold doAckAlive
  try dsimp only
  (repeat' split) <;> simp (maxDischargeDepth := 30) +contextual [hw]

@[simp] theorem cmdTake_cmdsWf (k : Nat) (s : State) (hw : CmdsWf s.cmds) : CmdsWf (cmdTake k s).cmds := by
  unfold cmdTake
  try dsimp only
  (repeat' split) <;> simp (maxDischargeDepth := 30) +contextual [hw]

theorem cmdStart_cmdsWf {k : Nat} {f : State → State} {s : State} (hf : ∀ s, CmdsWf s.cmds → CmdsWf (f s).cmds) (h : CmdsWf s.cmds) :
    CmdsWf (cmdStart k f s).cmds := by
  unfold cmdStart
  split
  · exact hf _ (by simp [h])
  · simp [h]

@[simp] theorem doAckWarn_cmdsWf (s : State) (hw : CmdsWf s.cmds) : CmdsWf (doAckWarn s).cmds := by
  unfold doAckWarn
  try dsimp only
  (repeat' split) <;> simp (maxDischargeDepth := 30) +contextual [hw]

@[simp] theorem doAuth_cmdsWf (i : Nat) (s : State) (hw : CmdsWf s.cmds) : CmdsWf (doAuth i s).cmds := by
  unfold doAuth
  try dsimp only
  (repeat' split) <;> simp (maxDischargeDepth := 30) +contextual [hw]

@[simp] theorem authFail_cmdsWf (i : Nat) (s : State) (hw : CmdsWf s.cmds) : CmdsWf (authFail i s).cmds := by
  unfold authFail
  try dsimp only
  (repeat' split) <;> simp (maxDischargeDepth := 30) +contextual [hw]

@[simp] theorem bindModule_cmdsWf (i : Nat) (d : Identity) (s : State) (hw : CmdsWf s.cmds) : CmdsWf (bindModule i d s).cmds := by
  unfold bindModule
  try dsimp only
  (repeat' split) <;> simp (maxDischargeDepth := 30) +contextual [hw]

@[simp] theorem towAct_cmdsWf (cmd : Nat) (s : State) (hw : CmdsWf s.cmds) : CmdsWf (towAct cmd s).cmds := by
  unfold towAct
  try dsimp only
  (repeat' split) <;> simp (maxDischargeDepth := 30) +contextual [hw]

@[simp] theorem beaconIn_cmdsWf (f : List Byte) (s : State) (hw : CmdsWf s.cmds) : CmdsWf (beaconIn f s).cmds := by
  unfold beaconIn
  try dsimp only
  (repeat' split) <;> simp (maxDischargeDepth := 30) +contextual [hw]

@[simp] theorem doCharter_cmdsWf (s : State) (hw : CmdsWf s.cmds) : CmdsWf (doCharter s).cmds := by
  unfold doCharter
  try dsimp only
  (repeat' split) <;> simp (maxDischargeDepth := 30) +contextual [hw]

@[simp] theorem doFence_cmdsWf (s : State) (hw : CmdsWf s.cmds) : CmdsWf (doFence s).cmds := by
  unfold doFence
  try dsimp only
  (repeat' split) <;> simp (maxDischargeDepth := 30) +contextual [hw]

@[simp] theorem doModify_cmdsWf (s : State) (hw : CmdsWf s.cmds) : CmdsWf (doModify s).cmds := by
  unfold doModify
  try dsimp only
  (repeat' split) <;> simp (maxDischargeDepth := 30) +contextual [hw]

@[simp] theorem endRecharter_cmdsWf (i : Nat) (s : State) (hw : CmdsWf s.cmds) : CmdsWf (endRecharter i s).cmds := by
  unfold endRecharter
  try dsimp only
  (repeat' split) <;> simp (maxDischargeDepth := 30) +contextual [hw]

@[simp] theorem doRecharter_cmdsWf (s : State) (hw : CmdsWf s.cmds) : CmdsWf (doRecharter s).cmds := by
  unfold doRecharter whenClear
  dsimp only
  (repeat' split) <;> simp [hw]

@[simp] theorem endRelease_cmdsWf (i : Nat) (s : State) (hw : CmdsWf s.cmds) : CmdsWf (endRelease i s).cmds := by
  unfold endRelease
  try dsimp only
  (repeat' split) <;> simp (maxDischargeDepth := 30) +contextual [hw]

@[simp] theorem doRelease_cmdsWf (s : State) (hw : CmdsWf s.cmds) : CmdsWf (doRelease s).cmds := by
  unfold doRelease whenClear
  dsimp only
  (repeat' split) <;> simp [hw]

@[simp] theorem berthCmd_cmdsWf (op : Nat) (s : State) (hw : CmdsWf s.cmds) : CmdsWf (berthCmd op s).cmds := by
  unfold berthCmd
  try dsimp only
  (repeat' split) <;> simp (maxDischargeDepth := 30) +contextual [hw]

@[simp] theorem stageNow_cmdsWf (off : Nat) (kind : Nat) (w : Word) (s : State) (hw : CmdsWf s.cmds) : CmdsWf (stageNow off kind w s).cmds := by
  unfold stageNow
  try dsimp only
  (repeat' split) <;> simp (maxDischargeDepth := 30) +contextual [hw]

@[simp] theorem overtop_cmdsWf (s : State) (hw : CmdsWf s.cmds) : CmdsWf (overtop s).cmds := by
  unfold overtop
  try dsimp only
  (repeat' split) <;> simp (maxDischargeDepth := 30) +contextual [hw]

@[simp] theorem weirTest_cmdsWf (s : State) (hw : CmdsWf s.cmds) : CmdsWf (weirTest s).cmds := by
  unfold weirTest
  try dsimp only
  (repeat' split) <;> simp (maxDischargeDepth := 30) +contextual [hw]

@[simp] theorem doCapTest_cmdsWf (s : State) (hw : CmdsWf s.cmds) : CmdsWf (doCapTest s).cmds := by
  unfold doCapTest
  try dsimp only
  (repeat' split) <;> simp (maxDischargeDepth := 30) +contextual [hw]

@[simp] theorem doChartDisable_cmdsWf (s : State) (hw : CmdsWf s.cmds) : CmdsWf (doChartDisable s).cmds := by
  unfold doChartDisable
  try dsimp only
  (repeat' split) <;> simp (maxDischargeDepth := 30) +contextual [hw]

@[simp] theorem doChartEnable_cmdsWf (s : State) (hw : CmdsWf s.cmds) : CmdsWf (doChartEnable s).cmds := by
  unfold doChartEnable
  try dsimp only
  (repeat' split) <;> simp (maxDischargeDepth := 30) +contextual [hw]

@[simp] theorem downTurn_cmdsWf (s : State) (hw : CmdsWf s.cmds) : CmdsWf (downTurn s).cmds := by
  unfold downTurn
  try dsimp only
  (repeat' split) <;> simp (maxDischargeDepth := 30) +contextual [hw]

@[simp] theorem resumeWait_cmdsWf (s : State) (hw : CmdsWf s.cmds) : CmdsWf (resumeWait s).cmds := by
  unfold resumeWait
  try dsimp only
  (repeat' split) <;> simp (maxDischargeDepth := 30) +contextual [hw]

@[simp] theorem doClear_cmdsWf (s : State) (hw : CmdsWf s.cmds) : CmdsWf (doClear s).cmds := by
  unfold doClear
  try dsimp only
  (repeat' split) <;> simp (maxDischargeDepth := 30) +contextual [hw]

@[simp] theorem moduleGone_cmdsWf (i : Nat) (s : State) (hw : CmdsWf s.cmds) : CmdsWf (moduleGone i s).cmds := by
  unfold moduleGone
  try dsimp only
  (repeat' split) <;> simp (maxDischargeDepth := 30) +contextual [hw]

@[simp] theorem tripTerm_cmdsWf (f : Weir → Weir) (s : State) (hw : CmdsWf s.cmds) : CmdsWf (tripTerm f s).cmds := by
  unfold tripTerm
  try dsimp only
  (repeat' split) <;> simp (maxDischargeDepth := 30) +contextual [hw]

@[simp] theorem tripEffect_cmdsWf (func : Nat) (index : Nat) (src : Nat) (k : Nat) (s : State) (hw : CmdsWf s.cmds) : CmdsWf (tripEffect func index src k s).cmds := by
  unfold tripEffect
  try dsimp only
  (repeat' split) <;> simp (maxDischargeDepth := 30) +contextual [hw]

@[simp] theorem testFails_cmdsWf (s : State) (hw : CmdsWf s.cmds) : CmdsWf (testFails s).cmds := by
  unfold testFails
  try dsimp only
  (repeat' split) <;> simp (maxDischargeDepth := 30) +contextual [hw]

@[simp] theorem latchFail_cmdsWf (w : BitVec 32) (r : Run) (s : State) (hw : CmdsWf s.cmds) : CmdsWf (latchFail w r s).cmds := by
  unfold latchFail
  try dsimp only
  (repeat' split) <;> simp (maxDischargeDepth := 30) +contextual [hw]

@[simp] theorem doLoadSlot_cmdsWf (n : Nat) (s : State) (hw : CmdsWf s.cmds) : CmdsWf (doLoadSlot n s).cmds := by
  unfold doLoadSlot
  try dsimp only
  (repeat' split) <;> simp (maxDischargeDepth := 30) +contextual [hw]

@[simp] theorem doPush_cmdsWf (s : State) (hw : CmdsWf s.cmds) : CmdsWf (doPush s).cmds := by
  unfold doPush
  try dsimp only
  (repeat' split) <;> simp (maxDischargeDepth := 30) +contextual [hw]

@[simp] theorem doSetTrial_cmdsWf (n : Nat) (s : State) (hw : CmdsWf s.cmds) : CmdsWf (doSetTrial n s).cmds := by
  unfold doSetTrial
  try dsimp only
  (repeat' split) <;> simp (maxDischargeDepth := 30) +contextual [hw]

@[simp] theorem writeFails_cmdsWf (result : Nat) (s : State) (hw : CmdsWf s.cmds) : CmdsWf (writeFails result s).cmds := by
  unfold writeFails
  try dsimp only
  (repeat' split) <;> simp (maxDischargeDepth := 30) +contextual [hw]

@[simp] theorem doWriteSlot_cmdsWf (n : Nat) (s : State) (hw : CmdsWf s.cmds) : CmdsWf (doWriteSlot n s).cmds := by
  unfold doWriteSlot
  try dsimp only
  (repeat' split) <;> simp (maxDischargeDepth := 30) +contextual [hw]

@[simp] theorem cfgOp_cmdsWf (op : Nat) (slot : Nat) (s : State) (hw : CmdsWf s.cmds) : CmdsWf (cfgOp op slot s).cmds := by
  unfold cfgOp
  try dsimp only
  (repeat' split) <;> simp (maxDischargeDepth := 30) +contextual [hw]

@[simp] theorem chartOp_cmdsWf (op : Nat) (s : State) (hw : CmdsWf s.cmds) : CmdsWf (chartOp op s).cmds := by
  unfold chartOp
  try dsimp only
  (repeat' split) <;> simp (maxDischargeDepth := 30) +contextual [hw]

@[simp] theorem doLockCycle_cmdsWf (mode : Nat) (epoch : BitVec 16) (s : State) (hw : CmdsWf s.cmds) : CmdsWf (doLockCycle mode epoch s).cmds := by
  unfold doLockCycle
  try dsimp only
  (repeat' split) <;> simp (maxDischargeDepth := 30) +contextual [hw]

@[simp] theorem doForget_cmdsWf (i : Nat) (s : State) (hw : CmdsWf s.cmds) : CmdsWf (doForget i s).cmds := by
  unfold doForget
  try dsimp only
  (repeat' split) <;> simp (maxDischargeDepth := 30) +contextual [hw]

@[simp] theorem doLearnAbort_cmdsWf (s : State) (hw : CmdsWf s.cmds) : CmdsWf (doLearnAbort s).cmds := by
  unfold doLearnAbort
  try dsimp only
  (repeat' split) <;> simp (maxDischargeDepth := 30) +contextual [hw]

@[simp] theorem doLearnStart_cmdsWf (i : Nat) (ack : Bool) (s : State) (hw : CmdsWf s.cmds) : CmdsWf (doLearnStart i ack s).cmds := by
  unfold doLearnStart
  try dsimp only
  (repeat' split) <;> simp (maxDischargeDepth := 30) +contextual [hw]

@[simp] theorem gaugeOp_cmdsWf (op : Nat) (i : Nat) (s : State) (hw : CmdsWf s.cmds) : CmdsWf (gaugeOp op i s).cmds := by
  unfold gaugeOp
  try dsimp only
  (repeat' split) <;> simp (maxDischargeDepth := 30) +contextual [hw]

@[simp] theorem doReset_cmdsWf (s : State) (hw : CmdsWf s.cmds) : CmdsWf (doReset s).cmds := by
  unfold doReset
  try dsimp only
  (repeat' split) <;> simp (maxDischargeDepth := 30) +contextual [hw]

@[simp] theorem glbOp_cmdsWf (op : Nat) (s : State) (hw : CmdsWf s.cmds) : CmdsWf (glbOp op s).cmds := by
  unfold glbOp
  try dsimp only
  (repeat' split) <;> simp (maxDischargeDepth := 30) +contextual [hw]

@[simp] theorem doRestore_cmdsWf (n : Nat) (s : State) (hw : CmdsWf s.cmds) : CmdsWf (doRestore n s).cmds := by
  unfold doRestore
  try dsimp only
  (repeat' split) <;> simp (maxDischargeDepth := 30) +contextual [hw]

@[simp] theorem doRestoreAll_cmdsWf (s : State) (hw : CmdsWf s.cmds) : CmdsWf (doRestoreAll s).cmds := by
  unfold doRestoreAll
  try dsimp only
  (repeat' split) <;> simp (maxDischargeDepth := 30) +contextual [hw]

@[simp] theorem keepOp_cmdsWf (op : Nat) (src : Nat) (s : State) (hw : CmdsWf s.cmds) : CmdsWf (keepOp op src s).cmds := by
  unfold keepOp
  try dsimp only
  (repeat' split) <;> simp (maxDischargeDepth := 30) +contextual [hw]

@[simp] theorem doPortRetire_cmdsWf (p : Nat) (s : State) (hw : CmdsWf s.cmds) : CmdsWf (doPortRetire p s).cmds := by
  unfold doPortRetire
  try dsimp only
  (repeat' split) <;> simp (maxDischargeDepth := 30) +contextual [hw]

@[simp] theorem portOp_cmdsWf (p : Nat) (op : Nat) (s : State) (hw : CmdsWf s.cmds) : CmdsWf (portOp p op s).cmds := by
  unfold portOp
  try dsimp only
  (repeat' split) <;> simp (maxDischargeDepth := 30) +contextual [hw]

@[simp] theorem doRailCmd_cmdsWf (ack : Bool) (s : State) (hw : CmdsWf s.cmds) : CmdsWf (doRailCmd ack s).cmds := by
  unfold doRailCmd
  try dsimp only
  (repeat' split) <;> simp (maxDischargeDepth := 30) +contextual [hw]

@[simp] theorem doRunService_cmdsWf (s : State) (hw : CmdsWf s.cmds) : CmdsWf (doRunService s).cmds := by
  unfold doRunService
  try dsimp only
  (repeat' split) <;> simp (maxDischargeDepth := 30) +contextual [hw]

@[simp] theorem seqOp_cmdsWf (op : Nat) (s : State) (hw : CmdsWf s.cmds) : CmdsWf (seqOp op s).cmds := by
  unfold seqOp
  try dsimp only
  (repeat' split) <;> simp (maxDischargeDepth := 30) +contextual [hw]

@[simp] theorem lineFaulted_cmdsWf (n : Nat) (s : State) (hw : CmdsWf s.cmds) : CmdsWf (lineFaulted n s).cmds := by
  unfold lineFaulted
  try dsimp only
  (repeat' split) <;> simp (maxDischargeDepth := 30) +contextual [hw]

@[simp] theorem rootLost_cmdsWf (s : State) (hw : CmdsWf s.cmds) : CmdsWf (rootLost s).cmds := by
  unfold rootLost
  try dsimp only
  (repeat' split) <;> simp (maxDischargeDepth := 30) +contextual [hw]

@[simp] theorem raise_cmdsWf (n : Nat) (severe : Bool) (d : BitVec 48) (s : State) (hw : CmdsWf s.cmds) : CmdsWf (raise n severe d s).cmds := by
  unfold raise
  try dsimp only
  (repeat' split) <;> simp (maxDischargeDepth := 30) +contextual [hw]

@[simp] theorem inject_cmdsWf (w : Word) (s : State) (hw : CmdsWf s.cmds) : CmdsWf (inject w s).cmds := by
  unfold inject
  try dsimp only
  (repeat' split) <;> simp (maxDischargeDepth := 30) +contextual [hw]

@[simp] theorem sluiceWrite_cmdsWf (key : Byte) (start : Bool) (s : State) (hw : CmdsWf s.cmds) : CmdsWf (sluiceWrite key start s).cmds := by
  unfold sluiceWrite
  try dsimp only
  (repeat' split) <;> simp (maxDischargeDepth := 30) +contextual [hw]

theorem control_cmdsWf {off : Nat} {d : Word} {s0 : State} {k c : Nat} {f : State → State} (hc : control off d s0 = some (k, c, f))
    (s : State) (h : CmdsWf s.cmds) : CmdsWf (f s).cmds := by
  unfold control at hc
  dsimp only at hc
  (repeat' split at hc) <;> simp only [Option.some.injEq, Prod.mk.injEq, reduceCtorEq] at hc <;> obtain ⟨-, -, rfl⟩ := hc
  · simp [h]
  · unfold cfgOp; split <;> simp [h]
  · unfold seqOp; split <;> simp [h]
  · unfold keepOp; split <;> simp [h]
  · simp [h]
  · simp [h]
  · unfold chartOp; split <;> simp [h]
  · unfold portOp; split <;> simp [h]

@[simp] theorem keyWrite_cmdsWf (off : Nat) (d : Word) (s : State) (h : CmdsWf s.cmds) : CmdsWf (keyWrite off d s).cmds := by
  unfold keyWrite
  dsimp only
  split
  · rename_i hc
    split
    · unfold cmdStart
      split
      · exact control_cmdsWf hc _ (by simp [h])
      · simp [h]
    · exact h
  · (repeat' split) <;> simp [h]

@[simp] theorem readLog_cmdsWf (seq : BitVec 32) (s : State) (hw : CmdsWf s.cmds) : CmdsWf (readLog seq s).cmds := by
  unfold readLog
  try dsimp only
  (repeat' split) <;> simp (maxDischargeDepth := 30) +contextual [hw]

@[simp] theorem plainWrite_cmdsWf (r : RegInfo) (off : Nat) (lane : Word) (data : Word) (s : State) (hw : CmdsWf s.cmds) : CmdsWf (plainWrite r off lane data s).cmds := by
  unfold plainWrite
  try dsimp only
  (repeat' split) <;> simp (maxDischargeDepth := 30) +contextual [hw]

@[simp] theorem regWrite_cmdsWf (off : Nat) (size : Nat) (d : Word) (s : State) (hw : CmdsWf s.cmds) : CmdsWf (regWrite off size d s).cmds := by
  unfold regWrite
  try dsimp only
  (repeat' split) <;> simp (maxDischargeDepth := 30) +contextual [hw]

@[simp] theorem mgmtWrite_cmdsWf (off : Nat) (size : Nat) (d : Word) (s : State) (hw : CmdsWf s.cmds) : CmdsWf (mgmtWrite off size d s).cmds := by
  unfold mgmtWrite
  try dsimp only
  (repeat' split) <;> simp (maxDischargeDepth := 30) +contextual [hw]

@[simp] theorem fenceEnds_cmdsWf (op : Nat) (i : Nat) (s : State) (hw : CmdsWf s.cmds) : CmdsWf (fenceEnds op i s).cmds := by
  unfold fenceEnds
  try dsimp only
  (repeat' split) <;> simp (maxDischargeDepth := 30) +contextual [hw]

@[simp] theorem descriptorIn_cmdsWf (i : Nat) (d : Desc) (s : State) (hw : CmdsWf s.cmds) : CmdsWf (descriptorIn i d s).cmds := by
  unfold descriptorIn
  try dsimp only
  (repeat' split) <;> simp (maxDischargeDepth := 30) +contextual [hw]

@[simp] theorem gaugeStep_cmdsWf (x : GaugeSample) (s : State) (hw : CmdsWf s.cmds) : CmdsWf (gaugeStep x s).cmds := by
  unfold gaugeStep
  try dsimp only
  (repeat' split) <;> simp (maxDischargeDepth := 30) +contextual [hw]

@[simp] theorem endLoad_cmdsWf (cmd : Option Nat) (result : Nat) (s : State) (hw : CmdsWf s.cmds) : CmdsWf (endLoad cmd result s).cmds := by
  unfold endLoad
  try dsimp only
  (repeat' split) <;> simp (maxDischargeDepth := 30) +contextual [hw]

@[simp] theorem imageRead_cmdsWf (b : List Byte) (s : State) (hw : CmdsWf s.cmds) : CmdsWf (imageRead b s).cmds := by
  unfold imageRead
  try dsimp only
  (repeat' split) <;> simp (maxDischargeDepth := 30) +contextual [hw]

@[simp] theorem writeRead_cmdsWf (n : Nat) (b : List Byte) (s : State) (hw : CmdsWf s.cmds) : CmdsWf (writeRead n b s).cmds := by
  unfold writeRead
  try dsimp only
  (repeat' split) <;> simp (maxDischargeDepth := 30) +contextual [hw]

@[simp] theorem sluiceDone_cmdsWf (s : State) (hw : CmdsWf s.cmds) : CmdsWf (sluiceDone s).cmds := by
  unfold sluiceDone
  try dsimp only
  (repeat' split) <;> simp (maxDischargeDepth := 30) +contextual [hw]

@[simp] theorem endProgram_cmdsWf (p : Nat) (s : State) (hw : CmdsWf s.cmds) : CmdsWf (endProgram p s).cmds := by
  unfold endProgram
  try dsimp only
  (repeat' split) <;> simp (maxDischargeDepth := 30) +contextual [hw]

@[simp] theorem gaugeOutcome_cmdsWf (o : POp) (s : State) (hw : CmdsWf s.cmds) : CmdsWf (gaugeOutcome o s).cmds := by
  unfold gaugeOutcome
  try dsimp only
  (repeat' split) <;> simp (maxDischargeDepth := 30) +contextual [hw]

@[simp] theorem replyIn_cmdsWf (a : Nat) (f : List Byte) (s : State) (hw : CmdsWf s.cmds) : CmdsWf (replyIn a f s).cmds := by
  unfold replyIn
  try dsimp only
  (repeat' split) <;> simp (maxDischargeDepth := 30) +contextual [hw]

@[simp] theorem portsOff_cmdsWf (s : State) (hw : CmdsWf s.cmds) : CmdsWf (portsOff s).cmds := by
  unfold portsOff
  try dsimp only
  (repeat' split) <;> simp (maxDischargeDepth := 30) +contextual [hw]

@[simp] theorem sluiceTorn_cmdsWf (s : State) (hw : CmdsWf s.cmds) : CmdsWf (sluiceTorn s).cmds := by
  unfold sluiceTorn
  try dsimp only
  (repeat' split) <;> simp (maxDischargeDepth := 30) +contextual [hw]

@[simp] theorem sealNow_cmdsWf (s : State) (hw : CmdsWf s.cmds) : CmdsWf (sealNow s).cmds := by
  unfold sealNow
  try dsimp only
  (repeat' split) <;> simp (maxDischargeDepth := 30) +contextual [hw]

@[simp] theorem pollOne_cmdsWf (i : Nat) (a : Option (BitVec 128 × BitVec 8)) (s : State) (hw : CmdsWf s.cmds) : CmdsWf (pollOne i a s).cmds := by
  unfold pollOne
  try dsimp only
  (repeat' split) <;> simp (maxDischargeDepth := 30) +contextual [hw]

@[simp] theorem mediumKept_cmdsWf (s : State) : CmdsWf (mediumKept s).cmds := by
  unfold mediumKept
  exact rfl

/-! berths -/

@[simp] theorem berthsWf_tset {t : Tbl Berth} (i : Nat) (v : Berth) (h : BerthsWf t) : BerthsWf (tset Berth.none t i v) := twf_tset i v h

@[simp] theorem berthsWf_tmap {t : Tbl Berth} (f : Nat → Berth → Berth) (h : BerthsWf t) : BerthsWf (tmap Berth.none f t) := twf_tmap f h

@[simp] theorem berthsWf_filter {t : Tbl Berth} (p : Nat × Berth → Bool) (h : BerthsWf t) : BerthsWf (t.filter p) := twf_filter p h

@[simp] theorem berthsWf_nil : BerthsWf [] := rfl

@[simp] theorem berthsWf_ite {p : Prop} {_ : Decidable p} {a b : Tbl Berth} (h1 : BerthsWf a) (h2 : BerthsWf b) : BerthsWf (if p then a else b) := by
  split <;> assumption

@[simp] theorem forEach_berthsWf {α : Type} (l : List α) (f : α → State → State) (s : State)
    (h : ∀ a s, BerthsWf s.berths → BerthsWf (f a s).berths) (hs : BerthsWf s.berths) : BerthsWf (forEach l s f).berths :=
  forEach_keeps (P := fun s => BerthsWf s.berths) l f h s hs

@[simp] theorem setBerth_berthsWf (s : State) (i : Nat) (b : Berth) (hw : BerthsWf s.berths) : BerthsWf (State.setBerth s i b).berths := by
  exact twf_tset _ _ hw

@[simp] theorem updBerth_berthsWf (s : State) (i : Nat) (f : Berth → Berth) (hw : BerthsWf s.berths) : BerthsWf (State.updBerth s i f).berths := by
  exact twf_tset _ _ hw

@[simp] theorem giveUp_berthsWf (g : Nat) (dir : List DirEnt) (rebuilt : Bool) (again : Bool) (s : State) (hw : BerthsWf s.berths) : BerthsWf (giveUp g dir rebuilt again s).berths := by
  unfold giveUp
  dsimp only
  rw [show ∀ t : State, (t.setBarge g Barge.free).berths = t.berths from fun t => by simp]
  refine forEach_berthsWf _ _ _ (fun e s hw => ?_) hw
  (repeat' split) <;> simp [hw]

@[simp] theorem dropRow_berthsWf (k : Nat) (row : Nat) (rebuilt : Bool) (again : Bool) (s : State) (hw : BerthsWf s.berths) : BerthsWf (dropRow k row rebuilt again s).berths := by
  unfold dropRow
  try dsimp only
  (repeat' split) <;> simp (maxDischargeDepth := 30) +contextual [hw]

@[simp] theorem dropStreams_berthsWf (s : State) (hw : BerthsWf s.berths) : BerthsWf (dropStreams s).berths := by
  unfold dropStreams
  try dsimp only
  (repeat' split) <;> simp (maxDischargeDepth := 30) +contextual [hw]

@[simp] theorem fenceBerth_berthsWf (reason : Nat) (i : Nat) (s : State) (hw : BerthsWf s.berths) : BerthsWf (fenceBerth reason i s).berths := by
  unfold fenceBerth
  try dsimp only
  (repeat' split) <;> simp (maxDischargeDepth := 30) +contextual [hw]

@[simp] theorem writeCpl_berthsWf (i : Nat) (f : Flight) (c : Cpl) (s : State) (hw : BerthsWf s.berths) : BerthsWf (writeCpl i f c s).berths := by
  unfold writeCpl
  try dsimp only
  (repeat' split) <;> simp (maxDischargeDepth := 30) +contextual [hw]

@[simp] theorem postLoop_berthsWf (i : Nat) (x1 : Nat) (s : State) (hw : BerthsWf s.berths) : BerthsWf (postLoop i x1 s).berths := by
  induction x1 generalizing s with
  | zero => exact hw
  | succ n ih =>
    unfold postLoop
    try dsimp only
    (repeat' split) <;> first | exact hw | simp (maxDischargeDepth := 30) [hw, ih]

@[simp] theorem postAll_berthsWf (i : Nat) (s : State) (hw : BerthsWf s.berths) : BerthsWf (postAll i s).berths := by
  unfold postAll
  try dsimp only
  (repeat' split) <;> simp (maxDischargeDepth := 30) +contextual [hw]

@[simp] theorem setFlight_berthsWf (i : Nat) (idx : Nat) (f : Flight → Flight) (s : State) (hw : BerthsWf s.berths) : BerthsWf (setFlight i idx f s).berths := by
  unfold setFlight
  try dsimp only
  (repeat' split) <;> simp (maxDischargeDepth := 30) +contextual [hw]

@[simp] theorem finishFlight_berthsWf (i : Nat) (idx : Nat) (c : Cpl) (s : State) (hw : BerthsWf s.berths) : BerthsWf (finishFlight i idx c s).berths := by
  unfold finishFlight
  try dsimp only
  (repeat' split) <;> simp (maxDischargeDepth := 30) +contextual [hw]

@[simp] theorem endFetch_berthsWf (i : Nat) (f : Flight) (d : Desc) (r : Rec) (deferred : Bool) (lost : Bool) (s : State) (hw : BerthsWf s.berths) : BerthsWf (endFetch i f d r deferred lost s).berths := by
  unfold endFetch
  try dsimp only
  (repeat' split) <;> simp (maxDischargeDepth := 30) +contextual [hw]

@[simp] theorem fetchPage_berthsWf (i : Nat) (k : Nat) (r : Rec) (s : State) (hw : BerthsWf s.berths) : BerthsWf (fetchPage i k r s).berths := by
  unfold fetchPage
  try dsimp only
  (repeat' split) <;> simp (maxDischargeDepth := 30) +contextual [hw]

@[simp] theorem doFetch_berthsWf (i : Nat) (f : Flight) (d : Desc) (s : State) (hw : BerthsWf s.berths) : BerthsWf (doFetch i f d s).berths := by
  unfold doFetch
  try dsimp only
  (repeat' split) <;> simp (maxDischargeDepth := 30) +contextual [hw]

@[simp] theorem startRead_berthsWf (i : Nat) (f : Flight) (s : State) (hw : BerthsWf s.berths) : BerthsWf (startRead i f s).berths := by
  unfold startRead
  try dsimp only
  (repeat' split) <;> simp (maxDischargeDepth := 30) +contextual [hw]

@[simp] theorem grantPut_berthsWf (i : Nat) (f : Flight) (pl : Place) (x : Nat) (s : State) (hw : BerthsWf s.berths) : BerthsWf (grantPut i f pl x s).berths := by
  unfold grantPut
  try dsimp only
  (repeat' split) <;> simp (maxDischargeDepth := 30) +contextual [hw]

@[simp] theorem grantLoop_berthsWf (x0 : List (Nat × Flight)) (x1 : Bool) (x2 : Bool) (s : State) (hw : BerthsWf s.berths) : BerthsWf (grantLoop x0 x1 x2 s).berths := by
  induction x0 generalizing x1 x2 s with
  | nil => exact hw
  | cons a t ih =>
    unfold grantLoop
    dsimp only
    split <;> simp [hw, ih]

@[simp] theorem grantAll_berthsWf (s : State) (hw : BerthsWf s.berths) : BerthsWf (grantAll s).berths := by
  unfold grantAll
  try dsimp only
  (repeat' split) <;> simp (maxDischargeDepth := 30) +contextual [hw]

@[simp] theorem doPut_berthsWf (i : Nat) (f : Flight) (d : Desc) (s : State) (hw : BerthsWf s.berths) : BerthsWf (doPut i f d s).berths := by
  unfold doPut
  try dsimp only
  (repeat' split) <;> simp (maxDischargeDepth := 30) +contextual [hw]

@[simp] theorem doQuery_berthsWf (i : Nat) (f : Flight) (d : Desc) (s : State) (hw : BerthsWf s.berths) : BerthsWf (doQuery i f d s).berths := by
  unfold doQuery
  try dsimp only
  (repeat' split) <;> simp (maxDischargeDepth := 30) +contextual [hw]

@[simp] theorem chainPagesRetire_berthsWf (i : Nat) (rp : Nat) (x2 : Nat) (s : State) (hw : BerthsWf s.berths) : BerthsWf (chainPagesRetire i rp x2 s).berths := by
  induction x2 generalizing s with
  | zero => exact hw
  | succ n ih =>
    unfold chainPagesRetire
    try dsimp only
    (repeat' split) <;> first | exact hw | simp (maxDischargeDepth := 30) [hw, ih]

@[simp] theorem dropRec_berthsWf (i : Nat) (r : Rec) (s : State) (hw : BerthsWf s.berths) : BerthsWf (dropRec i r s).berths := by
  unfold dropRec
  try dsimp only
  (repeat' split) <;> simp (maxDischargeDepth := 30) +contextual [hw]

@[simp] theorem retireTo_berthsWf (i : Nat) (target : Nat) (s : State) (hw : BerthsWf s.berths) : BerthsWf (retireTo i target s).berths := by
  unfold retireTo
  try dsimp only
  (repeat' split) <;> simp (maxDischargeDepth := 30) +contextual [hw]

@[simp] theorem doRetire_berthsWf (i : Nat) (f : Flight) (d : Desc) (s : State) (hw : BerthsWf s.berths) : BerthsWf (doRetire i f d s).berths := by
  unfold doRetire
  try dsimp only
  (repeat' split) <;> simp (maxDischargeDepth := 30) +contextual [hw]

@[simp] theorem carryOut_berthsWf (i : Nat) (f : Flight) (d : Desc) (s : State) (hw : BerthsWf s.berths) : BerthsWf (carryOut i f d s).berths := by
  unfold carryOut
  try dsimp only
  (repeat' split) <;> simp (maxDischargeDepth := 30) +contextual [hw]

@[simp] theorem pumpLoop_berthsWf (x0 : Nat) (s : State) (hw : BerthsWf s.berths) : BerthsWf (pumpLoop x0 s).berths := by
  induction x0 generalizing s with
  | zero => exact hw
  | succ n ih =>
    unfold pumpLoop
    try dsimp only
    (repeat' split) <;> first | exact hw | simp (maxDischargeDepth := 30) [hw, ih]

@[simp] theorem pump_berthsWf (s : State) (hw : BerthsWf s.berths) : BerthsWf (pump s).berths := by
  unfold pump
  try dsimp only
  (repeat' split) <;> simp (maxDischargeDepth := 30) +contextual [hw]

@[simp] theorem releaseHeld_berthsWf (s : State) (hw : BerthsWf s.berths) : BerthsWf (releaseHeld s).berths := by
  unfold releaseHeld
  try dsimp only
  (repeat' split) <;> simp (maxDischargeDepth := 30) +contextual [hw]

@[simp] theorem triggerSluice_berthsWf (c : Nat) (s : State) (hw : BerthsWf s.berths) : BerthsWf (triggerSluice c s).berths := by
  unfold triggerSluice
  try dsimp only
  (repeat' split) <;> simp (maxDischargeDepth := 30) +contextual [hw]

@[simp] theorem trigger_berthsWf (c : Nat) (s : State) (hw : BerthsWf s.berths) : BerthsWf (trigger c s).berths := by
  unfold trigger
  try dsimp only
  (repeat' split) <;> simp (maxDischargeDepth := 30) +contextual [hw]

@[simp] theorem reserveCheck_berthsWf (s : State) (hw : BerthsWf s.berths) : BerthsWf (reserveCheck s).berths := by
  unfold reserveCheck
  try dsimp only
  (repeat' split) <;> simp (maxDischargeDepth := 30) +contextual [hw]

@[simp] theorem acLost_berthsWf (s : State) (hw : BerthsWf s.berths) : BerthsWf (acLost s).berths := by
  unfold acLost
  try dsimp only
  (repeat' split) <;> simp (maxDischargeDepth := 30) +contextual [hw]

@[simp] theorem goOn_berthsWf (i : Nat) (s : State) (hw : BerthsWf s.berths) : BerthsWf (goOn i s).berths := by
  unfold goOn
  try dsimp only
  (repeat' split) <;> simp (maxDischargeDepth := 30) +contextual [hw]

@[simp] theorem quarantine_berthsWf (i : Nat) (s : State) (hw : BerthsWf s.berths) : BerthsWf (quarantine i s).berths := by
  unfold quarantine
  try dsimp only
  (repeat' split) <;> simp (maxDischargeDepth := 30) +contextual [hw]

@[simp] theorem coreReset_berthsWf (s : State) (hw : BerthsWf s.berths) : BerthsWf (coreReset s).berths := by
  unfold coreReset
  dsimp only
  simp [hw]

@[simp] theorem deferBerth_berthsWf (i : Nat) (s : State) (hw : BerthsWf s.berths) : BerthsWf (deferBerth i s).berths := by
  unfold deferBerth
  refine forEach_berthsWf _ _ _ (fun e s hw => ?_) hw
  (repeat' split) <;> simp [hw]

@[simp] theorem quadDefer_berthsWf (s : State) (hw : BerthsWf s.berths) : BerthsWf (quadDefer s).berths := by
  unfold quadDefer
  try dsimp only
  (repeat' split) <;> simp (maxDischargeDepth := 30) +contextual [hw]

@[simp] theorem domainOff_berthsWf (d : Nat) (s : State) (hw : BerthsWf s.berths) : BerthsWf (domainOff d s).berths := by
  unfold domainOff
  try dsimp only
  (repeat' split) <;> simp (maxDischargeDepth := 30) +contextual [hw]

@[simp] theorem allDomainsOff_berthsWf (s : State) (hw : BerthsWf s.berths) : BerthsWf (allDomainsOff s).berths := by
  unfold allDomainsOff
  try dsimp only
  (repeat' split) <;> simp (maxDischargeDepth := 30) +contextual [hw]

@[simp] theorem setItem_berthsWf (w : BitVec 32) (on : Bool) (s : State) (hw : BerthsWf s.berths) : BerthsWf (setItem w on s).berths := by
  unfold setItem
  try dsimp only
  (repeat' split) <;> simp (maxDischargeDepth := 30) +contextual [hw]

@[simp] theorem goDown_berthsWf (x0 : List (BitVec 32)) (s : State) (hw : BerthsWf s.berths) : BerthsWf (goDown x0 s).berths := by
  induction x0 generalizing s with
  | nil => unfold goDown; dsimp only; split <;> exact hw
  | cons a t ih => unfold goDown; dsimp only; split <;> simp [hw, ih]

@[simp] theorem domainsDown_berthsWf (was : BitVec 24) (s : State) (hw : BerthsWf s.berths) : BerthsWf (domainsDown was s).berths := by
  unfold domainsDown
  try dsimp only
  (repeat' split) <;> simp (maxDischargeDepth := 30) +contextual [hw]

@[simp] theorem globalReset_berthsWf (cause : Nat) (s : State) (hw : BerthsWf s.berths) : BerthsWf (globalReset cause s).berths := by
  unfold globalReset
  try dsimp only
  (repeat' split) <;> simp (maxDischargeDepth := 30) +contextual [hw]

@[simp] theorem resetRequest_berthsWf (cause : Nat) (s : State) (hw : BerthsWf s.berths) : BerthsWf (resetRequest cause s).berths := by
  unfold resetRequest
  try dsimp only
  (repeat' split) <;> simp (maxDischargeDepth := 30) +contextual [hw]

@[simp] theorem replaceFlight_berthsWf (c : Nat) (i : Nat) (f : Flight) (s : State) (hw : BerthsWf s.berths) : BerthsWf (replaceFlight c i f s).berths := by
  unfold replaceFlight
  try dsimp only
  (repeat' split) <;> simp (maxDischargeDepth := 30) +contextual [hw]

@[simp] theorem weirEvent_berthsWf (s : State) (hw : BerthsWf s.berths) : BerthsWf (weirEvent s).berths := by
  unfold weirEvent
  try dsimp only
  (repeat' split) <;> simp (maxDischargeDepth := 30) +contextual [hw]

@[simp] theorem weirEval_berthsWf (s : State) (hw : BerthsWf s.berths) : BerthsWf (weirEval s).berths := by
  unfold weirEval
  try dsimp only
  (repeat' split) <;> simp (maxDischargeDepth := 30) +contextual [hw]

@[simp] theorem channelRetire_berthsWf (cause : Nat) (c : Nat) (s : State) (hw : BerthsWf s.berths) : BerthsWf (channelRetire cause c s).berths := by
  unfold channelRetire
  try dsimp only
  (repeat' split) <;> simp (maxDischargeDepth := 30) +contextual [hw]

@[simp] theorem collModes_berthsWf (s : State) (hw : BerthsWf s.berths) : BerthsWf (collModes s).berths := by
  unfold collModes
  try dsimp only
  (repeat' split) <;> simp (maxDischargeDepth := 30) +contextual [hw]

@[simp] theorem rowLoss_berthsWf (r : Row) (s : State) (hw : BerthsWf s.berths) : BerthsWf (rowLoss r s).berths := by
  unfold rowLoss
  refine forEach_berthsWf _ _ _ (fun e s hw => ?_) hw
  (repeat' split) <;> simp [hw]

@[simp] theorem rewriteRow_berthsWf (k : Nat) (row : Nat) (rebuilt : Bool) (s : State) (hw : BerthsWf s.berths) : BerthsWf (rewriteRow k row rebuilt s).berths := by
  unfold rewriteRow
  try dsimp only
  (repeat' split) <;> simp (maxDischargeDepth := 30) +contextual [hw]

@[simp] theorem sbRewrite_berthsWf (gone : BitVec 17) (quad : Bool) (k : Nat) (s : State) (hw : BerthsWf s.berths) : BerthsWf (sbRewrite gone quad k s).berths := by
  unfold sbRewrite
  try dsimp only
  (repeat' split) <;> simp (maxDischargeDepth := 30) +contextual [hw]

@[simp] theorem sbSluiceLoss_berthsWf (gone : BitVec 17) (quad : Bool) (k : Nat) (s : State) (hw : BerthsWf s.berths) : BerthsWf (sbSluiceLoss gone quad k s).berths := by
  unfold sbSluiceLoss
  try dsimp only
  (repeat' split) <;> simp (maxDischargeDepth := 30) +contextual [hw]

@[simp] theorem sbLoss_berthsWf (hit : Nat → Bool) (quad : Bool) (k : Nat) (s : State) (hw : BerthsWf s.berths) : BerthsWf (sbLoss hit quad k s).berths := by
  unfold sbLoss
  try dsimp only
  (repeat' split) <;> simp (maxDischargeDepth := 30) +contextual [hw]

@[simp] theorem basinLoss_berthsWf (hit : Nat → Bool) (quad : Bool) (s : State) (hw : BerthsWf s.berths) : BerthsWf (basinLoss hit quad s).berths := by
  unfold basinLoss
  try dsimp only
  (repeat' split) <;> simp (maxDischargeDepth := 30) +contextual [hw]

@[simp] theorem dieLost_berthsWf (d : Nat) (s : State) (hw : BerthsWf s.berths) : BerthsWf (dieLost d s).berths := by
  unfold dieLost
  try dsimp only
  (repeat' split) <;> simp (maxDischargeDepth := 30) +contextual [hw]

@[simp] theorem engineRetire_berthsWf (e : Nat) (s : State) (hw : BerthsWf s.berths) : BerthsWf (engineRetire e s).berths := by
  unfold engineRetire
  try dsimp only
  (repeat' split) <;> simp (maxDischargeDepth := 30) +contextual [hw]

@[simp] theorem flashChannelLost_berthsWf (c : Nat) (s : State) (hw : BerthsWf s.berths) : BerthsWf (flashChannelLost c s).berths := by
  unfold flashChannelLost
  try dsimp only
  (repeat' split) <;> simp (maxDischargeDepth := 30) +contextual [hw]

@[simp] theorem fencePort_berthsWf (reason : Nat) (p : Nat) (s : State) (hw : BerthsWf s.berths) : BerthsWf (fencePort reason p s).berths := by
  unfold fencePort
  try dsimp only
  (repeat' split) <;> simp (maxDischargeDepth := 30) +contextual [hw]

@[simp] theorem portRetire_berthsWf (cause : Nat) (p : Nat) (s : State) (hw : BerthsWf s.berths) : BerthsWf (portRetire cause p s).berths := by
  unfold portRetire
  try dsimp only
  (repeat' split) <;> simp (maxDischargeDepth := 30) +contextual [hw]

@[simp] theorem railDomains_berthsWf (r : Nat) (s : State) (hw : BerthsWf s.berths) : BerthsWf (railDomains r s).berths := by
  unfold railDomains
  try dsimp only
  (repeat' split) <;> simp (maxDischargeDepth := 30) +contextual [hw]

@[simp] theorem halfLost_berthsWf (h : Nat) (s : State) (hw : BerthsWf s.berths) : BerthsWf (halfLost h s).berths := by
  unfold halfLost
  try dsimp only
  (repeat' split) <;> simp (maxDischargeDepth := 30) +contextual [hw]

@[simp] theorem quadLost_berthsWf (q : Nat) (s : State) (hw : BerthsWf s.berths) : BerthsWf (quadLost q s).berths := by
  unfold quadLost
  try dsimp only
  (repeat' split) <;> simp (maxDischargeDepth := 30) +contextual [hw]

@[simp] theorem unitsLost_berthsWf (d : Nat) (s : State) (hw : BerthsWf s.berths) : BerthsWf (unitsLost d s).berths := by
  unfold unitsLost
  refine keeps_ite (P := fun s => BerthsWf s.berths) (forEach_berthsWf _ _ _ (fun p s hw => by simp [hw]) hw) ?_
  iterate 3 refine keeps_ite (P := fun s => BerthsWf s.berths) (by simp [hw]) ?_
  exact hw

@[simp] theorem retireSource_berthsWf (n : Nat) (s : State) (hw : BerthsWf s.berths) : BerthsWf (retireSource n s).berths := by
  unfold retireSource
  iterate 15 refine keeps_ite (P := fun s => BerthsWf s.berths) (by simp [hw]) ?_
  simp [hw]

@[simp] theorem react_berthsWf (mask : Nat) (n : Nat) (detail : BitVec 48) (s : State) (hw : BerthsWf s.berths) : BerthsWf (react mask n detail s).berths := by
  unfold react
  extract_lets b s1 s2 s3 s4 s5 s6 s7 s8
  have h1 : BerthsWf s1.berths := by simp only [s1]; split <;> simp [hw]
  have h2 : BerthsWf s2.berths := by simp only [s2]; split <;> simp [h1]
  have h3 : BerthsWf s3.berths := by simp only [s3]; split <;> simp [h2]
  have h4 : BerthsWf s4.berths := by simp only [s4]; split <;> simp [h3]
  have h5 : BerthsWf s5.berths := by simp only [s5]; split <;> simp [h4]
  have h6 : BerthsWf s6.berths := by simp only [s6]; (repeat' split) <;> simp [h5]
  have h8 : BerthsWf s8.berths := by simp only [s8]; split <;> simp [h6]
  split <;> simp [h8]

@[simp] theorem classify_berthsWf (n : Nat) (detail : BitVec 48) (line : Bool) (s : State) (hw : BerthsWf s.berths) : BerthsWf (classify n detail line s).berths := by
  unfold classify
  try dsimp only
  (repeat' split) <;> simp (maxDischargeDepth := 30) +contextual [hw]

@[simp] theorem decideEvent_berthsWf (n : Nat) (severe : Bool) (detail : BitVec 48) (line : Bool) (s : State) (hw : BerthsWf s.berths) : BerthsWf (decideEvent n severe detail line s).berths := by
  unfold decideEvent
  try dsimp only
  (repeat' split) <;> simp (maxDischargeDepth := 30) +contextual [hw]

@[simp] theorem settleLoop_berthsWf (x0 : Nat) (s : State) (hw : BerthsWf s.berths) : BerthsWf (settleLoop x0 s).berths := by
  induction x0 generalizing s with
  | zero => exact hw
  | succ n ih => unfold settleLoop; split <;> simp [hw, ih]

@[simp] theorem settle_berthsWf (s : State) (hw : BerthsWf s.berths) : BerthsWf (settle s).berths := by
  unfold settle
  try dsimp only
  (repeat' split) <;> simp (maxDischargeDepth := 30) +contextual [hw]

@[simp] theorem collectRead_berthsWf (key : Nat) (cws : List CwRead) (s : State) (hw : BerthsWf s.berths) : BerthsWf (collectRead key cws s).berths := by
  unfold collectRead
  try dsimp only
  (repeat' split) <;> simp (maxDischargeDepth := 30) +contextual [hw]

@[simp] theorem fetchRead_berthsWf (i : Nat) (cws : List CwRead) (s : State) (hw : BerthsWf s.berths) : BerthsWf (fetchRead i cws s).berths := by
  unfold fetchRead
  try dsimp only
  (repeat' split) <;> simp (maxDischargeDepth := 30) +contextual [hw]

@[simp] theorem towAct_berthsWf (cmd : Nat) (s : State) (hw : BerthsWf s.berths) : BerthsWf (towAct cmd s).berths := by
  unfold towAct
  try dsimp only
  (repeat' split) <;> simp (maxDischargeDepth := 30) +contextual [hw]

@[simp] theorem beaconIn_berthsWf (f : List Byte) (s : State) (hw : BerthsWf s.berths) : BerthsWf (beaconIn f s).berths := by
  unfold beaconIn
  try dsimp only
  (repeat' split) <;> simp (maxDischargeDepth := 30) +contextual [hw]

@[simp] theorem charterEffect_berthsWf (i : Nat) (s : State) (hw : BerthsWf s.berths) : BerthsWf (charterEffect i s).berths := by
  unfold charterEffect
  try dsimp only
  (repeat' split) <;> simp (maxDischargeDepth := 30) +contextual [hw]

@[simp] theorem doCharter_berthsWf (s : State) (hw : BerthsWf s.berths) : BerthsWf (doCharter s).berths := by
  unfold doCharter
  try dsimp only
  (repeat' split) <;> simp (maxDischargeDepth := 30) +contextual [hw]

@[simp] theorem doFence_berthsWf (s : State) (hw : BerthsWf s.berths) : BerthsWf (doFence s).berths := by
  unfold doFence
  try dsimp only
  (repeat' split) <;> simp (maxDischargeDepth := 30) +contextual [hw]

@[simp] theorem modifyEffect_berthsWf (i : Nat) (s : State) (hw : BerthsWf s.berths) : BerthsWf (modifyEffect i s).berths := by
  unfold modifyEffect
  try dsimp only
  (repeat' split) <;> simp (maxDischargeDepth := 30) +contextual [hw]

@[simp] theorem doModify_berthsWf (s : State) (hw : BerthsWf s.berths) : BerthsWf (doModify s).berths := by
  unfold doModify
  try dsimp only
  (repeat' split) <;> simp (maxDischargeDepth := 30) +contextual [hw]

@[simp] theorem recharterEffect_berthsWf (i : Nat) (s : State) (hw : BerthsWf s.berths) : BerthsWf (recharterEffect i s).berths := by
  unfold recharterEffect
  try dsimp only
  (repeat' split) <;> simp (maxDischargeDepth := 30) +contextual [hw]

@[simp] theorem endRecharter_berthsWf (i : Nat) (s : State) (hw : BerthsWf s.berths) : BerthsWf (endRecharter i s).berths := by
  unfold endRecharter
  try dsimp only
  (repeat' split) <;> simp (maxDischargeDepth := 30) +contextual [hw]

@[simp] theorem doRecharter_berthsWf (s : State) (hw : BerthsWf s.berths) : BerthsWf (doRecharter s).berths := by
  unfold doRecharter whenClear
  dsimp only
  (repeat' split) <;> simp [hw]

@[simp] theorem releaseEffect_berthsWf (i : Nat) (s : State) (hw : BerthsWf s.berths) : BerthsWf (releaseEffect i s).berths := by
  unfold releaseEffect
  try dsimp only
  (repeat' split) <;> simp (maxDischargeDepth := 30) +contextual [hw]

@[simp] theorem endRelease_berthsWf (i : Nat) (s : State) (hw : BerthsWf s.berths) : BerthsWf (endRelease i s).berths := by
  unfold endRelease
  try dsimp only
  (repeat' split) <;> simp (maxDischargeDepth := 30) +contextual [hw]

@[simp] theorem doRelease_berthsWf (s : State) (hw : BerthsWf s.berths) : BerthsWf (doRelease s).berths := by
  unfold doRelease whenClear
  dsimp only
  (repeat' split) <;> simp [hw]

@[simp] theorem berthCmd_berthsWf (op : Nat) (s : State) (hw : BerthsWf s.berths) : BerthsWf (berthCmd op s).berths := by
  unfold berthCmd
  try dsimp only
  (repeat' split) <;> simp (maxDischargeDepth := 30) +contextual [hw]

@[simp] theorem stageNow_berthsWf (off : Nat) (kind : Nat) (w : Word) (s : State) (hw : BerthsWf s.berths) : BerthsWf (stageNow off kind w s).berths := by
  unfold stageNow
  try dsimp only
  (repeat' split) <;> simp (maxDischargeDepth := 30) +contextual [hw]

@[simp] theorem overtop_berthsWf (s : State) (hw : BerthsWf s.berths) : BerthsWf (overtop s).berths := by
  unfold overtop
  try dsimp only
  (repeat' split) <;> simp (maxDischargeDepth := 30) +contextual [hw]

@[simp] theorem weirTest_berthsWf (s : State) (hw : BerthsWf s.berths) : BerthsWf (weirTest s).berths := by
  unfold weirTest
  try dsimp only
  (repeat' split) <;> simp (maxDischargeDepth := 30) +contextual [hw]

@[simp] theorem downTurn_berthsWf (s : State) (hw : BerthsWf s.berths) : BerthsWf (downTurn s).berths := by
  unfold downTurn
  try dsimp only
  (repeat' split) <;> simp (maxDischargeDepth := 30) +contextual [hw]

@[simp] theorem resumeWait_berthsWf (s : State) (hw : BerthsWf s.berths) : BerthsWf (resumeWait s).berths := by
  unfold resumeWait
  try dsimp only
  (repeat' split) <;> simp (maxDischargeDepth := 30) +contextual [hw]

@[simp] theorem persist_berthsWf (g : Nat) (r : Row) (s : State) (hw : BerthsWf s.berths) : BerthsWf (persist g r s).berths := by
  unfold persist
  refine forEach_berthsWf _ _ _ (fun e s hw => ?_) hw
  (repeat' split) <;> simp [hw]

@[simp] theorem chunkDone_berthsWf (k : Nat) (j : Nat) (row : Nat) (s : State) (hw : BerthsWf s.berths) : BerthsWf (chunkDone k j row s).berths := by
  unfold chunkDone
  try dsimp only
  (repeat' split) <;> simp (maxDischargeDepth := 30) +contextual [hw]

@[simp] theorem switchPlace_berthsWf (m : Move) (s : State) (hw : BerthsWf s.berths) : BerthsWf (switchPlace m s).berths := by
  unfold switchPlace
  try dsimp only
  (repeat' split) <;> simp (maxDischargeDepth := 30) +contextual [hw]

@[simp] theorem tripTerm_berthsWf (f : Weir → Weir) (s : State) (hw : BerthsWf s.berths) : BerthsWf (tripTerm f s).berths := by
  unfold tripTerm
  try dsimp only
  (repeat' split) <;> simp (maxDischargeDepth := 30) +contextual [hw]

@[simp] theorem tripEffect_berthsWf (func : Nat) (index : Nat) (src : Nat) (k : Nat) (s : State) (hw : BerthsWf s.berths) : BerthsWf (tripEffect func index src k s).berths := by
  unfold tripEffect
  try dsimp only
  (repeat' split) <;> simp (maxDischargeDepth := 30) +contextual [hw]

@[simp] theorem testFails_berthsWf (s : State) (hw : BerthsWf s.berths) : BerthsWf (testFails s).berths := by
  unfold testFails
  try dsimp only
  (repeat' split) <;> simp (maxDischargeDepth := 30) +contextual [hw]

@[simp] theorem latchFail_berthsWf (w : BitVec 32) (r : Run) (s : State) (hw : BerthsWf s.berths) : BerthsWf (latchFail w r s).berths := by
  unfold latchFail
  try dsimp only
  (repeat' split) <;> simp (maxDischargeDepth := 30) +contextual [hw]

@[simp] theorem doReset_berthsWf (s : State) (hw : BerthsWf s.berths) : BerthsWf (doReset s).berths := by
  unfold doReset
  try dsimp only
  (repeat' split) <;> simp (maxDischargeDepth := 30) +contextual [hw]

@[simp] theorem glbOp_berthsWf (op : Nat) (s : State) (hw : BerthsWf s.berths) : BerthsWf (glbOp op s).berths := by
  unfold glbOp
  try dsimp only
  (repeat' split) <;> simp (maxDischargeDepth := 30) +contextual [hw]

@[simp] theorem doPortRetire_berthsWf (p : Nat) (s : State) (hw : BerthsWf s.berths) : BerthsWf (doPortRetire p s).berths := by
  unfold doPortRetire
  try dsimp only
  (repeat' split) <;> simp (maxDischargeDepth := 30) +contextual [hw]

@[simp] theorem portOp_berthsWf (p : Nat) (op : Nat) (s : State) (hw : BerthsWf s.berths) : BerthsWf (portOp p op s).berths := by
  unfold portOp
  try dsimp only
  (repeat' split) <;> simp (maxDischargeDepth := 30) +contextual [hw]

@[simp] theorem lineFaulted_berthsWf (n : Nat) (s : State) (hw : BerthsWf s.berths) : BerthsWf (lineFaulted n s).berths := by
  unfold lineFaulted
  try dsimp only
  (repeat' split) <;> simp (maxDischargeDepth := 30) +contextual [hw]

@[simp] theorem ownEffect_berthsWf (n : Nat) (severe : Bool) (d : BitVec 48) (s : State) (hw : BerthsWf s.berths) : BerthsWf (ownEffect n severe d s).berths := by
  unfold ownEffect
  try dsimp only
  (repeat' split) <;> simp (maxDischargeDepth := 30) +contextual [hw]

@[simp] theorem rootLost_berthsWf (s : State) (hw : BerthsWf s.berths) : BerthsWf (rootLost s).berths := by
  unfold rootLost
  try dsimp only
  (repeat' split) <;> simp (maxDischargeDepth := 30) +contextual [hw]

@[simp] theorem raise_berthsWf (n : Nat) (severe : Bool) (d : BitVec 48) (s : State) (hw : BerthsWf s.berths) : BerthsWf (raise n severe d s).berths := by
  unfold raise
  try dsimp only
  (repeat' split) <;> simp (maxDischargeDepth := 30) +contextual [hw]

@[simp] theorem inject_berthsWf (w : Word) (s : State) (hw : BerthsWf s.berths) : BerthsWf (inject w s).berths := by
  unfold inject
  try dsimp only
  (repeat' split) <;> simp (maxDischargeDepth := 30) +contextual [hw]

@[simp] theorem sanBegin_berthsWf (s : State) (hw : BerthsWf s.berths) : BerthsWf (sanBegin s).berths := by
  unfold sanBegin
  try dsimp only
  (repeat' split) <;> simp (maxDischargeDepth := 30) +contextual [hw]

@[simp] theorem sanitizeWrite_berthsWf (key : Byte) (start : Bool) (s : State) (hw : BerthsWf s.berths) : BerthsWf (sanitizeWrite key start s).berths := by
  unfold sanitizeWrite
  try dsimp only
  (repeat' split) <;> simp (maxDischargeDepth := 30) +contextual [hw]

@[simp] theorem sluiceWrite_berthsWf (key : Byte) (start : Bool) (s : State) (hw : BerthsWf s.berths) : BerthsWf (sluiceWrite key start s).berths := by
  unfold sluiceWrite
  try dsimp only
  (repeat' split) <;> simp (maxDischargeDepth := 30) +contextual [hw]

theorem control_berthsWf {off : Nat} {d : Word} {s0 : State} {k c : Nat} {f : State → State} (hc : control off d s0 = some (k, c, f))
    (s : State) (h : BerthsWf s.berths) : BerthsWf (f s).berths := by
  unfold control at hc
  dsimp only at hc
  (repeat' split at hc) <;> simp only [Option.some.injEq, Prod.mk.injEq, reduceCtorEq] at hc <;> obtain ⟨-, -, rfl⟩ := hc
  · simp [h]
  · unfold cfgOp; split <;> simp [h]
  · unfold seqOp; split <;> simp [h]
  · unfold keepOp; split <;> simp [h]
  · simp [h]
  · simp [h]
  · unfold chartOp; split <;> simp [h]
  · unfold portOp; split <;> simp [h]

@[simp] theorem keyWrite_berthsWf (off : Nat) (d : Word) (s : State) (h : BerthsWf s.berths) : BerthsWf (keyWrite off d s).berths := by
  unfold keyWrite
  dsimp only
  split
  · rename_i hc
    split
    · unfold cmdStart
      split
      · exact control_berthsWf hc _ (by simp [h])
      · simp [h]
    · exact h
  · (repeat' split) <;> simp [h]

@[simp] theorem shutWritten_berthsWf (old : Nat) (s : State) (hw : BerthsWf s.berths) : BerthsWf (shutWritten old s).berths := by
  unfold shutWritten
  try dsimp only
  (repeat' split) <;> simp (maxDischargeDepth := 30) +contextual [hw]

@[simp] theorem plainWrite_berthsWf (r : RegInfo) (off : Nat) (lane : Word) (data : Word) (s : State) (hw : BerthsWf s.berths) : BerthsWf (plainWrite r off lane data s).berths := by
  unfold plainWrite
  try dsimp only
  (repeat' split) <;> simp (maxDischargeDepth := 30) +contextual [hw]

@[simp] theorem regWrite_berthsWf (off : Nat) (size : Nat) (d : Word) (s : State) (hw : BerthsWf s.berths) : BerthsWf (regWrite off size d s).berths := by
  unfold regWrite
  try dsimp only
  (repeat' split) <;> simp (maxDischargeDepth := 30) +contextual [hw]

@[simp] theorem mgmtWrite_berthsWf (off : Nat) (size : Nat) (d : Word) (s : State) (hw : BerthsWf s.berths) : BerthsWf (mgmtWrite off size d s).berths := by
  unfold mgmtWrite
  try dsimp only
  (repeat' split) <;> simp (maxDischargeDepth := 30) +contextual [hw]

@[simp] theorem fenceEnds_berthsWf (op : Nat) (i : Nat) (s : State) (hw : BerthsWf s.berths) : BerthsWf (fenceEnds op i s).berths := by
  unfold fenceEnds
  try dsimp only
  (repeat' split) <;> simp (maxDischargeDepth := 30) +contextual [hw]

@[simp] theorem descriptorIn_berthsWf (i : Nat) (d : Desc) (s : State) (hw : BerthsWf s.berths) : BerthsWf (descriptorIn i d s).berths := by
  unfold descriptorIn
  try dsimp only
  (repeat' split) <;> simp (maxDischargeDepth := 30) +contextual [hw]

@[simp] theorem gaugeStep_berthsWf (x : GaugeSample) (s : State) (hw : BerthsWf s.berths) : BerthsWf (gaugeStep x s).berths := by
  unfold gaugeStep
  try dsimp only
  (repeat' split) <;> simp (maxDischargeDepth := 30) +contextual [hw]

@[simp] theorem sluiceDone_berthsWf (s : State) (hw : BerthsWf s.berths) : BerthsWf (sluiceDone s).berths := by
  unfold sluiceDone
  try dsimp only
  (repeat' split) <;> simp (maxDischargeDepth := 30) +contextual [hw]

@[simp] theorem endProgram_berthsWf (p : Nat) (s : State) (hw : BerthsWf s.berths) : BerthsWf (endProgram p s).berths := by
  unfold endProgram
  try dsimp only
  (repeat' split) <;> simp (maxDischargeDepth := 30) +contextual [hw]

@[simp] theorem unreserve_berthsWf (i : Nat) (f : Flight) (s : State) (hw : BerthsWf s.berths) : BerthsWf (unreserve i f s).berths := by
  unfold unreserve
  try dsimp only
  (repeat' split) <;> simp (maxDischargeDepth := 30) +contextual [hw]

@[simp] theorem chainPageAdd_berthsWf (i : Nat) (n : Nat) (s : State) (hw : BerthsWf s.berths) : BerthsWf (chainPageAdd i n s).berths := by
  unfold chainPageAdd
  try dsimp only
  (repeat' split) <;> simp (maxDischargeDepth := 30) +contextual [hw]

@[simp] theorem commit_berthsWf (i : Nat) (f : Flight) (p : Place) (payload : Nat) (s : State) (hw : BerthsWf s.berths) : BerthsWf (commit i f p payload s).berths := by
  unfold commit
  try dsimp only
  (repeat' split) <;> simp (maxDischargeDepth := 30) +contextual [hw]

@[simp] theorem loadBerths_berthsWf (m : Manifest) (chains : Tbl (List Rec)) (s : State) : BerthsWf (loadBerths m chains s).berths := by
  have e : ∀ (l : List (Nat × Berth)) (t : Tbl Berth), BerthsWf t →
      BerthsWf (l.foldl (fun t p => tset Berth.none t p.1 (berthRestart p.2 (tget [] chains p.1))) t) := by
    intro l
    induction l with
    | nil => intro t h; exact h
    | cons a l ih => intro t h; exact ih _ (berthsWf_tset _ _ h)
  unfold loadBerths
  simp [e]

@[simp] theorem locate_berthsWf (g : Nat) (bseq : Nat) (e : DirEnt) (s : State) (hw : BerthsWf s.berths) : BerthsWf (locate g bseq e s).berths := by
  unfold locate
  try dsimp only
  (repeat' split) <;> simp (maxDischargeDepth := 30) +contextual [hw]

@[simp] theorem takeBarge_berthsWf (scan : Scan) (x : Nat × Nat × Row) (s : State) (hw : BerthsWf s.berths) : BerthsWf (takeBarge scan x s).berths := by
  unfold takeBarge
  try dsimp only
  (repeat' split) <;> simp (maxDischargeDepth := 30) +contextual [hw]

@[simp] theorem berthBack_berthsWf (i : Nat) (s : State) (hw : BerthsWf s.berths) : BerthsWf (berthBack i s).berths := by
  unfold berthBack
  try dsimp only
  (repeat' split) <;> simp (maxDischargeDepth := 30) +contextual [hw]

@[simp] theorem rowUnbuilt_berthsWf (c : BitVec 17) (r : Row) (s : State) (hw : BerthsWf s.berths) : BerthsWf (rowUnbuilt c r s).berths := by
  unfold rowUnbuilt
  try dsimp only
  (repeat' split) <;> simp (maxDischargeDepth := 30) +contextual [hw]

@[simp] theorem verifyRow_berthsWf (k : Nat) (row : Nat) (cws : List (Fin 1024 × Fin 17 × Fin 16 × CwRead)) (s : State) (hw : BerthsWf s.berths) : BerthsWf (verifyRow k row cws s).berths := by
  unfold verifyRow
  try dsimp only
  (repeat' split) <;> simp (maxDischargeDepth := 30) +contextual [hw]

@[simp] theorem verifyEntry_berthsWf (g : Nat) (e : DirEnt) (s : State) (hw : BerthsWf s.berths) : BerthsWf (verifyEntry g e s).berths := by
  unfold verifyEntry
  try dsimp only
  (repeat' split) <;> simp (maxDischargeDepth := 30) +contextual [hw]

@[simp] theorem verifyBarge_berthsWf (r : Row) (s : State) (hw : BerthsWf s.berths) : BerthsWf (verifyBarge r s).berths := by
  unfold verifyBarge
  try dsimp only
  (repeat' split) <;> simp (maxDischargeDepth := 30) +contextual [hw]

@[simp] theorem verifySb_berthsWf (k : Nat) (s : State) (hw : BerthsWf s.berths) : BerthsWf (verifySb k s).berths := by
  unfold verifySb
  try dsimp only
  (repeat' split) <;> simp (maxDischargeDepth := 30) +contextual [hw]

@[simp] theorem verifyRefloat_berthsWf (cws : List (BitVec 20 × Fin 1024 × Fin 17 × Fin 16 × CwRead)) (k : Nat) (s : State) (hw : BerthsWf s.berths) : BerthsWf (verifyRefloat cws k s).berths := by
  unfold verifyRefloat
  try dsimp only
  (repeat' split) <;> simp (maxDischargeDepth := 30) +contextual [hw]

@[simp] theorem replyIn_berthsWf (a : Nat) (f : List Byte) (s : State) (hw : BerthsWf s.berths) : BerthsWf (replyIn a f s).berths := by
  unfold replyIn
  try dsimp only
  (repeat' split) <;> simp (maxDischargeDepth := 30) +contextual [hw]

@[simp] theorem portsOff_berthsWf (s : State) (hw : BerthsWf s.berths) : BerthsWf (portsOff s).berths := by
  unfold portsOff
  try dsimp only
  (repeat' split) <;> simp (maxDischargeDepth := 30) +contextual [hw]

@[simp] theorem drainFlight_berthsWf (i : Nat) (f : Flight) (s : State) (hw : BerthsWf s.berths) : BerthsWf (drainFlight i f s).berths := by
  unfold drainFlight
  try dsimp only
  (repeat' split) <;> simp (maxDischargeDepth := 30) +contextual [hw]

@[simp] theorem drainBerth_berthsWf (i : Nat) (s : State) (hw : BerthsWf s.berths) : BerthsWf (drainBerth i s).berths := by
  unfold drainBerth
  try dsimp only
  (repeat' split) <;> simp (maxDischargeDepth := 30) +contextual [hw]

@[simp] theorem drainLoop_berthsWf (i : Nat) (x1 : Nat) (s : State) (hw : BerthsWf s.berths) : BerthsWf (drainLoop i x1 s).berths := by
  induction x1 generalizing s with
  | zero => exact hw
  | succ n ih =>
    unfold drainLoop
    try dsimp only
    (repeat' split) <;> first | exact hw | simp (maxDischargeDepth := 30) [hw, ih]

@[simp] theorem sluiceTorn_berthsWf (s : State) (hw : BerthsWf s.berths) : BerthsWf (sluiceTorn s).berths := by
  unfold sluiceTorn
  try dsimp only
  (repeat' split) <;> simp (maxDischargeDepth := 30) +contextual [hw]

@[simp] theorem sealNow_berthsWf (s : State) (hw : BerthsWf s.berths) : BerthsWf (sealNow s).berths := by
  unfold sealNow
  try dsimp only
  (repeat' split) <;> simp (maxDischargeDepth := 30) +contextual [hw]

@[simp] theorem mediumKept_berthsWf (s : State) : BerthsWf (mediumKept s).berths := by
  unfold mediumKept
  exact rfl

@[simp] theorem present_berthsWf (p : Nat) (t : Word) (s : State) (hw : BerthsWf s.berths) : BerthsWf (present p t s).berths := by
  unfold present
  try dsimp only
  (repeat' split) <;> simp (maxDischargeDepth := 30) +contextual [hw]

@[simp] theorem readbackFail_berthsWf (k : Nat) (row : Nat) (cws : List (Fin 1024 × Fin 17 × Fin 16 × CwRead)) (s : State) (hw : BerthsWf s.berths) : BerthsWf (readbackFail k row cws s).berths := by
  unfold readbackFail
  try dsimp only
  (repeat' split) <;> simp (maxDischargeDepth := 30) +contextual [hw]

/-! ports -/

@[simp] theorem portsWf_tset {t : Tbl Port} (i : Nat) (v : Port) (h : PortsWf t) : PortsWf (tset Port.idle t i v) := twf_tset i v h

@[simp] theorem portsWf_tmap {t : Tbl Port} (f : Nat → Port → Port) (h : PortsWf t) : PortsWf (tmap Port.idle f t) := twf_tmap f h

@[simp] theorem portsWf_filter {t : Tbl Port} (p : Nat × Port → Bool) (h : PortsWf t) : PortsWf (t.filter p) := twf_filter p h

@[simp] theorem portsWf_nil : PortsWf [] := rfl

@[simp] theorem portsWf_ite {p : Prop} {_ : Decidable p} {a b : Tbl Port} (h1 : PortsWf a) (h2 : PortsWf b) : PortsWf (if p then a else b) := by
  split <;> assumption

@[simp] theorem forEach_portsWf {α : Type} (l : List α) (f : α → State → State) (s : State)
    (h : ∀ a s, PortsWf s.ports → PortsWf (f a s).ports) (hs : PortsWf s.ports) : PortsWf (forEach l s f).ports :=
  forEach_keeps (P := fun s => PortsWf s.ports) l f h s hs

@[simp] theorem setPort_portsWf (s : State) (p : Nat) (q : Port) (hw : PortsWf s.ports) : PortsWf (State.setPort s p q).ports := by
  exact twf_tset _ _ hw

@[simp] theorem updPort_portsWf (s : State) (p : Nat) (f : Port → Port) (hw : PortsWf s.ports) : PortsWf (State.updPort s p f).ports := by
  exact twf_tset _ _ hw

@[simp] theorem portMsix_portsWf (p : Nat) (v : Nat) (s : State) (hw : PortsWf s.ports) : PortsWf (portMsix p v s).ports := by
  unfold portMsix
  try dsimp only
  (repeat' split) <;> simp (maxDischargeDepth := 30) +contextual [hw]

@[simp] theorem earlyWarning_portsWf (s : State) (hw : PortsWf s.ports) : PortsWf (earlyWarning s).ports := by
  unfold earlyWarning
  try dsimp only
  (repeat' split) <;> simp (maxDischargeDepth := 30) +contextual [hw]

@[simp] theorem triggerAround_portsWf (s : State) (hw : PortsWf s.ports) : PortsWf (triggerAround s).ports := by
  unfold triggerAround
  try dsimp only
  (repeat' split) <;> simp (maxDischargeDepth := 30) +contextual [hw]

@[simp] theorem triggerEarly_portsWf (c : Nat) (s : State) (hw : PortsWf s.ports) : PortsWf (triggerEarly c s).ports := by
  unfold triggerEarly
  try dsimp only
  (repeat' split) <;> simp (maxDischargeDepth := 30) +contextual [hw]

@[simp] theorem postAll_portsWf (i : Nat) (s : State) (hw : PortsWf s.ports) : PortsWf (postAll i s).ports := by
  unfold postAll
  try dsimp only
  (repeat' split) <;> simp (maxDischargeDepth := 30) +contextual [hw]

@[simp] theorem pumpLoop_portsWf (x0 : Nat) (s : State) (hw : PortsWf s.ports) : PortsWf (pumpLoop x0 s).ports := by
  induction x0 generalizing s with
  | zero => exact hw
  | succ n ih =>
    unfold pumpLoop
    try dsimp only
    (repeat' split) <;> first | exact hw | simp (maxDischargeDepth := 30) [hw, ih]

@[simp] theorem pump_portsWf (s : State) (hw : PortsWf s.ports) : PortsWf (pump s).ports := by
  unfold pump
  try dsimp only
  (repeat' split) <;> simp (maxDischargeDepth := 30) +contextual [hw]

@[simp] theorem triggerSluice_portsWf (c : Nat) (s : State) (hw : PortsWf s.ports) : PortsWf (triggerSluice c s).ports := by
  unfold triggerSluice
  try dsimp only
  (repeat' split) <;> simp (maxDischargeDepth := 30) +contextual [hw]

@[simp] theorem trigger_portsWf (c : Nat) (s : State) (hw : PortsWf s.ports) : PortsWf (trigger c s).ports := by
  unfold trigger
  try dsimp only
  (repeat' split) <;> simp (maxDischargeDepth := 30) +contextual [hw]

@[simp] theorem reserveCheck_portsWf (s : State) (hw : PortsWf s.ports) : PortsWf (reserveCheck s).ports := by
  unfold reserveCheck
  try dsimp only
  (repeat' split) <;> simp (maxDischargeDepth := 30) +contextual [hw]

@[simp] theorem acLost_portsWf (s : State) (hw : PortsWf s.ports) : PortsWf (acLost s).ports := by
  unfold acLost
  try dsimp only
  (repeat' split) <;> simp (maxDischargeDepth := 30) +contextual [hw]

@[simp] theorem goOn_portsWf (i : Nat) (s : State) (hw : PortsWf s.ports) : PortsWf (goOn i s).ports := by
  unfold goOn
  try dsimp only
  (repeat' split) <;> simp (maxDischargeDepth := 30) +contextual [hw]

@[simp] theorem quarantine_portsWf (i : Nat) (s : State) (hw : PortsWf s.ports) : PortsWf (quarantine i s).ports := by
  unfold quarantine
  try dsimp only
  (repeat' split) <;> simp (maxDischargeDepth := 30) +contextual [hw]

@[simp] theorem portDown_portsWf (timer : Bool) (p : Nat) (s : State) (hw : PortsWf s.ports) : PortsWf (portDown timer p s).ports := by
  unfold portDown
  try dsimp only
  (repeat' split) <;> simp (maxDischargeDepth := 30) +contextual [hw]

@[simp] theorem portLinkDown_portsWf (p : Nat) (s : State) (hw : PortsWf s.ports) : PortsWf (portLinkDown p s).ports := by
  unfold portLinkDown
  try dsimp only
  (repeat' split) <;> simp (maxDischargeDepth := 30) +contextual [hw]

@[simp] theorem clusterOff_portsWf (d : Nat) (s : State) (hw : PortsWf s.ports) : PortsWf (clusterOff d s).ports := by
  unfold clusterOff
  try dsimp only
  (repeat' split) <;> simp (maxDischargeDepth := 30) +contextual [hw]

@[simp] theorem coreReset_portsWf (s : State) (hw : PortsWf s.ports) : PortsWf (coreReset s).ports := by
  unfold coreReset
  dsimp only
  simp [hw]

@[simp] theorem domainOff_portsWf (d : Nat) (s : State) (hw : PortsWf s.ports) : PortsWf (domainOff d s).ports := by
  unfold domainOff
  try dsimp only
  (repeat' split) <;> simp (maxDischargeDepth := 30) +contextual [hw]

@[simp] theorem allDomainsOff_portsWf (s : State) (hw : PortsWf s.ports) : PortsWf (allDomainsOff s).ports := by
  unfold allDomainsOff
  try dsimp only
  (repeat' split) <;> simp (maxDischargeDepth := 30) +contextual [hw]

@[simp] theorem setItem_portsWf (w : BitVec 32) (on : Bool) (s : State) (hw : PortsWf s.ports) : PortsWf (setItem w on s).ports := by
  unfold setItem
  try dsimp only
  (repeat' split) <;> simp (maxDischargeDepth := 30) +contextual [hw]

@[simp] theorem goDown_portsWf (x0 : List (BitVec 32)) (s : State) (hw : PortsWf s.ports) : PortsWf (goDown x0 s).ports := by
  induction x0 generalizing s with
  | nil => unfold goDown; dsimp only; split <;> exact hw
  | cons a t ih => unfold goDown; dsimp only; split <;> simp [hw, ih]

@[simp] theorem domainsDown_portsWf (was : BitVec 24) (s : State) (hw : PortsWf s.ports) : PortsWf (domainsDown was s).ports := by
  unfold domainsDown
  try dsimp only
  (repeat' split) <;> simp (maxDischargeDepth := 30) +contextual [hw]

@[simp] theorem globalReset_portsWf (cause : Nat) (s : State) (hw : PortsWf s.ports) : PortsWf (globalReset cause s).ports := by
  unfold globalReset
  try dsimp only
  (repeat' split) <;> simp (maxDischargeDepth := 30) +contextual [hw]

@[simp] theorem resetRequest_portsWf (cause : Nat) (s : State) (hw : PortsWf s.ports) : PortsWf (resetRequest cause s).ports := by
  unfold resetRequest
  try dsimp only
  (repeat' split) <;> simp (maxDischargeDepth := 30) +contextual [hw]

@[simp] theorem weirEvent_portsWf (s : State) (hw : PortsWf s.ports) : PortsWf (weirEvent s).ports := by
  unfold weirEvent
  try dsimp only
  (repeat' split) <;> simp (maxDischargeDepth := 30) +contextual [hw]

@[simp] theorem weirEval_portsWf (s : State) (hw : PortsWf s.ports) : PortsWf (weirEval s).ports := by
  unfold weirEval
  try dsimp only
  (repeat' split) <;> simp (maxDischargeDepth := 30) +contextual [hw]

@[simp] theorem channelRetire_portsWf (cause : Nat) (c : Nat) (s : State) (hw : PortsWf s.ports) : PortsWf (channelRetire cause c s).ports := by
  unfold channelRetire
  try dsimp only
  (repeat' split) <;> simp (maxDischargeDepth := 30) +contextual [hw]

@[simp] theorem collModes_portsWf (s : State) (hw : PortsWf s.ports) : PortsWf (collModes s).ports := by
  unfold collModes
  try dsimp only
  (repeat' split) <;> simp (maxDischargeDepth := 30) +contextual [hw]

@[simp] theorem basinLoss_portsWf (hit : Nat → Bool) (quad : Bool) (s : State) (hw : PortsWf s.ports) : PortsWf (basinLoss hit quad s).ports := by
  unfold basinLoss
  try dsimp only
  (repeat' split) <;> simp (maxDischargeDepth := 30) +contextual [hw]

@[simp] theorem dieLost_portsWf (d : Nat) (s : State) (hw : PortsWf s.ports) : PortsWf (dieLost d s).ports := by
  unfold dieLost
  try dsimp only
  (repeat' split) <;> simp (maxDischargeDepth := 30) +contextual [hw]

@[simp] theorem flashChannelLost_portsWf (c : Nat) (s : State) (hw : PortsWf s.ports) : PortsWf (flashChannelLost c s).ports := by
  unfold flashChannelLost
  try dsimp only
  (repeat' split) <;> simp (maxDischargeDepth := 30) +contextual [hw]

@[simp] theorem fencePort_portsWf (reason : Nat) (p : Nat) (s : State) (hw : PortsWf s.ports) : PortsWf (fencePort reason p s).ports := by
  unfold fencePort
  try dsimp only
  (repeat' split) <;> simp (maxDischargeDepth := 30) +contextual [hw]

@[simp] theorem portRetire_portsWf (cause : Nat) (p : Nat) (s : State) (hw : PortsWf s.ports) : PortsWf (portRetire cause p s).ports := by
  unfold portRetire
  try dsimp only
  (repeat' split) <;> simp (maxDischargeDepth := 30) +contextual [hw]

@[simp] theorem railDomains_portsWf (r : Nat) (s : State) (hw : PortsWf s.ports) : PortsWf (railDomains r s).ports := by
  unfold railDomains
  try dsimp only
  (repeat' split) <;> simp (maxDischargeDepth := 30) +contextual [hw]

@[simp] theorem halfLost_portsWf (h : Nat) (s : State) (hw : PortsWf s.ports) : PortsWf (halfLost h s).ports := by
  unfold halfLost
  try dsimp only
  (repeat' split) <;> simp (maxDischargeDepth := 30) +contextual [hw]

@[simp] theorem quadLost_portsWf (q : Nat) (s : State) (hw : PortsWf s.ports) : PortsWf (quadLost q s).ports := by
  unfold quadLost
  try dsimp only
  (repeat' split) <;> simp (maxDischargeDepth := 30) +contextual [hw]

@[simp] theorem unitsLost_portsWf (d : Nat) (s : State) (hw : PortsWf s.ports) : PortsWf (unitsLost d s).ports := by
  unfold unitsLost
  refine keeps_ite (P := fun s => PortsWf s.ports) (forEach_portsWf _ _ _ (fun p s hw => by simp [hw]) hw) ?_
  iterate 3 refine keeps_ite (P := fun s => PortsWf s.ports) (by simp [hw]) ?_
  exact hw

@[simp] theorem retireSource_portsWf (n : Nat) (s : State) (hw : PortsWf s.ports) : PortsWf (retireSource n s).ports := by
  unfold retireSource
  iterate 15 refine keeps_ite (P := fun s => PortsWf s.ports) (by simp [hw]) ?_
  simp [hw]

@[simp] theorem warnNow_portsWf (s : State) (hw : PortsWf s.ports) : PortsWf (warnNow s).ports := by
  unfold warnNow
  try dsimp only
  (repeat' split) <;> simp (maxDischargeDepth := 30) +contextual [hw]

@[simp] theorem shutdownBegin_portsWf (graceMs10 : Nat) (s : State) (hw : PortsWf s.ports) : PortsWf (shutdownBegin graceMs10 s).ports := by
  unfold shutdownBegin
  try dsimp only
  (repeat' split) <;> simp (maxDischargeDepth := 30) +contextual [hw]

@[simp] theorem timedBegin_portsWf (r : Nat) (s : State) (hw : PortsWf s.ports) : PortsWf (timedBegin r s).ports := by
  unfold timedBegin
  try dsimp only
  (repeat' split) <;> simp (maxDischargeDepth := 30) +contextual [hw]

@[simp] theorem react_portsWf (mask : Nat) (n : Nat) (detail : BitVec 48) (s : State) (hw : PortsWf s.ports) : PortsWf (react mask n detail s).ports := by
  unfold react
  extract_lets b s1 s2 s3 s4 s5 s6 s7 s8
  have h1 : PortsWf s1.ports := by simp only [s1]; split <;> simp [hw]
  have h2 : PortsWf s2.ports := by simp only [s2]; split <;> simp [h1]
  have h3 : PortsWf s3.ports := by simp only [s3]; split <;> simp [h2]
  have h4 : PortsWf s4.ports := by simp only [s4]; split <;> simp [h3]
  have h5 : PortsWf s5.ports := by simp only [s5]; split <;> simp [h4]
  have h6 : PortsWf s6.ports := by simp only [s6]; (repeat' split) <;> simp [h5]
  have h8 : PortsWf s8.ports := by simp only [s8]; split <;> simp [h6]
  split <;> simp [h8]

@[simp] theorem classify_portsWf (n : Nat) (detail : BitVec 48) (line : Bool) (s : State) (hw : PortsWf s.ports) : PortsWf (classify n detail line s).ports := by
  unfold classify
  try dsimp only
  (repeat' split) <;> simp (maxDischargeDepth := 30) +contextual [hw]

@[simp] theorem decideEvent_portsWf (n : Nat) (severe : Bool) (detail : BitVec 48) (line : Bool) (s : State) (hw : PortsWf s.ports) : PortsWf (decideEvent n severe detail line s).ports := by
  unfold decideEvent
  try dsimp only
  (repeat' split) <;> simp (maxDischargeDepth := 30) +contextual [hw]

@[simp] theorem settleLoop_portsWf (x0 : Nat) (s : State) (hw : PortsWf s.ports) : PortsWf (settleLoop x0 s).ports := by
  induction x0 generalizing s with
  | zero => exact hw
  | succ n ih => unfold settleLoop; split <;> simp [hw, ih]

@[simp] theorem settle_portsWf (s : State) (hw : PortsWf s.ports) : PortsWf (settle s).ports := by
  unfold settle
  try dsimp only
  (repeat' split) <;> simp (maxDischargeDepth := 30) +contextual [hw]

@[simp] theorem fetchRead_portsWf (i : Nat) (cws : List CwRead) (s : State) (hw : PortsWf s.ports) : PortsWf (fetchRead i cws s).ports := by
  unfold fetchRead
  try dsimp only
  (repeat' split) <;> simp (maxDischargeDepth := 30) +contextual [hw]

@[simp] theorem towAct_portsWf (cmd : Nat) (s : State) (hw : PortsWf s.ports) : PortsWf (towAct cmd s).ports := by
  unfold towAct
  try dsimp only
  (repeat' split) <;> simp (maxDischargeDepth := 30) +contextual [hw]

@[simp] theorem beaconIn_portsWf (f : List Byte) (s : State) (hw : PortsWf s.ports) : PortsWf (beaconIn f s).ports := by
  unfold beaconIn
  try dsimp only
  (repeat' split) <;> simp (maxDischargeDepth := 30) +contextual [hw]

@[simp] theorem doCharter_portsWf (s : State) (hw : PortsWf s.ports) : PortsWf (doCharter s).ports := by
  unfold doCharter
  try dsimp only
  (repeat' split) <;> simp (maxDischargeDepth := 30) +contextual [hw]

@[simp] theorem doFence_portsWf (s : State) (hw : PortsWf s.ports) : PortsWf (doFence s).ports := by
  unfold doFence
  try dsimp only
  (repeat' split) <;> simp (maxDischargeDepth := 30) +contextual [hw]

@[simp] theorem berthLeft_portsWf (p : Nat) (s : State) (hw : PortsWf s.ports) : PortsWf (berthLeft p s).ports := by
  unfold berthLeft
  try dsimp only
  (repeat' split) <;> simp (maxDischargeDepth := 30) +contextual [hw]

@[simp] theorem modifyEffect_portsWf (i : Nat) (s : State) (hw : PortsWf s.ports) : PortsWf (modifyEffect i s).ports := by
  unfold modifyEffect
  try dsimp only
  (repeat' split) <;> simp (maxDischargeDepth := 30) +contextual [hw]

@[simp] theorem doModify_portsWf (s : State) (hw : PortsWf s.ports) : PortsWf (doModify s).ports := by
  unfold doModify
  try dsimp only
  (repeat' split) <;> simp (maxDischargeDepth := 30) +contextual [hw]

@[simp] theorem recharterEffect_portsWf (i : Nat) (s : State) (hw : PortsWf s.ports) : PortsWf (recharterEffect i s).ports := by
  unfold recharterEffect
  try dsimp only
  (repeat' split) <;> simp (maxDischargeDepth := 30) +contextual [hw]

@[simp] theorem endRecharter_portsWf (i : Nat) (s : State) (hw : PortsWf s.ports) : PortsWf (endRecharter i s).ports := by
  unfold endRecharter
  try dsimp only
  (repeat' split) <;> simp (maxDischargeDepth := 30) +contextual [hw]

@[simp] theorem doRecharter_portsWf (s : State) (hw : PortsWf s.ports) : PortsWf (doRecharter s).ports := by
  unfold doRecharter whenClear
  dsimp only
  (repeat' split) <;> simp [hw]

@[simp] theorem releaseEffect_portsWf (i : Nat) (s : State) (hw : PortsWf s.ports) : PortsWf (releaseEffect i s).ports := by
  unfold releaseEffect
  try dsimp only
  (repeat' split) <;> simp (maxDischargeDepth := 30) +contextual [hw]

@[simp] theorem endRelease_portsWf (i : Nat) (s : State) (hw : PortsWf s.ports) : PortsWf (endRelease i s).ports := by
  unfold endRelease
  try dsimp only
  (repeat' split) <;> simp (maxDischargeDepth := 30) +contextual [hw]

@[simp] theorem doRelease_portsWf (s : State) (hw : PortsWf s.ports) : PortsWf (doRelease s).ports := by
  unfold doRelease whenClear
  dsimp only
  (repeat' split) <;> simp [hw]

@[simp] theorem berthCmd_portsWf (op : Nat) (s : State) (hw : PortsWf s.ports) : PortsWf (berthCmd op s).ports := by
  unfold berthCmd
  try dsimp only
  (repeat' split) <;> simp (maxDischargeDepth := 30) +contextual [hw]

@[simp] theorem stageNow_portsWf (off : Nat) (kind : Nat) (w : Word) (s : State) (hw : PortsWf s.ports) : PortsWf (stageNow off kind w s).ports := by
  unfold stageNow
  try dsimp only
  (repeat' split) <;> simp (maxDischargeDepth := 30) +contextual [hw]

@[simp] theorem overtop_portsWf (s : State) (hw : PortsWf s.ports) : PortsWf (overtop s).ports := by
  unfold overtop
  try dsimp only
  (repeat' split) <;> simp (maxDischargeDepth := 30) +contextual [hw]

@[simp] theorem weirTest_portsWf (s : State) (hw : PortsWf s.ports) : PortsWf (weirTest s).ports := by
  unfold weirTest
  try dsimp only
  (repeat' split) <;> simp (maxDischargeDepth := 30) +contextual [hw]

@[simp] theorem portFlush_portsWf (p : Nat) (s : State) (hw : PortsWf s.ports) : PortsWf (portFlush p s).ports := by
  unfold portFlush
  try dsimp only
  (repeat' split) <;> simp (maxDischargeDepth := 30) +contextual [hw]

@[simp] theorem downTurn_portsWf (s : State) (hw : PortsWf s.ports) : PortsWf (downTurn s).ports := by
  unfold downTurn
  try dsimp only
  (repeat' split) <;> simp (maxDischargeDepth := 30) +contextual [hw]

@[simp] theorem resumeWait_portsWf (s : State) (hw : PortsWf s.ports) : PortsWf (resumeWait s).ports := by
  unfold resumeWait
  try dsimp only
  (repeat' split) <;> simp (maxDischargeDepth := 30) +contextual [hw]

@[simp] theorem tripTerm_portsWf (f : Weir → Weir) (s : State) (hw : PortsWf s.ports) : PortsWf (tripTerm f s).ports := by
  unfold tripTerm
  try dsimp only
  (repeat' split) <;> simp (maxDischargeDepth := 30) +contextual [hw]

@[simp] theorem tripEffect_portsWf (func : Nat) (index : Nat) (src : Nat) (k : Nat) (s : State) (hw : PortsWf s.ports) : PortsWf (tripEffect func index src k s).ports := by
  unfold tripEffect
  try dsimp only
  (repeat' split) <;> simp (maxDischargeDepth := 30) +contextual [hw]

@[simp] theorem testFails_portsWf (s : State) (hw : PortsWf s.ports) : PortsWf (testFails s).ports := by
  unfold testFails
  try dsimp only
  (repeat' split) <;> simp (maxDischargeDepth := 30) +contextual [hw]

@[simp] theorem timerStart_portsWf (p : Nat) (s : State) (hw : PortsWf s.ports) : PortsWf (timerStart p s).ports := by
  unfold timerStart
  try dsimp only
  (repeat' split) <;> simp (maxDischargeDepth := 30) +contextual [hw]

@[simp] theorem applyTarget_portsWf (p : Nat) (s : State) (hw : PortsWf s.ports) : PortsWf (applyTarget p s).ports := by
  unfold applyTarget
  try dsimp only
  (repeat' split) <;> simp (maxDischargeDepth := 30) +contextual [hw]

@[simp] theorem tryUp_portsWf (p : Nat) (s : State) (hw : PortsWf s.ports) : PortsWf (tryUp p s).ports := by
  unfold tryUp
  try dsimp only
  (repeat' split) <;> simp (maxDischargeDepth := 30) +contextual [hw]

@[simp] theorem countRead_portsWf (p : Nat) (why : ReadFail) (s : State) (hw : PortsWf s.ports) : PortsWf (countRead p why s).ports := by
  unfold countRead
  try dsimp only
  (repeat' split) <;> simp (maxDischargeDepth := 30) +contextual [hw]

@[simp] theorem latchFail_portsWf (w : BitVec 32) (r : Run) (s : State) (hw : PortsWf s.ports) : PortsWf (latchFail w r s).ports := by
  unfold latchFail
  try dsimp only
  (repeat' split) <;> simp (maxDischargeDepth := 30) +contextual [hw]

@[simp] theorem doLockCycle_portsWf (mode : Nat) (epoch : BitVec 16) (s : State) (hw : PortsWf s.ports) : PortsWf (doLockCycle mode epoch s).ports := by
  unfold doLockCycle
  try dsimp only
  (repeat' split) <;> simp (maxDischargeDepth := 30) +contextual [hw]

@[simp] theorem doReset_portsWf (s : State) (hw : PortsWf s.ports) : PortsWf (doReset s).ports := by
  unfold doReset
  try dsimp only
  (repeat' split) <;> simp (maxDischargeDepth := 30) +contextual [hw]

@[simp] theorem glbOp_portsWf (op : Nat) (s : State) (hw : PortsWf s.ports) : PortsWf (glbOp op s).ports := by
  unfold glbOp
  try dsimp only
  (repeat' split) <;> simp (maxDischargeDepth := 30) +contextual [hw]

@[simp] theorem doPortRetire_portsWf (p : Nat) (s : State) (hw : PortsWf s.ports) : PortsWf (doPortRetire p s).ports := by
  unfold doPortRetire
  try dsimp only
  (repeat' split) <;> simp (maxDischargeDepth := 30) +contextual [hw]

@[simp] theorem portOp_portsWf (p : Nat) (op : Nat) (s : State) (hw : PortsWf s.ports) : PortsWf (portOp p op s).ports := by
  unfold portOp
  try dsimp only
  (repeat' split) <;> simp (maxDischargeDepth := 30) +contextual [hw]

@[simp] theorem lineFaulted_portsWf (n : Nat) (s : State) (hw : PortsWf s.ports) : PortsWf (lineFaulted n s).ports := by
  unfold lineFaulted
  try dsimp only
  (repeat' split) <;> simp (maxDischargeDepth := 30) +contextual [hw]

@[simp] theorem ownEffect_portsWf (n : Nat) (severe : Bool) (d : BitVec 48) (s : State) (hw : PortsWf s.ports) : PortsWf (ownEffect n severe d s).ports := by
  unfold ownEffect
  try dsimp only
  (repeat' split) <;> simp (maxDischargeDepth := 30) +contextual [hw]

@[simp] theorem rootLost_portsWf (s : State) (hw : PortsWf s.ports) : PortsWf (rootLost s).ports := by
  unfold rootLost
  try dsimp only
  (repeat' split) <;> simp (maxDischargeDepth := 30) +contextual [hw]

@[simp] theorem raise_portsWf (n : Nat) (severe : Bool) (d : BitVec 48) (s : State) (hw : PortsWf s.ports) : PortsWf (raise n severe d s).ports := by
  unfold raise
  try dsimp only
  (repeat' split) <;> simp (maxDischargeDepth := 30) +contextual [hw]

@[simp] theorem inject_portsWf (w : Word) (s : State) (hw : PortsWf s.ports) : PortsWf (inject w s).ports := by
  unfold inject
  try dsimp only
  (repeat' split) <;> simp (maxDischargeDepth := 30) +contextual [hw]

@[simp] theorem sluiceWrite_portsWf (key : Byte) (start : Bool) (s : State) (hw : PortsWf s.ports) : PortsWf (sluiceWrite key start s).ports := by
  unfold sluiceWrite
  try dsimp only
  (repeat' split) <;> simp (maxDischargeDepth := 30) +contextual [hw]

theorem control_portsWf {off : Nat} {d : Word} {s0 : State} {k c : Nat} {f : State → State} (hc : control off d s0 = some (k, c, f))
    (s : State) (h : PortsWf s.ports) : PortsWf (f s).ports := by
  unfold control at hc
  dsimp only at hc
  (repeat' split at hc) <;> simp only [Option.some.injEq, Prod.mk.injEq, reduceCtorEq] at hc <;> obtain ⟨-, -, rfl⟩ := hc
  · simp [h]
  · unfold cfgOp; split <;> simp [h]
  · unfold seqOp; split <;> simp [h]
  · unfold keepOp; split <;> simp [h]
  · simp [h]
  · simp [h]
  · unfold chartOp; split <;> simp [h]
  · unfold portOp; split <;> simp [h]

@[simp] theorem keyWrite_portsWf (off : Nat) (d : Word) (s : State) (h : PortsWf s.ports) : PortsWf (keyWrite off d s).ports := by
  unfold keyWrite
  dsimp only
  split
  · rename_i hc
    split
    · unfold cmdStart
      split
      · exact control_portsWf hc _ (by simp [h])
      · simp [h]
    · exact h
  · (repeat' split) <;> simp [h]

@[simp] theorem shutWritten_portsWf (old : Nat) (s : State) (hw : PortsWf s.ports) : PortsWf (shutWritten old s).ports := by
  unfold shutWritten
  try dsimp only
  (repeat' split) <;> simp (maxDischargeDepth := 30) +contextual [hw]

@[simp] theorem plainWrite_portsWf (r : RegInfo) (off : Nat) (lane : Word) (data : Word) (s : State) (hw : PortsWf s.ports) : PortsWf (plainWrite r off lane data s).ports := by
  unfold plainWrite
  try dsimp only
  (repeat' split) <;> simp (maxDischargeDepth := 30) +contextual [hw]

@[simp] theorem regWrite_portsWf (off : Nat) (size : Nat) (d : Word) (s : State) (hw : PortsWf s.ports) : PortsWf (regWrite off size d s).ports := by
  unfold regWrite
  try dsimp only
  (repeat' split) <;> simp (maxDischargeDepth := 30) +contextual [hw]

@[simp] theorem mgmtWrite_portsWf (off : Nat) (size : Nat) (d : Word) (s : State) (hw : PortsWf s.ports) : PortsWf (mgmtWrite off size d s).ports := by
  unfold mgmtWrite
  try dsimp only
  (repeat' split) <;> simp (maxDischargeDepth := 30) +contextual [hw]

@[simp] theorem fenceEnds_portsWf (op : Nat) (i : Nat) (s : State) (hw : PortsWf s.ports) : PortsWf (fenceEnds op i s).ports := by
  unfold fenceEnds
  try dsimp only
  (repeat' split) <;> simp (maxDischargeDepth := 30) +contextual [hw]

@[simp] theorem descriptorIn_portsWf (i : Nat) (d : Desc) (s : State) (hw : PortsWf s.ports) : PortsWf (descriptorIn i d s).ports := by
  unfold descriptorIn
  try dsimp only
  (repeat' split) <;> simp (maxDischargeDepth := 30) +contextual [hw]

@[simp] theorem gaugeStep_portsWf (x : GaugeSample) (s : State) (hw : PortsWf s.ports) : PortsWf (gaugeStep x s).ports := by
  unfold gaugeStep
  try dsimp only
  (repeat' split) <;> simp (maxDischargeDepth := 30) +contextual [hw]

@[simp] theorem linkLost_portsWf (p : Nat) (s : State) (hw : PortsWf s.ports) : PortsWf (linkLost p s).ports := by
  unfold linkLost
  try dsimp only
  (repeat' split) <;> simp (maxDischargeDepth := 30) +contextual [hw]

@[simp] theorem portOpen_portsWf (p : Nat) (s : State) (hw : PortsWf s.ports) : PortsWf (portOpen p s).ports := by
  unfold portOpen
  try dsimp only
  (repeat' split) <;> simp (maxDischargeDepth := 30) +contextual [hw]

@[simp] theorem domainUp_portsWf (d : Nat) (s : State) (hw : PortsWf s.ports) : PortsWf (domainUp d s).ports := by
  unfold domainUp
  try dsimp only
  (repeat' split) <;> simp (maxDischargeDepth := 30) +contextual [hw]

@[simp] theorem checkArrives_portsWf (w : BitVec 32) (s : State) (hw : PortsWf s.ports) : PortsWf (checkArrives w s).ports := by
  unfold checkArrives
  try dsimp only
  (repeat' split) <;> simp (maxDischargeDepth := 30) +contextual [hw]

@[simp] theorem itemArrives_portsWf (w : BitVec 32) (s : State) (hw : PortsWf s.ports) : PortsWf (itemArrives w s).ports := by
  unfold itemArrives
  try dsimp only
  (repeat' split) <;> simp (maxDischargeDepth := 30) +contextual [hw]

@[simp] theorem nextUp_portsWf (s : State) (hw : PortsWf s.ports) : PortsWf (nextUp s).ports := by
  unfold nextUp
  try dsimp only
  (repeat' split) <;> simp (maxDischargeDepth := 30) +contextual [hw]

@[simp] theorem sluiceDone_portsWf (s : State) (hw : PortsWf s.ports) : PortsWf (sluiceDone s).ports := by
  unfold sluiceDone
  try dsimp only
  (repeat' split) <;> simp (maxDischargeDepth := 30) +contextual [hw]

@[simp] theorem endProgram_portsWf (p : Nat) (s : State) (hw : PortsWf s.ports) : PortsWf (endProgram p s).ports := by
  unfold endProgram
  try dsimp only
  (repeat' split) <;> simp (maxDischargeDepth := 30) +contextual [hw]

@[simp] theorem programStart_portsWf (s : State) (hw : PortsWf s.ports) : PortsWf (programStart s).ports := by
  unfold programStart
  try dsimp only
  (repeat' split) <;> simp (maxDischargeDepth := 30) +contextual [hw]

@[simp] theorem readyNow_portsWf (s : State) (hw : PortsWf s.ports) : PortsWf (readyNow s).ports := by
  unfold readyNow
  try dsimp only
  (repeat' split) <;> simp (maxDischargeDepth := 30) +contextual [hw]

@[simp] theorem loadBerths_portsWf (m : Manifest) (chains : Tbl (List Rec)) (s : State) (hw : PortsWf s.ports) : PortsWf (loadBerths m chains s).ports := by
  unfold loadBerths
  try dsimp only
  (repeat' split) <;> simp (maxDischargeDepth := 30) +contextual [hw]

@[simp] theorem replyIn_portsWf (a : Nat) (f : List Byte) (s : State) (hw : PortsWf s.ports) : PortsWf (replyIn a f s).ports := by
  unfold replyIn
  try dsimp only
  (repeat' split) <;> simp (maxDischargeDepth := 30) +contextual [hw]

@[simp] theorem portsOff_portsWf (s : State) (hw : PortsWf s.ports) : PortsWf (portsOff s).ports := by
  unfold portsOff
  try dsimp only
  (repeat' split) <;> simp (maxDischargeDepth := 30) +contextual [hw]

@[simp] theorem drainBerth_portsWf (i : Nat) (s : State) (hw : PortsWf s.ports) : PortsWf (drainBerth i s).ports := by
  unfold drainBerth
  try dsimp only
  (repeat' split) <;> simp (maxDischargeDepth := 30) +contextual [hw]

@[simp] theorem drainLoop_portsWf (i : Nat) (x1 : Nat) (s : State) (hw : PortsWf s.ports) : PortsWf (drainLoop i x1 s).ports := by
  induction x1 generalizing s with
  | zero => exact hw
  | succ n ih =>
    unfold drainLoop
    try dsimp only
    (repeat' split) <;> first | exact hw | simp (maxDischargeDepth := 30) [hw, ih]

@[simp] theorem sluiceTorn_portsWf (s : State) (hw : PortsWf s.ports) : PortsWf (sluiceTorn s).ports := by
  unfold sluiceTorn
  try dsimp only
  (repeat' split) <;> simp (maxDischargeDepth := 30) +contextual [hw]

@[simp] theorem sealNow_portsWf (s : State) (hw : PortsWf s.ports) : PortsWf (sealNow s).ports := by
  unfold sealNow
  try dsimp only
  (repeat' split) <;> simp (maxDischargeDepth := 30) +contextual [hw]

@[simp] theorem mediumKept_portsWf (s : State) : PortsWf (mediumKept s).ports := by
  unfold mediumKept
  exact rfl

@[simp] theorem present_portsWf (p : Nat) (t : Word) (s : State) (hw : PortsWf s.ports) : PortsWf (present p t s).ports := by
  unfold present
  try dsimp only
  (repeat' split) <;> simp (maxDischargeDepth := 30) +contextual [hw]

end Sys2Proof.Machine
end

