-- ==== Sys2Proof/Laws/PerInstr.lean ====
section
/-! SUPPORT. The family Wf, one lemma per constructor: what each operand of a well-formed command is. -/

namespace Sys2Proof.Laws

theorem nodup_of_distinct {α : Type} [DecidableEq α] : ∀ l : List α, distinct l = true → l.Nodup
  | [], _ => List.nodup_nil
  | x :: xs, h => by
    simp only [distinct, Bool.and_eq_true, Bool.not_eq_true', List.contains_eq_mem, decide_eq_false_iff_not] at h
    exact List.nodup_cons.2 ⟨h.1, nodup_of_distinct xs h.2⟩

theorem sizeOk_bounds (n : BitVec 4) : sizeOk n = true → 1 ≤ n.toNat ∧ n.toNat ≤ 8 := by
  simp [sizeOk]

namespace Wf

/-- A well-formed command's operands keep their bounds: a payload its 512 sectors, a memory access its 8 bytes, a frame its
length, a list of places no place twice, a sample list one sample per string. -/
def Statement (i : Instr) : Prop :=
  i.wf = true → match i with
    | .putCommit _ payload => payload < 2 ^ (4096 * 512)
    | .verifyReadbackDone _ cws => (cws.map (fun x => (x.1, x.2.1, x.2.2.1))).Nodup
    | .refloatVerifyDone cws => (cws.map (fun x => (x.1, x.2.1, x.2.2.1, x.2.2.2.1))).Nodup
    | .refloatScanDone heads dirs marks => heads.Nodup ∧ dirs.Nodup ∧ marks.Nodup
    | .basinReadDone _ cws => 1 ≤ cws.length ∧ cws.length ≤ 65
    | .selfTestDone _ _ odd readings => (odd.map (·.1)).Nodup ∧ (readings.map (·.rail)).Nodup
    | .gaugeUpdate sample => sample.strings.length = 8
    | .smbusPoll answers => answers.length = 8
    | .pmbusPoll readings => (readings.map (·.rail)).Nodup
    | .smbalert readings => (readings.map (·.rail)).Nodup
    | .beacon frame => frame.length = 16
    | .reply _ frame => frame.length = 8
    | .linkUp _ speed width => speed.toNat ∈ [1, 2, 3, 4, 5] ∧ width.toNat ∈ [1, 2, 4]
    | .maximumOpenTime _ bank => bank < 256
    | .imageReadDone _ host => host.length ≤ 24 * 2 ^ 20
    | .flagAccess _ _ size _ _ => 1 ≤ size.toNat ∧ size.toNat ≤ 8
    | .rcRead _ size => 1 ≤ size.toNat ∧ size.toNat ≤ 8
    | .registerWrite _ size _ => 1 ≤ size.toNat ∧ size.toNat ≤ 8
    | _ => True

theorem doorbellWrite (port : Fin 256) (off : BitVec 32) (data : Word) (be : BitVec 8) : Statement (.doorbellWrite port off data be) := fun _ => trivial

theorem descriptorFetch (b : BerthId) : Statement (.descriptorFetch b) := fun _ => trivial

theorem descriptorReadFail (b : BerthId) (why : ReadFail) (tag : BitVec 16) : Statement (.descriptorReadFail b why tag) := fun _ => trivial

theorem nop (b : BerthId) (d : Desc) : Statement (.nop b d) := fun _ => trivial

theorem put (b : BerthId) (d : Desc) : Statement (.put b d) := fun _ => trivial

theorem retire (b : BerthId) (d : Desc) : Statement (.retire b d) := fun _ => trivial

theorem fetch (b : BerthId) (d : Desc) : Statement (.fetch b d) := fun _ => trivial

theorem query (b : BerthId) (d : Desc) : Statement (.query b d) := fun _ => trivial

theorem shaperRelease (b : BerthId) : Statement (.shaperRelease b) := fun _ => trivial

theorem putCommit (b : BerthId) (payload : Nat) : Statement (.putCommit b payload) := by
  intro h; simpa [Instr.wf] using h

theorem payloadReadFail (b : BerthId) (idx : BitVec 12) (why : ReadFail) : Statement (.payloadReadFail b idx why) := fun _ => trivial

theorem holdLimitExpiry (b : BerthId) : Statement (.holdLimitExpiry b) := fun _ => trivial

theorem refusalPost (b : BerthId) : Statement (.refusalPost b) := fun _ => trivial

theorem quantumPost (b : BerthId) : Statement (.quantumPost b) := fun _ => trivial

theorem completionWriteFail (b : BerthId) : Statement (.completionWriteFail b) := fun _ => trivial

theorem berthMove (b : BerthId) (engine : Fin 64) : Statement (.berthMove b engine) := fun _ => trivial

theorem berthSel (value : Word) : Statement (.berthSel value) := fun _ => trivial

theorem charter : Statement .charter := fun _ => trivial

theorem modify : Statement .modify := fun _ => trivial

theorem fence : Statement .fence := fun _ => trivial

theorem fenceDone : Statement .fenceDone := fun _ => trivial

theorem recharter : Statement .recharter := fun _ => trivial

theorem release : Statement .release := fun _ => trivial

theorem budgetRecompute : Statement .budgetRecompute := fun _ => trivial

theorem budgetRise : Statement .budgetRise := fun _ => trivial

theorem weirShutWrite (shut : Bool) : Statement (.weirShutWrite shut) := fun _ => trivial

theorem comparatorTrip (c : Cmp) : Statement (.comparatorTrip c) := fun _ => trivial

theorem comparatorRelease (c : Cmp) : Statement (.comparatorRelease c) := fun _ => trivial

theorem residenceLimitExpiry (b : BerthId) (seq : BitVec 48) : Statement (.residenceLimitExpiry b seq) := fun _ => trivial

theorem bargeWaitExpiry (stream : Stream) : Statement (.bargeWaitExpiry stream) := fun _ => trivial

theorem chunkProgramDone (die : Fin 1536) (block : Fin 4096) (row : Fin 1024) : Statement (.chunkProgramDone die block row) := fun _ => trivial

theorem programFail (die : Fin 1536) (block : Fin 4096) : Statement (.programFail die block) := fun _ => trivial

theorem verifyReadbackDone (sb : BitVec 20) (cws : List (Fin 1024 × Fin 17 × Fin 16 × CwRead)) : Statement (.verifyReadbackDone sb cws) := nodup_of_distinct _

theorem basinReadDone (who : ReadFor) (cws : List CwRead) : Statement (.basinReadDone who cws) := by
  intro h; simpa [Instr.wf] using h

theorem checkpointTimer : Statement .checkpointTimer := fun _ => trivial

theorem chartReadDone (cpn : BitVec 32) (ok crcOk : Bool) (pageBerth : BerthId) (pageCpn : BitVec 32) (pageSeq : Word) : Statement (.chartReadDone cpn ok crcOk pageBerth pageCpn pageSeq) := fun _ => trivial

theorem blankCheckDone (die : Fin 1536) (block : Fin 4096) (pass : Bool) : Statement (.blankCheckDone die block pass) := fun _ => trivial

theorem eraseDone (die : Fin 1536) (block : Fin 4096) (pass : Bool) : Statement (.eraseDone die block pass) := fun _ => trivial

theorem collectionMove (q : Fin 4) : Statement (.collectionMove q) := fun _ => trivial

theorem wearLevelMove (q : Fin 4) : Statement (.wearLevelMove q) := fun _ => trivial

theorem throttleWindow : Statement .throttleWindow := fun _ => trivial

theorem lifeDaily : Statement .lifeDaily := fun _ => trivial

theorem sanitizeStart (key : Byte) (start : Bool) : Statement (.sanitizeStart key start) := fun _ => trivial

theorem sanitizeMarkerUpdate : Statement .sanitizeMarkerUpdate := fun _ => trivial

theorem caParityAlert (ch : Fin 12) (failed : Fin 9) : Statement (.caParityAlert ch failed) := fun _ => trivial

theorem phyFault (ch : Fin 12) : Statement (.phyFault ch) := fun _ => trivial

theorem probeTimer (mismatch : BitVec 12) : Statement (.probeTimer mismatch) := fun _ => trivial

theorem drcRetire (key : Byte) (retire : Bool) (ch : BitVec 4) : Statement (.drcRetire key retire ch) := fun _ => trivial

theorem controlRemirrorDone : Statement .controlRemirrorDone := fun _ => trivial

theorem compactionSwitch (b : BerthId) (seq : BitVec 48) : Statement (.compactionSwitch b seq) := fun _ => trivial

theorem refreshDue (ch : Fin 12) (rank : Fin 8) (bank : Option (Fin 4)) : Statement (.refreshDue ch rank bank) := fun _ => trivial

theorem zqCalDue (ch : Fin 12) : Statement (.zqCalDue ch) := fun _ => trivial

theorem urgencyStep (ch : Fin 12) (req : Nat) : Statement (.urgencyStep ch req) := fun _ => trivial

theorem sluiceCommand (key : Byte) (start : Bool) : Statement (.sluiceCommand key start) := fun _ => trivial

theorem sluiceDrainLimit : Statement .sluiceDrainLimit := fun _ => trivial

theorem sluiceDrainEnd : Statement .sluiceDrainEnd := fun _ => trivial

theorem sluicePoundDrained : Statement .sluicePoundDrained := fun _ => trivial

theorem sluiceSeal : Statement .sluiceSeal := fun _ => trivial

theorem sluiceEnergyExhausted : Statement .sluiceEnergyExhausted := fun _ => trivial

theorem restartHoldExpiry : Statement .restartHoldExpiry := fun _ => trivial

theorem refloatScanDone (heads : List (BitVec 20 × Fin 1024 × Fin 17 × Fin 4)) (dirs : List (BitVec 20 × Fin 1024)) (marks : List (Fin 1536 × Fin 4096)) : Statement (.refloatScanDone heads dirs marks) := by
  intro h
  simp only [Instr.wf, Bool.and_eq_true] at h
  exact ⟨nodup_of_distinct _ h.1.1, nodup_of_distinct _ h.1.2, nodup_of_distinct _ h.2⟩

theorem refloatVerifyDone (cws : List (BitVec 20 × Fin 1024 × Fin 17 × Fin 16 × CwRead)) : Statement (.refloatVerifyDone cws) := nodup_of_distinct _

theorem refloatReady : Statement .refloatReady := fun _ => trivial

theorem gaugeUpdate (sample : GaugeSample) : Statement (.gaugeUpdate sample) := by
  intro h; simpa [Instr.wf] using h

theorem endOfCharge (i : Fin 8) : Statement (.endOfCharge i) := fun _ => trivial

theorem endOfDischarge (i : Fin 8) : Statement (.endOfDischarge i) := fun _ => trivial

theorem smbusPoll (answers : List (Option (BitVec 128 × BitVec 8))) : Statement (.smbusPoll answers) := by
  intro h; simpa [Instr.wf] using h

theorem authRetryTimer (i : Fin 8) : Statement (.authRetryTimer i) := fun _ => trivial

theorem authVerdict (i : Fin 8) (id : Identity) (r s : BitVec 256) : Statement (.authVerdict i id r s) := fun _ => trivial

theorem learnSchedule (i : Fin 8) (ack : Bool) : Statement (.learnSchedule i ack) := fun _ => trivial

theorem acLostSet (report : Bool) : Statement (.acLostSet report) := fun _ => trivial

theorem acLostClear : Statement .acLostClear := fun _ => trivial

theorem hibernate : Statement .hibernate := fun _ => trivial

theorem hibernateHour : Statement .hibernateHour := fun _ => trivial

theorem gaugeWake : Statement .gaugeWake := fun _ => trivial

theorem capTestPeriod : Statement .capTestPeriod := fun _ => trivial

theorem capTestEnd (charge : Nat) (fall : Nat) : Statement (.capTestEnd charge fall) := fun _ => trivial

theorem capTestTimeout : Statement .capTestTimeout := fun _ => trivial

theorem learnStart (key : Byte) (i : Fin 8) (ack : Bool) : Statement (.learnStart key i ack) := fun _ => trivial

theorem learnAbort (key : Byte) : Statement (.learnAbort key) := fun _ => trivial

theorem auth (key : Byte) (i : Fin 8) : Statement (.auth key i) := fun _ => trivial

theorem capTest (key : Byte) : Statement (.capTest key) := fun _ => trivial

theorem forget (key : Byte) (i : Fin 8) : Statement (.forget key i) := fun _ => trivial

theorem gaugeStringCapture (i : Fin 8) : Statement (.gaugeStringCapture i) := fun _ => trivial

theorem gaugeStatusCapture : Statement .gaugeStatusCapture := fun _ => trivial

theorem windlassStart : Statement .windlassStart := fun _ => trivial

theorem legTestDone (shorted : Option (Fin 6)) : Statement (.legTestDone shorted) := fun _ => trivial

theorem syncLock : Statement .syncLock := fun _ => trivial

theorem syncTimeout : Statement .syncTimeout := fun _ => trivial

theorem flyRestartWaitEnd : Statement .flyRestartWaitEnd := fun _ => trivial

theorem flySpeedUpdate (enc bemf link peak : BitVec 16) : Statement (.flySpeedUpdate enc bemf link peak) := fun _ => trivial

theorem brakeEnd : Statement .brakeEnd := fun _ => trivial

theorem brakeFail : Statement .brakeFail := fun _ => trivial

theorem flyTempShutdown (ps0 ps1 w0 w1 : BitVec 16) : Statement (.flyTempShutdown ps0 ps1 w0 w1) := fun _ => trivial

theorem speedDisagree : Statement .speedDisagree := fun _ => trivial

theorem overcurrentTrip (phase : Fin 6) : Statement (.overcurrentTrip phase) := fun _ => trivial

theorem desatFault (set : Fin 2) : Statement (.desatFault set) := fun _ => trivial

theorem phaseImbalance (phase : Fin 6) : Statement (.phaseImbalance phase) := fun _ => trivial

theorem trimLimit (phase : Fin 6) : Statement (.trimLimit phase) := fun _ => trivial

theorem loadRelease : Statement .loadRelease := fun _ => trivial

theorem loadReleaseEnd : Statement .loadReleaseEnd := fun _ => trivial

theorem linkOvervoltage : Statement .linkOvervoltage := fun _ => trivial

theorem linkTarget (target : BitVec 16) : Statement (.linkTarget target) := fun _ => trivial

theorem flyHold (key : Byte) (hold : Bool) : Statement (.flyHold key hold) := fun _ => trivial

theorem flyClear (key : Byte) : Statement (.flyClear key) := fun _ => trivial

theorem program0Start : Statement .program0Start := fun _ => trivial

theorem enable : Statement .enable := fun _ => trivial

theorem wait : Statement .wait := fun _ => trivial

theorem waitExpiry : Statement .waitExpiry := fun _ => trivial

theorem check : Statement .check := fun _ => trivial

theorem checkTimeout : Statement .checkTimeout := fun _ => trivial

theorem jump : Statement .jump := fun _ => trivial

theorem itemPowerGood : Statement .itemPowerGood := fun _ => trivial

theorem enableTimeout : Statement .enableTimeout := fun _ => trivial

theorem railFault (r : Fin 64) : Statement (.railFault r) := fun _ => trivial

theorem timedGraceExpiry : Statement .timedGraceExpiry := fun _ => trivial

theorem railTransEnd (r : Fin 64) (good : Bool) : Statement (.railTransEnd r good) := fun _ => trivial

theorem pmbusPoll (readings : List RailReading) : Statement (.pmbusPoll readings) := nodup_of_distinct _

theorem smbalert (readings : List RailReading) : Statement (.smbalert readings) := nodup_of_distinct _

theorem resetStretchEnd (n : Fin 16) : Statement (.resetStretchEnd n) := fun _ => trivial

theorem clear (key : Byte) : Statement (.clear key) := fun _ => trivial

theorem runService (key : Byte) : Statement (.runService key) := fun _ => trivial

theorem railCmd (key : Byte) (ack : Bool) : Statement (.railCmd key ack) := fun _ => trivial

theorem resetN (ns : Nat) : Statement (.resetN ns) := fun _ => trivial

theorem aonStart (towAddr : BitVec 3) (testEn : Bool) : Statement (.aonStart towAddr testEn) := fun _ => trivial

theorem logRecordWrite : Statement .logRecordWrite := fun _ => trivial

theorem logRead (seq : BitVec 32) : Statement (.logRead seq) := fun _ => trivial

theorem logReadDone : Statement .logReadDone := fun _ => trivial

theorem beaconSend : Statement .beaconSend := fun _ => trivial

theorem beacon (frame : List Byte) : Statement (.beacon frame) := by
  intro h; simpa [Instr.wf] using h

theorem reply (slot : Fin 8) (frame : List Byte) : Statement (.reply slot frame) := by
  intro h; simpa [Instr.wf] using h

theorem towStaggerStart (a : Fin 8) : Statement (.towStaggerStart a) := fun _ => trivial

theorem towSendStart (key mask : Byte) : Statement (.towSendStart key mask) := fun _ => trivial

theorem towSendSluice (key mask : Byte) : Statement (.towSendSluice key mask) := fun _ => trivial

theorem towSendClear (key mask : Byte) : Statement (.towSendClear key mask) := fun _ => trivial

theorem towpathLost : Statement .towpathLost := fun _ => trivial

theorem memberAbsent (a : Fin 8) : Statement (.memberAbsent a) := fun _ => trivial

theorem joinWaitExpiry : Statement .joinWaitExpiry := fun _ => trivial

theorem keeperEvent (src : BitVec 12) (severe : Bool) (detail : BitVec 48) : Statement (.keeperEvent src severe detail) := fun _ => trivial

theorem lineFault (src : BitVec 12) : Statement (.lineFault src) := fun _ => trivial

theorem shutdownGraceExpiry : Statement .shutdownGraceExpiry := fun _ => trivial

theorem aliveHoldEnd : Statement .aliveHoldEnd := fun _ => trivial

theorem ackAlive (key : Byte) : Statement (.ackAlive key) := fun _ => trivial

theorem restore (key : Byte) (src : BitVec 12) : Statement (.restore key src) := fun _ => trivial

theorem restoreAll (key : Byte) : Statement (.restoreAll key) := fun _ => trivial

theorem ackWarn (key : Byte) : Statement (.ackWarn key) := fun _ => trivial

theorem keepInject (data : Word) : Statement (.keepInject data) := fun _ => trivial

theorem pushWaitExpiry : Statement .pushWaitExpiry := fun _ => trivial

theorem push (key : Byte) : Statement (.push key) := fun _ => trivial

theorem loadSlot (key : Byte) (slot : Bool) : Statement (.loadSlot key slot) := fun _ => trivial

theorem writeSlot (key : Byte) (slot : Bool) : Statement (.writeSlot key slot) := fun _ => trivial

theorem setTrial (key : Byte) (slot : Bool) : Statement (.setTrial key slot) := fun _ => trivial

theorem imageReadDone (ok : Bool) (host : List Byte) : Statement (.imageReadDone ok host) := by
  intro h; simpa [Instr.wf] using h

theorem selfTestDone (channels : BitVec 12) (id : BitVec 48) (odd : List (Fin 1536 × BitVec 48)) (readings : List RailReading) : Statement (.selfTestDone channels id odd readings) := by
  intro h
  simp only [Instr.wf, Bool.and_eq_true] at h
  exact ⟨nodup_of_distinct _ h.1, nodup_of_distinct _ h.2⟩

theorem confirmWindowExpiry : Statement .confirmWindowExpiry := fun _ => trivial

theorem fuseBlowDone : Statement .fuseBlowDone := fun _ => trivial

theorem linkUp (port : Fin 256) (speed width : BitVec 3) : Statement (.linkUp port speed width) :=
  (by decide : ∀ v w : BitVec 3, (decide (1 ≤ v.toNat ∧ v.toNat ≤ 5) && (w == 1 || w == 2 || w == 4)) = true →
    v.toNat ∈ [1, 2, 3, 4, 5] ∧ w.toNat ∈ [1, 2, 4]) speed width

theorem linkDown (port : Fin 256) : Statement (.linkDown port) := fun _ => trivial

theorem hotReset (port : Fin 256) : Statement (.hotReset port) := fun _ => trivial

theorem flr (port : Fin 256) : Statement (.flr port) := fun _ => trivial

theorem flrComplete (port : Fin 256) : Statement (.flrComplete port) := fun _ => trivial

theorem d3hotEntry (port : Fin 256) : Statement (.d3hotEntry port) := fun _ => trivial

theorem d0Return (port : Fin 256) : Statement (.d0Return port) := fun _ => trivial

theorem retryTimerExpiry (port : Fin 256) : Statement (.retryTimerExpiry port) := fun _ => trivial

theorem tokenPresentation (port : Fin 256) (token : Word) (be : BitVec 8) : Statement (.tokenPresentation port token be) := fun _ => trivial

theorem portRetire (key : Byte) (port : Fin 256) : Statement (.portRetire key port) := fun _ => trivial

theorem lockCycle (key : Byte) (mode : BitVec 2) (epoch : BitVec 16) : Statement (.lockCycle key mode epoch) := fun _ => trivial

theorem portModeApply (port : Fin 256) : Statement (.portModeApply port) := fun _ => trivial

theorem glbReset (key : Byte) : Statement (.glbReset key) := fun _ => trivial

theorem irqDueSend (vector : Fin 8) : Statement (.irqDueSend vector) := fun _ => trivial

theorem flagAccess (n : Fin 256) (write : Bool) (size : BitVec 4) (high : Bool) (data : Word) : Statement (.flagAccess n write size high data) := sizeOk_bounds _

theorem chartEnable (key : Byte) : Statement (.chartEnable key) := fun _ => trivial

theorem chartDisable (key : Byte) : Statement (.chartDisable key) := fun _ => trivial

theorem mgmtLinkReset (what : MgmtReset) : Statement (.mgmtLinkReset what) := fun _ => trivial

theorem rcRead (off : BitVec 26) (size : BitVec 4) : Statement (.rcRead off size) := sizeOk_bounds _

theorem registerWrite (off : BitVec 26) (size : BitVec 4) (data : Word) : Statement (.registerWrite off size data) := sizeOk_bounds _

theorem mul (key : Byte) (gen : Bool) : Statement (.mul key gen) := fun _ => trivial

theorem verify (key : Byte) : Statement (.verify key) := fun _ => trivial

theorem attest (key : Byte) : Statement (.attest key) := fun _ => trivial

theorem random (key : Byte) : Statement (.random key) := fun _ => trivial

theorem pkeOpDone : Statement .pkeOpDone := fun _ => trivial

theorem rootLoss : Statement .rootLoss := fun _ => trivial

theorem rootBack : Statement .rootBack := fun _ => trivial

theorem pllALoss : Statement .pllALoss := fun _ => trivial

theorem pllBLoss : Statement .pllBLoss := fun _ => trivial

theorem standbySupplyCollapse : Statement .standbySupplyCollapse := fun _ => trivial

theorem pwmPeriod (link : BitVec 16) : Statement (.pwmPeriod link) := fun _ => trivial

theorem maximumOpenTime (ch : Fin 12) (bank : Nat) : Statement (.maximumOpenTime ch bank) := by
  intro h; simpa [Instr.wf] using h

theorem busMasterEnable (port : Fin 256) (on : Bool) : Statement (.busMasterEnable port on) := fun _ => trivial

theorem msixVectorUnmask (port : Fin 256) (what : Unmask) : Statement (.msixVectorUnmask port what) := fun _ => trivial

theorem slotWriteDone (ok : Bool) : Statement (.slotWriteDone ok) := fun _ => trivial

theorem setTrialDone (ok : Bool) : Statement (.setTrialDone ok) := fun _ => trivial

theorem entropyTestFail : Statement .entropyTestFail := fun _ => trivial

theorem entropyTestPass : Statement .entropyTestPass := fun _ => trivial

end Wf

end Sys2Proof.Laws
end

