-- ==== Sys2Proof/Tests/Slice0.lean ====
section
/-! SUPPORT. The model's own tests: ill-formed operands that WellFormed refuses, witnesses that the hypotheses of every statement can
be met, clause by clause and at the edges of their ranges, and single steps with results taken from the spec. -/

namespace Sys2Proof.Tests

open Sys2Proof Sys2Proof.Machine Sys2Proof.Safety

set_option Elab.async false

/-! States -/

/-- A field of a register written. -/
def put (off hi lo v : Nat) (s : State) : State := s.setReg off (setFld (s.reg off) hi lo v)

/-- Every domain on and good, clocks locked, the management link up, refloat ready. -/
def live : State :=
  { State.reset with
    seq := { State.reset.seq with st := 3, on := 0xFFFFFF, pg := 0xFFFFFF, lines := 0xFFFFFF, loaded := true }
    mgmt := { State.reset.mgmt with link := true, bme := true, msixEn := true }
    clk := { State.reset.clk with aon := true, rootOk := true, supLock := true, aLock := true, bLock := true }
    keep := { State.reset.keep with stopped := false }
    refloat := { State.reset.refloat with stage := 5, opened := true }
    weir := { State.reset.weir with st := .opened } }

/-- A port that is up, with vector 3 unmasked. -/
def upPort : Port :=
  { Port.idle with st := .up, linkUp := true, bme := true, msixEn := true, fnMask := false, unmasked := [3], speed := 3, width := 4 }

/-- Port 0 up with two slots, one doorbell a page. -/
def onPort : State := put offPORT_CFG 16 0 2 (live.setPort 0 upPort)

/-- Berth 5 on slot 0 of port 0, rings of 16 entries, a ceiling of 100 granules. -/
def b5 : Berth :=
  { Berth.none with st := .opened, gen := 1, log2 := 4, ceil := 100, retain := 200, hold := 50, vector := 3, nextSeq := 1, spillOk := true }

def berthed (b : Berth) : State := onPort.setBerth 5 b

/-- A descriptor of berth 5, generation 1, with its CRC. -/
def desc (op flags len : Nat) (addr seq info : Nat) : Desc :=
  let d : Desc := ⟨BitVec.ofNat 64 (op + flags * 2 ^ 8 + len * 2 ^ 16 + 9 * 2 ^ 32), BitVec.ofNat 64 addr, BitVec.ofNat 64 seq, 0x100005,
    BitVec.ofNat 64 info, 0, 0, 0⟩
  { d with w7 := BitVec.ofNat 64 (crc32c ((wordBytes d.words).take 60) * 2 ^ 32) }

/-- Its flight as fetched at time 0, and in a later stage. -/
def fl : Flight := ⟨0, 0, 0, 0, 0, 50, true, 3, none, 9, 0, none, false, false, .fetching⟩

def flAt (st : Stage) : Flight := { fl with desc := some (desc 1 0 4 64 0 0), len := 4, stage := st }

/-- Its payload read is under way into a place on channels 0 and 6. -/
def reading : Flight := { flAt .reading with place := some ⟨[0, 6], 0⟩ }

def flying (f : Flight) (b : Berth) : State := berthed { b with flights := [f] }

/-- The image populates 96 flash channels of 16 targets; channel 0 is in service. -/
def flash (s : State) : State :=
  put offFMM_GEOM0 63 48 (96 * 256 + 16) { s with fmm := { s.fmm with chans := [(0, 1)] } }

/-- A record in the pound. -/
def rec1 : Rec := ⟨1, 4, 9, 7, 0, some ⟨[0, 6], 0⟩, none, false⟩

/-! What WellFormed refuses, one ill-formed command per check, each beside one at the edge that passes -/

theorem test_wf_verify : (Instr.verifyReadbackDone 0 [(3, 16, 0, .lost), (3, 16, 0, .bits 0)]).wf = false ∧
    (Instr.verifyReadbackDone 0 [(3, 16, 0, .lost), (3, 16, 1, .lost)]).wf = true := by
  decide

theorem test_wf_refloat : (Instr.refloatVerifyDone [(0, 3, 1, 0, .lost), (0, 3, 1, 0, .bits 5)]).wf = false ∧ (Instr.refloatVerifyDone []).wf = true ∧
    (Instr.refloatScanDone [(0, 1, 16, 3), (0, 1, 16, 3)] [] []).wf = false ∧ (Instr.refloatScanDone [] [(0, 1), (0, 1)] []).wf = false ∧
    (Instr.refloatScanDone [] [] [(5, 7), (5, 7)]).wf = false ∧ (Instr.refloatScanDone [(0, 1, 16, 3), (0, 1, 16, 2)] [(0, 1)] [(5, 7)]).wf = true ∧
    (Instr.basinReadDone (.collect 0) []).wf = false ∧ (Instr.basinReadDone (.collect 0) [.lost]).wf = true := by
  decide

theorem test_wf_selfTest : (Instr.selfTestDone 0 0 [(5, 1), (5, 2)] []).wf = false ∧ (Instr.selfTestDone 0 0 [] [⟨1, 0, 0⟩, ⟨1, 0, 0⟩]).wf = false ∧
    (Instr.selfTestDone 0 0 [(5, 1), (1535, 1)] [⟨1, 0, 0⟩]).wf = true := by
  decide

theorem test_wf_gauge : (Instr.gaugeUpdate ⟨List.replicate 7 ⟨0, 0⟩, 0⟩).wf = false ∧ (Instr.gaugeUpdate ⟨List.replicate 8 ⟨0, 0⟩, 0⟩).wf = true := by
  decide

theorem test_wf_polls : (Instr.smbusPoll (List.replicate 9 none)).wf = false ∧ (Instr.smbusPoll (List.replicate 8 none)).wf = true ∧
    (Instr.pmbusPoll [⟨1, 0, 0⟩, ⟨1, 0, 0⟩]).wf = false ∧ (Instr.pmbusPoll [⟨1, 0, 0⟩]).wf = true ∧
    (Instr.smbalert [⟨1, 0, 0⟩, ⟨1, 0, 0⟩]).wf = false := by
  decide

theorem test_wf_frames : (Instr.beacon (List.replicate 15 0)).wf = false ∧ (Instr.beacon (List.replicate 16 0)).wf = true ∧
    (Instr.reply 1 (List.replicate 9 0)).wf = false ∧ (Instr.reply 1 (List.replicate 8 0)).wf = true := by
  decide

theorem test_wf_linkUp : (Instr.linkUp 0 6 4).wf = false ∧ (Instr.linkUp 0 0 4).wf = false ∧ (Instr.linkUp 0 5 3).wf = false ∧
    (Instr.linkUp 0 5 4).wf = true := by
  decide

theorem test_wf_bank : (Instr.maximumOpenTime 0 256).wf = false ∧ (Instr.maximumOpenTime 0 255).wf = true := by decide

theorem test_wf_sizes : (Instr.flagAccess 0 true 0 false 0).wf = false ∧ (Instr.rcRead 0 9).wf = false ∧ (Instr.registerWrite 0 15 0).wf = false ∧
    (Instr.registerWrite 0 8 0).wf = true := by
  decide

theorem test_wf_payload : (Instr.putCommit 0 (2 ^ 2097152)).wf = false ∧ (Instr.putCommit 0 0).wf = true := by
  simp [Instr.wf]

theorem test_wf_image (l : List Byte) (h : 25165824 < l.length) : (Instr.imageReadDone true l).wf = false := by
  simp [Instr.wf]; omega

/-- No row of the table has bits. -/
theorem test_decode : decodeTableWord 8 0 = none ∧ (live.withFetchWord 64 5).pending = [] := by decide

/-! Checks and sums against values that the spec or a standard gives -/

/-- The check value of the manual's CRC (chapter 2), and SHA-256 of "abc" (FIPS 180-4). -/
theorem test_crc_and_hash : crc32c [0x31, 0x32, 0x33, 0x34, 0x35, 0x36, 0x37, 0x38, 0x39] = 0xE3069283 ∧
    sha256 [0x61, 0x62, 0x63] = 0xBA7816BF8F01CFEA414140DE5DAE2223B00361A396177A9CB410FF61F20015AD := by
  decide +kernel

/-- Twice the base point of P-256 (FIPS 186-4's curve). -/
theorem test_double : curveMul 2 0x6B17D1F2E12C4247F8BCE6E563A440F277037D812DEB33A0F4A13945D898C296
      0x4FE342E2FE1A7F9B8EE7EB4A7C0F9E162BCE33576B315ECECBB6406837BF51F5 =
    some (0x7CF27B188D034F7E8A52380304B51AC3C08969E277F21B35A60B48FC47669978, 0x07775510DB8ED040293D9AC69F7430DBBA7DADE63CE982299E04B79D227873D1) := by
  decide +kernel

/-- The capacitor-only budget of the reference sled: 1,500 J raw, 1,353.75 J derated; from 1.875 F, 50 V and 30 V. -/
theorem test_capacitors : let s := put offGAUGE_CFG_CAP0 63 48 1875 (put offGAUGE_CFG_CAP0 15 0 30000 { live with gauge := { live.gauge with bank := 50000 } })
    rawCap s = 1500000 ∧ derate 1500000 950 50 = 1353750 := by
  decide +kernel

/-- Spin-up at 18,400 rpm: 1,617.1 J raw and 1,382.6 J derated, within a joule. -/
theorem test_flywheel : let s := put offFLY_CFG0 31 0 20260 (put offFLY_CFG1 47 32 18000 { live with
      fly := { live.fly with st := .run, measured := true, set0 := true, set1 := true, used := 18400 } })
    rawFly s / 1000 = 1617 ∧ derate (rawFly s) 900 50 / 1000 = 1382 := by
  decide +kernel

/-! Witnesses: states and operands that meet the hypotheses of each statement, clause by clause -/

theorem wit_StepRunsFront : (({ State.reset with pending := [.charter] } : State).pending = .charter :: []) ∧ State.reset.pending = [] := by
  decide

theorem wit_EveryCommandCompletes : exec (.gaugeUpdate ⟨[], 0⟩) live = .fault .malformedCommand ∧
    committable (flying reading b5) 5 = some (reading, ⟨[0, 6], 0⟩) ∧ 2 ^ (4096 * reading.len) ≤ 2 ^ 16384 := by
  refine ⟨rfl, by decide +kernel, by decide +kernel⟩

theorem wit_DoorbellFields : let s := berthed { b5 with cqTail := 2 }
    doorbellOpen s 0 = true ∧ (doorbellSlot s 0 0).bind (berthAt s 0) = some 5 ∧ headOk (s.berth 5) 2 = true ∧
    headOk (s.berth 5) 3 = false ∧ fld 0x2000F 15 0 < 2 ^ (s.berth 5).log2 ∧ ¬ fld 0x20010 15 0 < 2 ^ (s.berth 5).log2 ∧
    fld 0x2000F 31 16 = 2 ∧ (0x3 : BitVec 8).getLsbD 1 = true ∧ (0x3 : BitVec 8).getLsbD 2 = false := by
  decide +kernel

theorem wit_DoorbellNoSlot : let asleep := live.setPort 0 { upPort with d3 := true }
    doorbellOpen State.reset 0 = false ∧ doorbellOpen onPort 0 = true ∧ (onPort.port 0).d3 = false ∧ (asleep.port 0).linkUp = true ∧
    (asleep.port 0).d3 = true ∧ (State.reset.port 0).linkUp = false ∧ barSize onPort 0 ≤ 0x10000 + (0xFFFFFFFF : BitVec 32).toNat ∧
    0x10000 + (0 : BitVec 32).toNat < barSize onPort 0 ∧ (doorbellSlot onPort 0 0).bind (berthAt onPort 0) = none := by
  decide +kernel

theorem wit_DescriptorFetch : mayFetch (berthed { b5 with sqTail := 1, cqTail := 14 }) 5 = true ∧
    mayFetch (berthed { b5 with sqTail := 1, cqTail := 15 }) 5 = false := by
  decide +kernel

theorem wit_DescriptorOutcomes : let s := flying fl b5
    let fenced := flying fl { b5 with st := .fenced }
    Settled s ∧ Awaits (5 : BerthId).toNat fl s ∧ Awaits (5 : BerthId).toNat fl fenced ∧ (fenced.berth 5).st = .fenced ∧
    Awaits (5 : BerthId).toNat { fl with mode := 1 } (flying { fl with mode := 1 } b5) ∧
    Awaits (5 : BerthId).toNat fl (flying fl { b5 with st := .exhausted }) ∧
    (desc 1 0 4 64 0 0).crcOk = true ∧ badDesc (desc 1 0 4 64 0 0) 5 b5 = false ∧ badDesc (desc 1 0 513 64 0 0) 5 b5 = true ∧
    { (desc 1 0 4 64 0 0) with w7 := 0 }.crcOk = false ∧ (desc 0 0 0 0 0 0).crcOk = true ∧
    badDesc (desc 0 0 0 0 0 0) 5 b5 = false ∧ (desc 5 0 0 0 0 64).crcOk = true ∧ badDesc (desc 5 0 0 0 0 64) 5 b5 = false ∧
    s.portSends (s.berth 5).port = true := by
  simp only [Awaits]; decide +kernel

theorem wit_RetireRaises : let b := { b5 with nextSeq := 2, chain := [rec1] }
    let s := flying fl b
    Settled s ∧ Awaits (5 : BerthId).toNat fl s ∧ (desc 2 0 0 0 1 0).crcOk = true ∧ badDesc (desc 2 0 0 0 1 0) 5 b = false ∧
    (desc 2 2 0 0 0 0).crcOk = true ∧ badDesc (desc 2 2 0 0 0 0) 5 b = false ∧ (s.berth 5).st ≠ .fenced ∧ (desc 2 2 0 0 0 0).opcode = 2 ∧
    Awaits (5 : BerthId).toNat fl (flying fl { b with st := .refloating, lastSurvivor := 1 }) := by
  simp only [Awaits]; decide +kernel

theorem wit_FetchAnswers : let d := desc 3 0 4 64 1 64
    let at_ := fun (r : Rec) => flying fl { b5 with nextSeq := 2, chain := [r] }
    let onFlash := { rec1 with place := none, basin := some (3, 0) }
    let dead := at_ { rec1 with place := none, basin := some (lostBarge, 0) }
    let lit := flash (at_ onFlash)
    Settled (at_ rec1) ∧ Awaits (5 : BerthId).toNat fl (at_ rec1) ∧ Awaits (5 : BerthId).toNat fl lit ∧ Awaits (5 : BerthId).toNat fl dead ∧
    d.crcOk = true ∧ badDesc d 5 b5 = false ∧ d.opcode = 3 ∧ (at_ rec1).portSends 0 = true ∧ findRec (flying fl b5 |>.berth 5) 1 = none ∧
    findRec ((at_ rec1).berth 5) d.sequence = some rec1 ∧ rec1.len ≤ d.length ∧ (desc 3 0 3 64 1 64).length < rec1.len ∧
    (desc 3 0 3 64 1 64).crcOk = true ∧ badDesc (desc 3 0 3 64 1 64) 5 b5 = false ∧
    findRec (dead.berth 5) d.sequence = some { rec1 with place := none, basin := some (lostBarge, 0) } ∧
    findRec (lit.berth 5) d.sequence = some onFlash ∧ 3 ≠ lostBarge ∧ quadUp (at_ onFlash) (quadOfBarge (at_ onFlash) 3) = false ∧
    quadUp lit (quadOfBarge lit 3) = true := by
  simp only [Awaits]; decide +kernel

theorem wit_PutAdmission : let d := desc 1 0 4 64 0 0
    let f := { fl with floor := 4 }
    let w : Flight := { arrived b5 f d with stage := .held }
    let roomy := fun (s : State) => put offDRC_LAYOUT0 59 48 (256 * 4 + 1) (put offWEIR_INGRESS 47 32 100 { s with
      drc := { s.drc with chans := [(0, ⟨2, 0⟩), (6, ⟨2, 0⟩)] }, weir := { s.weir with tokens := 2048 } })
    let s := roomy (flying f b5)
    let v := fun (s : State) => judge (s.setBerth 5 (alone (s.berth 5) w)) 5 w false false
    Settled s ∧ Awaits (5 : BerthId).toNat f s ∧ waiters s = [] ∧ d.crcOk = true ∧ badDesc d 5 b5 = false ∧ d.opcode = 1 ∧
    (s.berth 5).st = .opened ∧ f.mode ≠ 1 ∧ b5.ceil < 97 + d.length ∧ ¬ (b5.ceil < 96 + d.length) ∧
    Awaits (5 : BerthId).toNat f (roomy (flying f { b5 with held := 97 })) ∧
    (v s).grant.isSome = true ∧ shaperLets s d.length = true ∧ shaperLets { s with weir := { s.weir with tokens := 2047 } } d.length = false ∧
    (v { s with weir := { s.weir with tokens := 2047 } }).grant.isSome = true ∧
    (v (flying f b5)).grant = none ∧ (flying f b5).now < f.tFetch + f.hold ∧ (v { flying f b5 with now := 50 }).grant = none ∧
    f.tFetch + f.hold ≤ ({ flying f b5 with now := 50 } : State).now ∧ s.weir.st ≠ .sluice ∧
    Awaits (5 : BerthId).toNat f { s with weir := { s.weir with st := .sluice } } := by
  simp only [Awaits]; decide +kernel

theorem wit_PutReadsAndCommits : let s := flying reading b5
    let shaped := flAt .shaped
    committable s 5 = some (reading, ⟨[0, 6], 0⟩) ∧ 7 < 2 ^ (4096 * reading.len) ∧ committable onPort 5 = none ∧
    ((flying shaped b5).berth 5).flights.find? (fun y => y.stage == .shaped) = some shaped ∧ shaped.desc = some (desc 1 0 4 64 0 0) ∧
    shaperLets { flying shaped b5 with weir := { live.weir with tokens := 2048 } } shaped.len = true ∧
    shaperLets (put offWEIR_INGRESS 47 32 1 { flying shaped b5 with weir := { live.weir with tokens := 1023 } }) shaped.len = false ∧
    Settled (flying fl b5) ∧ Awaits (5 : BerthId).toNat fl (flying fl b5) ∧ (s.berth 5).flights = [reading] ∧
    reading.idx = (0 : BitVec 12).toNat ∧ reading.stage = .reading ∧ ReadFail.timeout ≠ .ecrc := by
  simp only [Awaits]; decide +kernel

theorem wit_PostingTimes : let c : Cpl := ⟨durable, 1, false, .quantum, 40⟩
    let s := flying (flAt (.done c)) b5
    Settled s ∧ returnedCount s = 0 ∧ (s.berth 5).st ≠ .free ∧ (s.berth 5).flights = [flAt (.done c)] ∧ s.now < c.postAt ∧
    c.postAt ≤ ({ s with now := 40 } : State).now ∧ s.portSends (s.berth 5).port = true ∧ (s.port 0).msixEn = true ∧
    (s.port 0).fnMask = false ∧ (s.port 0).unmasked.contains (flAt (.done c)).vector = true := by
  decide +kernel

theorem wit_FenceAndMove : let s := flying (flAt .held) b5
    Settled s ∧ (s.berth 5).st ≠ .free ∧ (s.berth 5).st ≠ .fenced ∧ atBoundary (berthed b5 |>.berth 5) = true ∧
    (berthed b5).enginesOut.getLsbD 63 = false ∧ atBoundary (s.berth 5) = false ∧ (onPort.berth 5).st = .free ∧
    ({ s with enginesOut := 1 } : State).enginesOut.getLsbD 0 = true ∧
    (flAt .held) ∈ (s.berth 5).flights ∧ ((flAt .held).stage == .held && decide ((flAt .held).tFetch + (flAt .held).hold ≤ 50)) = true ∧
    (s.berth 5).flights.any (fun y => y.stage == .held && decide (y.tFetch + y.hold ≤ s.now)) = false := by
  decide +kernel

/-- A write to port 0's slots waits behind a berth command that runs. -/
def waiting (s : State) : State := { s with mgmt := { s.mgmt with held := [(.charter, true)] } }

/-- Staged fields that are valid: port 0, slot 1, 16 entries, FLOOR = CEIL = RETAIN = 1, HOLD 100,000. -/
def staged : State :=
  put offWEIR_FLOOR_MAX 39 0 1 (put offBERTH_SEL 19 0 5 (put offBERTH_PORT 15 0 1 (put offBERTH_RING 3 0 4 (put offBERTH_FLOOR 31 0 1
    (put offBERTH_CEIL 31 0 1 (put offBERTH_RETAIN 31 0 1 (put offBERTH_POLICY 48 32 100000 onPort)))))))

theorem wit_CharterFields : let bad := put offBERTH_POLICY 48 32 100001 staged
    Settled staged ∧ Clear staged ∧ charterReach staged = true ∧ (staged.cmd kBerth).done = true ∧ staged.sluiced = false ∧ fieldsOk staged 5 = true ∧
    fieldsOk bad 5 = false ∧ fieldsOk (put offBERTH_RING 3 0 13 staged) 5 = false ∧ fieldsOk (put offBERTH_RING 3 0 12 staged) 5 = true ∧
    fieldsOk (put offBERTH_PORT 15 0 2 staged) 5 = false ∧ fieldsOk (put offWEIR_FLOOR_MAX 39 0 0 staged) 5 = false ∧
    (bad.berth bad.BERTH_SEL_ID).st = .free ∧ bad.fmm.san.marker ≠ 1 ∧ ((bad.setBerth 5 b5).berth 5).st ≠ .free ∧
    fieldsOk (bad.setBerth 5 { b5 with st := .fenced }) 5 = false := by
  decide +kernel

theorem wit_CharterCommands : let taken := staged.setBerth 6 { b5 with slot := 1 }
    let f := fun (b : Berth) => staged.setBerth 5 { b with st := .fenced }
    Settled staged ∧ Clear staged ∧ charterReach staged = true ∧ (staged.cmd kBerth).done = true ∧ staged.sluiced = false ∧
    (staged.berth staged.BERTH_SEL_ID).st = .free ∧ staged.fmm.san.marker ≠ 1 ∧ fieldsOk staged 5 = true ∧ slotFree staged 5 = true ∧
    fieldsOk taken 5 = true ∧ slotFree taken 5 = false ∧ ({ staged with sluice := { staged.sluice with phase := 1 } } : State).sluiced = true ∧
    (let s := staged.setBerth 5 { b5 with st := .chartered }
     fieldsOk s 5 = true ∧ slotFree s 5 = true ∧ (s.berth 5).port = s.BERTH_PORT_PORT) ∧
    (let s := staged.setBerth 5 b5
     fieldsOk s 5 = true ∧ (s.berth 5).st ≠ .chartered) ∧
    ((f b5).berth 5).st = .fenced ∧ fieldsOk (f b5) 5 = true ∧ slotFree (f b5) 5 = true ∧ ((f b5).berth 5).unret = 0 ∧
    ((f b5).berth 5).flights = [] ∧ (f { b5 with owner := 1, unret := 1 }).reg offBERTH_OWNER ≠ ((f { b5 with owner := 1, unret := 1 }).berth 5).owner ∧
    (f { b5 with nextSeq := 2 ^ 48, unret := 1 }).reg offBERTH_OWNER = ((f { b5 with nextSeq := 2 ^ 48, unret := 1 }).berth 5).owner ∧
    slotFree (f b5 |>.setBerth 6 { b5 with slot := 1 }) 5 = false ∧ ((f { b5 with flights := [flAt .held] }).berth 5).flights ≠ [] ∧
    fieldsOk (put offBERTH_RING 3 0 13 (f b5)) 5 = false := by
  decide +kernel

theorem wit_FenceAndSelect : let s := staged.setBerth 5 b5
    let run := s.setCmd kBerth ⟨false, 1, 0, false⟩
    let fenced := fun (op : Nat) => { s with mgmt := { s.mgmt with fencing := some (op, 5) } }
    portAccess .charter = some true ∧ portAccess (.registerWrite offBERTH_SEL 8 0) = some true ∧ portAccess (.mul 0 0) = some false ∧
    s.bar0 = true ∧ (waiting s).mgmt.held ≠ [] ∧ run.core = true ∧ (run.cmd kBerth).done = false ∧
    Settled s ∧ Clear s ∧ charterReach s = true ∧ (s.cmd kBerth).done = true ∧
    (s.berth s.BERTH_SEL_ID).st ≠ .free ∧ (s.berth s.BERTH_SEL_ID).st ≠ .fenced ∧ (staged.berth 5).st = .free ∧
    (fenced 3).mgmt.fencing = some (3, 5) ∧ (fenced 4).mgmt.fencing = some (4, 5) ∧ Clear (fenced 3) ∧ Settled (fenced 3) ∧
    ((fenced 3).berth 5).flights = [] ∧ ((flying fl b5).berth 5).flights ≠ [] ∧ s.mgmt.fencing = none ∧ Clear State.reset ∧
    charterReach State.reset = false := by
  decide +kernel

theorem wit_BudgetFallsAndRises : let w : Budget := ⟨3, 2, 1⟩
    let s := put offWEIR_TIMING 47 32 1 { live with now := 1000, weir := { live.weir with window := [(0, w)] } }
    live.core = true ∧ State.reset.core = false ∧ (0, w) ∈ s.weir.window ∧ ¬ (s.now < riseHold s) ∧ ({ s with now := 999 } : State).now < riseHold s := by
  decide +kernel

theorem wit_WeirShutAndThrottle :
    let t := put offWEIR_RESIDENCE 15 0 1 (berthed { b5 with nextSeq := 2, chain := [rec1] })
    let s := { t with now := 10000 }
    let due := fun (s : State) => (s.berth 5).chain.any (fun r => r.seq == 1 && r.basin.isNone && decide (r.tCommit + residenceOf s (s.berth 5).qos ≤ s.now))
    Clear live ∧ Clear State.reset ∧ charterReach live = true ∧ live.weir.st = .opened ∧ { live with weir := { live.weir with st := .shut } }.weir.st = .shut ∧
    charterReach State.reset = false ∧ Settled live ∧ live.core = true ∧ State.reset.core = false ∧ (s.berth 5).spillOk = true ∧
    residenceOf s (s.berth 5).qos ≠ 0 ∧ due s = true ∧ due { s with now := 9999 } = false ∧ residenceOf live 0 = 0 := by
  decide +kernel

/-- Superblock 0 open on one block of die 0, its row 0 started. -/
def opened : State :=
  let s := put offFMM_GEOM0 47 32 8 (flash live)
  { s with fmm := { s.fmm with sbs := [(0, ⟨[(0, 1)], 1, 0, 1, 1, 0, .spill, []⟩)], blocks := [(1, ⟨1, 0, 0, 0, false, 0⟩)] } }

theorem wit_ProgramsAndReads : let b : Sb := ⟨[(0, 1)], 1, 0, 1, 1, 0, .spill, []⟩
    let f := flAt (.basin 1)
    let r := { rec1 with place := none, basin := some (3, 0) }
    let s := flying f { b5 with nextSeq := 2, chain := [r] }
    let u := { s with weir := { s.weir with st := .sluice } }
    let san := { opened with fmm := { opened.fmm with san := { opened.fmm.san with st := 1 } } }
    let c := { live with fmm := { live.fmm with coll := [(collKey 0 false, ⟨some 2, [(0, 1)], false⟩)] } }
    opened.core = true ∧ openOf opened 0 1 = some (0, b) ∧ slotOf b 0 1 = some 0 ∧ chunkTurn opened 0 0 0 (blkNo opened 0 1) = true ∧
    opened.fmm.san.st ≠ 1 ∧ san.fmm.san.st = 1 ∧ openOf san 0 1 = some (0, b) ∧ chunkTurn san 0 0 0 (blkNo san 0 1) = true ∧
    chunkTurn opened 0 0 1 (blkNo opened 0 1) = false ∧ b.rows < b.started ∧ (opened.blk (blkNo opened 0 1)).st = 1 ∧
    (opened.blk (blkNo opened 0 1)).nextRow = b.rows ∧ openOf live 0 1 = none ∧ (s.berth 5).flights = [f] ∧ f.stage = .basin 1 ∧
    f.desc = some (desc 1 0 4 64 0 0) ∧ (s.berth 5).chain.find? (fun r => r.seq == 1) = some r ∧ r.basin = some (3, 0) ∧ s.weir.st ≠ .sluice ∧
    u.weir.st = .sluice ∧ (u.berth 5).flights = [f] ∧ cwsFirst [.bits 3] = true ∧ cwsFirst [.soft] = false ∧
    c.basinLive = true ∧ c.weir.st ≠ .sluice ∧ readKey c 0 = some (collKey 0 false) ∧ live.basinLive = true ∧ live.weir.st ≠ .sluice ∧
    readKey (put offFMM_CTRL 63 0 0xFFFFFFFFFFFFFFFF live) 0 = none := by
  decide +kernel

theorem wit_BargesAndVerify : let d : DirEnt := ⟨5, 1, 9, 0, 4, 7, none⟩
    let s := put offFMM_GEOM1 31 16 10 { live with now := 10, fmm := { live.fmm with asm := [(0, ⟨0, 4, [d]⟩)] } }
    let u := { live with fmm := { live.fmm with sbs := [(0, ⟨[(0, 1)], 2, 0, 0, 0, 0, .spill, []⟩)] } }
    let c := { live with chart := ⟨1, 0, 0⟩, fmm := { live.fmm with pages := [(2, { Cpt.free with st := 3 })] } }
    let san := { u with fmm := { u.fmm with san := { u.fmm.san with st := 1 } } }
    let early := { u with refloat := { u.refloat with stage := 4 } }
    s.basinLive = true ∧ s.weir.st ≠ .sluice ∧ (s.asmOf (streamKey .spill)).dir ≠ [] ∧
    (s.asmOf (streamKey .spill)).since + s.FMM_GEOM1_BARGE_WAIT ≤ s.now ∧
    ({ s with now := 9 } : State).now < (s.asmOf (streamKey .spill)).since + s.FMM_GEOM1_BARGE_WAIT ∧
    (u.sb 0).st = 2 ∧ u.core = true ∧ u.weir.st ≠ .sluice ∧ u.refloat.stage ≠ 4 ∧ (verifySb 0 u).fmm.san.st ≠ 1 ∧ (verifySb 0 u).ready = true ∧
    (early.sb 0).st = 2 ∧ early.refloat.opened = true ∧ (verifySb 0 early).fmm.san.st ≠ 1 ∧ (verifySb 0 early).ready = false ∧
    (san.sb 0).st = 2 ∧ (verifySb 0 san).fmm.san.st = 1 ∧ u.FMM_GEOM1_VERIFY_BITS < 1 ∧
    live.ready = true ∧ live.now < live.fmm.tCkpt + 250000 ∧ live.fmm.tCkpt + 250000 ≤ ({ live with now := 250000 } : State).now ∧
    live.basinLive = true ∧ c.chart.st = 1 ∧ (c.page 2).st = 3 ∧ live.chart.st ≠ 1 := by
  decide +kernel

theorem wit_EraseAndCollect : let n := blkNo opened 0 1
    let b : Blk := ⟨0, 0, 0, 0, true, 0⟩
    let full := { opened with fmm := { opened.fmm with blocks := [(0, ⟨0, 9, 0, 0, false, 0⟩)] } }
    let low := put offFMM_GC 63 32 (9 * 2 ^ 16 + 9) opened
    ((opened.setBlk n b).blk n).st = 0 ∧ ((opened.setBlk n b).blk n).blank = true ∧ (opened.setBlk n b).core = true ∧ (opened.blk n).blank = false ∧ State.reset.core = false ∧
    ((opened.setBlk n { b with st := 5 }).blk n).st = 5 ∧ running opened = true ∧ fgOf low 0 = true ∧ running low = true ∧
    fgOf live 0 = false ∧ bgOf live 0 = false ∧ running live = true ∧ running full = true ∧ quadUp full 0 = true ∧ full.fmm.fg = 0 ∧
    full.FMM_CTRL_WL_PAUSE ≠ 1 ∧ full.FMM_WEAR_WL_SPREAD < ecMax full - ecMin full ∧ ecMax live - ecMin live ≤ live.FMM_WEAR_WL_SPREAD := by
  decide +kernel

theorem wit_SanitizeAndLife : let shut := { live with weir := { live.weir with st := .shut } }
    let san := fun (m : Nat) => { opened with fmm := { opened.fmm with san := { opened.fmm.san with st := 1, mStep := m } } }
    let quiet := { san 1 with fmm := { (san 1).fmm with sbs := [] } }
    Clear shut ∧ charterReach shut = true ∧ sanResult shut 0x5A = 0 ∧ sanResult live 0x5A = 1 ∧ sanResult shut 0x5B = 5 ∧
    sanResult (shut.setBerth 5 b5) 0x5A = 2 ∧ Settled shut ∧ shut.weir.st = .shut ∧ shut.ready = true ∧ (∀ p ∈ shut.berths, p.2.st = .free) ∧
    shut.sluiced = false ∧ shut.fmm.san.st ≠ 1 ∧ Settled State.reset ∧ Clear State.reset ∧ charterReach State.reset = false ∧
    (san 1).fmm.san.st = 1 ∧ (san 1).fmm.san.mStep = 1 ∧ sanQuiet (san 1) = false ∧ Settled (san 1) ∧ quiet.fmm.san.mStep = 1 ∧ sanQuiet quiet = true ∧
    (san 3).fmm.san.mStep = 3 ∧ (san 3).fmm.san.wearSbs = [] ∧ (san 4).fmm.san.mStep = 4 ∧ Settled (san 4) ∧ (san 4).core = true ∧
    ((san 4).blk (blkNo (san 4) 0 1)).st ≠ 5 ∧ (san 6).fmm.san.mStep = 6 ∧ running live = true ∧ running State.reset = false ∧
    live.fmm.spillBytes = 0 ∧ { live with fmm := { live.fmm with spillBytes := 1 } }.fmm.spillBytes ≠ 0 := by
  decide +kernel

theorem wit_ChannelsRetire : let s := live.setChan 11 ⟨2, 0⟩
    let e := { s with keep := { s.keep with romDefaults := false } }
    let early := put offDRC_PROBE 15 0 1 s
    (s.chan 11).st ≠ 0 ∧ (s.chan 11).st ≠ 3 ∧ ((live.setChan 11 ⟨1, 0⟩).chan 11).st ≠ 0 ∧ (live.chan 0).st = 0 ∧ ((live.setChan 0 ⟨3, 5⟩).chan 0).st = 3 ∧
    inSvc s 11 = true ∧ s.core = true ∧ Clear s ∧ Settled s ∧ s.drc.probedAt + 1000 * s.DRC_PROBE_PERIOD ≤ s.now ∧
    early.now < early.drc.probedAt + 1000 * early.DRC_PROBE_PERIOD ∧ State.reset.core = false ∧ heard e (0x140 + 11) = false ∧
    inSvc e 11 = true ∧ s.bar0 = true ∧ inSvc live 0 = false ∧ (0xA4 : Byte) ≠ 0xA5 := by
  decide +kernel

theorem wit_DramUpkeep : let r : DramReq := ⟨0, .berth, 0, 0, false, 0, 0, .stay, 1⟩
    let s := put offDRC_LAT0 31 0 0xFFFFFFFF (put offDRC_URGENCY 7 0 10 ((live.setChan 0 ⟨2, 0⟩).setSched 0 { Sched.idle with reqs := [r] }))
    let t := urgencyStepOf s r.urgency * latencyTarget s r.who
    let paired := ((live.setChan 0 ⟨2, 0⟩).setChan 6 ⟨2, 0⟩)
    let pair := { paired with drc := { paired.drc with remirror := true } }
    let mv : Move := ⟨5, 1, ⟨[0, 6], 0⟩, []⟩
    let m := { live with drc := { live.drc with moving := [mv] } }
    let slow := { s with drc := { s.drc with moving := [{ mv with reqs := [(0, 0)] }] } }
    let full := slow.setSched 0 { Sched.idle with reqs := (List.range 17).map (fun i => { r with id := 17 - i - 1, write := true }) }
    inSvc s 0 = true ∧ inSvc live 0 = false ∧ (s.sched 0).reqs = [r] ∧ r.urgency < 3 ∧ (s.now - r.arrival) * 10000 < t ∧
    t ≤ (({ s with now := t } : State).now - r.arrival) * 10000 ∧ pair.drc.remirror = true ∧ units pair ≠ [] ∧ live.drc.remirror = false ∧
    units live = [] ∧ m.drc.moving.find? (fun y => y.berth == 5 && y.seq == 1) = some mv ∧ copiesIn m mv = true ∧
    copiesIn full { mv with reqs := [(0, 0)] } = false ∧ live.drc.moving = [] := by
  decide +kernel

/-- A sluice in a phase. -/
def sluicing (n : Nat) (s : State) : State := { s with sluice := { s.sluice with phase := n }, weir := { s.weir with st := .sluice } }

theorem wit_SluiceTriggers : let down := { live with seq := { live.seq with downLatch := true } }
    Settled live ∧ Clear live ∧ charterReach live = true ∧ live.weir.st ≠ .sluice ∧ (0xC2 : Byte) ≠ 0xC3 ∧
    (sluicing 4 live).weir.st = .sluice ∧ (sluicing 4 live).seq.st = 3 ∧ (sluicing 4 live).seq.downLatch = false ∧ (sluicing 4 live).sluiced = true ∧
    (sluicing 4 live).sluice.phase < 5 ∧ live.sluiced = false ∧ live.seq.st = 3 ∧ live.seq.downLatch = false ∧ down.seq.downLatch = true ∧
    5 ≤ (sluicing 5 live).sluice.phase ∧ (sluicing 5 live).sluice.early = false ∧ State.reset.seq.st ≠ 2 ∧ State.reset.seq.st ≠ 3 := by
  decide +kernel

/-- A manifest of one barge, BSEQ 1, that stands on superblock 0's row 0, and the state that has it. -/
def found (kind : Nat) : Manifest := ⟨kind, [[1]], 7, 0, 0, 1, 0, 0, 0, [], [], [], []⟩

def holding (l : List Manifest) (s : State) : State :=
  let t := flash s
  { t with fmm := { t.fmm with
    manifests := l, laid := [(0, (List.range 17).map (fun j => (0, j + 1)))], rows := [(0, ⟨5, 1, 0, 7, false, 0, [], 0x1FFFF, false⟩)] } }

theorem wit_SluicePhases : let s := fun (n : Nat) (s : State) => put offWEIR_SLUICE_CFG 63 48 20 (sluicing n s)
    let held := berthed { b5 with chain := [rec1] }
    let start := { live with
      now := 10000, sluice := { live.sluice with phase := 5, programDone := true },
      seq := { live.seq with st := 1, busGood := some 0, sect := { live.seq.sect with restartHold := 1 } } }
    let flush := fun (n : Nat) (l : List Manifest) =>
      let t := s 4 (holding l live)
      { t with sluice := { t.sluice with flush := n }, refloat := { t.refloat with runId := 7 } }
    let fencing := { s 1 live with mgmt := { live.mgmt with fencing := some (3, 5) } }
    (s 1 live).sluice.phase = 1 ∧ (s 1 live).now < (s 1 live).sluice.tTrigger + (s 1 live).WEIR_SLUICE_CFG_DRAIN_LIMIT ∧
    (s 1 live).sluice.tTrigger + (s 1 live).WEIR_SLUICE_CFG_DRAIN_LIMIT ≤ ({ s 1 live with now := 20 } : State).now ∧
    (s 1 live).berths.any (fun p => !p.2.flights.isEmpty) = false ∧ (s 1 live).mgmt.fencing = none ∧ fencing.mgmt.fencing ≠ none ∧
    (portsOff (s 1 live)).fmm.san.marker ≠ 1 ∧ (s 1 (flying fl b5)).berths.any (fun p => !p.2.flights.isEmpty) = true ∧
    (s 3 live).sluice.phase = 3 ∧ (unspilled (s 3 live)).isEmpty = true ∧ (unspilled (s 3 held)).isEmpty = false ∧
    (flush 2 [found 2]).weir.st = .sluice ∧ (flush 2 [found 2]).sluice.phase = 4 ∧ (unspilled (flush 2 [found 2])).isEmpty = true ∧
    (flush 2 [found 2]).fmm.asm = [] ∧ sluiceProgrammed (flush 2 [found 2]) = true ∧ (ofRun (flush 2 [found 2]) 2).isSome = true ∧
    (ofRun (flush 2 []) 2).isNone = true ∧ (unspilled (flush 2 [])).isEmpty = true ∧ (flush 2 []).fmm.asm = [] ∧ sluiceProgrammed (flush 2 []) = true ∧
    (flush 3 [found 3]).sluice.flush = 3 ∧ sealWritten (flush 3 [found 3]) = true ∧ sealWritten (flush 3 []) = false ∧
    (s 4 live).weir.st = .sluice ∧ 5 ≤ (s 5 live).sluice.phase ∧ live.weir.st ≠ .sluice ∧ start.sluiced = true ∧ startOk start = true ∧
    ({ start with now := 9999 } : State).now < start.sluice.tTrigger + restartHold start := by
  decide +kernel

theorem wit_RefloatStages : let head : List (BitVec 20 × Fin 1024 × Fin 17 × Fin 4) := [(0, 0, 3, 0)]
    let scan : Scan := ⟨head.map (fun x => (x.1.toNat, x.2.1.val, x.2.2.1.val, x.2.2.2.val)), []⟩
    let torn : Scan := ⟨[], [(0, 0)]⟩
    let s := { live with refloat := { live.refloat with stage := 1, opened := false } }
    let on := fun (l : List Manifest) => { holding l s with refloat := s.refloat }
    let v := { on [found 1] with refloat := { s.refloat with stage := 4, runId := 7 } }
    let w := { s with refloat := { s.refloat with stage := 4, runId := 1 } }
    let r := { v with refloat := { v.refloat with opened := true } }
    let dear := put offWEIR_MODEL0 63 32 1 r
    let one := on [found 1]
    let done := on [found 4]
    s.refloat.stage = 1 ∧ s.basinLive = true ∧ s.sluiced = false ∧ newestManifest (scan.ok s) s = none ∧
    newestManifest (torn.ok one) one = none ∧ one.basinLive = true ∧ one.sluiced = false ∧ one.refloat.stage = 1 ∧
    newestManifest (scan.ok one) one = some (found 1) ∧ (found 1).kind ≠ 4 ∧
    newestManifest (scan.ok done) done = some (found 4) ∧ (found 4).kind = 4 ∧ live.refloat.stage ≠ 1 ∧ v.refloat.stage = 4 ∧
    v.refloat.opened = false ∧ v.basinLive = true ∧ openWaits v = false ∧ openWaits w = true ∧ r.refloat.opened = true ∧ readyOk r = true ∧
    dear.weir.budget.eAvail < eNeed dear 0 := by
  decide +kernel

/-- A program at a step that holds the word w, with a wait. -/
def atWord (p : Nat) (w : BitVec 32) (wait : PWait) (s : State) : State :=
  { s with seq := { s.seq with run := some ⟨p, false, 0, false, [], wait, false⟩, sect := { s.seq.sect with progs := [(256 * p, w)] } } }

def run0 (p : Nat) (wait : PWait) : Run := ⟨p, false, 0, false, [], wait, false⟩

theorem wit_ProgramSteps : let dark := { live with seq := { live.seq with on := 0, pg := 0 } }
    let on := fun (t : Nat) => BitVec.ofNat 32 (0x12050000 + t)
    let w2 : BitVec 32 := 0x22000001
    atStep (atWord 0 (on 10) .none dark) 1 = some (run0 0 .none, on 10) ∧ heldOff (atWord 0 (on 10) .none dark) (run0 0 .none) (on 10) = false ∧
    eTimeout (on 10) ≠ 0 ∧ itemReached (setItem (on 10) true (atWord 0 (on 10) .none dark)) (on 10) = false ∧ eTimeout (on 0) = 0 ∧
    atStep (atWord 0 (on 0) .none dark) 1 = some (run0 0 .none, on 0) ∧
    (let s := atWord 2 0x10000000 .none (sluicing 1 live)
     atStep s 1 = some (run0 2 .none, 0x10000000) ∧ heldOff s (run0 2 .none) 0x10000000 = true) ∧
    atStep (atWord 0 w2 .none live) 2 = some (run0 0 .none, w2) ∧ (atWord 0 0 (.time 1) live).seq.run = some (run0 0 (.time 1)) ∧
    live.now < 1 ∧ 1 ≤ ({ live with now := 1 } : State).now ∧
    atStep (atWord 0 0x33160005 .none live) 3 = some (run0 0 .none, 0x33160005) ∧ condition (atWord 0 0x33160005 .none live) 0x33160005 = true ∧
    condition (atWord 0 0x31160005 .none live) 0x31160005 = false ∧ eTimeout 0x31160005 ≠ 0 ∧ eTimeout 0x31160000 = 0 ∧
    atStep (atWord 0 0x31160005 .none live) 3 = some (run0 0 .none, 0x31160005) ∧
    (atWord 0 0 (.cond 0x31160005 1) live).seq.run = some (run0 0 (.cond 0x31160005 1)) ∧
    (atWord 0 0x40000003 .none live).seq.run = some (run0 0 .none) ∧ progWord (atWord 0 0x40000003 .none live) false 0 0 = 0x40000003 ∧
    sOp 0x40000003 = 4 ∧ isEnd 0x40000003 = false ∧ isEnd 0x4C000000 = true ∧ sOp 0x4C000000 = 4 := by
  decide +kernel

theorem wit_RailsAndItems : let w : BitVec 32 := 0x16030005
    let off : BitVec 32 := 0x14030005
    let rail := fun (r : Rail) => atWord 0 0 (.item w 10) { live with seq := { live.seq with rails := [(3, r)] } }
    let up : Rail := { Rail.off with on := true, pg := true, slewEnd := some 10 }
    let pinned := { live with seq := { live.seq with sect := { live.seq.sect with rails := [(3, (0, 1 <<< 36))] } } }
    let timed := { live with seq := { live.seq with timedEnd := some 10 } }
    let going := { live with seq := { live.seq with downWait := some (off, 10) } }
    (rail Rail.off).seq.run = some (run0 0 (.item w 10)) ∧ (rail Rail.off).now < 10 ∧ 10 ≤ ({ rail Rail.off with now := 10 } : State).now ∧
    itemReached (rail up) w = true ∧ itemReached (rail Rail.off) w = false ∧ eOn w = true ∧ itemReached (rail up) off = false ∧ eOn off = false ∧
    live.seq.run = none ∧ live.seq.downWait = none ∧ going.seq.run = none ∧ going.seq.downWait = some (off, 10) ∧ going.now < 10 ∧
    10 ≤ ({ going with now := 10 } : State).now ∧ itemReached going off = true ∧
    itemReached { going with seq := { going.seq with rails := [(3, up)] } } off = false ∧ railSrc pinned 3 = 1 ∧ railSrc live 3 ≠ 1 ∧ ((rail up).rail 3).slewEnd = some 10 ∧ Settled live ∧ live.aonRuns = true ∧
    State.reset.aonRuns = false ∧ timed.seq.timedEnd = some 10 ∧ timed.now < 10 := by
  decide +kernel

theorem wit_StartsAndResets : let start := { live with seq := { live.seq with st := 1, busGood := some 0 } }
    let r := { live with seq := { live.seq with relPending := 0x8000, sect := { live.seq.sect with stretch := [(15, 1)] } } }
    let t := { live with keep := { live.keep with fcmp := 0x8000 } }
    startOk start = true ∧ startOk live = false ∧ live.seq.st ≠ 1 ∧ { start with seq := { start.seq with downWait := some (0, 10) } }.seq.downWait ≠ none ∧
    r.seq.relPending.getLsbD 14 = false ∧ State.reset.clk.rootOk = false ∧ r.seq.relPending.getLsbD 15 = true ∧
    stretched { r with now := 1000 } 15 = true ∧ stretched { r with now := 999 } 15 = false ∧ live.clk.aon = true ∧ 1000 ≤ 1000 ∧ 99 < 100 ∧
    100 ≤ 999 ∧ 999 < 1000 ∧ cmpTripped live (.fast 15) = false ∧ cmpTripped t (.fast 15) = true ∧ cmpTripped live (.aon 7) = false := by
  decide +kernel

theorem wit_SequencerCommands : let rail := fun (v : Nat) => put offSEQ_RAIL_CMD 15 0 v { live with seq := { live.seq with
      rails := [(0, { Rail.off with on := true })], sect := { live.seq.sect with rails := [(0, (BitVec.ofNat 64 (900 * 2 ^ 16 + 1000), 0))] } } }
    let s := { live with weir := { live.weir with st := .shut } }
    Clear live ∧ Clear s ∧ live.bar0 = true ∧ (live.cmd kSeq).done = true ∧ live.seq.st ≠ 4 ∧ { live with seq := { live.seq with st := 4 } }.seq.st = 4 ∧
    s.bar0 = true ∧ (s.cmd kSeq).done = true ∧ s.seq.run = none ∧ s.seq.st = 3 ∧ s.weir.st = .shut ∧ totH s = 0 ∧ live.weir.st ≠ .shut ∧
    (live.rail live.SEQ_RAIL_SEL_RAIL).on = false ∧ ((rail 1000).rail 0).on = true ∧ railVmin (rail 1000) 0 ≤ 1000 ∧
    1000 ≤ railVmax (rail 1000) 0 ∧ (rail 900).SEQ_RAIL_CMD_VOUT = 900 ∧ railVmin (rail 900) 0 ≤ 900 ∧ railVmax (rail 1001) 0 < 1001 ∧
    899 < railVmin (rail 899) 0 ∧ (0x9C : Byte) ≠ 0x9D := by
  decide +kernel

/-- String 0 of an image with one string: present, its gauge loaded. -/
def strung (g : GStr) : State :=
  { live with gauge := { live.gauge with loaded := true, nCfg := 1, strings := [(0, { g with present := true })] } }

def g0 : GStr :=
  { GStr.absent with cap := 100, auth := 2, nameplate := 5, serial := 1, tFull := some 0, sinceAnchor := some (0, 0) }

theorem wit_GaugeCounting : let m : GaugeSample := ⟨List.replicate 8 ⟨50000, 1000⟩, 12000⟩
    let asleep := { live with gauge := { live.gauge with hibernating := true } }
    let soon := { live with gauge := { live.gauge with updated := some 0 } }
    let ended := fun (g : GStr) => put offGAUGE_CFG_CURR 15 0 0 (strung g)
    let full := ended { g0 with eoc := some (0, false) }
    let empty := ended { g0 with eod := some (0, false) }
    let set := { g0 with anchor := some ⟨true, 0, some 7⟩ }
    m.strings.length = 8 ∧ (⟨[], 0⟩ : GaugeSample).strings.length ≠ 8 ∧ live.aonRuns = true ∧ live.gauge.hibernating = false ∧
    live.gauge.updated.all (fun t => decide (t + 100 ≤ live.now)) = true ∧ soon.gauge.updated = some 0 ∧ ({ soon with now := 99 } : State).now < 0 + 100 ∧
    0 + 100 ≤ ({ soon with now := 100 } : State).now ∧ State.reset.aonRuns = false ∧ asleep.gauge.hibernating = true ∧
    (strung g0).gauge.loaded = true ∧ ((strung g0).str 0).present = true ∧ live.gauge.loaded = false ∧ counting live 0 = false ∧
    counting full 0 = true ∧ (full.str 0).eoc = some (0, false) ∧ 0 + full.GAUGE_CFG_CURR_T_TAPER * 1000000 ≤ full.now ∧
    counting empty 0 = true ∧ (empty.str 0).eod = some (0, false) ∧ empty.now < 0 + 100000 ∧ 0 + 100000 ≤ ({ empty with now := 100000 } : State).now ∧
    empty.gauge.learning ≠ some 0 ∧ { empty with gauge := { empty.gauge with learning := some 0 } }.gauge.learning = some 0 ∧
    learns GStr.absent = none ∧ g0.sinceAnchor = some (0, 0) ∧ 0 * 50 ≤ g0.cap * nCmAh ∧ g0.outOfTemp = false ∧ learns g0 = some 0 ∧
    g0.cap * nCmAh < (2 * nCmAh + 1) * 50 ∧ ((strung g0).str 0).anchor = none ∧ ((strung set).str 0).anchor = some ⟨true, 0, some 7⟩ := by
  decide +kernel

theorem wit_GaugeCommands : let s := strung g0
    let near := { s with cfg := { s.cfg with sealed := true } }
    let harbour := { near with cfg := { near.cfg with st := 5 } }
    let cold := { s with gauge := { s.gauge with acLost := true } }
    let learning := { s with gauge := { s.gauge with learning := some 0 } }
    let gone := { near with gauge := { near.gauge with strings := [] } }
    Clear s ∧ s.bar0 = true ∧ (s.cmd kGauge).done = true ∧ ((s.setCmd kGauge ⟨false, 1, 0, false⟩).cmd kGauge).done = false ∧
    declared s 7 = false ∧ declared s 0 = true ∧ declared gone 0 = true ∧ (gone.str 0).present = false ∧ (s.str 0).present = true ∧
    learnOk cold 0 = false ∧ learnOk s 0 = true ∧ s.core = true ∧ s.cfg.sealed = false ∧ near.core = true ∧ near.cfg.sealed = true ∧
    near.harbour = false ∧ harbour.harbour = true ∧ s.gauge.learning ≠ some 0 ∧ learning.gauge.learning = some 0 ∧ learning.gauge.acLost = false ∧
    cold.gauge.acLost = true ∧ s.gauge.learning = none ∧ learning.gauge.learning ≠ none ∧ capTestOk s = true ∧ capTestOk cold = false ∧
    State.reset.bar0 = false ∧ Clear State.reset ∧ (0x6A : Byte) ≠ 0x6B := by
  decide +kernel

theorem wit_GaugeModules : let s := strung { g0 with authAt := 1, silent := 2 }
    let turn := put offGAUGE_CFG_LEARN 63 48 1 { strung { g0 with tFull := some 86400000000 } with now := 86400000000 }
    let old := { turn with gauge := { turn.gauge with acLost := true } }
    s.aonRuns = true ∧ s.gauge.hibernating = false ∧ State.reset.aonRuns = false ∧ (s.str 0).present = true ∧ (s.str 0).silent = 2 ∧
    (s.str 0).serial = 1 ∧ authWanted s 0 = true ∧ authWanted live 0 = false ∧ (s.str 0).nonce = none ∧
    ((strung { g0 with nonce := some 3 }).str 0).nonce = some 3 ∧ learnTurn turn = some (0 : Fin 8).val ∧ turn.gauge.hibernating = false ∧
    learnOk turn 0 = true ∧ learnOk old 0 = false ∧ learnTurn old = some 0 ∧ learnTurn live ≠ some 0 := by
  decide +kernel

theorem wit_AcLossAndHibernation : let lost := { live with gauge := { live.gauge with acLost := true, quietAcSince := 5 } }
    let drawn := { live with now := 100000, gauge := { live.gauge with drawSince := some 0 } }
    let idle := put offGAUGE_CFG_LEARN 23 8 1 { strung g0 with seq := { live.seq with on := 0 } }
    let asleep := { live with gauge := { live.gauge with hibernating := true } }
    lost.aonRuns = true ∧ live.aonRuns = true ∧ live.gauge.acLost = false ∧ drawn.gauge.drawSince = some 0 ∧ 0 + 100000 ≤ drawn.now ∧ drawn.aonRuns = true ∧
    lost.gauge.acLost = true ∧ live.gauge.learning = none ∧ live.gauge.testing = false ∧ State.reset.seq.st ≠ 2 ∧ State.reset.seq.st ≠ 3 ∧
    lost.gauge.drawSince = none ∧ lost.gauge.quietAcSince + 10000000 ≤ ({ lost with now := 10000005 } : State).now ∧
    ({ lost with now := 10000004 } : State).now < lost.gauge.quietAcSince + 10000000 ∧ drawn.gauge.drawSince ≠ none ∧
    idle.aonRuns = true ∧ idle.gauge.loaded = true ∧ idle.gauge.hibernating = false ∧ idle.seq.on = 0 ∧
    (∀ i < 8, i < idle.gauge.nCfg → (idle.str i).quietSince + idle.GAUGE_CFG_LEARN_HIB_DELAY * 1000000 ≤ ({ idle with now := 1000000 } : State).now) ∧
    ({ idle with now := 999999 } : State).now < (idle.str 0).quietSince + idle.GAUGE_CFG_LEARN_HIB_DELAY * 1000000 ∧ (strung g0).seq.on ≠ 0 ∧
    asleep.gauge.hibernating = true ∧ asleep.now < asleep.gauge.sleepQuiet + 3600000000 := by
  decide +kernel

theorem wit_BankTestAndCaptures : let s := put offGAUGE_CFG_CAP1 47 32 1 (strung g0)
    let t := put offGAUGE_CFG_CAP0 47 32 10 (put offGAUGE_CFG_CAP1 63 48 5 { live with gauge := { live.gauge with testing := true } })
    capTestOk s = true ∧ s.gauge.tCapTest + s.GAUGE_CFG_CAP1_CAP_PERIOD * 3600000000 ≤ ({ s with now := 3600000000 } : State).now ∧
    s.now < s.gauge.tCapTest + s.GAUGE_CFG_CAP1_CAP_PERIOD * 3600000000 ∧ t.gauge.testing = true ∧ 4 < t.GAUGE_CFG_CAP1_DV_TEST ∧
    t.GAUGE_CFG_CAP1_DV_TEST ≤ 5 ∧ 49 / 5 < t.GAUGE_CFG_CAP0_C_LOW ∧ t.GAUGE_CFG_CAP0_C_LOW ≤ 50 / 5 ∧
    t.gauge.testStart + 5000000 < ({ t with now := 5000001 } : State).now ∧ ({ t with now := 5000000 } : State).now ≤ t.gauge.testStart + 5000000 ∧
    (0 : Nat) < 4 ∧ Clear live ∧ live.bar0 = true ∧ State.reset.bar0 = false ∧ live.gauge.testing = false ∧ capTestOk t = false := by
  decide +kernel

/-- The windlass in a state, its section loaded. -/
def spun (st : FSt) : State := { live with fly := { live.fly with st := st, loaded := true, set0 := true, set1 := true } }

theorem wit_WindlassStarting : let s := put offFLY_CFG0 63 60 1 (spun .safe)
    let six := put offFLY_CFG0 63 60 2 (spun .safe)
    let wait := { live with fly := { live.fly with waitUntil := some 5 } }
    let sync := fun (y : SyncStep) => { spun .sync with fly := { (spun .sync).fly with sync := y } }
    let dim := put offFLY_CFG1 63 48 1 (put offFLY_CFG1 15 0 1 (sync .measure))
    let align := sync (.align 0)
    let f : Fly := { live.fly with st := .run }
    windlassMay s = true ∧ s.FLY_CFG0_PHASES ≠ 2 ∧ windlassMay six = true ∧ six.FLY_CFG0_PHASES = 2 ∧
    windlassMay (put offFLY_CTRL 0 0 1 s) = false ∧ live.fly.st ≠ .safe ∧ (put offFLY_CTRL 0 0 1 s).FLY_CTRL_HOLD ≠ 0 ∧
    (put offFLY_CFG4 47 32 1 s).fly.link < (put offFLY_CFG4 47 32 1 s).FLY_CFG4_LINK_MIN ∧ wait.fly.waitUntil ≠ none ∧
    (put offFLY_CFG0 63 60 3 s).FLY_CFG0_PHASES ≠ 1 ∧ (put offFLY_CFG0 63 60 3 s).FLY_CFG0_PHASES ≠ 2 ∧ (spun .test).fly.st = .test ∧
    (sync .measure).fly.st = .sync ∧ (sync .measure).FLY_CFG1_BEMF_MIN ≤ (sync .measure).fly.bemf ∧ dim.fly.bemf < dim.FLY_CFG1_BEMF_MIN ∧
    syncDrives (syncTurn (sync .measure)) = true ∧ syncDrives (syncTurn dim) = false ∧ align.fly.sync = .align 0 ∧ align.now < 0 + 200000 ∧
    0 + 200000 ≤ ({ align with now := 200000 } : State).now ∧ (sync (.encoder 5)).fly.sync = .encoder 5 ∧ (sync .matched).fly.sync = .matched ∧
    (sync .matched).fly.syncAt + 20000 ≤ ({ sync .matched with now := 20000 } : State).now ∧
    ({ sync .matched with now := 19999 } : State).now < (sync .matched).fly.syncAt + 20000 ∧
    2 < (0 :: [0, 0].filter (fun t => decide (0 - t ≤ 3600000000))).length ∧
    (3600000001 :: [0, 0].filter (fun t => decide (3600000001 - t ≤ 3600000000))).length < 3 ∧ wait.fly.waitUntil = some 5 ∧
    5 ≤ ({ wait with now := 5 } : State).now ∧ wait.now < 5 ∧ live.fly.st ≠ .test ∧ live.fly.st ≠ .sync ∧
    { f with gatesCut := true }.gatesCut = true ∧ f.gatesCut = false ∧ f.st = .run ∧ f.release = false ∧ { f with release := true }.release = true := by
  decide +kernel

theorem wit_WindlassSpeedAndFaults : let s := put offFLY_CFG1 63 0 (3000 * 2 ^ 48 + 3100 * 2 ^ 16 + 10) (put offFLY_CFG4 31 16 200 (spun .run))
    let hot := put offFLY_CFG5 23 16 100 (spun .run)
    let slow := { s with fly := { s.fly with bemf := 9 } }
    let blind := { s with fly := { s.fly with encFailed := true } }
    let fast := put offFLY_CFG1 63 48 3000 { spun .brake with fly := { (spun .brake).fly with used := 3001 } }
    (spun .safe).fly.st ≠ .off ∧ (spun .safe).fly.st ≠ .run ∧ s.fly.st = .run ∧ s.FLY_CFG1_BEMF_MIN ≤ (10 : BitVec 16).toNat ∧
    min 3100 3100 ≥ s.FLY_CFG1_OVERSPEED ∧ 3099 < s.FLY_CFG1_OVERSPEED ∧ faultable s = true ∧ s.FLY_CFG4_LINK_OV < (201 : BitVec 16).toNat ∧
    ¬ s.FLY_CFG4_LINK_OV < (200 : BitVec 16).toNat ∧ (spun .brake).fly.st = .brake ∧ (spun .brake).fly.used ≤ (spun .brake).FLY_CFG1_SPEED_MAX ∧
    fast.fly.st = .brake ∧ fast.FLY_CFG1_SPEED_MAX < fast.fly.used ∧ live.fly.st = .off ∧ ofTwos 16 999 < tShut hot ∧ tShut hot ≤ ofTwos 16 1000 ∧
    s.fly.encFailed = false ∧ blind.fly.encFailed = true ∧ (spun .test).fly.st = .test ∧ (spun .sync).fly.st = .sync ∧ (spun .fault).fly.st = .fault ∧
    { s with fly := { s.fly with bemf := 10 } }.FLY_CFG1_BEMF_MIN ≤ 10 ∧ slow.fly.bemf < slow.FLY_CFG1_BEMF_MIN ∧ slow.fly.st ≠ .brake ∧
    faultable slow = true ∧ faultable live = false ∧ faultable (spun .brake) = false ∧ (spun .safe).fly.st ≠ .brake := by
  decide +kernel

theorem wit_WindlassPhases : let s := spun .run
    let hit := { s with fly := { s.fly with ocHit := 2 } }
    let two := put offFLY_CFG0 63 60 2 s
    let alone := { two with fly := { two.fly with set1 := false } }
    let quiet := { alone with fly := { alone.fly with st := .safe } }
    switching s = true ∧ setIn s (setOf 5) = true ∧ hit.fly.ocHit.getLsbD (setOf 5).val = true ∧ s.fly.ocHit.getLsbD (setOf 5).val = false ∧
    ocRun s (setOf 5) < 15 ∧ 15 ≤ ocRun { s with fly := { s.fly with ocRun1 := 15 } } (setOf 5) ∧ switching live = false ∧
    (spun .brake).fly.st = .brake ∧ (spun .sync).fly.st = .sync ∧ (spun .safe).fly.st ≠ .run ∧ (spun .safe).fly.st ≠ .sync ∧
    (spun .safe).fly.st ≠ .brake ∧ setIn live 0 = false ∧ setIn { s with fly := { s.fly with set0 := false } } (setOf 2) = false ∧
    setIn two 0 = true ∧ setIn two 1 = true ∧ two.FLY_CFG0_PHASES = 2 ∧ two.fly.st = .run ∧ live.fly.set1 = false ∧ (spun .fault).fly.st = .fault ∧
    setIn alone 0 = true ∧ setIn alone 1 = false ∧ alone.fly.st = .run ∧ setIn quiet 0 = true ∧ setIn quiet 1 = false ∧ quiet.fly.st = .safe := by
  decide +kernel

theorem wit_WindlassLink : let s := { spun .run with fly := { (spun .run).fly with generating := true } }
    let t := put offFLY_CFG4 63 0 (100 * 2 ^ 32 + 200 * 2 ^ 16) s
    s.fly.st = .run ∧ s.fly.generating = true ∧ s.fly.release = false ∧ live.fly.st ≠ .run ∧ Clear s ∧ s.bar0 = true ∧ Clear State.reset ∧
    State.reset.bar0 = false ∧ faultable t = true ∧ t.FLY_CFG4_LINK_OV < (201 : BitVec 16).toNat ∧ ¬ t.FLY_CFG4_LINK_OV < (200 : BitVec 16).toNat ∧
    t.fly.st = .run ∧ t.fly.release = false ∧ t.bar0 = true ∧ t.fly.loaded = true ∧
    t.FLY_CFG4_LINK_MIN ≤ (100 : BitVec 16).toNat ∧ ¬ t.FLY_CFG4_LINK_MIN ≤ (99 : BitVec 16).toNat ∧
    (200 : BitVec 16).toNat + 10 * t.FLY_CFG5_REL_V ≤ t.FLY_CFG4_LINK_OV ∧ ¬ (201 : BitVec 16).toNat + 10 * t.FLY_CFG5_REL_V ≤ t.FLY_CFG4_LINK_OV ∧
    switching s = true ∧ { s with fly := { s.fly with release := true } }.fly.release = true ∧ switching live = false ∧ Settled live ∧
    (spun .fault).fly.st = .fault ∧ (spun .run).fly.st ≠ .fault ∧ (0x3F : Byte) ≠ 0x3E := by
  decide +kernel

theorem wit_EventLog : let r : LogRec := ⟨0, 6, 0, false, 0, 0, []⟩
    let s := { live with log := { live.log with queue := [r], slot := 1 } }
    let full := { live with log := { live.log with queue := List.replicate 256 r } }
    let rd := fun (q : BitVec 32) => { live with log := { live.log with reading := some q, slots := [(0, .good r), (1, .torn)], slot := 2 } }
    s.log.queue = r :: [] ∧ s.log.dropped = 0 ∧ s.log.slot % sectorSlots ≠ 0 ∧ live.log.queue = [] ∧ 256 ≤ full.log.queue.length ∧
    s.log.queue.length < 256 ∧ Clear live ∧ live.bar0 = true ∧ (live.cmd kLog).done = true ∧ ((live.setCmd kLog ⟨false, 1, 0, false⟩).cmd kLog).done = false ∧
    (rd 0).log.reading = some 0 ∧ findLog (rd 0) 0 = some r ∧ ((rd 0).cmd kLog).refused = false ∧
    (((rd 0).setCmd kLog ⟨false, 2, 0, true⟩).cmd kLog).refused = true ∧ findLog (rd 1) 1 = none ∧ tornAt (rd 1) 1 = true ∧
    findLog (rd 2) 2 = none ∧ tornAt (rd 2) 2 = false ∧ live.log.reading = none ∧ live.clk.aon = true ∧ State.reset.clk.aon = false := by
  decide +kernel

theorem wit_TowpathMaster : let b := { live with tow := { live.tow with tBeacon := some 0 } }
    let ok := sealFrame [0x31, 0, 0, 0]
    let gone := { live with tow := { live.tow with members := 2, missed := [(1, 8)] } }
    let st := put offTOW_CFG 63 56 1 live
    master live = true ∧ (∀ t, live.tow.tBeacon = some t → t + 80 ≤ live.now) ∧ b.tow.tBeacon = some 0 ∧ ({ b with now := 79 } : State).now < 0 + 80 ∧
    0 + 80 ≤ ({ b with now := 80 } : State).now ∧ frameOk 8 ok = true ∧ frameOk 8 [] = false ∧
    ok.getD 0 0 = BitVec.ofNat 8 (0x30 + 1) ∧ ok.getD 0 0 ≠ BitVec.ofNat 8 (0x30 + 2) ∧ (1 : Fin 8).val ≠ 0 ∧
    gone.tow.members.getLsbD 1 = true ∧ tget 0 gone.tow.missed 1 = 8 ∧ master gone = true ∧ live.tow.members.getLsbD 1 = false ∧
    st.seq.st = 3 ∧ ({ st with now := 999 } : State).now < st.seq.tProg0 + 1000 * st.TOW_CFG_STAGGER * 1 ∧
    st.seq.tProg0 + 1000 * st.TOW_CFG_STAGGER * 1 ≤ ({ st with now := 1000 } : State).now ∧ Clear live ∧ live.bar0 = true ∧ master { live with tow := { live.tow with addr := 7 } } = false ∧
    st.tow.staggered &&& 2 = 0 ∧ { st with tow := { st.tow with staggered := 2 } }.tow.staggered &&& 2 ≠ 0 ∧ (0x46 : Byte) ≠ 0x47 ∧
    live.tow.repeats = 0 ∧ { live with tow := { live.tow with repeats := 4 } }.tow.repeats ≠ 0 := by
  refine ⟨by decide +kernel, fun t h => ?_, by decide +kernel⟩
  exact absurd h (by simp [live, State.reset])

theorem wit_TowpathMember : let m := { live with tow := { live.tow with addr := 7, tBeacon := some 0 } }
    let f := sealFrame ([0xC6, 0, 0, 0, 0, 0] ++ List.replicate 6 0)
    let g := sealFrame ([0xC5, 0, 0, 0, 0, 0] ++ List.replicate 6 0)
    let j := put offTOW_CFG 47 0 (2 ^ 32 + 2) m
    member m = true ∧ frameOk 16 f = true ∧ f.getD 0 0 = 0xC6 ∧ frameOk 16 g = true ∧ g.getD 0 0 ≠ 0xC6 ∧ frameOk 16 [] = false ∧
    m.tow.lost = false ∧ f.getD 2 0 = 0 ∧ { m with tow := { m.tow with lastNo := some 0 } }.tow.lastNo = some (f.getD 4 0) ∧ m.gauge.hibernating = false ∧
    { m with seq := { m.seq with st := 4 } }.seq.st = 4 ∧ m.seq.st ≠ 4 ∧ m.tow.tBeacon.getD 0 + 1000 ≤ ({ m with now := 1000 } : State).now ∧
    ({ m with now := 999 } : State).now < m.tow.tBeacon.getD 0 + 1000 ∧ j.TOW_CFG_JOIN = 1 ∧
    j.tow.tBeacon.getD 0 + 1000000 * j.TOW_CFG_JOIN_WAIT ≤ ({ j with now := 1000000 } : State).now ∧ m.TOW_CFG_JOIN ≠ 1 ∧ member live = false ∧
    master m = false := by
  decide +kernel

theorem wit_KeeperEventsAndCommands : let t := { live with seq := { live.seq with graceEnd := some 5 }, keep := { live.keep with heldUntil := some 5, testMode := true } }
    let pinned := { live with keep := { live.keep with romDefaults := false, entries := [(0x1B0, 0x4000000000000000)] } }
    let quiet := { live with keep := { live.keep with romDefaults := false } }
    let sev := pinned.updSrc 0x1B0 (fun x => { x with severe := true, sev := 1 })
    live.clk.aon = true ∧ State.reset.clk.aon = false ∧ srcDomain 0x9FF = some 19 ∧ State.reset.seq.lines.getLsbD 19 = false ∧ live.seq.lines.getLsbD 19 = true ∧
    Clear t ∧ Clear live ∧ Clear State.reset ∧ State.reset.bar0 = false ∧ live.bar0 = true ∧ live.seq.graceEnd = none ∧ live.keep.heldUntil = none ∧
    heard quiet 0x1B0 = false ∧ eMode (keepEntry quiet 0x1B0) ≠ 1 ∧ eMode (keepEntry pinned 0x1B0) = 1 ∧ heard pinned 0x1B0 = true ∧
    t.seq.graceEnd = some 5 ∧ t.keep.heldUntil = some 5 ∧ t.now < 5 ∧ 5 ≤ ({ t with now := 5 } : State).now ∧ t.bar0 = true ∧ live.keep.testMode = false ∧
    t.keep.testMode = true ∧ fld (BitVec.ofNat 64 (2 ^ 63 + 2 ^ 62)) 63 63 = 1 ∧ fld (BitVec.ofNat 64 (2 ^ 63 + 2 ^ 62)) 62 62 = 1 ∧
    fld (BitVec.ofNat 64 (2 ^ 63)) 62 62 = 0 ∧ (live.cmd kKeep).done = true ∧ live.keep.stopped = false ∧ State.reset.keep.stopped = true ∧
    eMode (keepEntry quiet 0x1B0) = 3 ∧ (pinned.src 0x1B0).severe = false ∧ (sev.src 0x1B0).severe = true ∧ (sev.src 0x1B0).sev ≠ 0 ∧
    live.pins.warn = true ∧ { live with keep := { live.keep with warnTill := false } }.keep.warnTill = false ∧ live.keep.warnTill = true ∧ { live with pins := { live.pins with warn := false } }.pins.warn = false := by
  decide +kernel

def slotRec (st : Nat) : Slot := Slot.blank.write ⟨0, st, 0, 0, 0, 0, 0, 0⟩

def slots (a b : Nat) (s : State) : State := { s with cfg := { s.cfg with slotA := slotRec a, slotB := slotRec b } }

/-- The loader in a state, its image from a source. -/
def loading (st source : Nat) : State := { live with cfg := { live.cfg with st := st, source := source } }

theorem wit_LoaderCommands : let w := loading 1 0
    let cut := { w with mgmt := { w.mgmt with bme := false } }
    Clear w ∧ w.bar0 = true ∧ w.sluiced = false ∧ (sluicing 1 w).sluiced = true ∧ Clear (sluicing 1 w) ∧ (w.cmd kCfg).done = true ∧ w.cfg.st = 1 ∧ live.cfg.st ≠ 1 ∧ hostReads w = true ∧ hostReads cut = false ∧
    cut.bar0 = true ∧ ((slots 1 3 w).slot 0).state = 1 ∧ ((slots 1 3 w).slot 1).state = 3 ∧ (w.slot 0).state ≠ 1 ∧ (w.slot 0).state ≠ 3 ∧
    ((slots 4 5 w).slot 0).state = 4 ∧ ((slots 4 5 w).slot 1).state = 5 ∧ (w.slot 1).state ≠ 4 ∧ (w.slot 1).state ≠ 5 ∧ (0xB6 : Byte) ≠ 0xB7 ∧
    confirmedSlot (slots 1 3 w) = some 1 ∧ confirmedSlot w = none := by
  decide +kernel

/-- The clauses on an image that passes have no witness here: whether a signature verifies rests on the part's own key, which is
opaque (log 3). -/
theorem wit_ImageReadsAndWrites : let wr := { live with cfg := { live.cfg with writing := some (0, []) } }
    let wb := { live with cfg := { live.cfg with writing := some (0, [1]) } }
    let cut := { loading 2 3 with mgmt := { live.mgmt with bme := false } }
    let tr := { live with cfg := { live.cfg with trialling := some 1 } }
    State.reset.inService dMgmt = false ∧ live.inService dMgmt = true ∧ live.sluiced = false ∧ (sluicing 1 live).sluiced = true ∧
    (loading 2 3).cfg.st = 2 ∧ (loading 2 3).cfg.source = 3 ∧ hostReads (loading 2 3) = true ∧ hostReads cut = false ∧ cut.inService dMgmt = true ∧
    (loading 2 1).cfg.source ≠ 3 ∧ wr.cfg.st ≠ 2 ∧ wr.cfg.writing = some (0, []) ∧ live.cfg.writing = none ∧ (checkImage [] live).1 ≠ 0 ∧
    wb.cfg.writing = some (0, [1]) ∧ tr.cfg.trialling = some 1 ∧ (checkFive (tr.slot 1).image tr).1 ≠ 0 ∧ live.cfg.trialling = none := by
  decide +kernel

theorem wit_SelfTestAndWindow : let p := { loading 1 0 with cfg := { (loading 1 0).cfg with pushUntil := some 5 } }
    let t := put offCFG_ST_CFG 63 24 (2 ^ 24) (loading 3 1)
    let late := put offCFG_ST_CFG 63 24 0 (loading 3 1)
    let fuse := { live with cfg := { live.cfg with fuseTarget := 1 } }
    p.cfg.pushUntil = some 5 ∧ p.cfg.st = 1 ∧ p.now < 5 ∧ 5 ≤ ({ p with now := 5 } : State).now ∧ confirmedSlot live = none ∧ slotIn live 1 = none ∧
    slotIn live 2 = none ∧ slotIn (slots 2 1 live) 1 = some 1 ∧ confirmedSlot (slots 2 1 live) = none ∧ live.cfg.st ≠ 3 ∧ t.cfg.st = 3 ∧
    t.cfg.testDone = false ∧ t.sluiced = false ∧ { t with cfg := { t.cfg with testDone := true } }.cfg.testDone = true ∧ (sluicing 1 t).sluiced = true ∧
    dieFitted (flash t) 1535 = true ∧ (flash t).CFG_DIE_ID_ID = 0 ∧ (put offCFG_DIE_ID 47 0 7 t).CFG_DIE_ID_ID = 7 ∧ testPasses t 0 0 0 = true ∧ windowOver t = false ∧ testPasses t 1 0 0 = false ∧
    windowOver late = true ∧ t.seq.tProg0 + t.CFG_ST_CFG_CONFIRM_WIN * 1000000 ≤ ({ t with now := 1000000 } : State).now ∧
    ({ t with now := 999999 } : State).now < t.seq.tProg0 + t.CFG_ST_CFG_CONFIRM_WIN * 1000000 ∧ live.cfg.fuseTarget = 0 ∧
    fuse.cfg.fuseTarget ≠ 0 := by
  decide +kernel

theorem wit_SelfTestAndWindow_fuses : ({ live with cfg := { live.cfg with fuses := 1, fuseTarget := 1 } } : State).cfg.fuseTarget ≤
      fuseCounter { live with cfg := { live.cfg with fuses := 1, fuseTarget := 1 } } ∧
    fuseCounter { live with cfg := { live.cfg with fuses := 1, fuseTarget := 65 } } < 65 := by
  simp only [fuseCounter]; omega

theorem wit_LockCycle : let s := { live with lock := ⟨5, 0, true, false⟩ }
    Clear s ∧ coreReach s = true ∧ (s.cmd kLock).done = true ∧ Settled s ∧ twf Port.idle s.ports = true ∧ s.ready = true ∧ s.sluiced = false ∧
    1 ≤ ((6 : BitVec 16) - s.lock.epoch).toNat ∧ ((32772 : BitVec 16) - s.lock.epoch).toNat ≤ 32767 ∧ ((5 : BitVec 16) - s.lock.epoch).toNat = 0 ∧
    32767 < ((32773 : BitVec 16) - s.lock.epoch).toNat ∧ (sluicing 1 s).sluiced = true ∧ coreReach (sluicing 1 s) = true ∧
    { s with refloat := { s.refloat with stage := 4 } }.ready = false := by
  decide +kernel

theorem wit_LockCycle_cmds : CmdsWf live.cmds := by
  unfold CmdsWf; decide +kernel

theorem wit_PortLinks : let q := fun (x : Port) => put offPORT_CFG 63 57 0x7F (put offPORT_CFG 16 0 1 (live.setPort 0 x))
    let lock := fun (m : Nat) (s : State) => { s with lock := ⟨1, m, true, false⟩ }
    let busy := lock 2 ((q upPort).setBerth 5 { b5 with flights := [fl] })
    mayTrain (q { Port.idle with st := .wake }) 0 = true ∧ trainsTo (put offPORT_CFG 23 20 3 (put offPORT_CFG 27 24 2 (q upPort))) 0 0 4 = false ∧ mayTrain (q upPort) 0 = false ∧ ((q upPort).port 0).linkUp = true ∧
    (q upPort).sluiced = false ∧ (live.port 0).linkUp = false ∧ Settled live ∧ ((q { upPort with flr := true }).port 0).flr = true ∧
    ((q upPort).port 0).flr = false ∧ ((q { upPort with d3 := true }).port 0).d3 = true ∧ ((q upPort).port 0).d3 = false ∧
    ((q { Port.idle with st := .retry, retryEnd := some 5 }).port 0).retryEnd = some 5 ∧ ((q upPort).port 0).st = .up ∧
    ((q upPort).port 0).tokenNeeded = false ∧ (lock 2 (q upPort)).lock.valid = true ∧ inCycle (lock 2 (q upPort)) 0 = true ∧
    ((q upPort).port 0).epoch ≠ (lock 2 (q upPort)).lock.epoch ∧ (∀ x ∈ (lock 2 (q upPort)).berths, x.2.port = 0 → x.2.flights = []) ∧
    (lock 1 (q upPort)).lock.mode < 2 ∧ 1 < busy.lock.mode ∧ (∃ x ∈ busy.berths, x.2.port = 0 ∧ x.2.flights ≠ []) ∧
    (lock 2 (q upPort)).lock.frozen = false ∧ { q upPort with lock := ⟨1, 2, true, true⟩ }.lock.frozen = true ∧
    ((q { upPort with token := 1 }).port 0).tokenNeeded = true ∧ live.lock.valid = false ∧ live.PORT_CFG_SLOTS 0 = 0 := by
  decide +kernel

theorem wit_TokensAndRetire : let q := fun (x : Port) => live.setPort 0 x
    ((q { upPort with presented := true }).port 0).presented = true ∧ (live.port 0).linkUp = false ∧ (live.port 0).st = .off ∧
    (0xFE : BitVec 8) ≠ 0xFF ∧ ((q upPort).port 0).linkUp = true ∧ ((q upPort).port 0).d3 = false ∧ ((q upPort).port 0).flr = false ∧
    ((q upPort).port 0).st = .up ∧ ((q upPort).port 0).presented = false ∧ ((q upPort).port 0).token = 0 ∧ (1 : Word) ≠ 0 ∧ Clear (q upPort) ∧
    ((q { upPort with d3 := true }).port 0).d3 = true ∧ ((q { upPort with flr := true }).port 0).flr = true ∧ (sluicing 1 (q upPort)).sluiced = true ∧
    ((q { upPort with token := 1 }).port 0).token = 1 ∧ ((q { upPort with token := 1 }).port 0).token ≠ 2 ∧ coreReach (q upPort) = true ∧
    ((q upPort).cmd (kPort 0)).done = true ∧ (q upPort).sluiced = false ∧ ((q { upPort with st := .wake }).port 0).st = .wake ∧
    ((q { upPort with st := .retry }).port 0).st = .retry ∧ ((q { upPort with st := .retired }).port 0).st = .retired ∧
    ((q { upPort with st := .member }).port 0).st = .member := by
  decide +kernel

theorem wit_PortMessages : (live.port 255).linkUp = false ∧ (onPort.port 0).linkUp = true ∧ onPort.portSends 0 = true ∧ live.portSends 0 = false ∧
    (onPort.port 0).msixEn = true ∧ (onPort.port 0).fnMask = false ∧ (onPort.port 0).unmasked.contains 3 = true ∧
    (onPort.port 0).unmasked.contains 2047 = false ∧ (onPort.port 0).pendingVec.contains 2047 = false ∧
    (let s := live.setPort 0 { upPort with pendingVec := [2047], fnMask := true }
     s.portSends 0 = true ∧ (s.port 0).fnMask = true ∧ (s.port 0).pendingVec.contains 2047 = true) ∧
    (live.setPort 0 { upPort with msixEn := false }).portSends 0 = true := by
  decide +kernel

theorem wit_FunctionsAndFlags : let on := { live with chart := ⟨1, 0, 0⟩ }
    let cold := { live with refloat := { live.refloat with stage := 4 } }
    let sized := put offCHART_SIZE 31 0 1 live
    let due := put offGLB_IRQ_STATUS 7 7 1 (put offGLB_IRQ_ENABLE 7 7 1 { live with mgmt := { live.mgmt with due := 0x80, masked := 0 } })
    Clear live ∧ live.bar0 = true ∧ (live.cmd kGlb).done = true ∧ live.ready = true ∧ cold.ready = false ∧ cold.sluiced = false ∧ cold.bar0 = true ∧
    coreReach live = true ∧ (live.cmd kChart).done = true ∧ live.chart.st = 0 ∧ on.chart.st ≠ 0 ∧ chartFieldsOk live = false ∧ chartFieldsOk sized = true ∧
    live.sluiced = false ∧ (sluicing 1 live).sluiced = true ∧ coreReach (sluicing 1 live) = true ∧ State.reset.inService dMgmt = false ∧
    live.inService dMgmt = true ∧ (live.cmd kLock).done = true ∧ Settled cold ∧ live.mgmt.due.getLsbD 7 = false ∧ due.mgmt.due.getLsbD 7 = true ∧
    fld (due.reg offGLB_IRQ_STATUS) 7 7 = 1 ∧ fld (due.reg offGLB_IRQ_ENABLE) 7 7 = 1 ∧ due.mgmt.masked.getLsbD 7 = false ∧
    live.mgmt.masked.getLsbD 7 = true := by
  decide +kernel

theorem wit_RegisterReads : let d3 := { live with mgmt := { live.mgmt with d3 := true } }
    Clear live ∧ Clear d3 ∧ mgmtUp State.reset = false ∧ mgmtUp live = true ∧ d3.mgmt.d3 = true ∧ mgmtUp d3 = true ∧ (2 : BitVec 4) ≠ 4 ∧ (2 : BitVec 4) ≠ 8 ∧
    (4 : BitVec 26).toNat % (8 : BitVec 4).toNat ≠ 0 ∧ live.bar0 = true ∧ (8 : BitVec 26).toNat % (8 : BitVec 4).toNat = 0 ∧
    (regAt offPKE_CNT).isSome = true ∧ (∀ r ∈ regAt offPKE_CNT, r.rc ≠ 0) ∧ (∀ r ∈ regAt offBERTH_SEL, r.rc = 0) ∧ offPKE_CNT ≠ offGAUGE_STATUS ∧
    offPKE_CNT ≠ offKEEP_SRC_CNT ∧ (∀ i < 8, offPKE_CNT ≠ offGAUGE_S_STATE + 64 * i) ∧ (offGAUGE_S_STATE + 64 * 7) % 8 = 0 := by
  decide +kernel

theorem wit_RegisterWrites : Settled State.reset ∧ mgmtUp State.reset = false ∧ Settled live ∧ Clear live ∧ charterOff offGLB_ID = false ∧ (live.cmd kBerth).done = true ∧
    (sluicing 1 live).sluiced = true ∧ live.sluiced = false ∧ mgmtUp live = true ∧ live.bar0 = true ∧
    (2 : BitVec 4) ≠ 4 ∧ (2 : BitVec 4) ≠ 8 ∧ regAt 0x3000080 = none ∧ coreBlock offFLY_CTRL = false ∧ coreBlock offBERTH_SEL = true ∧
    { live with seq := { live.seq with on := 0xBFFFFF } }.core = false ∧ { live with seq := { live.seq with on := 0xBFFFFF } }.bar0 = true ∧
    (∀ r ∈ regAt offFLY_CTRL, r.wo ≠ 0) ∧ (regAt offFLY_CTRL).isSome = true ∧ offFLY_CTRL < offBERTH_SEL ∧
    (regAt offGLB_ID).isSome = true ∧ (∀ r ∈ regAt offGLB_ID, r.wo = 0 ∧ r.rw = 0 ∧ r.rw1c = 0) ∧ live.core = true := by
  decide +kernel

theorem wit_ControlRegisters : controlWrite (.push 0xB7) = some (0xB7, 0xB7, kCfg, offCFG_CTRL, 0xB701) ∧
    controlWrite (.restore 0x4A 0xFFF) = some (0x4A, 0x4B, kKeep, offKEEP_CTRL, 0x0FFF4A02) ∧ (0x4A : Byte) ≠ 0x4B ∧ Settled live ∧ Clear live ∧
    live.bar0 = true ∧ ((live.setCmd kCfg ⟨false, 1, 0, false⟩).cmd kCfg).done = false ∧ live.core = true ∧ live.sluiced = false := by
  decide +kernel

theorem wit_KeyEngineWrites : let o : POp := ⟨.rack, 1, true, 0, []⟩
    let busy := { live with pke := { live.pke with cur := some o } }
    let other := { live with pke := { live.pke with cur := some { o with who := .gauge } } }
    Clear live ∧ charterReach live = true ∧ rackBusy busy = true ∧ rackBusy live = false ∧ rackBusy other = false ∧ other.pke.cur = some { o with who := .gauge } ∧
    live.pke.cur = none ∧ live.pke.queue = [] ∧ (0xA8 : Byte) ≠ 0xA9 := by
  decide +kernel

/-- k = 1 and the base point of P-256 in the operand registers. -/
def base : State :=
  ([0, 0, 0, 1, 0x6B17D1F2E12C4247, 0xF8BCE6E563A440F2, 0x77037D812DEB33A0, 0xF4A13945D898C296, 0x4FE342E2FE1A7F9B, 0x8EE7EB4A7C0F9E16,
    0x2BCE33576B315ECE, 0xCBB6406837BF51F5].zipIdx).foldl (fun s p => s.setReg (offPKE_OP + 8 * p.2) (BitVec.ofNat 64 p.1)) live

theorem wit_KeyEngineResults : let o : POp := ⟨.rack, 1, false, 0, []⟩
    let run := { live with pke := { live.pke with cur := some o } }
    let fail := { live with pke := { live.pke with failing := true } }
    run.pke.cur = some o ∧ run.now < o.tStart + opTime o.op ∧ o.tStart + opTime o.op ≤ ({ run with now := 130 } : State).now ∧ o.who = .rack ∧
    live.pke.cur = none ∧ p256p ≤ operand (put (offPKE_OP + 32) 63 0 0xFFFFFFFFFFFFFFFF run) 1 ∧
    operand base 1 < p256p ∧ operand base 2 < p256p ∧ onCurve (operand base 1) (operand base 2) = true ∧ 0 < operand base 0 ∧ operand base 0 < p256n ∧
    curveMul 1 (operand base 1) (operand base 2) = some (operand base 1, operand base 2) ∧
    fail.pke.failing = true ∧ fail.core = true ∧ live.core = true ∧ State.reset.core = false ∧ live.pke.failing = false := by
  decide +kernel

theorem wit_ClocksAndSupply : let h := { live with clk := { live.clk with holdover := true, rootOk := false, supLock := false } }
    let a := { live with clk := { live.clk with bLock := false } }
    let b := { live with clk := { live.clk with aLock := false } }
    live.clk.aon = true ∧ live.clk.holdover = false ∧ State.reset.clk.aon = false ∧ h.clk.holdover = true ∧ Settled h ∧ h.fly.st ≠ .test ∧ h.fly.st ≠ .sync ∧
    h.fly.st ≠ .run ∧ { h with fly := { h.fly with st := .run } }.fly.st = .run ∧ live.core = true ∧ live.clk.aLock = true ∧ live.clk.bLock = true ∧
    a.core = true ∧ a.clk.bLock = false ∧ b.core = true ∧ b.clk.aLock = false ∧ live.log.queue = [] ∧
    { live with log := { live.log with queue := [⟨0, 6, 0, false, 0, 0, []⟩] } }.log.queue ≠ [] := by
  decide +kernel

theorem wit_InvariantKept : Safety.Inv live ∧ ∃ t, step { live with pending := [.loadReleaseEnd] } = .next t := by
  refine ⟨?_, _, rfl⟩
  unfold Safety.Inv ClocksOk EngineOk ResultOk; decide +kernel

theorem wit_CanonicalKept : Canonical staged ∧ ∃ t, step { staged with pending := [.loadReleaseEnd] } = .next t := by
  refine ⟨?_, _, rfl⟩
  unfold Canonical RegsWf CmdsWf BerthsWf PortsWf; decide +kernel

/-! Single steps, each with what the spec says comes of it -/

/-- The state a command leads to. -/
def after (c : Instr) (s : State) : State := match exec c s with | .next t => t | _ => State.reset

/-- R40, R49: a CHARTERED berth's first valid doorbell opens it. -/
theorem test_first_doorbell : let b := (after (.doorbellWrite 0 0 1 3) (berthed { b5 with st := .chartered })).berth 5
    b.st = .opened ∧ b.sqTail = 1 := by
  decide +kernel

/-- R12, R40: a commit takes NEXT_SEQ; the last sequence, 2^48 - 1, leaves EXHAUSTED. -/
theorem test_commit : let b := (after (.putCommit 5 7) (flying reading { b5 with nextSeq := 2 ^ 48 - 1 })).berth 5
    b.nextSeq = 2 ^ 48 ∧ b.st = .exhausted ∧ b.chain.map (·.seq) = [2 ^ 48 - 1] := by
  decide +kernel

/-- R54, R55: a bad CRC is CHECK_FAIL, a LENGTH of 513 granules MALFORMED; the status is in bits 23:16 of the entry (R56). -/
theorem test_descriptor_checks :
    (after (.put 5 { (desc 1 0 4 64 0 0) with w7 := 0 }) (flying fl b5)).out.map (fun o => match o with
      | .cpl _ _ w _ => fld w 23 16 | _ => 0) = [checkFail, 0] ∧
    (after (.put 5 (desc 1 0 513 64 0 0)) (flying fl b5)).out.map (fun o => match o with
      | .cpl _ _ w _ => fld w 23 16 | _ => 0) = [malformed, 0] := by
  decide +kernel

/-- The largest record against the smallest share (chapter 9): 512 + 512 fit 1,024, 1,024 + 512 do not. -/
theorem test_smallest_share : let s := fun (h : Nat) => put (offDRC_SHARE + 8 * 7) 39 0 1024 (live.setBerth 5 { b5 with port := 7, held := h })
    shareFits (s 512) 7 512 = true ∧ shareFits (s 1024) 7 512 = false := by
  decide +kernel

/-- A refused command (chapter 22): while CAP_TEST runs under ticket 0x42, AUTH takes 0x43 and is not run; the end shows BUSY. -/
theorem test_refused_command : let s := (strung g0).setCmd kGauge ⟨true, 0x41, 0, false⟩
    let t := after (.auth 0x6B 2) (after (.capTest 0x6B) s)
    (after (.capTest 0x6B) s).cmd kGauge = ⟨false, 0x42, 0, false⟩ ∧ (t.cmd kGauge).done = false ∧ (t.cmd kGauge).ticket = 0x43 ∧
    (after (.capTestEnd 3750 2000) { t with now := 750000 }).cmd kGauge = ⟨true, 0x43, 3, false⟩ := by
  decide +kernel

/-- A re-targeted cycle (chapter 21): epoch 0x12 follows 0x11; 0x11 again is BAD_FIELD. -/
theorem test_epochs : let s := { live with lock := ⟨0x11, 0, true, false⟩ }
    (after (.lockCycle 0x1C 1 0x12) s).lock = ⟨0x12, 1, true, false⟩ ∧ ((after (.lockCycle 0x1C 1 0x11) s).cmd kLock).result = 3 := by
  decide +kernel

/-- An attestation behind a battery check (chapter 23): the ATTEST waits for the VERIFY and starts at 260 us, under ticket 7. -/
theorem test_attest_waits : let s := { live with now := 50, pke := { live.pke with issue := 6, cur := some ⟨.gauge, 2, false, 0, List.replicate 160 0⟩ } }
    let t := after (.attest 0xA9) s
    t.pke.issue = 7 ∧ t.pke.queue.length = 1 ∧ (after (.attest 0xA9) t).reg offPKE_CNT = 0x10000 ∧
    (after .pkeOpDone { t with now := 259 }).pke.cur.map (·.who) = some .gauge ∧
    (after .pkeOpDone { t with now := 260 }).pke.cur.map (fun o => (o.who, o.op, o.tStart)) = some (.rack, 3, 260) := by
  decide +kernel

/-- R296: the 257th record that waits is dropped and counted. -/
theorem test_log_full : let s := { live with log := { live.log with queue := List.replicate 256 ⟨0, 6, 0, false, 0, 0, []⟩ } }
    (logRec 0x06 0 0 [] s).log.queue.length = 256 ∧ (logRec 0x06 0 0 [] s).log.dropped = 1 ∧ fld ((logRec 0x06 0 0 [] s).reg offLOG_CNT) 31 16 = 1 := by
  decide +kernel

/-- R207, R211, R212: a COMMAND sluice closes the weir at once, asserts WARN_OUT_N and drains first. -/
theorem test_sluice_command : let t := after (.sluiceCommand 0xC3 true) live
    t.weir.st = .sluice ∧ t.pins.warn = true ∧ t.sluice.phase = 1 ∧ t.sluice.first = 6 ∧ t.sluice.mask = 0x20 := by
  decide +kernel

/-- R355: a link lost in UP goes to RETRY and the timer runs RETRY_MS. -/
theorem test_link_down : let t := after (.linkDown 0) { put offPORT_CFG 47 32 500 onPort with now := 7 }
    (t.port 0).st = .retry ∧ (t.port 0).retryEnd = some 500007 ∧ (t.port 0).linkUp = false := by
  decide +kernel

/-- R262, R272: at OVERSPEED in RUN the brake comes on. -/
theorem test_overspeed : let s := put offFLY_CFG1 31 16 3100 (spun .run)
    (after (.flySpeedUpdate 3100 3100 0 0) s).fly.st = .brake ∧ (after (.flySpeedUpdate 3099 3100 0 0) s).fly.st = .run := by
  decide +kernel

/-- R176: a passed erase leaves ERASED below ERASE_LIMIT, and RETIRED with CAUSE 0x4 at it. -/
theorem test_erase : let s := fun (n : Nat) => (put offFMM_WEAR 63 44 60000 opened).setBlk (blkNo opened 0 3) ⟨5, n, 0, 0, false, 0⟩
    let b := fun (n : Nat) => (after (.eraseDone 0 3 true) (s n)).blk (blkNo opened 0 3)
    (b 59999).st = 0 ∧ (b 59999).ec = 59999 ∧ (b 60000).st = 6 ∧ (b 60000).cause = 4 := by
  decide +kernel

/-- R9: a read of a counter register clears its RC counters, and the value read is the one before. -/
theorem test_rc_read : let t := after (.rcRead (BitVec.ofNat 26 offPKE_CNT) 8) (put offPKE_CNT 15 0 3 live)
    t.out = [.mgmtData 3] ∧ t.reg offPKE_CNT = 0 := by
  decide +kernel

/-- R402: losing ROOT asserts WARN_OUT_N and puts the supervisor die in holdover. -/
theorem test_root_loss : let t := after .rootLoss live
    t.clk.holdover = true ∧ t.clk.rootOk = false ∧ t.pins.warn = true ∧ t.core = false := by
  decide +kernel

/-- R284: a rail commanded above VMAX is BAD_FIELD and nothing is sent. -/
theorem test_rail_cmd : let s := put offSEQ_RAIL_CMD 15 0 1001 { live with seq := { live.seq with
      rails := [(0, { Rail.off with on := true })], sect := { live.seq.sect with rails := [(0, (BitVec.ofNat 64 (900 * 2 ^ 16 + 1000), 0))] } } }
    ((after (.railCmd 0x9D true) s).cmd kSeq).result = 3 ∧ (after (.railCmd 0x9D true) s).out = [] := by
  decide +kernel

/-- R234: the count of charge never falls below 0 nor rises above the capacity. -/
theorem test_count_limits : (strSample (strung g0) ⟨50000, -1⟩ { g0 with present := true }).q = 0 ∧
    (strSample (strung g0) ⟨50000, 200000⟩ { g0 with present := true, q := 100 * nCmAh - 1 }).q = 100 * nCmAh := by
  decide +kernel

/-- R299: a beacon and a reply close with their CRC, and one flipped bit breaks it. -/
theorem test_frames : frameOk 16 (beaconFrame live) = true ∧ frameOk 16 ((beaconFrame live).set 1 1) = false := by
  decide +kernel

/-- R126: a refresh closes the channel's rows. -/
theorem test_refresh : let s := (live.setChan 3 ⟨2, 0⟩).setSched 3 { Sched.idle with openRows := [(4, some 9)] }
    ((after (.refreshDue 3 0 none) s).sched 3).openRows = [] ∧ ((after (.refreshDue 3 0 (some 1)) s).sched 3).openRows = [(4, some 9)] := by
  decide +kernel

/-- An idle step is a tick of CK_AON (log 1). -/
theorem test_tick : (match step State.reset with | .next t => t.now | _ => 0) = 1 := by decide +kernel

end Sys2Proof.Tests
end

/-! # Doorbells, descriptor fetches and the charter's field check -/

/-! ## The doorbell window of a port's BAR (R350) -/

namespace Sys2Proof.Proofs.Doorbells

open Sys2Proof Sys2Proof.Machine Sys2Proof.Safety

/-- The model's quotient rounded up is Mathlib's. -/
theorem ceilDiv_eq_mathlib (a b : Nat) : Machine.ceilDiv a b = a ⌈/⌉ b := rfl

/-- P = ⌈SLOTS / D⌉ is the least number of pages whose D slots each hold every slot. -/
theorem doorbellPages_le_iff (s : State) (p c : Nat) :
    doorbellPages s p ≤ c ↔ s.PORT_CFG_SLOTS p ≤ 2 ^ s.PORT_CFG_D_LOG2 p * c := by
  rw [doorbellPages, ceilDiv_eq_mathlib, ceilDiv_le_iff_le_mul (by positivity)]

/-- SLOTS is a field of 17 bits. -/
theorem slots_lt (s : State) (p : Nat) : s.PORT_CFG_SLOTS p < 2 ^ 17 := Nat.mod_lt _ (by decide)

/-- There is never more than one page to a slot. -/
theorem doorbellPages_lt (s : State) (p : Nat) : doorbellPages s p < 2 ^ 17 := by
  have hpages : doorbellPages s p ≤ s.PORT_CFG_SLOTS p :=
    (doorbellPages_le_iff s p _).2 (Nat.le_mul_of_pos_left _ (by positivity))
  exact hpages.trans_lt (slots_lt s p)

/-- The BAR holds the adapter's structures and every doorbell page. -/
theorem doorbellPages_in_bar (s : State) (p : Nat) : 0x10000 + 4096 * doorbellPages s p ≤ barSize s p := by
  unfold barSize
  cases hfind : ((List.range 14).map (fun k => 0x10000 * 2 ^ k)).find?
      (fun b => Nat.ble (0x10000 + 4096 * doorbellPages s p) b) with
  | some size => exact Nat.le_of_ble_eq_true (List.find?_some hfind)
  | none =>
    have hpages := doorbellPages_lt s p
    simp only [Option.getD_none]
    omega

/-- An offset that names a slot lies in the BAR. -/
theorem doorbellSlot_in_bar {s : State} {p off j : Nat} (h : doorbellSlot s p off = some j) : 0x10000 + off < barSize s p := by
  have hslot : off / 4096 * 2 ^ s.PORT_CFG_D_LOG2 p + off % 4096 / 8 < s.PORT_CFG_SLOTS p := by
    unfold doorbellSlot at h
    dsimp only at h
    split at h
    · next hin => exact hin.2
    · cases h
  have hpage : off / 4096 < doorbellPages s p := by
    rw [← Nat.not_le, doorbellPages_le_iff, Nat.mul_comm]
    omega
  have hbar := doorbellPages_in_bar s p
  omega

/-! ## What a doorbell write comes to (R47 to R51) -/

/-- A port that takes doorbells is not in D3hot. -/
theorem doorbellOpen_awake {s : State} {p : Nat} (h : doorbellOpen s p = true) : (s.port p).d3 = false := by
  simp only [doorbellOpen, Bool.and_eq_true, Bool.not_eq_true'] at h
  obtain ⟨⟨⟨⟨-, hd3⟩, -⟩, -⟩, -⟩ := h
  exact hd3

section Window

variable {p : Fin 256} {off : BitVec 32} {data : Word} {be : BitVec 8} {s : State}

/-- In D3hot a write completes as Unsupported Request (R417). -/
theorem exec_doorbellWrite_asleep (hlink : (s.port p.val).linkUp = true) (hd3 : (s.port p.val).d3 = true) :
    exec (.doorbellWrite p off data be) s = .next (s.emit .unsupported) := by
  show execDoorbellWrite p off data be s = _
  simp [execDoorbellWrite, hlink, hd3]

/-- A port that takes no doorbell, and is not asleep on a link that is up, lets the write go by. -/
theorem exec_doorbellWrite_shut (hawake : ¬((s.port p.val).linkUp = true ∧ (s.port p.val).d3 = true))
    (hopen : doorbellOpen s p.val = false) : exec (.doorbellWrite p off data be) s = .next s := by
  show execDoorbellWrite p off data be s = _
  simp only [execDoorbellWrite, if_neg hawake, hopen, Bool.not_false, if_true]

/-- Beyond the BAR a write completes as Unsupported Request (R346). -/
theorem exec_doorbellWrite_beyond (hopen : doorbellOpen s p.val = true) (hbar : barSize s p.val ≤ 0x10000 + off.toNat) :
    exec (.doorbellWrite p off data be) s = .next (s.emit .unsupported) := by
  show execDoorbellWrite p off data be s = _
  simp [execDoorbellWrite, doorbellOpen_awake hopen, hopen, hbar]

/-- A slot without a berth, or no slot at all, takes nothing (R51). -/
theorem exec_doorbellWrite_empty (hopen : doorbellOpen s p.val = true) (hbar : 0x10000 + off.toNat < barSize s p.val)
    (hslot : (doorbellSlot s p.val off.toNat).bind (berthAt s p.val) = none) :
    exec (.doorbellWrite p off data be) s = .next s := by
  show execDoorbellWrite p off data be s = _
  simp only [execDoorbellWrite, doorbellOpen_awake hopen, hopen, Nat.not_le.2 hbar, hslot, Bool.not_true, Bool.false_eq_true,
    and_false, if_false]

end Window

/-! ## The two fields judged (R48, R49) -/

/-- What becomes of one field of a doorbell write: not carried, updated, or carried with a value that is not valid. -/
inductive Verdict where
  | absent
  | taken
  | ignored

/-- The judging of a field, from whether both of its bytes are enabled and whether its value is valid. -/
def judge : Bool → Bool → Verdict
  | false, _ => .absent
  | true, true => .taken
  | true, false => .ignored

theorem judge_absent {on valid : Bool} (hon : on = false) : judge on valid = .absent := by rw [hon]; rfl

theorem judge_taken {on valid : Bool} (hon : on = true) (hvalid : valid = true) : judge on valid = .taken := by rw [hon, hvalid]; rfl

theorem judge_ignored {on valid : Bool} (hon : on = true) (hvalid : valid = false) : judge on valid = .ignored := by
  rw [hon, hvalid]; rfl

/-- What a field so judged adds to PORT_CNT.DB_IGNORED. -/
def Verdict.counts : Verdict → Nat
  | .ignored => 1
  | _ => 0

/-- The field after the write, from the value carried and the value held. -/
def Verdict.update : Verdict → Nat → Nat → Nat
  | .taken, carried, _ => carried
  | _, _, old => old

/-- PORT_CNT.DB_IGNORED of port p counts n fields; with none ignored the register is not written. -/
def countIgnored (p n : Nat) (s : State) : State := if n = 0 then s else s.bump (offPORT_CNT + 0x1000 * p) 47 32 n

/-- The berth after a write that updates a field. -/
def rung (b : Berth) (data : Word) (tail head : Verdict) : Berth :=
  { b with sqTail := tail.update (fld data 15 0) b.sqTail, cqHead := head.update (fld data 31 16) b.cqHead, st := firstDoorbell b }

/-- What a write to berth i's slot leaves, by the verdicts on its two fields. -/
def doorbellLeaves (p i : Nat) (data : Word) (s : State) (tail head : Verdict) : State :=
  let counted := countIgnored p (tail.counts + head.counts) s
  match tail, head with
  | .taken, _ | _, .taken => counted.setBerth i (rung (s.berth i) data tail head)
  | _, _ => counted

theorem headOk_iff (b : Berth) (h : Nat) :
    headOk b h = true ↔
      h < 2 ^ b.log2 ∧ (h + 2 ^ b.log2 - b.cqHead) % 2 ^ b.log2 ≤ (b.cqTail + 2 ^ b.log2 - b.cqHead) % 2 ^ b.log2 := by
  simp [headOk]

/-- A write to the slot of berth i comes to the judging of its fields: the slot lies in the BAR. -/
theorem exec_doorbellWrite_berth {p : Fin 256} {off : BitVec 32} {data : Word} {be : BitVec 8} {s : State} {i : Nat} {tail head : Verdict}
    (hopen : doorbellOpen s p.val = true) (hslot : (doorbellSlot s p.val off.toNat).bind (berthAt s p.val) = some i)
    (htail : judge (be.getLsbD 0 && be.getLsbD 1) (decide (fld data 15 0 < 2 ^ (s.berth i).log2)) = tail)
    (hhead : judge (be.getLsbD 2 && be.getLsbD 3) (headOk (s.berth i) (fld data 31 16)) = head) :
    exec (.doorbellWrite p off data be) s = .next (doorbellLeaves p.val i data s tail head) := by
  obtain ⟨j, hj, -⟩ := Option.bind_eq_some_iff.1 hslot
  have hbar := Nat.not_le.2 (doorbellSlot_in_bar hj)
  subst htail hhead
  show execDoorbellWrite p off data be s = _
  simp only [execDoorbellWrite, doorbellOpen_awake hopen, hopen, hbar, hslot, Bool.not_true, Bool.false_eq_true, and_false, if_false]
  generalize (be.getLsbD 0 && be.getLsbD 1) = tailOn, decide (fld data 15 0 < 2 ^ (s.berth i).log2) = tailOk,
    (be.getLsbD 2 && be.getLsbD 3) = headOn, headOk (s.berth i) (fld data 31 16) = headOk
  -- The truth table of the four conditions: at each row the model and the verdicts leave the same state.
  rcases tailOn with - | - <;> rcases tailOk with - | - <;> rcases headOn with - | - <;> rcases headOk with - | - <;> rfl

/-- Settles O6: a write comes to the judging of its two fields, and the nine clauses are the nine pairs of verdicts. -/
theorem doorbellFields : Obligations.DoorbellFields := by
  unfold Obligations.DoorbellFields
  intro p off data be s i hopen hslot b tailOn headOn tail head
  have judged := fun (vt vh : Verdict) => exec_doorbellWrite_berth (data := data) (be := be) (tail := vt) (head := vh) hopen hslot
  refine ⟨headOk_iff b head, ?_, ?_, ?_, ?_, ?_, ?_, ?_, ?_, ?_⟩
  · exact fun ht hh htv => judged .taken .absent (judge_taken ht (decide_eq_true htv)) (judge_absent hh)
  · exact fun ht hh hhv => judged .absent .taken (judge_absent ht) (judge_taken hh hhv)
  · exact fun ht hh htv hhv => judged .taken .taken (judge_taken ht (decide_eq_true htv)) (judge_taken hh hhv)
  · exact fun ht hh htv hhv => judged .taken .ignored (judge_taken ht (decide_eq_true htv)) (judge_ignored hh hhv)
  · exact fun ht hh htv hhv => judged .ignored .taken (judge_ignored ht (decide_eq_false htv)) (judge_taken hh hhv)
  · exact fun ht hh htv hhv => judged .ignored .ignored (judge_ignored ht (decide_eq_false htv)) (judge_ignored hh hhv)
  · exact fun ht hh htv => judged .ignored .absent (judge_ignored ht (decide_eq_false htv)) (judge_absent hh)
  · exact fun ht hh hhv => judged .absent .ignored (judge_absent ht) (judge_ignored hh hhv)
  · exact fun ht hh => judged .absent .absent (judge_absent ht) (judge_absent hh)

/-- Settles O7: each clause is one outcome of the window. -/
theorem doorbellNoSlot : Obligations.DoorbellNoSlot := by
  unfold Obligations.DoorbellNoSlot
  intro p off data be s q
  refine ⟨exec_doorbellWrite_asleep, fun hawake => ⟨exec_doorbellWrite_shut ?_, exec_doorbellWrite_beyond, exec_doorbellWrite_empty⟩⟩
  rintro ⟨hlink, hd3⟩
  rcases hawake with hdown | hd0
  · exact absurd hlink (Bool.eq_false_iff.1 hdown)
  · exact absurd hd3 (Bool.eq_false_iff.1 hd0)

end Sys2Proof.Proofs.Doorbells

/-! ## Descriptor fetch (R43, R45) -/

namespace Sys2Proof.Proofs.Fetch

open Sys2Proof Sys2Proof.Machine Sys2Proof.Safety

/-- A berth that may fetch has a free completion entry for the descriptor. -/
theorem mayFetch_room {s : State} {i : Nat} (h : mayFetch s i = true) :
    (s.berth i).flights.length + ((s.berth i).cqTail + 2 ^ (s.berth i).log2 - (s.berth i).cqHead) % 2 ^ (s.berth i).log2 + 1 <
      2 ^ (s.berth i).log2 := by
  simp only [mayFetch, Bool.and_eq_true, decide_eq_true_eq] at h
  obtain ⟨-, hroom⟩ := h
  exact hroom

/-- Settles O8: the fetch is guarded by `mayFetch`, whose last condition is the free completion entry. -/
theorem descriptorFetch : Obligations.DescriptorFetch := by
  unfold Obligations.DescriptorFetch
  intro b s x f
  refine ⟨fun hmay => ?_, fun hmay => ?_, mayFetch_room⟩
  · show execDescriptorFetch b s = _
    simp only [execDescriptorFetch, hmay, Bool.not_true, Bool.false_eq_true, if_false]
    rfl
  · show execDescriptorFetch b s = _
    simp only [execDescriptorFetch, hmay, Bool.not_false, if_true]

end Sys2Proof.Proofs.Fetch

/-! ## The charter's fields (R78) -/

namespace Sys2Proof.Proofs.CharterFields

open Sys2Proof Sys2Proof.Machine Sys2Proof.Safety

/-! Taking the ticket leaves what the checks of a berth command read -/

@[simp] theorem cmdTake_berth (k : Nat) (s : State) (i : Nat) : (cmdTake k s).berth i = s.berth i := by simp [State.berth]

@[simp] theorem cmdTake_sluiced (k : Nat) (s : State) : (cmdTake k s).sluiced = s.sluiced := by simp [State.sluiced]

@[simp] theorem fieldsOk_cmdTake (k : Nat) (s : State) (i : Nat) : fieldsOk (cmdTake k s) i = fieldsOk s i := by
  unfold cmdTake
  dsimp only
  split <;> rfl

/-- Before any trigger a berth command is refused for the berth's state alone (R77). -/
theorem badState_cmdTake {s : State} (hsl : s.sluiced = false) (k i : Nat) (from_ : List BSt) :
    badState (cmdTake k s) i from_ = !from_.contains (s.berth i).st := by
  simp [badState, tooLate, hsl]

/-! A berth command from the charter window -/

/-- A command number is the low field of the word that writes it. -/
theorem stageNow_berthCmd {op : Nat} (hop : op < 16) (s : State) :
    stageNow offBERTH_CMD 0 (BitVec.ofNat 64 op) s = berthCmd op s := by
  have hfld : fld (BitVec.ofNat 64 op) 3 0 = op := by
    simp only [fld, BitVec.toNat_ofNat]
    omega
  simp [stageNow, hfld, offBERTH_CMD, offBERTH_SEL]

/-- The state that a berth command refused with RESULT BAD_FIELD leaves. -/
def refusedFields (s : State) : State := cmdEnd kBerth 3 (cmdTake kBerth s)

/-- A berth command that is so refused leaves that state: it acts at once, and no report is left to settle. -/
theorem berthCommand_refused (c : Instr) {op : Nat} {s : State} (hop : op < 16) (hs : Settled s) (hc : Clear s)
    (hreach : charterReach s = true) (hd : (s.cmd kBerth).done = true) (hrefused : berthCmd op s = refusedFields s) :
    viaPort c true (fun s => berthCommand op s) s = .next (refusedFields s) := by
  have hsettled : (refusedFields s).keep.reports = [] := by simp [refusedFields, hs]
  rw [viaPort_charter _ _ hc hd]
  simp [berthCommand, hreach, stageNow_berthCmd hop, hrefused, settle_nil hsettled]

/-- MODIFY's states are all but FREE (R77). -/
theorem modify_states {st : BSt} (h : st ≠ .free) :
    [BSt.chartered, .opened, .exhausted, .refloating, .fenced].contains st = true := by
  revert h
  cases st <;> decide

section Refused

variable {s : State} (hsl : s.sluiced = false) (hbad : fieldsOk s s.BERTH_SEL_ID = false)

include hsl hbad

theorem doCharter_badFields (hst : (s.berth s.BERTH_SEL_ID).st = .free) (hm : s.fmm.san.marker ≠ 1) :
    doCharter s = refusedFields s := by
  have hr : charterResult (cmdTake kBerth s) s.BERTH_SEL_ID = 3 := by
    simp [charterResult, badState_cmdTake hsl, hst, hm, hbad]
  simp [doCharter, selected, hr, refusedFields]

theorem doModify_badFields (hst : (s.berth s.BERTH_SEL_ID).st ≠ .free) : doModify s = refusedFields s := by
  have hr : modifyResult (cmdTake kBerth s) s.BERTH_SEL_ID = 3 := by
    rw [modifyResult, badState_cmdTake hsl, modify_states hst]
    simp [hbad]
  simp [doModify, selected, hr, refusedFields]

theorem doRecharter_badFields (hst : (s.berth s.BERTH_SEL_ID).st = .fenced) : doRecharter s = refusedFields s := by
  have hr : recharterResult (cmdTake kBerth s) s.BERTH_SEL_ID = 3 := by
    simp [recharterResult, badState_cmdTake hsl, hst, hbad]
  simp [doRecharter, endRecharter, selected, hr, refusedFields]

end Refused

theorem cmd_setCmd_same (s : State) (k : Nat) {c : CmdSt} (h : c ≠ CmdSt.idle) : (s.setCmd k c).cmd k = c :=
  tget_tset_same _ _ _ _ h

/-- A command's end as its status register shows it, for a RESULT that is not the register's reset value (R373, R374). -/
theorem cmd_cmdEnd (k : Nat) {r : Nat} (s : State) (h : r ≠ 0) (hr : (s.cmd k).refused = false) :
    (cmdEnd k r s).cmd k = ⟨true, (s.cmd k).ticket, r, false⟩ := by
  have hcmds : (cmdEnd k r s).cmd k = (s.setCmd k ⟨true, (s.cmd k).ticket, r, false⟩).cmd k := by
    rw [cmdEnd, hr]
    simp [State.cmd]
  rw [hcmds, cmd_setCmd_same _ _ (by simp [CmdSt.idle, h])]

/-- The status register after the refusal: DONE, BAD_FIELD and the command's ticket (R372, R373). -/
theorem refusedFields_cmd {s : State} (hd : (s.cmd kBerth).done = true) :
    (refusedFields s).cmd kBerth = ⟨true, (s.cmd kBerth).ticket + 1, 3, false⟩ := by
  have htaken : (cmdTake kBerth s).cmd kBerth = ⟨false, (s.cmd kBerth).ticket + 1, 0, false⟩ := by
    rw [cmdTake_done hd]
    exact cmd_setCmd_same _ _ (by simp [CmdSt.idle])
  rw [refusedFields, cmd_cmdEnd _ _ (by decide) (by rw [htaken]), htaken]

theorem refusedFields_berth (s : State) (j : Nat) : (refusedFields s).berth j = s.berth j := by
  simp [refusedFields, State.berth]

/-- Settles O16: the check is R78's list, and each command comes to it from the state that it needs. -/
theorem charterFields : Obligations.CharterFields := by
  unfold Obligations.CharterFields
  intro s hs hc hreach hd hsl i b slots valid bad
  have hvalid : fieldsOk s i = true ↔ valid := by
    simp only [fieldsOk, Bool.and_eq_true, decide_eq_true_eq, and_assoc]
    rfl
  refine ⟨hvalid, fun hnot => ?_⟩
  have hfields : fieldsOk s i = false := Bool.eq_false_iff.2 (mt hvalid.1 hnot)
  have hcmd : bad.cmd kBerth = ⟨true, (s.cmd kBerth).ticket + 1, 3, false⟩ := refusedFields_cmd hd
  refine ⟨fun hst hm => ?_, fun hst => ?_, fun hst => ?_, by rw [hcmd], by rw [hcmd], by rw [hcmd], refusedFields_berth s⟩
  · exact berthCommand_refused .charter (op := 1) (by decide) hs hc hreach hd (doCharter_badFields hsl hfields hst hm)
  · exact berthCommand_refused .modify (op := 2) (by decide) hs hc hreach hd (doModify_badFields hsl hfields hst)
  · exact berthCommand_refused .recharter (op := 4) (by decide) hs hc hreach hd (doRecharter_badFields hsl hfields hst)

end Sys2Proof.Proofs.CharterFields

/-! ## The lock cycle (R360) -/

namespace Sys2Proof.Proofs.LockCycle

open Sys2Proof Sys2Proof.Machine Sys2Proof.Safety

/-! ### The conditions as a RESULT -/

section Result

variable {s : State} {e : BitVec 16}

/-- Without readiness, or after a trigger, the write ends BAD_STATE, a stale epoch besides or not (log 23). -/
theorem lockResult_badState (h : s.ready = false ∨ s.sluiced = true) : lockResult s e = 2 := by
  simp [lockResult, h]

theorem lockResult_ok (hready : s.ready = true) (hsl : s.sluiced = false) (hlo : 1 ≤ (e - s.lock.epoch).toNat)
    (hhi : (e - s.lock.epoch).toNat ≤ 32767) : lockResult s e = 0 := by
  simp only [lockResult, hready, hsl, hlo, hhi, Bool.not_true, Bool.false_eq_true, or_self, and_self, if_false, if_true]

theorem lockResult_badField (hready : s.ready = true) (hsl : s.sluiced = false)
    (hstale : (e - s.lock.epoch).toNat = 0 ∨ 32767 < (e - s.lock.epoch).toNat) : lockResult s e = 3 := by
  have hfresh : ¬(1 ≤ (e - s.lock.epoch).toNat ∧ (e - s.lock.epoch).toNat ≤ 32767) := by omega
  simp only [lockResult, hready, hsl, hfresh, Bool.not_true, Bool.false_eq_true, or_self, if_false]

end Result

@[simp] theorem cmdTake_ready (k : Nat) (s : State) : (cmdTake k s).ready = s.ready := by simp [State.ready]

/-- Taking the ticket leaves what R360 asks for. -/
@[simp] theorem lockResult_cmdTake (k : Nat) (s : State) (e : BitVec 16) : lockResult (cmdTake k s) e = lockResult s e := by
  simp [lockResult]

/-! ### The write -/

/-- A port under a new target: OPEN and DRAIN let it go on issuing reads (R362). -/
def retargeted (mode : Nat) (q : Port) : Port := if mode < 2 then { q with stopping := false } else q

/-- A new target changes no more of a port than STOPPING. -/
theorem retargeted_eq (mode : Nat) (q : Port) : ∃ x, retargeted mode q = { q with stopping := x } := by
  unfold retargeted
  split
  · exact ⟨false, rfl⟩
  · exact ⟨q.stopping, rfl⟩

/-- An idle port is not STOPPING. -/
theorem retargeted_idle (mode : Nat) : retargeted mode Port.idle = Port.idle := ite_self _

/-- The ports after a cycle has started. -/
def retargetedPorts (mode : Nat) (s : State) : Tbl Port := tmap Port.idle (fun _ => retargeted mode) s.ports

theorem tget_retargetedPorts {s : State} (h : PortsWf s.ports) (mode p : Nat) :
    tget Port.idle (retargetedPorts mode s) p = retargeted mode (s.port p) :=
  tget_tmap p h (retargeted_idle mode)

@[simp] theorem retargetedPorts_cmdTake (mode k : Nat) (s : State) : retargetedPorts mode (cmdTake k s) = retargetedPorts mode s := by
  simp [retargetedPorts]

section Write

variable {s : State}

theorem doLockCycle_refused {mode : Nat} {e : BitVec 16} (h : lockResult s e ≠ 0) :
    doLockCycle mode e s = cmdEnd kLock (lockResult s e) s := by
  simp only [doLockCycle, if_pos h]

theorem doLockCycle_accepted {mode : Nat} {e : BitVec 16} (h : lockResult s e = 0) :
    doLockCycle mode e s = cmdEnd kLock 0 { s with lock := ⟨e, mode, true, false⟩, ports := retargetedPorts mode s } := by
  unfold doLockCycle
  dsimp only
  rw [if_neg (not_not_intro h)]
  rfl

variable (hc : Clear s) (hreach : coreReach s = true) (hd : (s.cmd kLock).done = true) (hs : Settled s)

include hc hreach hd hs

/-- The keyed write acts at once on the state with its ticket taken, and reports nothing to the keeper. -/
theorem exec_lockCycle (m : BitVec 2) (e : BitVec 16) :
    exec (.lockCycle 0x1C m e) s = .next (doLockCycle m.toNat e (cmdTake kLock s)) := by
  have hsettled : (doLockCycle m.toNat e (cmdTake kLock s)).keep.reports = [] := by simp [hs]
  show execLockCycle 0x1C m e s = _
  rw [execLockCycle, viaPort_clear _ _ hc, cmdStart_done hd, settle_nil hsettled]
  simp [hreach]

theorem exec_lockCycle_refused (m : BitVec 2) {e : BitVec 16} {r : Nat} (hr : lockResult s e = r) (hr0 : r ≠ 0) :
    exec (.lockCycle 0x1C m e) s = .next (cmdEnd kLock r (cmdTake kLock s)) := by
  have htaken : lockResult (cmdTake kLock s) e = r := (lockResult_cmdTake ..).trans hr
  rw [exec_lockCycle hc hreach hd hs, doLockCycle_refused (htaken.trans_ne hr0), htaken]

theorem exec_lockCycle_accepted (m : BitVec 2) {e : BitVec 16} (hr : lockResult s e = 0) :
    exec (.lockCycle 0x1C m e) s = .next (cmdEnd kLock 0
      { cmdTake kLock s with lock := ⟨e, m.toNat, true, false⟩, ports := retargetedPorts m.toNat s }) := by
  rw [exec_lockCycle hc hreach hd hs, doLockCycle_accepted ((lockResult_cmdTake ..).trans hr), retargetedPorts_cmdTake]

end Write

/-! ### The epoch at each start, and the command's end -/

/-- A reset of PD_CORE begins with no target. -/
theorem coreReset_lock (s : State) : (coreReset s).lock = ⟨0, 0, false, false⟩ := rfl

/-- In a canonical table a command that ends reads as ended, whatever its RESULT (R373, R374). -/
theorem cmd_cmdEnd_wf (k r : Nat) {s : State} (h : CmdsWf s.cmds) :
    (cmdEnd k r s).cmd k = ⟨true, (s.cmd k).ticket, if (s.cmd k).refused then busyCode k else r, false⟩ := by
  have hread := tget_tset_wf k ⟨true, (s.cmd k).ticket, if (s.cmd k).refused then busyCode k else r, false⟩ h
  simpa [cmdEnd, State.cmd, State.setCmd] using hread

/-- Settles O50: the write ends with the RESULT of R360's conditions, and only RESULT OK puts the new target in place. -/
theorem lockCycle : Obligations.LockCycle := by
  unfold Obligations.LockCycle
  refine ⟨?_, ⟨rfl, fun s => by rw [coreReset_lock]⟩, fun r s hcmds => by rw [cmd_cmdEnd_wf kLock r hcmds]⟩
  intro m e s hc hreach hd hs hports u d
  refine ⟨fun hready hsl hlo hhi => ⟨retargetedPorts m.toNat s, fun p => ?_, ?_⟩, fun hbad _ _ => ?_, fun hready hsl hstale => ?_⟩
  · rw [tget_retargetedPorts hports]
    exact retargeted_eq m.toNat (s.port p)
  · exact exec_lockCycle_accepted hc hreach hd hs m (lockResult_ok hready hsl hlo hhi)
  · exact exec_lockCycle_refused hc hreach hd hs m (lockResult_badState hbad) (by decide)
  · exact exec_lockCycle_refused hc hreach hd hs m (lockResult_badField hready hsl hstale) (by decide)

end Sys2Proof.Proofs.LockCycle

/-! ## Register reads (R9, R368, R370, R371) -/

namespace Sys2Proof.Proofs.RegisterReads

open Sys2Proof Sys2Proof.Machine Sys2Proof.Safety

/-! ### Which reads are answered (R368, R370) -/

/-- BAR0 is reached exactly when a request arrives and the function is awake. -/
theorem bar0_eq_true_iff (s : State) : s.bar0 = true ↔ mgmtUp s = true ∧ s.mgmt.d3 = false := by
  simp [State.bar0, mgmtUp]

/-- Where no request arrives, none is held for another (R368). -/
theorem viaPort_of_mgmtUp_eq_false (c : Instr) (charter : Bool) (f : State → Res) {s : State} (h : mgmtUp s = false) :
    viaPort c charter f s = f s := by
  have hbar0 : s.bar0 = false := by simp [← Bool.not_eq_true, bar0_eq_true_iff, h]
  simp [viaPort, portHolds, hbar0]

/-- A supported access has 4 or 8 bytes and is naturally aligned (R370). -/
theorem accessOk_eq_true_iff (off : Nat) (size : BitVec 4) :
    accessOk off size.toNat = true ↔ (size = 4 ∨ size = 8) ∧ off % size.toNat = 0 := by
  simp [accessOk, ← BitVec.toNat_inj]

theorem mgmtRead_down {s : State} (off size : Nat) (h : mgmtUp s = false) : mgmtRead off size s = s := by
  simp [mgmtRead, h]

theorem mgmtRead_unsupported {s : State} {off size : Nat} (hup : mgmtUp s = true)
    (hbad : s.mgmt.d3 = true ∨ accessOk off size = false) : mgmtRead off size s = s.emit .unsupported := by
  simp [mgmtRead, hup, hbad]

/-- A supported read answers from the state before its own effect. -/
theorem mgmtRead_answered {s : State} {off size : Nat} (hbar0 : s.bar0 = true) (hok : accessOk off size = true) :
    mgmtRead off size s =
      (readSide (off / 8 * 8) s).emit (.mgmtData (readPart off size (readReg s (off / 8 * 8)))) := by
  obtain ⟨hup, hawake⟩ := (bar0_eq_true_iff s).1 hbar0
  simp [mgmtRead, hup, hawake, hok]

theorem exec_rcRead_clear (off : BitVec 26) (size : BitVec 4) {s : State} (hc : Clear s) :
    exec (.rcRead off size) s = .next (mgmtRead off.toNat size.toNat s) := by
  show execRcRead off size s = _
  rw [execRcRead, viaPort_clear _ _ hc]

theorem exec_rcRead_down (off : BitVec 26) (size : BitVec 4) {s : State} (h : mgmtUp s = false) :
    exec (.rcRead off size) s = .next s := by
  show execRcRead off size s = _
  rw [execRcRead, viaPort_of_mgmtUp_eq_false _ _ _ h, mgmtRead_down _ _ h]

/-! ### What a read does to its register (R371) -/

/-- The offsets of the eight GAUGE_Sn_STATE registers, as the model tests for them. -/
theorem stringState_iff (off : Nat) :
    (offGAUGE_S_STATE ≤ off ∧ off < offGAUGE_S_STATE + 0x200 ∧ (off - offGAUGE_S_STATE) % 64 = 0) ↔
      ∃ i, off = offGAUGE_S_STATE + 64 * i ∧ i < 8 := by
  refine ⟨fun h => ⟨(off - offGAUGE_S_STATE) / 64, ?_⟩, fun ⟨i, hoff, hi⟩ => ?_⟩ <;> omega

/-- A read of GAUGE_STATUS captures the bank's group (R256). -/
theorem readSide_status (s : State) : readSide offGAUGE_STATUS s = captureStatus s := if_pos rfl

/-- A read of GAUGE_Sn_STATE captures the string's group (R256). -/
theorem readSide_stringState {i : Nat} (hi : i < 8) (s : State) :
    readSide (offGAUGE_S_STATE + 64 * i) s = captureString i s := by
  have hstatus : offGAUGE_S_STATE + 64 * i ≠ offGAUGE_STATUS := by unfold offGAUGE_S_STATE offGAUGE_STATUS; omega
  have hindex : (offGAUGE_S_STATE + 64 * i - offGAUGE_S_STATE) / 64 = i := by omega
  rw [readSide, if_neg hstatus, if_pos ((stringState_iff _).2 ⟨i, rfl, hi⟩), hindex]

/-- Any other read clears the register's RC counters and no more. -/
theorem readSide_other {off : Nat} (hstatus : off ≠ offGAUGE_STATUS) (hstring : ∀ i, ¬(off = offGAUGE_S_STATE + 64 * i ∧ i < 8))
    (s : State) : readSide off s = clearRc off s := by
  rw [readSide, if_neg hstatus, if_neg (mt (stringState_iff off).1 (not_exists.2 hstring))]

/-- KEEP_SRC_CNT's counters are the selected source's (R323). -/
theorem readSide_sourceCounters (s : State) :
    readSide offKEEP_SRC_CNT s = s.updSrc s.KEEP_SRC_SEL_SRC (fun x => { x with trans := 0, sev := 0, merged := 0 }) := by
  have hstring : ∀ i, ¬(offKEEP_SRC_CNT = offGAUGE_S_STATE + 64 * i ∧ i < 8) := by
    unfold offKEEP_SRC_CNT offGAUGE_S_STATE
    omega
  rw [readSide_other (by decide) hstring, clearRc, if_pos rfl]

theorem clearRc_counters {off : Nat} {r : RegInfo} (hsrc : off ≠ offKEEP_SRC_CNT) (hreg : regAt off = some r) (hrc : r.rc ≠ 0)
    (s : State) : clearRc off s = s.setReg off (s.reg off &&& ~~~ r.rc) := by
  simp only [clearRc, if_neg hsrc, hreg, if_neg hrc]

/-- Without RC bits, or without a register at all, a read clears nothing. -/
theorem clearRc_noCounters {off : Nat} (hsrc : off ≠ offKEEP_SRC_CNT) (hnone : ∀ r, regAt off = some r → r.rc = 0)
    (s : State) : clearRc off s = s := by
  rw [clearRc, if_neg hsrc]
  cases hreg : regAt off with
  | none => rfl
  | some r => exact if_pos (hnone r hreg)

/-! ### The obligation -/

theorem exec_rcRead_unsupported {off : BitVec 26} {size : BitVec 4} {s : State} (hc : Clear s) (hup : mgmtUp s = true)
    (hbad : s.mgmt.d3 = true ∨ size ≠ 4 ∧ size ≠ 8 ∨ off.toNat % size.toNat ≠ 0) :
    exec (.rcRead off size) s = .next (s.emit .unsupported) := by
  have hrefused : s.mgmt.d3 = true ∨ accessOk off.toNat size.toNat = false := by
    rw [← Bool.not_eq_true, accessOk_eq_true_iff]
    tauto
  rw [exec_rcRead_clear _ _ hc, mgmtRead_unsupported hup hrefused]

/-- A supported read is its register's effect, and the answer from the state before. -/
theorem exec_rcRead_answered {off : BitVec 26} {size : BitVec 4} {s : State} (hc : Clear s) (hbar0 : s.bar0 = true)
    (hsize : size = 4 ∨ size = 8) (haligned : off.toNat % size.toNat = 0) :
    exec (.rcRead off size) s = .next ((readSide (off.toNat / 8 * 8) s).emit
      (.mgmtData (readPart off.toNat size.toNat (readReg s (off.toNat / 8 * 8))))) := by
  rw [exec_rcRead_clear _ _ hc, mgmtRead_answered hbar0 ((accessOk_eq_true_iff _ _).2 ⟨hsize, haligned⟩)]

/-- Settles O55: a supported read is `readSide` of its register with the answer, and each clause is one case of `readSide`. -/
theorem registerReads : Obligations.RegisterReads := by
  unfold Obligations.RegisterReads
  refine ⟨fun off size s hdown => exec_rcRead_down off size hdown, fun off size s hc hup hbad => exec_rcRead_unsupported hc hup hbad, ?_⟩
  intro off size s hc hbar0 hsize haligned o got inString
  have hread : exec (.rcRead off size) s = .next ((readSide o s).emit got) := exec_rcRead_answered hc hbar0 hsize haligned
  rw [hread]
  refine ⟨fun hstatus => ?_, fun i ⟨hstring, hi⟩ => ?_, fun hstatus hstring hsrc => ⟨fun r hreg hrc => ?_, fun hnone => ?_⟩, fun hsrc => ?_⟩
  · rw [hstatus, readSide_status]
  · rw [hstring, readSide_stringState hi]
  · rw [readSide_other hstatus hstring, clearRc_counters hsrc hreg hrc]
  · rw [readSide_other hstatus hstring, clearRc_noCounters hsrc hnone]
  · rw [hsrc, readSide_sourceCounters]

end Sys2Proof.Proofs.RegisterReads

/-! ## The key engine's control register (R386, R388, R392) -/

namespace Sys2Proof.Proofs.KeyEngineWrites

open Sys2Proof Sys2Proof.Machine Sys2Proof.Safety

/-! ### The queue and its head (R388) -/

/-- An operation with what it takes from the state at its start: the time, and for ATTEST the block (R386, R396). -/
def started (o : POp) (s : State) : POp :=
  { o with tStart := s.now, block := if o.op = 3 ∧ o.who = .rack then attestBlock s s.pke.issue.toNat else o.block }

theorem pkeStart_idle {s : State} {o : POp} {rest : List POp} (hcur : s.pke.cur = none) (hqueue : s.pke.queue = o :: rest) :
    pkeStart s = s.setPke { s.pke with cur := some (started o s), queue := rest } := by
  simp only [pkeStart, hcur, hqueue, started]

theorem pkeStart_running {s : State} {r : POp} (hcur : s.pke.cur = some r) : pkeStart s = s := by
  simp only [pkeStart, hcur]

/-- Behind a running operation a new one waits. -/
theorem pkeQueue_running (o : POp) {s : State} {r : POp} (hcur : s.pke.cur = some r) :
    pkeQueue o s = s.setPke { s.pke with queue := s.pke.queue ++ [o] } :=
  pkeStart_running hcur

/-- On an idle engine it starts at once. -/
theorem pkeQueue_idle (o : POp) {s : State} (hcur : s.pke.cur = none) (hqueue : s.pke.queue = []) :
    pkeQueue o s = s.setPke { s.pke with cur := some (started o s), queue := [] } := by
  have hhead : (s.setPke { s.pke with queue := s.pke.queue ++ [o] }).pke.queue = o :: [] := by simp [hqueue]
  exact pkeStart_idle hcur hhead

/-! ### The write (R392) -/

/-- The engine once a write is accepted: the next ticket taken and the result cleared. -/
def ticketed (x : Pke) : Pke :=
  { x with issue := x.issue + 1, rDone := false, rTicket := 0, rStatus := 0, rValid := false, rx := 0, ry := 0, rTime := 0 }

theorem pkeWrite_refused {k : Byte} {s : State} (op : Nat) (g : Bool) (h : k ≠ 0xA9 ∨ rackBusy s = true) :
    pkeWrite k op g s = s.bump offPKE_CNT 31 16 1 :=
  if_pos h

theorem pkeWrite_accepted {k : Byte} {s : State} (op : Nat) (g : Bool) (hkey : k = 0xA9) (hbusy : rackBusy s = false) :
    pkeWrite k op g s = pkeQueue ⟨.rack, op, g, 0, []⟩ (s.setPke (ticketed s.pke)) := by
  have haccepted : ¬(k ≠ 0xA9 ∨ rackBusy s = true) := by simp [hkey, hbusy]
  exact if_neg haccepted

section Accepted

variable {k : Byte} {s : State} (op : Nat) (g : Bool) (hkey : k = 0xA9) (hbusy : rackBusy s = false)

include hkey hbusy

theorem pkeWrite_running {r : POp} (hcur : s.pke.cur = some r) :
    pkeWrite k op g s = s.setPke { ticketed s.pke with queue := s.pke.queue ++ [⟨.rack, op, g, 0, []⟩] } := by
  have hticketed : (s.setPke (ticketed s.pke)).pke.cur = some r := hcur
  rw [pkeWrite_accepted op g hkey hbusy, pkeQueue_running _ hticketed]
  rfl

theorem pkeWrite_idle (hcur : s.pke.cur = none) (hqueue : s.pke.queue = []) :
    pkeWrite k op g s = s.setPke { ticketed s.pke with
      cur := some (started ⟨.rack, op, g, 0, []⟩ (s.setPke (ticketed s.pke))), queue := [] } := by
  have hticketed : (s.setPke (ticketed s.pke)).pke.cur = none := hcur
  rw [pkeWrite_accepted op g hkey hbusy, pkeQueue_idle _ hticketed hqueue]
  rfl

end Accepted

/-! ### The rack manager's operations (R386) -/

theorem pkeCommand_reached {s : State} (k : Byte) (op : Nat) (g : Bool) (hreach : charterReach s = true) :
    pkeCommand k op g s = .next (pkeWrite k op g s) :=
  if_pos hreach

/-- The rack manager's operations with key k, each with its OP and GEN (R386). -/
def rackOperations (k : Byte) (gen : Bool) : List (Instr × Nat × Bool) :=
  [(.mul k gen, 1, gen), (.verify k, 2, false), (.attest k, 3, false), (.random k, 4, false)]

/-- Each is the access of BAR0 that writes its OP and GEN. -/
theorem exec_rackOperation {k : Byte} {gen : Bool} {c : Instr} {op : Nat} {g : Bool} (h : (c, op, g) ∈ rackOperations k gen)
    (s : State) : exec c s = viaPort c false (pkeCommand k op g) s := by
  simp only [rackOperations, List.mem_cons, Prod.mk.injEq, List.not_mem_nil, or_false] at h
  obtain ⟨rfl, rfl, rfl⟩ | ⟨rfl, rfl, rfl⟩ | ⟨rfl, rfl, rfl⟩ | ⟨rfl, rfl, rfl⟩ := h
  all_goals rfl

theorem exec_rackOperation_clear {k : Byte} {gen : Bool} {c : Instr} {op : Nat} {g : Bool} {s : State} (hc : Clear s)
    (hreach : charterReach s = true) (h : (c, op, g) ∈ rackOperations k gen) : exec c s = .next (pkeWrite k op g s) := by
  rw [exec_rackOperation h, viaPort_clear _ _ hc, pkeCommand_reached _ _ _ hreach]

/-- Settles O58: each operation is a write of PKE_CTRL, which is refused, or waits behind the running operation, or starts. -/
theorem keyEngineWrites : Obligations.KeyEngineWrites := by
  unfold Obligations.KeyEngineWrites
  intro k gen s hc hreach c op g hop x o
  have hwrite : exec c s = .next (pkeWrite k op g s) := exec_rackOperation_clear hc hreach hop
  refine ⟨fun hrefused => ?_, fun hkey hbusy => ⟨fun r hcur => ?_, fun hcur hqueue => ?_⟩⟩
  · rw [hwrite, pkeWrite_refused op g hrefused]
  · rw [hwrite, pkeWrite_running op g hkey hbusy hcur]
    rfl
  · rw [pkeWrite_idle op g hkey hbusy hcur hqueue] at hwrite
    exact ⟨_, hwrite, rfl, rfl, rfl, rfl, started o (s.setPke x), rfl, rfl, rfl, rfl, rfl⟩

end Sys2Proof.Proofs.KeyEngineWrites

/-! # What every command keeps -/

namespace Sys2Proof.Proofs.Keeping

open Sys2Proof Sys2Proof.Machine Sys2Proof.Safety

/-- The command answers a next state, of which P holds. -/
def Completes (P : State → Prop) : Res → Prop
  | .next t => P t
  | _ => False

@[simp] theorem completes_next (P : State → Prop) (t : State) : Completes P (.next t) ↔ P t := Iff.rfl

theorem Completes.exists {P : State → Prop} {r : Res} (h : Completes P r) : ∃ t, r = .next t ∧ P t := by
  cases r with
  | next t => exact ⟨t, rfl, h⟩
  | fault _ => exact h.elim
  | refused _ => exact h.elim

theorem Completes.imp {P Q : State → Prop} {r : Res} (h : Completes P r) (hPQ : ∀ t, P t → Q t) : Completes Q r := by
  obtain ⟨t, rfl, ht⟩ := h.exists
  exact hPQ t ht

/-- What all but one of the commands keep: the time, the queue, and the canonical form of the tables. -/
structure Kept (s t : State) : Prop where
  now : t.now = s.now
  pending : t.pending = s.pending
  canonical : Canonical s → Canonical t

theorem Kept.refl (s : State) : Kept s s := ⟨rfl, rfl, id⟩

theorem Kept.trans {s t u : State} (h : Kept s t) (k : Kept t u) : Kept s u :=
  ⟨k.now.trans h.now, k.pending.trans h.pending, k.canonical ∘ h.canonical⟩

/-- The shape in which the laws of the model's functions (Laws/Frames, Laws/Canonical) apply field by field. -/
theorem kept_iff {s t : State} : Kept s t ↔ t.now = s.now ∧ t.pending = s.pending ∧
    (RegsWf s.regs → CmdsWf s.cmds → BerthsWf s.berths → PortsWf s.ports →
      RegsWf t.regs ∧ CmdsWf t.cmds ∧ BerthsWf t.berths ∧ PortsWf t.ports) :=
  ⟨fun ⟨hnow, hpending, h⟩ => ⟨hnow, hpending, fun hr hc hb hp => h ⟨hr, hc, hb, hp⟩⟩,
    fun ⟨hnow, hpending, h⟩ => ⟨hnow, hpending, fun ⟨hr, hc, hb, hp⟩ => h hr hc hb hp⟩⟩

theorem settle_kept (s : State) : Kept s (settle s) := by simp +contextual [kept_iff]

theorem cmdStart_kept (k : Nat) {f : State → State} (hf : ∀ s, Kept s (f s)) (s : State) : Kept s (cmdStart k f s) := by
  have htake : Kept s (cmdTake k s) := by simp +contextual [kept_iff]
  unfold cmdStart
  split
  · exact htake.trans (hf _)
  · exact htake

@[simp high] theorem kept_settle_cmdStart {k : Nat} {f : State → State} {s : State} (hf : ∀ s, Kept s (f s)) :
    Kept s (settle (cmdStart k f s)) :=
  (cmdStart_kept k hf s).trans (settle_kept _)

theorem completes_viaPort {c : Instr} {charter : Bool} {f : State → Res} {s : State} (h : Completes (Kept s) (f s)) :
    Completes (Kept s) (viaPort c charter f s) := by
  unfold viaPort
  split
  · simp +contextual [kept_iff]
  · exact h

/-! ## The commands, block by block

Each meaning is unfolded and split along its conditions; at each leaf the laws of the functions that it calls say what is kept. -/

/-- The commands of the DRAM channels. -/
theorem dramCommands_complete (s : State) :
    (∀ ch failed, Completes (Kept s) (execCaParityAlert ch failed s)) ∧ (∀ ch, Completes (Kept s) (execPhyFault ch s)) ∧
    (∀ mismatch, Completes (Kept s) (execProbeTimer mismatch s)) ∧ Completes (Kept s) (execControlRemirrorDone s) ∧
    (∀ b seq, Completes (Kept s) (execCompactionSwitch b seq s)) ∧ (∀ ch rank bank, Completes (Kept s) (execRefreshDue ch s rank bank)) ∧
    (∀ ch, Completes (Kept s) (execZqCalDue ch s)) ∧ (∀ ch req, Completes (Kept s) (execUrgencyStep ch req s)) ∧
    (∀ ch bank, Completes (Kept s) (execMaximumOpenTime ch bank s)) := by
  and_intros <;> intros
  all_goals
    simp only [execCaParityAlert, execPhyFault, execProbeTimer, execControlRemirrorDone, execCompactionSwitch, execRefreshDue, execZqCalDue,
      execUrgencyStep, execMaximumOpenTime]
    (repeat' split) <;> simp (maxDischargeDepth := 30) +contextual [kept_iff]

/-- The commands of the berths. -/
theorem berthCommands_complete (s : State) :
    (∀ port off data be, Completes (Kept s) (execDoorbellWrite port off data be s)) ∧ (∀ b, Completes (Kept s) (execDescriptorFetch b s)) ∧
    (∀ b why tag, Completes (Kept s) (execDescriptorReadFail b why tag s)) ∧ (∀ b d, Completes (Kept s) (execNop b d s)) ∧
    (∀ b d, Completes (Kept s) (execPut b d s)) ∧ (∀ b d, Completes (Kept s) (execRetire b d s)) ∧
    (∀ b d, Completes (Kept s) (execFetch b d s)) ∧ (∀ b d, Completes (Kept s) (execQuery b d s)) ∧
    (∀ b, Completes (Kept s) (execShaperRelease b s)) ∧ (∀ b idx why, Completes (Kept s) (execPayloadReadFail b idx why s)) ∧
    (∀ b, Completes (Kept s) (execHoldLimitExpiry b s)) ∧ (∀ b, Completes (Kept s) (execRefusalPost b s)) ∧
    (∀ b, Completes (Kept s) (execQuantumPost b s)) ∧ (∀ b, Completes (Kept s) (execCompletionWriteFail b s)) ∧
    (∀ b engine, Completes (Kept s) (execBerthMove b engine s)) := by
  and_intros <;> intros
  all_goals
    simp only [execDoorbellWrite, execDescriptorFetch, execDescriptorReadFail, execNop, execPut, execRetire, execFetch, execQuery,
      execShaperRelease, execPayloadReadFail, execHoldLimitExpiry, execRefusalPost, execQuantumPost, execCompletionWriteFail, execBerthMove]
    (repeat' split) <;> simp (maxDischargeDepth := 30) +contextual [kept_iff]

/-- The commands of the weir and the key engine. -/
theorem engineCommands_complete (s : State) :
    Completes (Kept s) (execBudgetRecompute s) ∧ Completes (Kept s) (execBudgetRise s) ∧
    (∀ b seq, Completes (Kept s) (execResidenceLimitExpiry b seq s)) ∧ Completes (Kept s) (execThrottleWindow s) ∧
    Completes (Kept s) (execPkeOpDone s) ∧ Completes (Kept s) (execEntropyTestFail s) ∧ Completes (Kept s) (execEntropyTestPass s) := by
  and_intros <;> intros
  all_goals
    simp only [execBudgetRecompute, execBudgetRise, execResidenceLimitExpiry, execThrottleWindow, execPkeOpDone, execEntropyTestFail,
      execEntropyTestPass]
    (repeat' split) <;> simp (maxDischargeDepth := 30) +contextual [kept_iff]

/-- The commands of the gauge. -/
theorem gaugeCommands_complete (s : State) :
    (∀ j, Completes (Kept s) (execEndOfCharge j s)) ∧ (∀ j, Completes (Kept s) (execEndOfDischarge j s)) ∧
    (∀ answers, Completes (Kept s) (execSmbusPoll answers s)) ∧ (∀ j, Completes (Kept s) (execAuthRetryTimer j s)) ∧
    (∀ j id r t, Completes (Kept s) (execAuthVerdict j id r t s)) ∧ (∀ j ack, Completes (Kept s) (execLearnSchedule j ack s)) ∧
    (∀ report, Completes (Kept s) (execAcLostSet report s)) ∧ Completes (Kept s) (execAcLostClear s) ∧
    Completes (Kept s) (execHibernate s) ∧ Completes (Kept s) (execHibernateHour s) ∧ Completes (Kept s) (execGaugeWake s) ∧
    Completes (Kept s) (execCapTestPeriod s) ∧ (∀ charge fall, Completes (Kept s) (execCapTestEnd charge fall s)) ∧
    Completes (Kept s) (execCapTestTimeout s) := by
  and_intros <;> intros
  all_goals
    simp only [execEndOfCharge, execEndOfDischarge, execSmbusPoll, execAuthRetryTimer, execAuthVerdict, execLearnSchedule, execAcLostSet,
      execAcLostClear, execHibernate, execHibernateHour, execGaugeWake, execCapTestPeriod, execCapTestEnd, execCapTestTimeout]
    (repeat' split) <;> simp (maxDischargeDepth := 30) +contextual [kept_iff]

/-- The commands of the sequencer. -/
theorem sequencerCommands_complete (s : State) :
    (∀ c, Completes (Kept s) (execComparatorTrip c s)) ∧ (∀ c, Completes (Kept s) (execComparatorRelease c s)) ∧
    Completes (Kept s) (execProgram0Start s) ∧ Completes (Kept s) (execRestartHoldExpiry s) ∧ Completes (Kept s) (execEnable s) ∧
    Completes (Kept s) (execWait s) ∧ Completes (Kept s) (execWaitExpiry s) ∧ Completes (Kept s) (execCheck s) ∧
    Completes (Kept s) (execCheckTimeout s) ∧ Completes (Kept s) (execJump s) ∧ Completes (Kept s) (execItemPowerGood s) ∧
    Completes (Kept s) (execEnableTimeout s) ∧ (∀ r, Completes (Kept s) (execRailFault r s)) ∧
    Completes (Kept s) (execTimedGraceExpiry s) ∧ (∀ r good, Completes (Kept s) (execRailTransEnd r good s)) ∧
    (∀ readings, Completes (Kept s) (execPmbusPoll readings s)) ∧ (∀ readings, Completes (Kept s) (execSmbalert readings s)) ∧
    (∀ n, Completes (Kept s) (execResetStretchEnd n s)) ∧ (∀ ns, Completes (Kept s) (execResetN ns s)) := by
  and_intros <;> intros
  all_goals
    simp only [execComparatorTrip, execComparatorRelease, execProgram0Start, execRestartHoldExpiry, execEnable, execWait, execWaitExpiry,
      execCheck, execCheckTimeout, execJump, execItemPowerGood, execEnableTimeout, execRailFault, execTimedGraceExpiry, execRailTransEnd,
      execPmbusPoll, execSmbalert, execResetStretchEnd, execResetN]
    (repeat' split) <;> simp (maxDischargeDepth := 30) +contextual [kept_iff]

/-- The commands of the windlass. -/
theorem windlassCommands_complete (s : State) :
    Completes (Kept s) (execWindlassStart s) ∧ (∀ shorted, Completes (Kept s) (execLegTestDone shorted s)) ∧
    Completes (Kept s) (execSyncLock s) ∧ Completes (Kept s) (execSyncTimeout s) ∧ Completes (Kept s) (execFlyRestartWaitEnd s) ∧
    (∀ enc bemf link peak, Completes (Kept s) (execFlySpeedUpdate enc bemf link peak s)) ∧ Completes (Kept s) (execBrakeEnd s) ∧
    Completes (Kept s) (execBrakeFail s) ∧ (∀ ps0 ps1 w0 w1, Completes (Kept s) (execFlyTempShutdown ps0 ps1 w0 w1 s)) ∧
    Completes (Kept s) (execSpeedDisagree s) ∧ (∀ phase, Completes (Kept s) (execOvercurrentTrip phase s)) ∧
    (∀ set, Completes (Kept s) (execDesatFault set s)) ∧ (∀ phase, Completes (Kept s) (execPhaseImbalance phase s)) ∧
    (∀ phase, Completes (Kept s) (execTrimLimit phase s)) ∧ Completes (Kept s) (execLoadRelease s) ∧
    Completes (Kept s) (execLoadReleaseEnd s) ∧ Completes (Kept s) (execLinkOvervoltage s) ∧
    (∀ link, Completes (Kept s) (execPwmPeriod link s)) := by
  and_intros <;> intros
  all_goals
    simp only [execWindlassStart, execLegTestDone, execSyncLock, execSyncTimeout, execFlyRestartWaitEnd, execFlySpeedUpdate, execBrakeEnd,
      execBrakeFail, execFlyTempShutdown, execSpeedDisagree, execOvercurrentTrip, execDesatFault, execPhaseImbalance, execTrimLimit,
      execLoadRelease, execLoadReleaseEnd, execLinkOvervoltage, execPwmPeriod]
    (repeat' split) <;> simp (maxDischargeDepth := 30) +contextual [kept_iff]

/-- The commands of the event log and the towpath. -/
theorem towpathCommands_complete (s : State) :
    Completes (Kept s) (execLogRecordWrite s) ∧ Completes (Kept s) (execLogReadDone s) ∧ Completes (Kept s) (execBeaconSend s) ∧
    (∀ frame, Completes (Kept s) (execBeacon frame s)) ∧ (∀ slot frame, Completes (Kept s) (execReply slot frame s)) ∧
    (∀ a, Completes (Kept s) (execTowStaggerStart a s)) ∧ Completes (Kept s) (execTowpathLost s) ∧
    (∀ a, Completes (Kept s) (execMemberAbsent a s)) ∧ Completes (Kept s) (execJoinWaitExpiry s) := by
  and_intros <;> intros
  all_goals
    simp only [execLogRecordWrite, execLogReadDone, execBeaconSend, execBeacon, execReply, execTowStaggerStart, execTowpathLost,
      execMemberAbsent, execJoinWaitExpiry]
    (repeat' split) <;> simp (maxDischargeDepth := 30) +contextual [kept_iff]

/-- The commands of the keeper and the clocks. -/
theorem keeperCommands_complete (s : State) :
    Completes (Kept s) (execRootLoss s) ∧ Completes (Kept s) (execRootBack s) ∧ Completes (Kept s) (execPllALoss s) ∧
    Completes (Kept s) (execPllBLoss s) ∧ (∀ src severe detail, Completes (Kept s) (execKeeperEvent src severe detail s)) ∧
    (∀ src, Completes (Kept s) (execLineFault src s)) ∧ Completes (Kept s) (execShutdownGraceExpiry s) ∧
    Completes (Kept s) (execAliveHoldEnd s) := by
  and_intros <;> intros
  all_goals
    simp only [execRootLoss, execRootBack, execPllALoss, execPllBLoss, execKeeperEvent, execLineFault, execShutdownGraceExpiry,
      execAliveHoldEnd]
    (repeat' split) <;> simp (maxDischargeDepth := 30) +contextual [kept_iff]

/-- The commands of the basin. -/
theorem basinCommands_complete (s : State) :
    (∀ stream, Completes (Kept s) (execBargeWaitExpiry stream s)) ∧
    (∀ die block row, Completes (Kept s) (execChunkProgramDone die block row s)) ∧
    (∀ die block, Completes (Kept s) (execProgramFail die block s)) ∧ (∀ who cws, Completes (Kept s) (execBasinReadDone who cws s)) ∧
    Completes (Kept s) (execCheckpointTimer s) ∧
    (∀ cpn ok crcOk pageBerth pageCpn pageSeq, Completes (Kept s) (execChartReadDone cpn ok crcOk pageBerth pageCpn pageSeq s)) ∧
    (∀ q, Completes (Kept s) (execCollectionMove q s)) ∧ (∀ q, Completes (Kept s) (execWearLevelMove q s)) ∧
    (∀ die block pass, Completes (Kept s) (execBlankCheckDone die block pass s)) ∧ Completes (Kept s) (execLifeDaily s) ∧
    (∀ die block pass, Completes (Kept s) (execEraseDone die block pass s)) ∧ Completes (Kept s) (execSanitizeMarkerUpdate s) ∧
    (∀ sb cws, Completes (Kept s) (execVerifyReadbackDone sb cws s)) := by
  and_intros <;> intros
  all_goals
    simp only [execBargeWaitExpiry, execChunkProgramDone, execProgramFail, execBasinReadDone, execCheckpointTimer, execChartReadDone,
      execCollectionMove, execWearLevelMove, execBlankCheckDone, execLifeDaily, execEraseDone, execSanitizeMarkerUpdate,
      execVerifyReadbackDone]
    (repeat' split) <;> simp (maxDischargeDepth := 30) +contextual [kept_iff]

/-- The commands of the sluice and refloat. -/
theorem sluiceCommands_complete (s : State) :
    Completes (Kept s) (execSluiceDrainLimit s) ∧ Completes (Kept s) (execSluiceDrainEnd s) ∧
    Completes (Kept s) (execSluicePoundDrained s) ∧ Completes (Kept s) (execSluiceSeal s) ∧
    Completes (Kept s) (execSluiceEnergyExhausted s) ∧ (∀ heads dirs marks, Completes (Kept s) (execRefloatScanDone s heads dirs marks)) ∧
    (∀ cws, Completes (Kept s) (execRefloatVerifyDone cws s)) ∧ Completes (Kept s) (execRefloatReady s) := by
  and_intros <;> intros
  all_goals
    simp only [execSluiceDrainLimit, execSluiceDrainEnd, execSluicePoundDrained, execSluiceSeal, execSluiceEnergyExhausted,
      execRefloatScanDone, execRefloatVerifyDone, execRefloatReady]
    (repeat' split) <;> simp (maxDischargeDepth := 30) +contextual [kept_iff]

/-- The commands of the loader. -/
theorem loaderCommands_complete (s : State) :
    (∀ towAddr testEn, Completes (Kept s) (execAonStart towAddr testEn s)) ∧ Completes (Kept s) (execPushWaitExpiry s) ∧
    (∀ ok host, Completes (Kept s) (execImageReadDone ok host s)) ∧ (∀ ok, Completes (Kept s) (execSlotWriteDone ok s)) ∧
    (∀ ok, Completes (Kept s) (execSetTrialDone ok s)) ∧
    (∀ channels id odd readings, Completes (Kept s) (execSelfTestDone channels id odd s readings)) ∧
    Completes (Kept s) (execConfirmWindowExpiry s) ∧ Completes (Kept s) (execFuseBlowDone s) := by
  and_intros <;> intros
  all_goals
    simp only [execAonStart, execPushWaitExpiry, execImageReadDone, execSlotWriteDone, execSetTrialDone, execSelfTestDone,
      execConfirmWindowExpiry, execFuseBlowDone]
    (repeat' split) <;> simp (maxDischargeDepth := 30) +contextual [kept_iff]

/-- The commands of the feeder ports and the management function. -/
theorem portsCommands_complete (s : State) :
    (∀ port, Completes (Kept s) (execPortModeApply port s)) ∧ (∀ port speed width, Completes (Kept s) (execLinkUp port speed width s)) ∧
    (∀ port, Completes (Kept s) (execLinkDown port s)) ∧ (∀ port, Completes (Kept s) (execHotReset port s)) ∧
    (∀ port, Completes (Kept s) (execFlr port s)) ∧ (∀ port, Completes (Kept s) (execFlrComplete port s)) ∧
    (∀ port, Completes (Kept s) (execD3hotEntry port s)) ∧ (∀ port, Completes (Kept s) (execD0Return port s)) ∧
    (∀ port on, Completes (Kept s) (execBusMasterEnable port on s)) ∧
    (∀ port what, Completes (Kept s) (execMsixVectorUnmask port what s)) ∧ (∀ port, Completes (Kept s) (execRetryTimerExpiry port s)) ∧
    (∀ port token be, Completes (Kept s) (execTokenPresentation port token be s)) ∧
    (∀ vector, Completes (Kept s) (execIrqDueSend vector s)) ∧ (∀ what, Completes (Kept s) (execMgmtLinkReset what s)) := by
  and_intros <;> intros
  all_goals
    simp only [execPortModeApply, execLinkUp, execLinkDown, execHotReset, execFlr, execFlrComplete, execD3hotEntry, execD0Return,
      execBusMasterEnable, execMsixVectorUnmask, execRetryTimerExpiry, execTokenPresentation, execIrqDueSend, execMgmtLinkReset]
    (repeat' split) <;> simp (maxDischargeDepth := 30) +contextual [kept_iff]

/-- The accesses of BAR0 that write a control register with DONE, TICKET and RESULT behind its key. -/
theorem keyedAccesses_complete (s : State) :
    (∀ key j ack, Completes (Kept s) (execLearnStart key j ack s)) ∧ (∀ key, Completes (Kept s) (execLearnAbort key s)) ∧
    (∀ key j, Completes (Kept s) (execAuth key j s)) ∧ (∀ key, Completes (Kept s) (execCapTest key s)) ∧
    (∀ key j, Completes (Kept s) (execForget key j s)) ∧ (∀ key, Completes (Kept s) (execClear key s)) ∧
    (∀ key, Completes (Kept s) (execRunService key s)) ∧ (∀ key ack, Completes (Kept s) (execRailCmd key ack s)) ∧
    (∀ key, Completes (Kept s) (execAckAlive key s)) ∧ (∀ key src, Completes (Kept s) (execRestore key src s)) ∧
    (∀ key, Completes (Kept s) (execRestoreAll key s)) ∧ (∀ key, Completes (Kept s) (execAckWarn key s)) ∧
    (∀ key, Completes (Kept s) (execPush key s)) ∧ (∀ key slot, Completes (Kept s) (execLoadSlot key slot s)) ∧
    (∀ key slot, Completes (Kept s) (execWriteSlot key slot s)) ∧ (∀ key slot, Completes (Kept s) (execSetTrial key slot s)) ∧
    (∀ key, Completes (Kept s) (execChartEnable key s)) ∧ (∀ key, Completes (Kept s) (execChartDisable key s)) := by
  and_intros <;> intros
  all_goals
    refine completes_viaPort ?_
    simp only [gaugeCommand, keepCommand, cfgCommand, chartCommand, seqCommand]
    (repeat' split) <;> simp (maxDischargeDepth := 30) +contextual [kept_iff]

/-- The accesses of BAR0 that write the charter window, PKE_CTRL and TOW_CTRL. -/
theorem groupedAccesses_complete (s : State) :
    Completes (Kept s) (execCharter s) ∧ Completes (Kept s) (execModify s) ∧ Completes (Kept s) (execFence s) ∧
    Completes (Kept s) (execRecharter s) ∧ Completes (Kept s) (execRelease s) ∧ (∀ key gen, Completes (Kept s) (execMul key gen s)) ∧
    (∀ key, Completes (Kept s) (execVerify key s)) ∧ (∀ key, Completes (Kept s) (execAttest key s)) ∧
    (∀ key, Completes (Kept s) (execRandom key s)) ∧ (∀ key mask, Completes (Kept s) (execTowSendStart key mask s)) ∧
    (∀ key mask, Completes (Kept s) (execTowSendSluice key mask s)) ∧ (∀ key mask, Completes (Kept s) (execTowSendClear key mask s)) := by
  and_intros <;> intros
  all_goals
    refine completes_viaPort ?_
    simp only [berthCommand, pkeCommand, towCommand]
    (repeat' split) <;> simp (maxDischargeDepth := 30) +contextual [kept_iff]

/-- The other accesses of BAR0. -/
theorem directAccesses_complete (s : State) :
    (∀ key retire ch, Completes (Kept s) (execDrcRetire key retire ch s)) ∧ (∀ value, Completes (Kept s) (execBerthSel value s)) ∧
    (∀ shut, Completes (Kept s) (execWeirShutWrite shut s)) ∧ (∀ j, Completes (Kept s) (execGaugeStringCapture j s)) ∧
    Completes (Kept s) (execGaugeStatusCapture s) ∧ (∀ target, Completes (Kept s) (execLinkTarget target s)) ∧
    (∀ key hold, Completes (Kept s) (execFlyHold key hold s)) ∧ (∀ key, Completes (Kept s) (execFlyClear key s)) ∧
    (∀ seq, Completes (Kept s) (execLogRead seq s)) ∧ (∀ data, Completes (Kept s) (execKeepInject data s)) ∧
    (∀ key start, Completes (Kept s) (execSanitizeStart key start s)) ∧ (∀ key start, Completes (Kept s) (execSluiceCommand key start s)) ∧
    (∀ off size, Completes (Kept s) (execRcRead off size s)) ∧ (∀ off size data, Completes (Kept s) (execRegisterWrite off size data s)) ∧
    (∀ n write size high data, Completes (Kept s) (execFlagAccess n write size high data s)) ∧
    (∀ key port, Completes (Kept s) (execPortRetire key port s)) ∧
    (∀ key mode epoch, Completes (Kept s) (execLockCycle key mode epoch s)) ∧ (∀ key, Completes (Kept s) (execGlbReset key s)) := by
  and_intros <;> intros
  all_goals
    refine completes_viaPort ?_
    (repeat' split) <;> simp (maxDischargeDepth := 30) +contextual [kept_iff]

/-! ## Held accesses, and the commands that stand apart -/

/-- A held access is applied as the access of BAR0 that it is. -/
theorem portRun_complete (c : Instr) (s : State) : Completes (Kept s) (portRun c s) := by
  unfold portRun
  cases c <;> simp only [completes_next, Kept.refl, keyedAccesses_complete, groupedAccesses_complete, directAccesses_complete]

theorem Kept.of_completes {r : Res} {s t : State} (h : Completes (Kept s) r) (hr : r = .next t) : Kept s t := by
  subst hr; exact h

theorem afterPort_kept (c : Instr) (s : State) : Kept s (afterPort c s) := by
  unfold afterPort
  split
  · next t ht => exact .of_completes (portRun_complete c s) ht
  · exact .refl s

/-- The accesses' own bookkeeping is no part of what is kept. -/
theorem kept_mgmt (s : State) (m : Mgmt) : Kept s { s with mgmt := m } := ⟨rfl, rfl, id⟩

theorem drainHeld_kept (fuel : Nat) (s : State) : Kept s (drainHeld fuel s) := by
  induction fuel generalizing s with
  | zero => exact .refl s
  | succ n ih =>
    unfold drainHeld
    split
    · exact .refl s
    · dsimp only
      split
      · exact (((kept_mgmt s _).trans (afterPort_kept _ _)).trans (kept_mgmt _ _)).trans (ih _)
      · exact .refl s

theorem execFenceDone_complete (s : State) : Completes (Kept s) (execFenceDone s) := by
  have hends : ∀ op i, Kept s (fenceEnds op i s) := fun op i => by
    simp (maxDischargeDepth := 30) +contextual [kept_iff]
  unfold execFenceDone
  split
  · exact .refl s
  · split
    · exact .refl s
    · exact ((hends _ _).trans (drainHeld_kept _ _)).trans (settle_kept _)

/-- A collapse of the standby supply leaves what stands on media: the tables are those of the reset, and the time begins again. -/
theorem execStandbySupplyCollapse_complete (s : State) :
    Completes (fun t => t.pending = s.pending ∧ Canonical t) (execStandbySupplyCollapse s) := by
  unfold execStandbySupplyCollapse
  dsimp only
  (repeat' split) <;> simp [Canonical]

/-- An operand that nothing can bring (log 6). -/
def Malformed (c : Instr) (s : State) : Prop :=
  (∃ m, c = .gaugeUpdate m ∧ m.strings.length ≠ 8) ∨
    ∃ b payload f p, c = .putCommit b payload ∧ committable s b.toNat = some (f, p) ∧ 2 ^ (4096 * f.len) ≤ payload

/-- What an answer of command c leaves of the queue, the time and the tables. -/
def Left (c : Instr) (s t : State) : Prop :=
  t.pending = s.pending ∧ (c = .standbySupplyCollapse ∨ t.now = s.now) ∧ (Canonical s → Canonical t)

theorem Kept.left {s t : State} (h : Kept s t) (c : Instr) : Left c s t := ⟨h.pending, .inr h.now, h.canonical⟩

theorem execGaugeUpdate_complete (m : GaugeSample) (s : State) (h : m.strings.length = 8) : Completes (Kept s) (execGaugeUpdate m s) := by
  unfold execGaugeUpdate
  rw [if_neg (not_not_intro h)]
  (repeat' split) <;> simp (maxDischargeDepth := 30) +contextual [kept_iff]

theorem execPutCommit_complete (b : BerthId) (payload : Nat) (s : State)
    (h : ∀ f p, committable s b.toNat = some (f, p) → payload < 2 ^ (4096 * f.len)) : Completes (Kept s) (execPutCommit b payload s) := by
  unfold execPutCommit
  split
  · exact .refl s
  · next f p hfp =>
    rw [if_neg (Nat.not_le.2 (h f p hfp))]
    simp (maxDischargeDepth := 30) +contextual [kept_iff]

/-- Every command completes, or stops on an operand that nothing can bring. -/
theorem exec_completes (c : Instr) (s : State) :
    Completes (Left c s) (exec c s) ∨ exec c s = .fault .malformedCommand ∧ Malformed c s := by
  have kept : ∀ {r : Res}, Completes (Kept s) r → Completes (Left c s) r := fun h => h.imp (fun _ ht => ht.left c)
  cases c
  case standbySupplyCollapse => exact .inl ((execStandbySupplyCollapse_complete s).imp (fun _ ⟨hp, hc⟩ => ⟨hp, .inl rfl, fun _ => hc⟩))
  case fenceDone => exact .inl (kept (execFenceDone_complete s))
  case gaugeUpdate m =>
    by_cases h : m.strings.length = 8
    · exact .inl (kept (execGaugeUpdate_complete m s h))
    · exact .inr ⟨if_pos h, .inl ⟨m, rfl, h⟩⟩
  case putCommit b payload =>
    by_cases h : ∀ f p, committable s b.toNat = some (f, p) → payload < 2 ^ (4096 * f.len)
    · exact .inl (kept (execPutCommit_complete b payload s h))
    · push Not at h
      obtain ⟨f, p, hfp, hlong⟩ := h
      refine .inr ⟨?_, .inr ⟨b, payload, f, p, rfl, hfp, hlong⟩⟩
      show execPutCommit b payload s = _
      simp only [execPutCommit, hfp, if_pos hlong]
  all_goals
    refine .inl (kept ?_)
    simp only [exec, dramCommands_complete, berthCommands_complete, engineCommands_complete, gaugeCommands_complete,
      sequencerCommands_complete, windlassCommands_complete, towpathCommands_complete, keeperCommands_complete,
      basinCommands_complete, sluiceCommands_complete, loaderCommands_complete, portsCommands_complete,
      keyedAccesses_complete, groupedAccesses_complete, directAccesses_complete]

/-- Settles O2: the two operands of log 6 apart, every command completes with the queue and the time kept. -/
theorem everyCommandCompletes : Obligations.EveryCommandCompletes := by
  unfold Obligations.EveryCommandCompletes
  intro c s
  refine (exec_completes c s).imp (fun h => ?_) id
  obtain ⟨t, ht, hpending, hnow, -⟩ := h.exists
  exact ⟨t, ht, hpending, hnow⟩

/-- Settles O4: each command keeps the four tables canonical, and a tick touches only the channels. -/
theorem canonicalKept : Obligations.CanonicalKept := by
  unfold Obligations.CanonicalKept
  intro s t hs hstep
  unfold step at hstep
  split at hstep
  · obtain rfl := Host.Outcome.next.inj hstep
    simpa [Canonical] using hs
  · next c rest _ =>
    rcases exec_completes c { s with pending := rest } with h | ⟨hfault, -⟩
    · rw [hstep] at h
      obtain ⟨-, -, hcanonical⟩ := h
      exact hcanonical hs
    · rw [hfault] at hstep
      cases hstep

end Sys2Proof.Proofs.Keeping

/-! # The invariant, and the switching off that goes on -/

namespace Sys2Proof.Proofs.Invariant

open Sys2Proof Sys2Proof.Machine Sys2Proof.Safety

/-- A part with port 0 UP whose sequencer switches everything off in reverse order: quadrant domain 16 has been seen off, and the domain
of port 0 is next. -/
def shuttingDown : State :=
  { State.reset with
    pending := [.check]
    seq := { State.reset.seq with on := 1, downWait := some (romEnable false 16 20, 20000), downs := [romEnable false 0 20] }
    ports := [(0, { Port.idle with st := .up, linkUp := true, bme := true })] }

/-- The invariant speaks of the keeper's reports, the clocks, the engine and the accesses, which are those of the reset. -/
theorem inv_shuttingDown : Inv shuttingDown := ⟨rfl, clocksOk_reset, engineOk_reset, rfl⟩

/-- With no program running, CHECK lets the switching off that waits go on. -/
theorem step_shuttingDown : step shuttingDown = .next (resumeWait { shuttingDown with pending := [] }) := rfl

/-- The port's domain goes off, and the port's loss is reported to the keeper. -/
theorem reports_resumeWait : (resumeWait { shuttingDown with pending := [] }).keep.reports = [(0, false, detailWord 0 2 0)] := by
  decide +kernel

/-- Refutes O3: CHECK leaves the report of a port's loss waiting when the switching off that goes on reaches the port's domain. -/
theorem not_invariantKept : ¬ Obligations.InvariantKept := by
  unfold Obligations.InvariantKept
  intro h
  obtain ⟨hsettled, -⟩ := h _ _ inv_shuttingDown step_shuttingDown
  exact absurd (reports_resumeWait.symm.trans hsettled) (List.cons_ne_nil _ _)

/-! ## The step and the reset -/

/-- Settles O1: the three clauses are the equations of `step`. -/
theorem stepRunsFront : Obligations.StepRunsFront := by
  unfold Obligations.StepRunsFront
  refine ⟨fun c s => rfl, fun c rest s h => ?_, fun s h => ?_⟩
  · simp only [step, h]
  · unfold step
    split
    · rfl
    · next hcons => cases h.symm.trans hcons

/-- Settles O5: the tables of the reset are empty, so every read of them is the default. -/
theorem resetState : Obligations.ResetState := by
  unfold Obligations.ResetState
  have hinv : Inv State.reset := ⟨rfl, clocksOk_reset, engineOk_reset, rfl⟩
  have hcanonical : Canonical State.reset := ⟨rfl, rfl, rfl, rfl⟩
  refine ⟨hinv, hcanonical, rfl, fun _ => rfl, fun _ => rfl, fun _ => rfl, fun _ => ⟨rfl, rfl⟩, ?_⟩
  decide

end Sys2Proof.Proofs.Invariant

/-! # Descriptors: the checks, NOP, QUERY and RETIRE -/

namespace Sys2Proof.Proofs.Descriptors

open Sys2Proof Sys2Proof.Machine Sys2Proof.Safety

/-! ## The checks in their order (R54) -/

section Checks

variable {i : Nat} {b : Berth} {f : Flight} {d : Desc} {s : State}

theorem checkDesc_crc (hcrc : d.crcOk = false) : checkDesc i b f d s = some (Cpl.now s checkFail 0) := by
  simp [checkDesc, hcrc]

theorem checkDesc_malformed (hcrc : d.crcOk = true) (hbad : badDesc d i b = true) :
    checkDesc i b f d s = some (Cpl.now s malformed 0) := by
  simp [checkDesc, hcrc, hbad]

variable (hcrc : d.crcOk = true) (hbad : badDesc d i b = false)

include hcrc hbad

theorem checkDesc_fenced (hst : b.st = .fenced) : checkDesc i b f d s = some (Cpl.refuse refusedFenced f.tFetch) := by
  simp [checkDesc, hcrc, hbad, hst]

theorem checkDesc_mode (hst : b.st ≠ .fenced) (hop : d.opcode = 1) (hmode : f.mode = 1 ∨ b.st = .refloating) :
    checkDesc i b f d s = some (Cpl.refuse refusedMode f.tFetch) := by
  rcases hmode with hmode | hmode <;> simp [checkDesc, hcrc, hbad, hst, hop, hmode]

theorem checkDesc_seqEnd (hop : d.opcode = 1) (hmode : f.mode ≠ 1) (hst : b.st = .exhausted) :
    checkDesc i b f d s = some (Cpl.refuse refusedSeqEnd f.tFetch) := by
  simp [checkDesc, hcrc, hbad, hst, hop, hmode]

end Checks

/-! ## What the opcodes do -/

/-- Berth i once its descriptor's turn has come. -/
theorem berth_arrived (s : State) (i : Nat) (x : Berth) (f : Flight) (d : Desc) :
    (s.setBerth i (alone x (arrived x f d))).berth i = alone x (arrived x f d) :=
  berth_setBerth_same _ _ _ (ne_none_of_flights (f := arrived x f d) (l := []) rfl)

theorem doRetire_arrived (s : State) (i : Nat) (x : Berth) (f : Flight) (d : Desc) :
    doRetire i (landed f d) d (s.setBerth i (alone x (arrived x f d))) =
      let t := retireTo i (if d.flags / 2 % 2 = 1 then x.nextSeq - 1 else d.sequence) (s.setBerth i (alone x (arrived x f d)))
      grantAll (finishFlight i f.idx (Cpl.now s retired (t.berth i).retirePoint) (weirState t)) := by
  have hnow : ∀ t u : State, t.now = u.now → Cpl.now t = Cpl.now u := fun t u h => by funext status seq; rw [Cpl.now, h]; rfl
  simp only [doRetire, berth_arrived]
  rw [hnow _ s (by simp)]
  rfl

section Opcodes

variable {b : BerthId} {d : Desc} {f : Flight} {s : State} (hs : Settled s) (ha : Awaits b.toNat f s) (hcrc : d.crcOk = true)
  (hbad : badDesc d b.toNat (s.berth b.toNat) = false) (hst : (s.berth b.toNat).st ≠ .fenced)

include hs ha hcrc hbad hst

/-- NOP does nothing: it completes (R60). -/
theorem exec_nop_durable (hop : d.opcode = 0) :
    exec (.nop b d) s = .next (postAll b.toNat (s.setBerth b.toNat
      (alone (s.berth b.toNat) (decided (s.berth b.toNat) f d (Cpl.now s durable 0))))) := by
  refine carryOut_go ha (c := .nop b d) (List.mem_cons_self ..) ?_ (by simpa using hs)
  rw [carryOut_op hcrc hbad hst (fun h => absurd (hop.symm.trans h) (by decide))]
  simp only [hop]
  exact finishFlight_alone _ _ _ _ _ _ (show durable ≠ dmaFault by decide)

/-- QUERY writes its block and completes with the last sequence number taken (R69). -/
theorem exec_query_durable (hop : d.opcode = 5) (hport : s.portSends (s.berth b.toNat).port = true) :
    exec (.query b d) s = .next (postAll b.toNat
      ((s.emit (.block (s.berth b.toNat).port d.w4 (queryBlock b.toNat (s.berth b.toNat)))).setBerth b.toNat
        (alone (s.berth b.toNat) (decided (s.berth b.toNat) f d (Cpl.now s durable ((s.berth b.toNat).nextSeq - 1)))))) := by
  have hsends : (s.setBerth b.toNat (alone (s.berth b.toNat) (arrived (s.berth b.toNat) f d))).portSends
      (alone (s.berth b.toNat) (arrived (s.berth b.toNat) f d)).port = true := hport
  refine carryOut_go ha (d := d) (c := .query b d) (by simp) ?_ (by simpa using hs)
  rw [carryOut_op hcrc hbad hst (fun h => absurd (hop.symm.trans h) (by decide))]
  simp only [hop, doQuery, berth_arrived, hsends, if_true]
  exact finishFlight_alone b.toNat f d _ (s.emit (.block _ _ _)) _ (show durable ≠ dmaFault by decide)

/-- RETIRE takes its target, and the weir and the waiting PUTs are looked at (R65). -/
theorem exec_retire_retired (hop : d.opcode = 2) :
    exec (.retire b d) s = .next (postAll b.toNat (doRetire b.toNat (landed f d) d
      (s.setBerth b.toNat (alone (s.berth b.toNat) (arrived (s.berth b.toNat) f d))))) := by
  refine carryOut_go ha (d := d) (c := .retire b d) (by simp) ?_ ?_
  · rw [carryOut_op hcrc hbad hst (fun h => absurd (hop.symm.trans h) (by decide))]
    simp only [hop]
  · simp [doRetire, hs]

end Opcodes

/-- Settles O9: each check that fails decides the completion, and a descriptor that passes is carried out by its opcode. -/
theorem descriptorOutcomes : Obligations.DescriptorOutcomes := by
  unfold Obligations.DescriptorOutcomes
  refine ⟨?_, ?_⟩
  · intro b d f s hs ha x ends c hc
    refine ⟨fun hcrc => ?_, fun hcrc hbad => ?_, fun hcrc hbad hst => ?_, fun hcrc hbad hst hop hmode => ?_, fun hcrc hbad hop hmode hst => ?_⟩
    · exact exec_check hs ha hc (fun u hu => (checkDesc_crc hcrc).trans (by rw [Cpl.now, hu]; rfl)) (show checkFail ≠ dmaFault by decide)
    · exact exec_check hs ha hc (fun u hu => (checkDesc_malformed hcrc hbad).trans (by rw [Cpl.now, hu]; rfl)) (show malformed ≠ dmaFault by decide)
    · exact exec_check hs ha hc (fun u _ => checkDesc_fenced hcrc hbad hst) (show refusedFenced ≠ dmaFault by decide)
    · exact exec_check hs ha hc (fun u _ => checkDesc_mode hcrc hbad hst hop hmode) (show refusedMode ≠ dmaFault by decide)
    · exact exec_check hs ha hc (fun u _ => checkDesc_seqEnd hcrc hbad hop hmode hst) (show refusedSeqEnd ≠ dmaFault by decide)
  · intro b d f s hs ha x hcrc hbad hst
    exact ⟨exec_nop_durable hs ha hcrc hbad hst, exec_query_durable hs ha hcrc hbad hst⟩

/-- Settles O10: what RETIRE leaves of the berths is `retireTo_spec`, and the weir's state is no berth's. -/
theorem retireRaises : Obligations.RetireRaises := by
  unfold Obligations.RetireRaises
  intro b d f s hs ha x target point u hcrc hbad hst hop
  have harrived := berth_arrived s b.toNat x f d
  obtain ⟨hpoint, -, hchain, hstate, hothers⟩ := retireTo_spec b.toNat target (s.setBerth b.toNat (alone x (arrived x f d)))
    (by rw [harrived]; exact List.cons_ne_nil _ _)
  have hberth : ∀ j, u.berth j = (retireTo b.toNat target (s.setBerth b.toNat (alone x (arrived x f d)))).berth j :=
    berth_fmm (by simp [u])
  rw [harrived] at hpoint hchain hstate
  refine ⟨?_, by rw [hberth, hpoint]; rfl, fun r hr => ?_, fun r hr hlt => ?_, fun hrefloating => ?_, fun j hj => ?_⟩
  · have hexec : exec (.retire b d) s = .next (postAll b.toNat (grantAll (finishFlight b.toNat f.idx (Cpl.now s retired
        ((retireTo b.toNat target (s.setBerth b.toNat (alone x (arrived x f d)))).berth b.toNat).retirePoint) u))) :=
      (exec_retire_retired hs ha hcrc hbad hst hop).trans (congrArg (fun t => Host.Outcome.next (postAll b.toNat t)) (doRetire_arrived ..))
    rw [hexec, hpoint]
    rfl
  · rw [hberth, hchain] at hr
    exact ⟨hr.2, hr.1⟩
  · rw [hberth, hchain]
    exact ⟨hr, hlt⟩
  · rw [hberth, hstate]
    simp only [alone, hrefloating, true_and]
    rfl
  · rw [hberth, hothers j hj, berth_setBerth_other _ _ _ _ hj]

end Sys2Proof.Proofs.Descriptors

/-! # The admission of a PUT -/

namespace Sys2Proof.Proofs.Admission

open Sys2Proof Sys2Proof.Machine Sys2Proof.Safety

/-- The PUT as it waits at the weir: under its berth's policy, with its length (R95). -/
def atWeir (x : Berth) (f : Flight) (d : Desc) : Flight := { arrived x f d with stage := .held }

/-- A berth with one flight in it is no free slot of the table. -/
theorem alone_ne_none (x : Berth) (f : Flight) : alone x f ≠ Berth.none := ne_none_of_flights (f := f) (l := []) rfl

/-- A change of a berth's only flight. -/
theorem setFlight_alone (i : Nat) (f : Flight) (g : Flight → Flight) (x : Berth) (s : State) :
    setFlight i f.idx g (s.setBerth i (alone x f)) = s.setBerth i (alone x (g f)) := by
  have hset : ({ alone x f with flights := (alone x f).flights.map (fun y => if y.idx = f.idx then g y else y) } : Berth) =
      alone x (g f) := by simp [alone]
  simp only [setFlight, State.updBerth, berth_setBerth_same _ _ _ (alone_ne_none x f)]
  rw [hset, setBerth_setBerth _ _ _ _ (alone_ne_none x f) (alone_ne_none x (g f))]

theorem finishFlight_of_ne {i idx : Nat} {c : Cpl} {s : State} (hc : c.status ≠ dmaFault) :
    finishFlight i idx c s = setFlight i idx (fun f => { f with stage := .done c }) s := if_neg hc

section Put

variable {i : Nat} {x : Berth} {f : Flight} {d : Desc} {s : State}

/-- The quota comes first (R96). -/
theorem doPut_quota (h : x.ceil < x.held + d.length ∨ x.retain < x.unret + d.length) :
    doPut i (landed f d) d (s.setBerth i (alone x (arrived x f d))) =
      s.setBerth i (alone x (decided x f d (Cpl.refuse refusedQuota f.tFetch))) := by
  rw [← finishFlight_alone i f d _ s x (show refusedQuota ≠ dmaFault by decide)]
  unfold doPut
  rw [berth_setBerth_same _ _ _ (alone_ne_none x _)]
  exact if_pos h

variable (hquota : ¬(x.ceil < x.held + d.length ∨ x.retain < x.unret + d.length))

include hquota

/-- In a sluice nothing is admitted. -/
theorem doPut_sluice (hweir : s.weir.st = .sluice) :
    doPut i (landed f d) d (s.setBerth i (alone x (arrived x f d))) =
      s.setBerth i (alone x (decided x f d (Cpl.now s refusedDevice 0))) := by
  rw [← finishFlight_alone i f d _ s x (show refusedDevice ≠ dmaFault by decide)]
  unfold doPut
  rw [berth_setBerth_same _ _ _ (alone_ne_none x _)]
  exact (if_neg hquota).trans (if_pos hweir)

variable (hweir : s.weir.st ≠ .sluice)

include hweir

/-- Otherwise the PUT waits at the weir, and every waiting PUT is judged. -/
theorem doPut_judged :
    doPut i (landed f d) d (s.setBerth i (alone x (arrived x f d))) =
      let u := grantAll (s.setBerth i (alone x (atWeir x f d)))
      match (u.berth i).flights.find? (fun y => y.idx == f.idx && y.stage == .held) with
      | none => u
      | some y =>
        if y.tFetch + y.hold ≤ u.now then finishFlight i f.idx (Cpl.refuse refusedDevice (y.tFetch + y.hold)) u
        else setFlight i f.idx (fun z => { z with wasHeld := true }) u := by
  have hheld : setFlight i (landed f d).idx (fun y => { y with stage := .held, len := d.length }) (s.setBerth i (alone x (arrived x f d))) =
      s.setBerth i (alone x (atWeir x f d)) := setFlight_alone i (arrived x f d) _ x s
  unfold doPut
  rw [berth_setBerth_same _ _ _ (alone_ne_none x _)]
  refine (if_neg hquota).trans ((if_neg hweir).trans ?_)
  rw [hheld]
  rfl

variable (hwaiters : waiters s = [])

include hwaiters

omit hquota hweir in
/-- Where no other PUT waits, a PUT that the weir lets pass is granted. -/
theorem grantAll_granted {pl : Place} (h : (judge (s.setBerth i (alone x (atWeir x f d))) i (atWeir x f d) false false).grant = some pl) :
    grantAll (s.setBerth i (alone x (atWeir x f d))) =
      grantPut i (atWeir x f d) pl (judge (s.setBerth i (alone x (atWeir x f d))) i (atWeir x f d) false false).x
        (s.setBerth i (alone x (atWeir x f d))) := by
  rw [grantAll, waiters_one hwaiters rfl]
  simp only [grantLoop, h]

omit hquota hweir in
/-- Where no other PUT waits, one that the weir does not let pass leaves the state as it is. -/
theorem grantAll_none (h : (judge (s.setBerth i (alone x (atWeir x f d))) i (atWeir x f d) false false).grant = none) :
    grantAll (s.setBerth i (alone x (atWeir x f d))) = s.setBerth i (alone x (atWeir x f d)) := by
  rw [grantAll, waiters_one hwaiters rfl]
  simp only [grantLoop, h]

/-- A PUT that is granted leaves the weir. -/
theorem doPut_granted {pl : Place} {g : Flight} {y : Berth}
    (hgrant : (judge (s.setBerth i (alone x (atWeir x f d))) i (atWeir x f d) false false).grant = some pl)
    (hberth : (grantPut i (atWeir x f d) pl (judge (s.setBerth i (alone x (atWeir x f d))) i (atWeir x f d) false false).x
      (s.setBerth i (alone x (atWeir x f d)))).berth i = y) (hflights : y.flights = [g]) (hstage : g.stage ≠ .held) :
    doPut i (landed f d) d (s.setBerth i (alone x (arrived x f d))) =
      grantPut i (atWeir x f d) pl (judge (s.setBerth i (alone x (atWeir x f d))) i (atWeir x f d) false false).x
        (s.setBerth i (alone x (atWeir x f d))) := by
  rw [doPut_judged hquota hweir, grantAll_granted hwaiters hgrant]
  simp only [hberth, hflights]
  rw [List.find?_cons_of_neg (by simp [hstage])]
  rfl

variable (hgrant : (judge (s.setBerth i (alone x (atWeir x f d))) i (atWeir x f d) false false).grant = none)

include hgrant

/-- A PUT that is not granted is refused at the end of its hold limit, and is held before (R99). -/
theorem doPut_notGranted :
    doPut i (landed f d) d (s.setBerth i (alone x (arrived x f d))) =
      if f.tFetch + f.hold ≤ s.now then s.setBerth i (alone x (decided x f d (Cpl.refuse refusedDevice (f.tFetch + f.hold))))
      else s.setBerth i (alone x { atWeir x f d with wasHeld := true }) := by
  rw [doPut_judged hquota hweir, grantAll_none hwaiters hgrant]
  simp only [berth_setBerth_same _ _ _ (alone_ne_none x _)]
  have hfind : (alone x (atWeir x f d)).flights.find? (fun y => y.idx == f.idx && y.stage == .held) = some (atWeir x f d) := by
    simp [alone, atWeir, arrived]
  rw [hfind]
  dsimp only
  have hrefused : finishFlight i f.idx (Cpl.refuse refusedDevice (f.tFetch + f.hold)) (s.setBerth i (alone x (atWeir x f d))) =
      s.setBerth i (alone x (decided x f d (Cpl.refuse refusedDevice (f.tFetch + f.hold)))) := by
    rw [finishFlight_of_ne (show refusedDevice ≠ dmaFault by decide)]
    exact setFlight_alone i (atWeir x f d) _ x s
  split
  · next hlate => exact hrefused.trans (if_pos hlate).symm
  · next hearly => exact (setFlight_alone i (atWeir x f d) _ x s).trans (if_neg hearly).symm

end Put

/-- A PUT that passes its checks comes to the weir (R54, R61). -/
theorem exec_put_doPut {b : BerthId} {d : Desc} {f : Flight} {s t : State} (ha : Awaits b.toNat f s) (hcrc : d.crcOk = true)
    (hbad : badDesc d b.toNat (s.berth b.toNat) = false) (hop : d.opcode = 1) (hst : (s.berth b.toNat).st = .opened) (hmode : f.mode ≠ 1)
    (ht : doPut b.toNat (landed f d) d (s.setBerth b.toNat (alone (s.berth b.toNat) (arrived (s.berth b.toNat) f d))) = t)
    (hreports : t.keep.reports = []) : exec (.put b d) s = .next (postAll b.toNat t) := by
  refine carryOut_go ha (d := d) (c := .put b d) (by simp) ?_ hreports
  rw [carryOut_op hcrc hbad (by simp [hst]) (fun _ => ⟨hmode, by simp [hst], by simp [hst]⟩)]
  simpa only [hop] using ht

/-- A PUT that is not completed leaves nothing to post. -/
theorem exec_put_waits {b : BerthId} {d : Desc} {f g : Flight} {s t : State} (ha : Awaits b.toNat f s) (hcrc : d.crcOk = true)
    (hbad : badDesc d b.toNat (s.berth b.toNat) = false) (hop : d.opcode = 1) (hst : (s.berth b.toNat).st = .opened) (hmode : f.mode ≠ 1)
    (ht : doPut b.toNat (landed f d) d (s.setBerth b.toNat (alone (s.berth b.toNat) (arrived (s.berth b.toNat) f d))) = t)
    (hreports : t.keep.reports = []) (hflights : (t.berth b.toNat).flights = [g]) (hstage : g.stage.isDone = false) :
    exec (.put b d) s = .next t := by
  rw [exec_put_doPut ha hcrc hbad hop hst hmode ht hreports, postAll_idle hflights hstage]

/-- Settles O12: the clauses are the outcomes of `doPut`, and what a grant leaves is `grantPut_alone`. -/
theorem putAdmission : Obligations.PutAdmission := by
  unfold Obligations.PutAdmission
  intro b d f s hs ha hwaiters i x w v ends reserved excess hcrc hbad hop hst hmode
  have hput := fun {t : State} => exec_put_doPut (t := t) ha hcrc hbad hop hst hmode
  have hwaits := fun {g : Flight} {t : State} => exec_put_waits (g := g) (t := t) ha hcrc hbad hop hst hmode
  refine ⟨fun hexcess => ?_, fun hquota hweir => ?_, fun hquota hweir => 
    ⟨fun pl hgrant hlets => ?_, fun pl hgrant hlets => ?_, fun hgrant hlate => ?_, fun hgrant hearly => ?_⟩⟩
  · exact hput (doPut_quota hexcess) hs
  · exact hput (doPut_sluice hquota hweir) hs
  · obtain ⟨hkeep, hothers, irq, hirq, hgo, -⟩ := grantPut_alone (i := i) (s := s) (x := x) (w := w) pl v.x rfl
    obtain ⟨hout, hberth⟩ := hgo hlets
    have hexec := hwaits (doPut_granted hquota hweir hwaiters hgrant hberth rfl (by simp)) ((congrArg Keep.reports hkeep).trans hs)
      (congrArg Berth.flights hberth) rfl
    exact ⟨_, hexec, ⟨hberth, hothers⟩, irq, hirq, hout⟩
  · obtain ⟨hkeep, hothers, irq, hirq, -, hwait⟩ := grantPut_alone (i := i) (s := s) (x := x) (w := w) pl v.x rfl
    obtain ⟨hout, hberth⟩ := hwait hlets
    have hexec := hwaits (doPut_granted hquota hweir hwaiters hgrant hberth rfl (by simp)) ((congrArg Keep.reports hkeep).trans hs)
      (congrArg Berth.flights hberth) rfl
    refine ⟨_, hexec, ⟨hberth, hothers⟩, ?_⟩
    rcases hirq with rfl | rfl
    · exact .inl (hout.trans (List.append_nil _))
    · exact .inr hout
  · exact hput ((doPut_notGranted hquota hweir hwaiters hgrant).trans (if_pos hlate)) hs
  · exact hwaits ((doPut_notGranted hquota hweir hwaiters hgrant).trans (if_neg (Nat.not_le.2 hearly))) hs
      (congrArg Berth.flights (berth_setBerth_same _ _ _ (alone_ne_none x _))) rfl

end Sys2Proof.Proofs.Admission

/-! # The budget's fall and rise -/

namespace Sys2Proof.Proofs.BudgetMoves
open Sys2Proof Sys2Proof.Machine Sys2Proof.Safety

/-- What BUDGET_RECOMPUTE judges the sources by: the terms, the spill rate and the pound's size, taken anew. -/
def freshTerms (s : State) : State :=
  let v := weirTerms s
  { v with weir := { v.weir with rs := rsLive v, bPound := bPound v, qSingle := singleQ v } }

/-- The budget that the sources allow does not look at the budget in force nor at the window. -/
theorem recompute_budget (s : State) :
    (recompute s).weir.budget =
      Budget.min' s.weir.budget (budgetOf (recompute s) (eAvailBy guarded (recompute s))) := rfl

theorem head?_trimWindow (from_ : Nat) (x : Nat × Budget) (t : List (Nat × Budget)) :
    (trimWindow from_ (x :: t)).head? = some x := by
  rw [trimWindow]
  split <;> rfl

theorem recompute_window (s : State) :
    (recompute s).weir.window.head? = some (s.now, budgetOf (recompute s) (eAvailBy unheld (recompute s))) :=
  head?_trimWindow _ _ _

/-- No value of the rise window lies under the least of them. -/
theorem foldl_min'_bEff_le (l : List (Nat × Budget)) (b : Budget) :
    (l.foldl (fun a x => Budget.min' a x.2) b).bEff ≤ b.bEff ∧
      ∀ x ∈ l, (l.foldl (fun a x => Budget.min' a x.2) b).bEff ≤ x.2.bEff := by
  induction l generalizing b with
  | nil => exact ⟨le_rfl, fun _ hx => nomatch hx⟩
  | cons y t ih =>
    obtain ⟨hb, ht⟩ := ih (Budget.min' b y.2)
    refine ⟨hb.trans (min_le_left _ _), fun x hx => ?_⟩
    obtain rfl | hx := List.mem_cons.mp hx
    · exact hb.trans (min_le_right _ _)
    · exact ht x hx

/-- BUDGET_RISE changes nothing, or takes the greater of the budget and a value that no entry of the window lies under. -/
theorem rise_cases (s : State) :
    rise s = s ∨ riseHold s ≤ s.now ∧ ∃ low : Budget, (rise s).weir.budget = Budget.max' s.weir.budget low ∧
      ∀ x ∈ s.weir.window, low.bEff ≤ x.2.bEff := by
  unfold rise
  extract_lets start spans w w' u strict low
  by_cases hs : spans = true
  case neg => exact .inl (by simp only [hs]; rfl)
  refine .inr ⟨?_, low, ?_, (foldl_min'_bEff_le s.weir.window strict).2⟩
  · have hlast : spans = true := hs
    simp only [spans] at hlast
    split at hlast
    · exact of_decide_eq_true (Bool.and_eq_true_iff.mp hlast).2
    · cases hlast
  · rw [hs]
    rfl

/-- Settles O19. -/
theorem budgetFallsAndRises : Obligations.BudgetFallsAndRises := by
  refine ⟨?_, ?_⟩
  · intro s u strict
    have hb : u.weir.budget = Budget.min' s.weir.budget strict := by
      rw [show s.weir = (compactAll s).weir by simp]
      exact recompute_budget (compactAll s)
    refine ⟨fun h => if_pos h, fun h => if_neg (by simp [h]), congrArg Budget.eAvail hb, congrArg Budget.bEnergy hb,
      congrArg Budget.bEff hb, ?_⟩
    rw [show s.now = (compactAll s).now by simp]
    exact recompute_window (compactAll s)
  · intro s u
    refine ⟨fun h => if_pos h, fun h => if_neg (by simp [h]), ?_⟩
    obtain hu | ⟨hold, low, hu, hlow⟩ := rise_cases s
    · rw [show u = s from hu]
      exact ⟨le_rfl, le_rfl, le_rfl, fun _ _ h => absurd h (lt_irrefl _), fun _ => rfl⟩
    · rw [show u.weir.budget = _ from hu]
      refine ⟨le_max_left _ _, le_max_left _ _, le_max_left _ _, fun x hx h => ?_, fun h => absurd hold (not_le.mpr h)⟩
      have hlt : s.weir.budget.bEff < max s.weir.budget.bEff low.bEff := h
      exact max_le (by have := hlow x hx; omega) (hlow x hx)

end Sys2Proof.Proofs.BudgetMoves

/-! # The commit of a PUT, shaped reads and failed reads -/

namespace Sys2Proof.Proofs.Commits
open Sys2Proof Sys2Proof.Machine Sys2Proof.Safety Sys2Proof.Proofs.Admission

/-- The counters that a control line's repair or loss counts in stand above every word of the weir. -/
theorem reg_readLine (l : Line) (s : State) {a : Nat} (ha : a < offDRC_CTL_ERR) : (readLine l s).reg a = s.reg a := by
  have hask : ∀ (w : Bool) (c : Nat) (u : State), (dramAsk .control w l.no 1 c u).reg a = u.reg a := fun _ _ _ => rfl
  have hctl : a ≠ offDRC_CTL_ERR := ne_of_lt ha
  have hcnt : ∀ c, a ≠ offDRC_CH_CNT + 8 * c := fun c => by simp only [offDRC_CTL_ERR, offDRC_CH_CNT] at ha ⊢; omega
  have hbad : ∀ u : State, (lineBad l u).reg a = u.reg a := fun u => reg_bump_other u 31 0 1 hctl
  have hfix : ∀ (c : Nat) (u : State), (repairCopy l c u).reg a = u.reg a := fun c u =>
    (reg_bump_other _ 47 32 1 (hcnt c)).trans (reg_bump_other _ 63 32 1 hctl)
  unfold readLine
  extract_lets cs
  clear_value cs
  rcases cs with _ | ⟨c, _ | ⟨d, t⟩⟩
  · rfl
  · dsimp only
    split
    · rfl
    · exact hbad _
  · dsimp only
    split
    · rfl
    · split
      · exact hfix _ _
      · exact hbad _

theorem reg_readLines (ls : List Line) (s : State) {a : Nat} (ha : a < offDRC_CTL_ERR) : (forEach ls s readLine).reg a = s.reg a :=
  forEach_keeps (P := fun u => u.reg a = s.reg a) ls readLine (fun l u hu => (reg_readLine l u ha).trans hu) s rfl

/-- The chain page of a new record belongs to its berth alone. -/
theorem chainPageAdd_berth (i n : Nat) (s : State) (hch : (s.berth i).chain ≠ []) :
    (∃ k l, (chainPageAdd i n s).berth i = { s.berth i with firstCpn := k, lastCpn := l }) ∧
      ∀ j, j ≠ i → (chainPageAdd i n s).berth j = s.berth j := by
  have hsame : ∀ u : State, u.berths = s.berths → ∀ j, u.berth j = s.berth j := fun u hu j => congrArg (fun t => tget Berth.none t j) hu
  have hnone : ∀ b : Berth, b.chain ≠ [] → b ≠ Berth.none := fun b hb e => hb (e ▸ rfl)
  unfold chainPageAdd
  extract_lets x l
  split
  · have h := hsame (touchPage x.lastCpn (fun p => { p with count := p.count + 1 }) s) (by simp)
    exact ⟨⟨x.firstCpn, x.lastCpn, h i⟩, fun j _ => h j⟩
  · rename_i k u _ v _
    have h : ∀ j, v.berth j = s.berth j := hsame v (by simp only [v, u]; split <;> simp)
    refine ⟨⟨if x.firstCpn = noCpn then k else x.firstCpn, k, ?_⟩, fun j hj => (berth_setBerth_other _ _ _ _ hj).trans (h j)⟩
    simp only [State.updBerth, h i]
    exact berth_setBerth_same _ _ _ (hnone _ hch)

section Commit

variable {i : Nat} {f : Flight} {p : Place} {payload : Nat} {s : State}

/-- The record that a PUT leaves in the chain. -/
def recordOf (i : Nat) (f : Flight) (p : Place) (payload : Nat) (s : State) : Rec :=
  ⟨(s.berth i).nextSeq, f.len, f.tag, payload, s.now, some p, none,
    match f.desc with | some d => d.flags % 2 == 1 && f.spillOk | none => false⟩

/-- The berth with the record taken in, its PUT not yet ended. -/
def withRecord (i : Nat) (f : Flight) (p : Place) (payload : Nat) (s : State) : Berth :=
  let x := s.berth i
  { x with
    chain := x.chain ++ [recordOf i f p payload s], nextSeq := x.nextSeq + 1,
    st := if x.st = .opened ∧ x.nextSeq + 1 = 2 ^ 48 then .exhausted else x.st }

theorem durableCpl_congr {u : State} (f : Flight) (n : Nat) (hs : u.sluice = s.sluice) (hn : u.now = s.now)
    (hr : u.reg offWEIR_TIMING = s.reg offWEIR_TIMING) : durableCpl u f n = durableCpl s f n := by
  unfold durableCpl State.sluiced State.WEIR_TIMING_QUANT
  rw [hs, hn, hr]

/-- Everything of a commit but the record and the PUT's end leaves the berths alone, apart from the chain's ends. -/
theorem commit_berths :
    (∃ k l, (commit i f p payload s).berth i = { withRecord i f p payload s with
      firstCpn := k, lastCpn := l,
      flights := (s.berth i).flights.map (fun (y : Flight) =>
        if y.idx = f.idx then { y with stage := .done (durableCpl s f (s.berth i).nextSeq) } else y) }) ∧
      ∀ j, j ≠ i → (commit i f p payload s).berth j = s.berth j := by
  unfold commit
  extract_lets b n front r s1 s2 s3 s4 s5
  have hnone : ∀ y : Berth, y.chain = (s.berth i).chain ++ [r] → y ≠ Berth.none := fun y hy e => by
    rw [e] at hy
    exact List.append_ne_nil_of_right_ne_nil _ (List.cons_ne_nil r []) hy.symm
  have h1 : s1.berth i = withRecord i f p payload s := berth_setBerth_same _ _ _ (hnone _ rfl)
  have hsame : ∀ {u v : State}, u.berths = v.berths → ∀ j, u.berth j = v.berth j := fun hu j => congrArg (fun t => tget Berth.none t j) hu
  have h2 : ∀ j, s2.berth j = s1.berth j := hsame (by simp [s2])
  have h2i : s2.berth i = withRecord i f p payload s := (h2 i).trans h1
  obtain ⟨⟨k, l, h3⟩, h3'⟩ := chainPageAdd_berth i n s2
    (by rw [h2i]; exact List.append_ne_nil_of_right_ne_nil _ (List.cons_ne_nil r []))
  have h5 : ∀ j, s5.berth j = s3.berth j := hsame (by simp [s5, s4])
  have h5i : s5.berth i = { withRecord i f p payload s with firstCpn := k, lastCpn := l } := by rw [h5, h3, h2i]
  have hcpl : durableCpl s5 f n = durableCpl s f n := by
    refine durableCpl_congr f n (by simp [s5, s4, s3, s2, s1, State.setBerth]) (by simp [s5, s4, s3, s2, s1, State.setBerth]) ?_
    have h : s5.reg offWEIR_TIMING = s2.reg offWEIR_TIMING :=
      congrArg (fun t => tget 0 t offWEIR_TIMING) (show s5.regs = s2.regs by simp [s5, s4, s3])
    exact h.trans (reg_readLines _ s1 (by decide))
  have hdone : (durableCpl s5 f n).status ≠ dmaFault := by
    unfold durableCpl
    split <;> exact (by decide : durable ≠ dmaFault)
  rw [finishFlight_of_ne hdone, hcpl, setFlight, State.updBerth, h5i]
  exact ⟨⟨k, l, berth_setBerth_same _ _ _ (hnone _ rfl)⟩, fun j hj => by
    rw [berth_setBerth_other _ _ _ _ hj, h5, h3' j hj, h2]
    exact berth_setBerth_other _ _ _ _ hj⟩

/-- What a PUT that may commit was given: room in the queue of every channel that it writes (R72). -/
theorem dramRoom_of_committable (h : committable s i = some (f, p)) : ∀ c ∈ p.chs, dramRoom s c p.off = true := by
  unfold committable at h
  split at h
  · cases h
  · obtain ⟨q, -, hq⟩ := Option.bind_eq_some_iff.mp h
    split at hq
    case isFalse => cases hq
    case isTrue hroom =>
      cases hq
      exact List.all_eq_true.mp (Bool.and_eq_true_iff.mp hroom).2

end Commit

/-- The reads that fail count in the port, not in the berths. -/
theorem countRead_setBerth (p : Nat) (why : ReadFail) (s : State) (i : Nat) (b : Berth) :
    (countRead p why s).setBerth i b = countRead p why (s.setBerth i b) := by
  cases why <;> rfl

theorem countRead_frame (p : Nat) (why : ReadFail) (s : State) :
    (countRead p why s).berths = s.berths ∧ (countRead p why s).now = s.now ∧ (countRead p why s).keep = s.keep := by
  cases why <;> exact ⟨rfl, rfl, rfl⟩

theorem setFlight_of_one {i : Nat} {f : Flight} {s : State} (g : Flight → Flight) (hf : (s.berth i).flights = [f]) :
    setFlight i f.idx g s = s.setBerth i (alone (s.berth i) (g f)) := by
  simp only [setFlight, State.updBerth, hf, alone, List.map_cons, List.map_nil, if_true]

/-- A flight of a berth's only descriptor that ends in DMA_FAULT after the failed read was counted (R354). -/
theorem finishFlight_countRead {i : Nat} {f : Flight} {x : Berth} (port : Nat) (why : ReadFail) (s : State) (hf : x.flights = [f])
    (hport : x.port = port) :
    finishFlight i f.idx (Cpl.now (countRead port why (s.setBerth i x)) dmaFault 0) (countRead port why (s.setBerth i x)) =
      (countRead port why (s.setBerth i (alone x { f with stage := .done (Cpl.now s dmaFault 0) }))).bump
        (offPORT_ERR + 0x1000 * port) 63 32 1 := by
  obtain ⟨hberths, hnow, -⟩ := countRead_frame port why (s.setBerth i x)
  have hx : x ≠ Berth.none := ne_none_of_flights hf
  have hb : (countRead port why (s.setBerth i x)).berth i = x :=
    (congrArg (fun t => tget Berth.none t i) hberths).trans (berth_setBerth_same s i x hx)
  rw [finish_fault (s := s) hnow hf hb, countRead_setBerth, setBerth_setBerth s i x _ hx (alone_ne_none _ _), hport]

/-- With no descriptor waiting its turn and no report, a descriptor that has ended is only posted. -/
theorem settle_goOn_counted {i port a : Nat} {why : ReadFail} {x : Berth} {g : Flight} {s : State} (hset : Settled s)
    (hret : returnedCount s = 0) (hg : g.stage ≠ .returned) :
    let u := (countRead port why (s.setBerth i (alone x g))).bump a 63 32 1
    settle (goOn i u) = postAll i u := by
  intro u
  obtain ⟨hberths, -, hkeep⟩ := countRead_frame port why (s.setBerth i (alone x g))
  have hone : ∀ h ∈ (alone x g).flights, h.stage ≠ .returned := fun h hh => List.mem_singleton.mp hh ▸ hg
  have hquiet : Quiet u := quiet_same (quiet_same (quiet_setBerth ((quiet_iff s).1 hret) i _ hone) hberths) rfl
  rw [quiet_goOn hquiet]
  refine settle_nil ?_
  rw [show (postAll i u).keep = u.keep by simp]
  exact (congrArg Keep.reports hkeep).trans hset

/-- A failed descriptor read ends its one descriptor in DMA_FAULT, with the tag that was read (R354). -/
theorem exec_descriptorReadFail (b : BerthId) (why : ReadFail) (tag : BitVec 16) (f : Flight) (s : State) (hset : Settled s)
    (ha : Awaits b.toNat f s) :
    exec (.descriptorReadFail b why tag) s =
      .next (postAll b.toNat ((countRead (s.berth b.toNat).port why
        (s.setBerth b.toNat (alone (s.berth b.toNat) { f with tag := tag.toNat, stage := .done (Cpl.now s dmaFault 0) }))).bump
          (offPORT_ERR + 0x1000 * (s.berth b.toNat).port) 63 32 1)) := by
  obtain ⟨hf, hst, hret⟩ := ha
  have hfetch : fetchingIdx s b.toNat = some f.idx := by simp [fetchingIdx, hf, hst]
  have hend := finishFlight_countRead (i := b.toNat) (f := { f with tag := tag.toNat })
    (x := alone (s.berth b.toNat) { f with tag := tag.toNat }) (s.berth b.toNat).port why s rfl rfl
  show execDescriptorReadFail b why tag s = _
  simp only [execDescriptorReadFail, hfetch, setFlight_of_one _ hf]
  exact congrArg Host.Outcome.next ((congrArg (fun u => settle (goOn b.toNat u)) hend).trans
    (settle_goOn_counted (x := s.berth b.toNat)
      (g := { f with tag := tag.toNat, stage := .done (Cpl.now s dmaFault 0) }) hset hret nofun))

/-- A failed payload read gives the whole reservation back and ends its PUT in DMA_FAULT (R98, R354). -/
theorem exec_payloadReadFail (b : BerthId) (idx : BitVec 12) (why : ReadFail) (f : Flight) (s : State)
    (hf : (s.berth b.toNat).flights = [f]) (hidx : f.idx = idx.toNat) (hst : f.stage = .reading) (hwhy : why ≠ .ecrc) :
    let x := s.berth b.toNat
    exec (.payloadReadFail b idx why) s =
      .next (settle (weirEval (goOn b.toNat ((countRead x.port why (s.setBerth b.toNat
        { alone x { f with place := none, stage := .done (Cpl.now s dmaFault 0) } with
          held := x.held - f.len, unret := x.unret - f.len, unpers := x.unpers - f.len })).bump
            (offPORT_ERR + 0x1000 * x.port) 63 32 1)))) := by
  intro x
  have hfind : x.flights.find? (fun f => f.idx == idx.toNat && f.stage == .reading) = some f := by simp [x, hf, hidx, hst]
  have hgive : unreserve b.toNat f (countRead x.port why s) = countRead x.port why (s.setBerth b.toNat
      { alone x { f with place := none } with held := x.held - f.len, unret := x.unret - f.len, unpers := x.unpers - f.len }) := by
    obtain ⟨hberths, -, -⟩ := countRead_frame x.port why s
    have hx : (countRead x.port why s).berth b.toNat = x := congrArg (fun t => tget Berth.none t b.toNat) hberths
    have hy : ({ x with held := x.held - f.len, unret := x.unret - f.len, unpers := x.unpers - f.len } : Berth) =
        alone { x with held := x.held - f.len, unret := x.unret - f.len, unpers := x.unpers - f.len } f := by
      simp only [alone, x, hf]
    rw [unreserve, State.updBerth, hx, hy, setFlight_alone, countRead_setBerth]
    rfl
  show execPayloadReadFail b idx why s = _
  simp only [execPayloadReadFail, if_neg hwhy]
  rw [hfind]
  simp only
  rw [hgive]
  exact congrArg (fun u => Host.Outcome.next (settle (weirEval (goOn b.toNat u))))
    (finishFlight_countRead (i := b.toNat) (f := { f with place := none })
      (x := { alone x { f with place := none } with held := x.held - f.len, unret := x.unret - f.len, unpers := x.unpers - f.len })
      x.port why s rfl rfl)

/-- Settles O13. -/
theorem putReadsAndCommits : Obligations.PutReadsAndCommits := by
  refine ⟨⟨?_, ?_, ?_⟩, ?_, ?_, ?_, ?_⟩
  · intro b payload f p s i x front r u hc
    obtain ⟨⟨k, l, hi⟩, ho⟩ := commit_berths (i := b.toNat) (f := f) (p := p) (payload := payload) (s := s)
    have hexec : exec (.putCommit b payload) s = if 2 ^ (4096 * f.len) ≤ payload then .fault .malformedCommand
        else .next (settle (goOn i (spillRun (spillFlags u)))) := by
      show execPutCommit b payload s = _
      simp only [execPutCommit, show committable s b.toNat = some (f, p) from hc]
      rfl
    rw [hexec, hi]
    exact ⟨fun h => if_neg (not_le.mpr h), fun h => if_pos h, dramRoom_of_committable hc, rfl, rfl, rfl, rfl, ho⟩
  · intro b payload s hc
    show execPutCommit b payload s = _
    simp only [execPutCommit, hc]
  · intro b f d s i x hf hd
    have hexec : exec (.shaperRelease b) s = if shaperLets s f.len then .next (startRead i f s) else .next s := by
      show execShaperRelease b s = _
      simp only [execShaperRelease]
      rw [show (s.berth b.toNat).flights.find? (fun f => f.stage == .shaped) = some f from hf]
    rw [hexec]
    refine ⟨fun h => (if_pos h).trans (congrArg Host.Outcome.next ?_), fun h => if_neg (by simp [h])⟩
    have hne : ∀ y : Berth, y.flights = x.flights.map (fun (z : Flight) => if z.idx = f.idx then { z with stage := .reading } else z) →
        y ≠ Berth.none := fun y hy e => by
      rw [e] at hy
      have hnil : x.flights = [] := List.map_eq_nil_iff.mp hy.symm
      rw [hnil] at hf
      cases hf
    unfold startRead
    extract_lets w s1 s2
    have h2 : s2.berth i = { x with flights := x.flights.map (fun (z : Flight) => if z.idx = f.idx then { z with stage := .reading } else z) } :=
      berth_setBerth_same s1 i _ (hne _ rfl)
    rw [h2, hd]
    rfl
  · intro b why tag f s hset ha i x u
    exact exec_descriptorReadFail b why tag f s hset ha
  · intro b idx why f s i x y u hf hidx hst hwhy
    exact exec_payloadReadFail b idx why f s hf hidx hst hwhy
  · intro b idx s
    show execPayloadReadFail b idx .ecrc s = _
    exact if_pos rfl
  · intro p why s u
    cases why <;> rfl

end Sys2Proof.Proofs.Commits

/-! # The posting of a completion -/

namespace Sys2Proof.Proofs.Posting
open Sys2Proof Sys2Proof.Machine Sys2Proof.Safety

/-- A berth whose oldest completion has gone out: its entry is taken, the phase turns at the ring's end (R46). -/
def posted (x : Berth) : Berth :=
  { x with
    flights := x.flights.drop 1, cqTail := (x.cqTail + 1) % 2 ^ x.log2
    phase := if x.cqTail + 1 = 2 ^ x.log2 then !x.phase else x.phase }

section Post

variable {i : Nat} {x : Berth} {f : Flight} {c : Cpl} {s : State} (hx : s.berth i = x) (hsends : s.portSends x.port = true)

include hx hsends

/-- On a port that sends, a completion is one write at the tail (R46, R57). -/
theorem writeCpl_sends :
    let w := cplWords i f.tag c.status c.seq c.delayed x.phase
    ∃ r, writeCpl i f c s = { s.setBerth i (posted x) with
      regs := r, out := s.out ++ [.cpl x.port (x.cqBase + BitVec.ofNat 64 (16 * x.cqTail)) w.1 w.2] } := by
  subst hx
  unfold writeCpl
  extract_lets w b n ws s1 s2 s3
  have h3 : ∃ r, s3 = { s1 with regs := r } := by
    simp only [s3, s2]
    split <;> split <;> exact ⟨_, rfl⟩
  obtain ⟨r, h3⟩ := h3
  have hps : s3.portSends b.port = true := by rw [h3]; exact hsends
  exact ⟨r, (if_pos hps).trans (by rw [h3]; rfl)⟩

/-- A due completion that is a berth's only flight goes out with its message (R58). -/
theorem postAll_sends (hfree : x.st ≠ .free) (hf : x.flights = [f]) (hdone : f.stage = .done c) (hdue : c.postAt ≤ s.now)
    (hen : (s.port x.port).msixEn = true) (hmask : (s.port x.port).fnMask = false)
    (hvec : (s.port x.port).unmasked.contains f.vector = true) :
    let w := cplWords i f.tag c.status c.seq c.delayed x.phase
    ∃ r, postAll i s = { s.setBerth i (posted x) with
      regs := r
      out := s.out ++ [.cpl x.port (x.cqBase + BitVec.ofNat 64 (16 * x.cqTail)) w.1 w.2, .msix x.port f.vector] } := by
  intro w
  obtain ⟨r, hw⟩ := writeCpl_sends (f := f) (c := c) hx hsends
  have hloop : postLoop i (s.berth i).flights.length s = writeCpl i f c s := by
    rw [hx, hf]
    simp only [List.length_cons, List.length_nil, postLoop, hx, hf, hdone, if_pos hdue]
  have hnone : posted x ≠ Berth.none := fun e => hfree (congrArg Berth.st e)
  have hafter : (writeCpl i f c s).berth i = posted x := by
    rw [hw]
    exact berth_setBerth_same s i _ hnone
  have hleft : (posted x).flights = [] := by simp [posted, hf]
  refine ⟨r, ?_⟩
  unfold postAll
  dsimp only
  rw [hloop, hafter, hleft, hx, hf, if_pos (by rw [hw]; simp)]
  simp only [List.length_cons, List.length_nil, Nat.sub_zero, List.take_succ_cons, List.take_zero, List.map_cons, List.map_nil,
    List.dedup_cons_of_notMem List.not_mem_nil, List.dedup_nil, forEach, List.foldl_cons, List.foldl_nil]
  rw [hw, portMsix]
  have hps : ∀ r o, ({ s.setBerth i (posted x) with regs := r, out := o } : State).portSends x.port = true := fun _ _ => hsends
  have hport : ∀ r o, ({ s.setBerth i (posted x) with regs := r, out := o } : State).port x.port = s.port x.port := fun _ _ => rfl
  simp only [hps, hport, hen, hmask, hvec, Bool.not_true, Bool.not_false, Bool.and_self, if_true, Bool.false_eq_true, if_false]
  simp [State.emit, w]

end Post

/-- Neither timed command does more than look for what is due. -/
theorem exec_post {b : BerthId} {s : State} (hret : returnedCount s = 0) :
    ∀ cmd ∈ [Instr.refusalPost b, Instr.quantumPost b], exec cmd s = .next (settle (postAll b.toNat s)) := by
  have hgo : Host.Outcome.next (settle (goOn b.toNat s)) = (.next (settle (postAll b.toNat s)) : Res) :=
    congrArg (fun u => Host.Outcome.next (settle u)) (quiet_goOn ((quiet_iff s).1 hret) b.toNat)
  intro cmd hcmd
  obtain rfl | rfl : cmd = .refusalPost b ∨ cmd = .quantumPost b := by simpa using hcmd
  · exact hgo
  · exact hgo

theorem postAll_early {i : Nat} {f : Flight} {c : Cpl} {s : State} (hf : (s.berth i).flights = [f]) (hdone : f.stage = .done c)
    (hearly : s.now < c.postAt) : postAll i s = s := by
  have hloop : postLoop i (s.berth i).flights.length s = s := by
    rw [hf]
    simp only [List.length_cons, List.length_nil, postLoop, hf, hdone, if_neg (not_le.mpr hearly)]
  unfold postAll
  dsimp only
  rw [hloop]
  exact if_neg (lt_irrefl _)

/-- Settles O14. -/
theorem postingTimes : Obligations.PostingTimes := by
  intro b f c s hset hret i x n w hfree hf hdone cmd hcmd
  refine ⟨fun hearly => ?_, fun hdue hsends hen hmask hvec => ⟨_, exec_post hret cmd hcmd, ?_⟩⟩
  · rw [exec_post hret cmd hcmd, postAll_early hf hdone hearly, settle_nil hset]
  · obtain ⟨r, hpost⟩ := postAll_sends (i := b.toNat) (f := f) (c := c) rfl hsends hfree hf hdone hdue hen hmask hvec
    have hnone : posted (s.berth b.toNat) ≠ Berth.none := fun e => hfree (congrArg Berth.st e)
    rw [settle_nil (by rw [hpost]; exact hset), hpost]
    refine ⟨rfl, (berth_setBerth_same s b.toNat _ hnone).trans ?_, fun j hj => berth_setBerth_other s _ _ _ hj⟩
    simp only [posted, show (s.berth b.toNat).flights = [f] from hf, List.drop_one, List.tail_cons]
    rfl

end Sys2Proof.Proofs.Posting

/-! # The gauge: counting, end points and anchors -/

namespace Sys2Proof.Proofs.GaugeCounts
open Sys2Proof Sys2Proof.Machine Sys2Proof.Safety

/-- An end point is reached when its condition has held for its time and was not taken yet (R238). -/
theorem endPoint_iff (s : State) (h : Option (Nat × Bool)) (d : Nat) :
    endPoint s h d = true ↔ ∃ t, h = some (t, false) ∧ t + d ≤ s.now := by
  rcases h with _ | ⟨t, _ | _⟩ <;> simp [endPoint]

theorem endPoint_eq_false {s : State} {h : Option (Nat × Bool)} {d : Nat} (hh : ∀ t, h = some (t, false) → s.now < t + d) :
    endPoint s h d = false := by
  rw [Bool.eq_false_iff]
  intro he
  obtain ⟨t, ht, hle⟩ := (endPoint_iff s h d).1 he
  exact absurd hle (not_le.mpr (hh t ht))

/-- The charge counted stays within 0 and the capacity (R234). -/
theorem qCount_eq (cap q : Nat) (i : Int) :
    (qCount cap q i : Int) = min ((cap * nCmAh : Nat) : Int) (max 0 ((q : Int) + i * 100)) := by
  rw [qCount, Nat.cast_min, Int.toNat_eq_max, max_comm]

section Sample

variable {x : StringSample} {g : GStr} {s : State}

theorem strSample_counted (hl : s.gauge.loaded = true) (hp : g.present = true) :
    (strSample s x g).q = qCount g.cap g.q x.i ∧ (strSample s x g).thru = g.thru + x.i.natAbs * 100 ∧
      (strSample s x g).eoc = heldSince s.now (atEoc s (strSense s x g)) g.eoc ∧
      (strSample s x g).eod = heldSince s.now (atEod s (strSense s x g)) g.eod := by
  have hgo : (s.gauge.loaded && (strSense s x g).present) = true := Bool.and_eq_true_iff.mpr ⟨hl, hp⟩
  unfold strSample
  dsimp only
  rw [hgo]
  exact ⟨rfl, rfl, rfl, rfl⟩

theorem strSample_uncounted (h : s.gauge.loaded = false ∨ g.present = false) :
    strSample s x g = { strSense s x g with eoc := none, eod := none } := by
  have hno : (s.gauge.loaded && (strSense s x g).present) = false := Bool.and_eq_false_iff.mpr h
  unfold strSample
  dsimp only
  rw [hno]
  rfl

theorem strSample_sensed : (strSample s x g).v = x.v ∧ (strSample s x g).i = x.i ∧ (strSample s x g).cap = g.cap := by
  unfold strSample
  dsimp only
  split <;> exact ⟨rfl, rfl, rfl⟩

end Sample

/-- Settles O34, the four rules apart: the sample, the end points, the learned capacity, the anchor. -/
theorem gaugeCounting : Obligations.GaugeCounting := by
  refine ⟨?_, ?_, ?_, ?_, ?_⟩
  · intro m s
    refine ⟨fun h => if_pos h, fun h hon hwake hdue => ?_, fun h hno => ?_⟩
    all_goals
      show execGaugeUpdate m s = _
      unfold execGaugeUpdate
      refine (if_neg (not_not.mpr h)).trans ?_
    · refine if_neg ?_
      rcases hup : s.gauge.updated with _ | t
      · simp [hon, hwake]
      · simp [hon, hwake, hdue t hup]
    · refine if_pos ?_
      obtain h | h | ⟨t, hup, ht⟩ := hno
      · simp [h]
      · simp [h]
      · simp [hup, ht]
  · intro x g s
    refine ⟨fun hl hp => ?_, fun h => ?_, strSample_sensed⟩
    · obtain ⟨hq, hthru, heoc, heod⟩ := strSample_counted (x := x) hl hp
      exact ⟨by rw [hq, qCount_eq], hthru, heoc, heod⟩
    · rw [strSample_uncounted h]
      exact ⟨rfl, rfl, rfl⟩
  · intro i s g taper
    refine ⟨fun h => if_pos ?_, fun h => if_pos ?_, fun t hc ht hdue => ?_, ?_⟩
    · obtain h | h := h
      · simp [h]
      · simp [show endPoint s (s.str i.val).eoc (s.GAUGE_CFG_CURR_T_TAPER * 1000000) = false from endPoint_eq_false h]
    · obtain h | h := h
      · simp [h]
      · simp [show endPoint s (s.str i.val).eod 100000 = false from endPoint_eq_false h]
    · have hend : endPoint s (s.str i.val).eoc (s.GAUGE_CFG_CURR_T_TAPER * 1000000) = true := (endPoint_iff _ _ _).2 ⟨t, ht, hdue⟩
      show execEndOfCharge i s = _
      refine (if_neg (by simp [hc, hend])).trans ?_
      simp only [State.updStr, show (s.str i.val).eoc = some (t, false) from ht]
      rfl
    · intro t hc ht hdue u v
      have hend : endPoint s (s.str i.val).eod 100000 = true := (endPoint_iff _ _ _).2 ⟨t, ht, hdue⟩
      have hexec : exec (.endOfDischarge i) s = .next (if v.gauge.learning = some i.val then stopLearning v else v) := by
        show execEndOfDischarge i s = _
        refine (if_neg (by simp [hc, hend])).trans ?_
        simp only [State.updStr, show (s.str i.val).eod = some (t, false) from ht]
        rfl
      have hlearning : v.gauge.learning = s.gauge.learning := by
        simp only [v]
        split
        · rw [show (logRec 0x0C i.val 3 [] u).gauge = u.gauge by simp]
          rfl
        · rfl
      rw [hexec, hlearning]
      exact ⟨fun h => congrArg _ (if_pos h), fun h => congrArg _ (if_neg h)⟩
  · intro g out back
    refine ⟨fun h => by simp only [learns, h], fun h => ⟨fun hb ht => ?_, fun hno => ?_⟩⟩
    · simp only [learns, h, hb, ht, Bool.not_false, and_self, if_true]
    · have hnot : ¬ (back * 50 ≤ g.cap * nCmAh ∧ (!g.outOfTemp) = true) := by
        rintro ⟨hb, ht⟩
        obtain hno | hno := hno
        · omega
        · simp [hno] at ht
      simp only [learns, h, if_neg hnot]
  · intro i s
    refine ⟨fun h => ?_, ?_⟩
    · simp only [takeAnchor, h]
    · intro a h g c
      simp only [takeAnchor, h]
      rfl

end Sys2Proof.Proofs.GaugeCounts

/-! # The capacitance test and the captures of the gauge's groups -/

namespace Sys2Proof.Proofs.GaugeCaptures
open Sys2Proof Sys2Proof.Machine Sys2Proof.Safety

/-- A table of words after each word of the list was put under its key. -/
def putAll (l : List (Nat × Word)) (t : Tbl (Option Word)) : Tbl (Option Word) := l.foldl (fun t p => tset none t p.1 (some p.2)) t

theorem tget_putAll_mem {n : Nat} {w : Word} (l : List (Nat × Word)) (t : Tbl (Option Word)) (hall : ∀ p ∈ l, p.1 = n → p.2 = w)
    (h : (n, w) ∈ l ∨ tget none t n = some w) : tget none (putAll l t) n = some w := by
  induction l generalizing t with
  | nil => exact h.resolve_left List.not_mem_nil
  | cons p l ih =>
    refine ih (tset none t p.1 (some p.2)) (fun q hq => hall q (List.mem_cons_of_mem _ hq)) ?_
    by_cases hp : p.1 = n
    · refine .inr ?_
      rw [hp, hall p List.mem_cons_self hp]
      exact tget_tset_same none t n (some w) (Option.some_ne_none w)
    · rw [tget_tset_other none t p.1 n (some p.2) (Ne.symm hp)]
      exact h.imp_left (fun hm => (List.mem_cons.mp hm).resolve_left (fun e => hp (congrArg Prod.fst e).symm))

theorem tget_putAll_other {n : Nat} (l : List (Nat × Word)) (t : Tbl (Option Word)) (hall : ∀ p ∈ l, n ≠ p.1) :
    tget none (putAll l t) n = tget none t n := by
  induction l generalizing t with
  | nil => rfl
  | cons p l ih =>
    refine (ih (tset none t p.1 (some p.2)) (fun q hq => hall q (List.mem_cons_of_mem _ hq))).trans ?_
    exact tget_tset_other none t p.1 n (some p.2) (hall p List.mem_cons_self)

/-- The words of a string's group that a read of its state captures (R256). -/
def stringGroup (s : State) (i : Nat) : List (Nat × Word) :=
  [1, 2, 3, 4, 5, 6].map (fun k => (capKey i k, snapWord s (capKey i k) (strReset k)))

theorem forEach_setCapture (l : List (Nat × Word)) (s : State) :
    forEach l s (fun p t => setCapture p.1 p.2 t) = { s with gauge := { s.gauge with captures := putAll l s.gauge.captures } } := by
  induction l generalizing s with
  | nil => rfl
  | cons p l ih => exact ih (setCapture p.1 p.2 s)

theorem captureString_eq (i : Nat) (s : State) :
    captureString i s = { s with gauge := { s.gauge with captures := putAll (stringGroup s i) s.gauge.captures } } := by
  rw [← forEach_setCapture, stringGroup, forEach, List.foldl_map]
  rfl

theorem mem_stringGroup {s : State} {i : Nat} {p : Nat × Word} :
    p ∈ stringGroup s i ↔ ∃ k, (1 ≤ k ∧ k ≤ 6) ∧ p = (capKey i k, snapWord s (capKey i k) (strReset k)) := by
  have hk : ∀ k, k ∈ [1, 2, 3, 4, 5, 6] ↔ 1 ≤ k ∧ k ≤ 6 := fun k => by simp only [List.mem_cons, List.not_mem_nil, or_false]; omega
  simp only [stringGroup, List.mem_map, hk, eq_comm (b := p)]

theorem stringCapture_eq (i : Nat) (s : State) :
    stringCapture i s = { s with
      gauge := { s.gauge with captures := putAll (stringGroup s i) s.gauge.captures }
      out := s.out ++ [.mgmtData (snapWord s (capKey i 0) 0)] } := by
  rw [stringCapture, captureString_eq]
  rfl

theorem statusCapture_eq (s : State) :
    statusCapture s = { s with
      gauge := { s.gauge with
        captures := putAll [(battKey, snapWord s battKey 0), (bankKey, snapWord s bankKey 0)] s.gauge.captures }
      out := s.out ++ [.mgmtData (gaugeStatusWord s)] } := rfl

/-- The words of the last update, each under its key (R251). -/
def snapWords (s : State) : List (Nat × Word) :=
  (List.range 8).flatMap (fun i => (List.range 7).map (fun k => (capKey i k, strWord s i k))) ++
    [(battKey, battSumWord s), (bankKey, gaugeCapWord s)]

theorem snapWord_takeSnap (s : State) (n : Nat) (w r : Word) (hmem : (n, w) ∈ snapWords s)
    (hall : ∀ p ∈ snapWords s, p.1 = n → p.2 = w) : snapWord (takeSnap s) n r = w := by
  have hsnap : (takeSnap s).gauge.snap = putAll (snapWords s) s.gauge.snap := by
    simp only [takeSnap, snapWords, putAll]
  rw [snapWord, hsnap, tget_putAll_mem (snapWords s) s.gauge.snap hall (.inl hmem), Option.getD_some]

theorem mem_snapWords {s : State} {p : Nat × Word} :
    p ∈ snapWords s ↔ (∃ i k, i < 8 ∧ k < 7 ∧ p = (capKey i k, strWord s i k)) ∨ p = (battKey, battSumWord s) ∨
      p = (bankKey, gaugeCapWord s) := by
  simp only [snapWords, List.mem_append, List.mem_flatMap, List.mem_map, List.mem_range, List.mem_cons, List.not_mem_nil, or_false]
  refine or_congr_left ⟨?_, ?_⟩
  · rintro ⟨i, hi, k, hk, rfl⟩
    exact ⟨i, k, hi, hk, rfl⟩
  · rintro ⟨i, k, hi, hk, rfl⟩
    exact ⟨i, hi, k, hk, rfl⟩

/-- No two groups of the gauge share a key. -/
theorem capKey_inj {i k j l : Nat} (hk : k < 7) (hl : l < 7) (h : capKey i k = capKey j l) : i = j ∧ k = l := by
  simp only [capKey] at h
  omega

theorem capKey_lt {i k : Nat} (hi : i < 8) (hk : k < 7) : capKey i k < battKey := by
  simp only [capKey, battKey]
  omega

theorem snapWord_takeSnap_string {i k : Nat} (s : State) (r : Word) (hi : i < 8) (hk : k < 7) :
    snapWord (takeSnap s) (capKey i k) r = strWord s i k := by
  refine snapWord_takeSnap s _ _ r (mem_snapWords.2 (.inl ⟨i, k, hi, hk, rfl⟩)) (fun p hp he => ?_)
  have hlt := capKey_lt hi hk
  obtain ⟨j, l, hj, hl, rfl⟩ | rfl | rfl := mem_snapWords.1 hp
  · obtain ⟨rfl, rfl⟩ := capKey_inj hl hk he
    rfl
  · exact absurd he hlt.ne'
  · exact absurd he (hlt.trans (by decide : battKey < bankKey)).ne'

theorem snapWord_takeSnap_bank (s : State) (r : Word) :
    snapWord (takeSnap s) battKey r = battSumWord s ∧ snapWord (takeSnap s) bankKey r = gaugeCapWord s := by
  refine ⟨snapWord_takeSnap s _ _ r (mem_snapWords.2 (.inr (.inl rfl))) (fun p hp he => ?_),
    snapWord_takeSnap s _ _ r (mem_snapWords.2 (.inr (.inr rfl))) (fun p hp he => ?_)⟩
  all_goals obtain ⟨j, l, hj, hl, rfl⟩ | rfl | rfl := mem_snapWords.1 hp
  · exact absurd he (capKey_lt hj hl).ne
  · rfl
  · cases he
  · exact absurd he ((capKey_lt hj hl).trans (by decide : battKey < bankKey)).ne
  · cases he
  · rfl

theorem tget_stringGroup (i : Nat) (s : State) :
    (∀ k, 1 ≤ k → k ≤ 6 → tget none (putAll (stringGroup s i) s.gauge.captures) (capKey i k) =
      some (snapWord s (capKey i k) (strReset k))) ∧
    ∀ n, (∀ k, 1 ≤ k → k ≤ 6 → n ≠ capKey i k) →
      tget none (putAll (stringGroup s i) s.gauge.captures) n = tget none s.gauge.captures n := by
  refine ⟨fun k hk1 hk6 => ?_, fun n hn => ?_⟩
  · refine tget_putAll_mem _ _ (fun p hp he => ?_) (.inl (mem_stringGroup.2 ⟨k, ⟨hk1, hk6⟩, rfl⟩))
    obtain ⟨l, ⟨hl1, hl6⟩, rfl⟩ := mem_stringGroup.1 hp
    obtain ⟨-, rfl⟩ := capKey_inj (by omega) (by omega) he
    rfl
  · refine tget_putAll_other _ _ (fun p hp => ?_)
    obtain ⟨l, ⟨hl1, hl6⟩, rfl⟩ := mem_stringGroup.1 hp
    exact hn l hl1 hl6

/-- A test stops with the last result kept (R250). -/
theorem stopCapTest_facts {s : State} (h : s.gauge.testing = true) :
    (stopCapTest s).gauge.cTest = s.gauge.cTest ∧ (stopCapTest s).pins = { s.pins with capTest := false, charger := true } := by
  have hend : ∀ u : State, (endGaugeCmd 8 7 u).gauge.cTest = u.gauge.cTest ∧ (endGaugeCmd 8 7 u).pins = u.pins := fun u => by
    unfold endGaugeCmd
    split <;> simp
  have hstop : stopCapTest s = endGaugeCmd 8 7 (({ s with
      gauge := { s.gauge with testing := false }, pins := { s.pins with capTest := false, charger := true } } : State).bump
        offGAUGE_CAP_CNT 31 0 1) := if_neg (by simp [h])
  rw [hstop]
  exact hend _

/-- Settles O38. -/
theorem bankTestAndCaptures : Obligations.BankTestAndCaptures := by
  refine ⟨?_, ?_, ?_, ?_, ?_, ?_, ?_⟩
  · intro s
    refine ⟨fun hok hdue => if_pos ⟨hdue, hok⟩, fun h => if_neg ?_, fun h => ?_⟩
    · rintro ⟨hdue, hok⟩
      obtain h | h := h
      · simp [h] at hok
      · omega
    · obtain h | h | h := h <;> simp [capTestOk, h]
  · intro charge fall s htest hpos
    have hexec : exec (.capTestEnd charge fall) s = execCapTestEnd charge fall s := rfl
    refine ⟨fun h => if_pos (.inr (.inl h)), ?_⟩
    intro h t
    have hgo : ¬ ((!s.gauge.testing) = true ∨ fall < s.GAUGE_CFG_CAP1_DV_TEST ∨ fall = 0) := by
      rw [htest]
      simp
      omega
    rw [hexec, execCapTestEnd, if_neg hgo]
    refine ⟨fun hlow => ?_, fun hok => ?_⟩
    · have hd : decide (charge / fall < s.GAUGE_CFG_CAP0_C_LOW) = true := decide_eq_true hlow
      dsimp only
      rw [hd]
      rfl
    · have hd : decide (charge / fall < s.GAUGE_CFG_CAP0_C_LOW) = false := decide_eq_false (not_lt.mpr hok)
      dsimp only
      rw [hd]
      rfl
  · intro s
    refine ⟨fun htest hlate => ⟨if_pos ⟨htest, hlate⟩, stopCapTest_facts htest⟩, fun h => if_neg ?_⟩
    rintro ⟨htest, hlate⟩
    obtain h | h := h
    · simp [h] at htest
    · omega
  · intro i s hclear hbar
    obtain ⟨hin, hout⟩ := tget_stringGroup i.val s
    have hexec : exec (.gaugeStringCapture i) s = .next (stringCapture i.val s) := by
      show execGaugeStringCapture i s = _
      exact (viaPort_clear _ _ hclear).trans (if_pos hbar)
    rw [stringCapture_eq] at hexec
    exact ⟨_, hexec, rfl, rfl, hin, hout⟩
  · intro s hclear hbar
    have hexec : exec .gaugeStatusCapture s = .next (statusCapture s) := by
      show execGaugeStatusCapture s = _
      exact (viaPort_clear _ _ hclear).trans (if_pos hbar)
    rw [statusCapture_eq] at hexec
    have hmem : ∀ p ∈ [(battKey, snapWord s battKey 0), (bankKey, snapWord s bankKey 0)],
        p = (battKey, snapWord s battKey 0) ∨ p = (bankKey, snapWord s bankKey 0) := fun p hp => by simpa using hp
    have hne : battKey ≠ bankKey := by decide
    refine ⟨_, hexec, rfl, rfl, ?_, ?_, fun n hb hk => ?_⟩
    · exact tget_putAll_mem _ _ (fun p hp he => by obtain rfl | rfl := hmem p hp; exacts [rfl, absurd he hne.symm]) (.inl (by simp))
    · exact tget_putAll_mem _ _ (fun p hp he => by obtain rfl | rfl := hmem p hp; exacts [absurd he hne, rfl]) (.inl (by simp))
    · exact tget_putAll_other _ _ (fun p hp => by obtain rfl | rfl := hmem p hp; exacts [hb, hk])
  · intro i k r s
    exact ⟨snapWord_takeSnap_string s r i.isLt k.isLt, snapWord_takeSnap_bank s r⟩
  · intro i s hbar
    have hport : ∀ c f, viaPort c false f s = f s := fun c f => by simp [viaPort, portHolds, hbar]
    constructor
    · show execGaugeStringCapture i s = _
      exact (hport _ _).trans (if_neg (by simp [hbar]))
    · show execGaugeStatusCapture s = _
      exact (hport _ _).trans (if_neg (by simp [hbar]))

end Sys2Proof.Proofs.GaugeCaptures

/-! # The windlass: speed, link, faults -/

namespace Sys2Proof.Proofs.WindlassFaults
open Sys2Proof Sys2Proof.Machine Sys2Proof.Safety

/-- An interrupt's message leaves everything but the management function and the outputs alone. -/
theorem sendIrq_shape (n : Nat) (s : State) : ∃ m o, sendIrq n s = { s with mgmt := m, out := o } := by
  unfold sendIrq
  split
  · split <;> exact ⟨_, _, rfl⟩
  · exact ⟨_, _, rfl⟩

theorem raiseIrq_shape (n : Nat) (s : State) : ∃ r m o, raiseIrq n s = { s with regs := r, mgmt := m, out := o } := by
  unfold raiseIrq
  dsimp only
  split
  · exact ⟨_, _, _, rfl⟩
  · split
    · exact ⟨_, _, _, rfl⟩
    · split
      · exact ⟨_, _, _, rfl⟩
      · obtain ⟨m, o, h⟩ := sendIrq_shape n (s.setReg offGLB_IRQ_STATUS (setFld (s.reg offGLB_IRQ_STATUS) n n 1))
        exact ⟨_, m, o, h⟩

/-- A record of the event log changes the log, its counters and the interrupt it raises. -/
theorem queueLog_shape (kind source detail : Nat) (first : Bool) (data : List Word) (s : State) :
    ∃ r l m o, queueLog kind source detail first data s = { s with regs := r, log := l, mgmt := m, out := o } := by
  unfold queueLog
  dsimp only
  split
  · exact ⟨_, _, _, _, rfl⟩
  · split
    · obtain ⟨r, m, o, h⟩ := raiseIrq_shape 7 { s with log := { s.log with
        queue := s.log.queue ++ [mkLog s kind source detail first data], nextSeq := s.log.nextSeq + 1 } }
      exact ⟨r, _, m, o, h⟩
    · exact ⟨_, _, _, _, rfl⟩

/-- The gate outputs follow the drive's state; all else of the windlass stays. -/
theorem driven_shape (f : Fly) : ∃ a h l, f.driven = { f with gateEn := a, pwmH := h, pwmL := l } := by
  unfold Fly.driven
  dsimp only
  split
  · exact ⟨_, _, _, rfl⟩
  · split
    · exact ⟨_, _, _, rfl⟩
    · split <;> exact ⟨_, _, _, rfl⟩
    · split <;> exact ⟨_, _, _, rfl⟩
    · exact ⟨_, _, _, rfl⟩
    · exact ⟨_, _, _, rfl⟩

section Driven

variable (f : Fly)

@[simp] theorem driven_st : f.driven.st = f.st := by obtain ⟨_, _, _, h⟩ := driven_shape f; rw [h]
@[simp] theorem driven_link : f.driven.link = f.link := by obtain ⟨_, _, _, h⟩ := driven_shape f; rw [h]
@[simp] theorem driven_bemf : f.driven.bemf = f.bemf := by obtain ⟨_, _, _, h⟩ := driven_shape f; rw [h]
@[simp] theorem driven_temps : f.driven.temps = f.temps := by obtain ⟨_, _, _, h⟩ := driven_shape f; rw [h]
@[simp] theorem driven_shuts : f.driven.shuts = f.shuts := by obtain ⟨_, _, _, h⟩ := driven_shape f; rw [h]

end Driven

/-- A fault switches every gate off and takes the flywheel out of the budget (R262, R271). -/
theorem flyFault_shape (cause phase : Nat) (s : State) : ∃ b r l m o,
    flyFault cause phase s = { s with
      fly := { s.fly with
               st := .fault, cause := cause, phase := phase, tFault := s.now, gatesCut := false, dump := false, motoring := false
               generating := false, release := false, gateEn := 0, pwmH := 0, pwmL := 0 }
      weir := { s.weir with flyRaw := 0, flyDer := 0, budget := b }, regs := r, log := l, mgmt := m, out := o } ∧
    b.eAvail ≤ s.weir.budget.eAvail ∧ b.bEff ≤ s.weir.budget.bEff := by
  unfold flyFault
  extract_lets src f
  obtain ⟨r, l, m, o, h⟩ := queueLog_shape 0x0D 0 cause false [] (flyDrop (s.setFly f))
  exact ⟨_, r, l, m, o, h, min_le_left _ _, min_le_left _ _⟩

theorem faultable_iff (s : State) : faultable s = true ↔ s.fly.st = .test ∨ s.fly.st = .sync ∨ s.fly.st = .run := by
  simp [faultable, or_assoc]

theorem faultable_congr {s u : State} (h : u.fly.st = s.fly.st) : faultable u = faultable s := by simp only [faultable, h]

/-- The windlass takes the speed, then judges the link and only then the speed (log 62). -/
theorem exec_flySpeedUpdate (enc bemf link peak : BitVec 16) (s : State) (hon : s.fly.st ≠ .off) :
    let b := if s.FLY_CFG1_BEMF_MIN ≤ bemf.toNat then bemf.toNat else 0
    let u := speedUsed s.fly.encFailed enc.toNat bemf.toNat s.FLY_CFG1_BEMF_MIN
    let v := s.setFly { s.fly with enc := enc.toNat, bemf := b, used := u, link := link.toNat, peak := peak.toNat }
    exec (.flySpeedUpdate enc bemf link peak) s =
      if faultable s = true ∧ s.FLY_CFG4_LINK_OV < link.toNat then .next (settle (flyFault 6 0xF v))
      else if s.fly.st = .run ∧ s.FLY_CFG1_OVERSPEED ≤ u then
        .next (settle (flyDrop (v.setFly { v.fly with
          st := .brake, dump := true, motoring := false, generating := false, release := false })))
      else .next (syncTurn v) := by
  intro b u v
  have hst : v.fly.st = s.fly.st := driven_st _
  have hover : (overLink v = true) ↔ faultable s = true ∧ s.FLY_CFG4_LINK_OV < link.toNat := by
    have hlink : v.fly.link = link.toNat := driven_link _
    rw [overLink, faultable_congr hst, hlink, Bool.and_eq_true, decide_eq_true_iff]
    rfl
  show execFlySpeedUpdate enc bemf link peak s = _
  refine (if_neg hon).trans ?_
  rw [← hst]
  exact if_congr hover rfl rfl

/-- Settles O40. -/
theorem windlassSpeedAndFaults : Obligations.WindlassSpeedAndFaults := by
  refine ⟨flyFault_shape, ?_, ?_, ?_, ?_, ?_, ?_⟩
  · intro enc bemf link peak s
    refine ⟨fun h => if_pos h, ?_⟩
    intro hon b u v high
    have hexec := exec_flySpeedUpdate enc bemf link peak s hon
    dsimp only at hexec
    rw [hexec]
    exact ⟨fun h => if_pos h, fun h hrun hfast => (if_neg h).trans (if_pos ⟨hrun, hfast⟩), fun h hslow =>
      (if_neg h).trans (if_neg (fun hboth => hslow.elim (fun hne => hne hboth.1) (fun hlt => absurd hboth.2 (not_le.mpr hlt))))⟩
  · intro s h
    exact ⟨fun hle => if_pos ⟨h, hle⟩, fun hlt => if_neg (fun hboth => absurd hboth.2 (not_le.mpr hlt)), if_pos h⟩
  · intro s
    refine ⟨fun h => ⟨if_neg (fun hboth => h hboth.1), if_neg h⟩, fun h => ?_, fun h => ?_⟩
    · have hf := (faultable_iff s).2 h
      exact ⟨hf, if_pos hf⟩
    · have hf : faultable s = false := by obtain h | h | h | h := h <;> simp [faultable, h]
      exact ⟨hf, if_neg (by simp [hf])⟩
  · intro a b c d s u l v
    have hst : u.fly.st = s.fly.st := driven_st _
    have hl : s.now :: lastHour u u.fly.shuts = l := by
      rw [show u.fly.shuts = s.fly.shuts from driven_shuts _]
      rfl
    have hexec : exec (.flyTempShutdown a b c d) s =
        if s.fly.st ≠ .run ∨ u.fly.temps.all (fun t => decide (t < tShut s)) then .next u
        else if 3 ≤ l.length then .next (settle (flyFault 5 0xF v)) else .next (settle (flyDrop (flySafe v))) := by
      show execFlyTempShutdown a b c d s = _
      simp only [v, ← hl, ← hst]
      rfl
    rw [hexec]
    refine ⟨fun h => if_pos (h.imp_right (fun hall => by simpa using hall)), fun hrun hhot => ?_⟩
    have hno : ¬ (s.fly.st ≠ .run ∨ u.fly.temps.all (fun t => decide (t < tShut s)) = true) := by
      rintro (h | h)
      · exact h hrun
      · obtain ⟨t, ht, hle⟩ := hhot
        exact absurd hle (not_le.mpr (by simpa using List.all_eq_true.mp h t ht))
    exact ⟨fun h => (if_neg hno).trans (if_pos h), fun h => (if_neg hno).trans (if_neg (by omega))⟩
  · intro s hon henc u v
    have hst : v.fly.st = s.fly.st := driven_st _
    have hbemf : v.fly.bemf = s.fly.bemf := driven_bemf _
    have hexec : exec (.speedDisagree) s = .next (settle (if s.fly.bemf < s.FLY_CFG1_BEMF_MIN ∧ faultable s = true then flyFault 7 0xF v else v)) := by
      show execSpeedDisagree s = _
      have hcond : (v.fly.bemf < s.FLY_CFG1_BEMF_MIN ∧ faultable v = true) ↔ (s.fly.bemf < s.FLY_CFG1_BEMF_MIN ∧ faultable s = true) := by
        rw [hbemf, faultable_congr hst]
      refine (if_neg (by simp [hon, henc])).trans ?_
      exact congrArg (fun t => Host.Outcome.next (settle t)) (if_congr hcond rfl rfl)
    rw [hexec]
    refine ⟨fun h => congrArg (fun t => Host.Outcome.next (settle t)) (if_neg ?_), fun hlow hf =>
      congrArg (fun t => Host.Outcome.next (settle t)) (if_pos ⟨hlow, hf⟩)⟩
    rintro ⟨hlow, hf⟩
    obtain h | h := h
    · omega
    · simp [h] at hf
  · intro s h
    exact if_pos h

end Sys2Proof.Proofs.WindlassFaults

/-! # The event log -/

namespace Sys2Proof.Proofs.EventLogs
open Sys2Proof Sys2Proof.Machine Sys2Proof.Safety

theorem eraseAhead_within {k : Nat} (t : Tbl LogCell) (h : k % sectorSlots ≠ 0) : eraseAhead k t = t := if_pos h

/-- The log after the oldest queued record was written at its slot. -/
def recordWritten (r : LogRec) (t : List LogRec) (s : State) : Log :=
  { s.log with
    slots := tset LogCell.erased (eraseAhead s.log.slot s.log.slots) s.log.slot (.good r), queue := t, head := some r.seq
    slot := (s.log.slot + 1) % logSlots }

/-- With nothing dropped, the write of a record is all that happens. -/
theorem exec_logRecordWrite {r : LogRec} {t : List LogRec} {s : State} (hq : s.log.queue = r :: t) (hd : s.log.dropped = 0) :
    exec .logRecordWrite s = .next (({ s with log := recordWritten r t s } : State).bump offLOG_CNT 63 32 1) := by
  show execLogRecordWrite s = _
  simp only [execLogRecordWrite, hq]
  exact congrArg Host.Outcome.next (if_pos (.inl hd))

theorem logCell_recordWritten (r : LogRec) (t : List LogRec) (s : State) :
    tget LogCell.erased (recordWritten r t s).slots s.log.slot = .good r ∧
      (s.log.slot % sectorSlots ≠ 0 → ∀ k, k ≠ s.log.slot → tget LogCell.erased (recordWritten r t s).slots k = s.logCell k) := by
  unfold recordWritten
  refine ⟨tget_tset_same LogCell.erased _ _ (.good r) nofun, fun hslot k hk => ?_⟩
  rw [tget_tset_other _ _ _ _ _ hk, eraseAhead_within _ hslot]
  rfl

theorem queueLog_log {s : State} (kind source detail : Nat) (first : Bool) (d : List Word) (h : s.log.queue.length < 256) :
    (queueLog kind source detail first d s).log = { s.log with
      queue := s.log.queue ++ [⟨s.log.nextSeq, kind, source, first, detail, s.now, d⟩], nextSeq := s.log.nextSeq + 1 } := by
  unfold queueLog
  rw [if_neg (not_le.mpr h)]
  dsimp only
  split
  · rw [show ∀ u, (raiseIrq 7 u).log = u.log from fun u => by simp]
    rfl
  · rfl

theorem readLog_idle {q : BitVec 32} {s : State} (h : (s.cmd kLog).done = true) : readLog q s = cmdTake kLog
    { s.setReg offLOG_RD_SEL (BitVec.ofNat 64 q.toNat) with log := { s.log with rd := [0, 0, 0, 0, 0, 0, 0, 0], reading := some q } } := by
  have hword : at' q.toNat 0 = BitVec.ofNat 64 q.toNat := by simp [at']
  unfold readLog
  rw [hword]
  exact if_pos h

theorem readLog_busy {q : BitVec 32} {s : State} (h : (s.cmd kLog).done = false) :
    readLog q s = cmdTake kLog { s with log := { s.log with rd := [0, 0, 0, 0, 0, 0, 0, 0] } } :=
  if_neg (ne_true_of_eq_false h)

/-- The state once the read of a record has been answered. -/
def readAnswered (s : State) : State := { s with log := { s.log with reading := none } }

section ReadDone

variable {q : BitVec 32} {s : State} (hreading : s.log.reading = some q)

include hreading

theorem exec_logReadDone_found {r : LogRec} (hr : findLog s q = some r) :
    exec .logReadDone s = .next (cmdEnd kLog 0 (if (s.cmd kLog).refused then readAnswered s
      else { s with log := { s.log with reading := none, rd := logWords r } })) := by
  show execLogReadDone s = _
  simp only [execLogReadDone, hreading]
  rw [show findLog { s with log := { s.log with reading := none } } q = some r from hr]
  rfl

theorem exec_logReadDone_absent (hr : findLog s q = none) :
    exec .logReadDone s = if tornAt s q then .next (cmdEnd kLog 2 ((readAnswered s).bump offLOG_CNT 15 0 1))
      else .next (cmdEnd kLog 1 (readAnswered s)) := by
  show execLogReadDone s = _
  simp only [execLogReadDone, hreading]
  rw [show findLog { s with log := { s.log with reading := none } } q = none from hr]
  rfl

end ReadDone

/-- Settles O43. -/
theorem eventLog : Obligations.EventLog := by
  refine ⟨?_, ?_, ?_, ?_, ?_, ?_, ?_⟩
  · intro r t s hq hd
    obtain ⟨hhere, helse⟩ := logCell_recordWritten r t s
    exact ⟨_, exec_logRecordWrite hq hd, rfl, rfl, hhere, helse⟩
  · intro s hq
    show execLogRecordWrite s = _
    simp only [execLogRecordWrite, hq]
  · intro kind source detail first d s
    exact ⟨fun h => if_pos h, queueLog_log kind source detail first d⟩
  · intro q s hclear hbar zero
    have hexec : exec (.logRead q) s = .next (readLog q s) := by
      show execLogRead q s = _
      exact (viaPort_clear _ _ hclear).trans (if_pos hbar)
    rw [hexec]
    exact ⟨fun h => congrArg _ (readLog_idle h), fun h => congrArg _ (readLog_busy h)⟩
  · intro q s hreading u
    refine ⟨fun r hr => ?_, fun hr ht => ?_, fun hr ht => ?_⟩
    · rw [exec_logReadDone_found hreading hr]
      exact ⟨fun h => congrArg (fun v => Host.Outcome.next (cmdEnd kLog 0 v)) (if_neg (ne_true_of_eq_false h)),
        fun h => congrArg (fun v => Host.Outcome.next (cmdEnd kLog 0 v)) (if_pos h)⟩
    · exact (exec_logReadDone_absent hreading hr).trans (if_pos ht)
    · exact (exec_logReadDone_absent hreading hr).trans (if_neg (ne_true_of_eq_false ht))
  · intro s hreading
    show execLogReadDone s = _
    simp only [execLogReadDone, hreading]
  · intro a te s
    exact ⟨fun h => if_pos h, fun h => if_neg (ne_true_of_eq_false h)⟩

end Sys2Proof.Proofs.EventLogs

/-! # The towpath's master -/

namespace Sys2Proof.Proofs.Towpath
open Sys2Proof Sys2Proof.Machine Sys2Proof.Safety

/-- A frame of `n` bytes whose last four are the check of the others is well formed (R299). -/
theorem frameOk_sealFrame (bs : List Byte) : frameOk (bs.length + 4) (sealFrame bs) = true := by
  have hlen : (sealFrame bs).length = bs.length + 4 := by
    rw [sealFrame, List.length_append]
    rfl
  have htake : (sealFrame bs).take (bs.length + 4 - 4) = bs := List.take_left
  rw [frameOk, htake, hlen, beq_self_eq_true, beq_self_eq_true]
  rfl

theorem frameOk_length {n : Nat} {f : List Byte} (h : frameOk n f = true) : f.length = n :=
  beq_iff_eq.mp (Bool.and_eq_true_iff.mp h).1

theorem beaconFrame_ok (s : State) : frameOk 16 (beaconFrame s) = true := frameOk_sealFrame _

theorem replyFrame_ok (s : State) : frameOk 8 (replyFrame s) = true := frameOk_sealFrame _

theorem countMissed_out (s : State) : (countMissed s).out = s.out := by
  unfold countMissed
  refine forEach_keeps (P := fun u => u.out = s.out) _ _ (fun a u hu => ?_) s rfl
  dsimp only
  split <;> exact hu

theorem towAdvance_out (s : State) : (towAdvance s).out = s.out := by
  unfold towAdvance
  split
  · rfl
  · split <;> rfl

theorem exec_beaconSend {s : State} (hm : master s = true) (hdue : ∀ t, s.tow.tBeacon = some t → t + 80 ≤ s.now) :
    let u := towAdvance (countMissed s)
    exec .beaconSend s = .next { u with
      out := s.out ++ [.frame (beaconFrame u)]
      tow := { u.tow with cycle := u.tow.cycle + 1, repeats := u.tow.repeats - 1, tBeacon := some s.now } } := by
  intro u
  have hout : u.out = s.out := (towAdvance_out _).trans (countMissed_out s)
  have hnow : u.now = s.now := by simp [u]
  rw [← hout, ← hnow]
  show execBeaconSend s = _
  unfold execBeaconSend
  refine if_neg ?_
  rw [hm]
  rcases ht : s.tow.tBeacon with _ | t
  · simp
  · simp [hdue t ht]

/-- Settles O44. -/
theorem towpathMaster : Obligations.TowpathMaster := by
  refine ⟨?_, ?_, ?_, ?_, ?_, ?_, ?_, ?_, ?_⟩
  · intro s hm hdue u
    exact ⟨_, exec_beaconSend hm hdue, rfl, rfl⟩
  · intro t s ht hlt
    refine if_pos (.inr ?_)
    rw [ht]
    simp [hlt]
  · exact fun s => ⟨frameOk_length (beaconFrame_ok s), beaconFrame_ok s⟩
  · exact fun s => ⟨frameOk_length (replyFrame_ok s), replyFrame_ok s⟩
  · intro a f s hm ha
    have hgo : ¬ ((!master s) = true ∨ a.val = 0) := by simp [hm, ha]
    refine ⟨fun hbad => (if_neg hgo).trans (if_pos (by simp [hbad])), fun hok hne => ?_, fun hok heq => ?_⟩
    · exact (if_neg hgo).trans ((if_neg (by simp [hok])).trans (if_pos hne))
    · exact (if_neg hgo).trans ((if_neg (by simp [hok])).trans (if_neg (not_not.mpr heq)))
  · intro a s hm m
    refine ⟨fun hmem hmiss => if_neg (by simp [hm, hmem, hmiss]), fun h => if_pos (.inr ?_)⟩
    exact h.imp_left (fun h => by rw [h]; rfl)
  · intro a s hm ha m
    refine ⟨fun hst hstag hdue => if_pos ⟨hm, ha, hst, hstag, hdue⟩, fun h => if_neg ?_⟩
    rintro ⟨-, -, -, hstag, hdue⟩
    exact h.elim (fun hne => hne hstag) (fun hlt => absurd hdue (not_le.mpr hlt))
  · intro k m s hclear hbar c n hc
    have hexec : exec c s = towCommand n k m s := by
      simp only [List.mem_cons, List.not_mem_nil, or_false, Prod.mk.injEq] at hc
      obtain ⟨rfl, rfl⟩ | ⟨rfl, rfl⟩ | ⟨rfl, rfl⟩ := hc
      · show execTowSendStart k m s = _
        exact viaPort_clear _ _ hclear
      · show execTowSendSluice k m s = _
        exact viaPort_clear _ _ hclear
      · show execTowSendClear k m s = _
        exact viaPort_clear _ _ hclear
    rw [hexec]
    refine ⟨fun hk hm => if_pos (by simp [hbar, hk, hm]), fun h => if_neg ?_⟩
    rw [Bool.and_eq_true, Bool.and_eq_true, beq_iff_eq]
    rintro ⟨⟨-, hk⟩, hm⟩
    exact h.elim (fun hne => hne hk) (fun hno => ne_true_of_eq_false hno hm)
  · intro n m s sent
    refine ⟨fun h => congrArg (logRec 0x0F m.toNat 2 []) (if_pos h), fun hn hr => congrArg (logRec 0x0F m.toNat 2 []) (if_neg ?_)⟩
    exact fun h => h.elim hn hr

end Sys2Proof.Proofs.Towpath

/-! # Commands as writes of their control words -/

namespace Sys2Proof.Proofs.ControlWords
open Sys2Proof Sys2Proof.Machine Sys2Proof.Safety Sys2Proof.Proofs.RegisterReads

/-- A control word: data in its upper half, 12 bits at 16, the key at 8 and the low byte (R372). -/
def controlWord (hi mid : Nat) (k : Byte) (low : Nat) : Word := BitVec.ofNat 64 (hi * 2 ^ 48 + mid * 2 ^ 16 + k.toNat * 2 ^ 8 + low)

section Fields

variable {hi mid low : Nat} {k : Byte} (hhi : hi < 2 ^ 16) (hmid : mid < 2 ^ 12) (hlow : low < 2 ^ 8)

include hhi hmid hlow

theorem controlWord_toNat : (controlWord hi mid k low).toNat = hi * 2 ^ 48 + mid * 2 ^ 16 + k.toNat * 2 ^ 8 + low := by
  have hk := k.isLt
  rw [controlWord, BitVec.toNat_ofNat]
  exact Nat.mod_eq_of_lt (by omega)

theorem fld_key : BitVec.ofNat 8 (fld (controlWord hi mid k low) 15 8) = k := by
  have hk := k.isLt
  refine BitVec.eq_of_toNat_eq ?_
  rw [fld, controlWord_toNat hhi hmid hlow, BitVec.toNat_ofNat]
  omega

theorem fld_op : fld (controlWord hi mid k low) 3 0 = low % 16 := by
  rw [fld, controlWord_toNat hhi hmid hlow]
  omega

theorem fld_slot : fld (controlWord hi mid k low) 4 4 = low / 16 % 2 := by
  rw [fld, controlWord_toNat hhi hmid hlow]
  omega

theorem fld_gaugeOp : fld (controlWord hi mid k low) 7 4 = low / 16 := by
  rw [fld, controlWord_toNat hhi hmid hlow]
  omega

theorem fld_gaugeString : fld (controlWord hi mid k low) 2 0 = low % 8 := by
  rw [fld, controlWord_toNat hhi hmid hlow]
  omega

theorem fld_mode : fld (controlWord hi mid k low) 1 0 = low % 4 := by
  rw [fld, controlWord_toNat hhi hmid hlow]
  omega

theorem fld_source : fld (controlWord hi mid k low) 27 16 = mid := by
  have hk := k.isLt
  rw [fld, controlWord_toNat hhi hmid hlow]
  omega

theorem fld_epoch : fld (controlWord hi mid k low) 63 48 = hi := by
  have hk := k.isLt
  rw [fld, controlWord_toNat hhi hmid hlow]
  omega

end Fields

/-- An access of the control register has an effect: its block is on, and for CFG_CTRL no sluice has been triggered (R10, R218). -/
def Reaches (off : Nat) (s : State) : Prop := (coreBlock off = true → s.core = true) ∧ (off = offCFG_CTRL → s.sluiced = false)

/-- An 8-byte register below the charter window with a field that only a write of the whole reaches (R372). -/
def ControlRegister (off : Nat) : Prop := off % 8 = 0 ∧ off < offBERTH_SEL ∧ (regAt off).any (fun r => r.wo != 0) = true

theorem controlRegister_fixed : ∀ off ∈ [offGLB_CTRL, offCFG_CTRL, offSEQ_CTRL, offKEEP_CTRL, offGAUGE_CTRL, offLOCK_CTRL, offCHART_CTRL],
    ControlRegister off := by
  simp only [ControlRegister]
  decide +kernel

theorem controlRegister_port : ∀ p : Fin 256, ControlRegister (offPORT_CTRL + 0x1000 * p.val) := by
  simp only [ControlRegister]
  decide +kernel

/-- The command `c` and the control word `w` do the same thing, `f`, as the command of their register, with its key `k`. -/
structure ActsAs (c : Instr) (k right : Byte) (reg off : Nat) (w : Word) (f : State → State) : Prop where
  register : ControlRegister off
  key : BitVec.ofNat 8 (fld w 15 8) = k
  accepted : ∀ s, Clear s → s.bar0 = true → k = right → Reaches off s → exec c s = .next (settle (cmdStart reg f s))
  ignored : ∀ s, Clear s → k ≠ right ∨ ¬ Reaches off s → exec c s = .next s
  control : ∀ s, Reaches off s → Machine.control off w s = some (right.toNat, reg, f)

section Registers

variable {c : Instr} {k : Byte} {w : Word} {f : State → State} (hkey : BitVec.ofNat 8 (fld w 15 8) = k)

include hkey

/-- A command behind a guard on the state and its key. -/
theorem actsAs_of_guard {right : Byte} {reg off : Nat} {g : State → Bool} (hreg : ControlRegister off)
    (hexec : ∀ s, exec c s = viaPort c false (fun s => if g s then .next (settle (cmdStart reg f s)) else .next s) s)
    (hg : ∀ s, s.bar0 = true → k = right → Reaches off s → g s = true) (hno : ∀ s, k ≠ right ∨ ¬ Reaches off s → g s = false)
    (hcontrol : ∀ s, Reaches off s → Machine.control off w s = some (right.toNat, reg, f)) : ActsAs c k right reg off w f where
  register := hreg
  key := hkey
  accepted s hclear hbar hk hr := by
    rw [hexec, viaPort_clear _ _ hclear]
    exact if_pos (hg s hbar hk hr)
  ignored s hclear h := by
    rw [hexec, viaPort_clear _ _ hclear]
    exact if_neg (ne_true_of_eq_false (hno s h))
  control := hcontrol

/-- Outside the core's blocks and CFG_CTRL every access of BAR0 reaches. -/
theorem actsAs_always {right : Byte} {reg off : Nat} (hreg : ControlRegister off) (hcore : coreBlock off = false) (hcfg : off ≠ offCFG_CTRL)
    (hexec : ∀ s, exec c s = viaPort c false (fun s => if s.bar0 && k == right then .next (settle (cmdStart reg f s)) else .next s) s)
    (hcontrol : ∀ s, Machine.control off w s = some (right.toNat, reg, f)) : ActsAs c k right reg off w f := by
  have hreach : ∀ s, Reaches off s := fun s => ⟨fun h => absurd (hcore.symm.trans h) (by decide), fun h => absurd h hcfg⟩
  refine actsAs_of_guard hkey (g := fun s => s.bar0 && k == right) hreg hexec (fun s hbar hk _ => by simp [hbar, hk]) (fun s h => ?_)
    (fun s _ => hcontrol s)
  obtain hk | hr := h
  · simp only [beq_eq_false_iff_ne.mpr hk, Bool.and_false]
  · exact absurd (hreach s) hr

/-- In a core block the core must be on. -/
theorem actsAs_core {right : Byte} {reg off : Nat} (hreg : ControlRegister off) (hcore : coreBlock off = true) (hcfg : off ≠ offCFG_CTRL)
    (hexec : ∀ s, exec c s = viaPort c false (fun s => if coreReach s && k == right then .next (settle (cmdStart reg f s)) else .next s) s)
    (hcontrol : ∀ s, Machine.control off w s = some (right.toNat, reg, f)) : ActsAs c k right reg off w f := by
  refine actsAs_of_guard hkey (g := fun s => coreReach s && k == right) hreg hexec
    (fun s hbar hk hr => by simp [coreReach, hbar, hk, hr.1 hcore]) (fun s h => ?_) (fun s _ => hcontrol s)
  obtain hk | hr := h
  · simp only [beq_eq_false_iff_ne.mpr hk, Bool.and_false]
  · have hoff : s.core = false := by
      rw [Bool.eq_false_iff]
      exact fun hon => hr ⟨fun _ => hon, fun h => absurd h hcfg⟩
    simp [coreReach, hoff]

/-- CFG_CTRL is dead after a sluice trigger. -/
theorem actsAs_cfg (hexec : ∀ s, exec c s = viaPort c false (fun s => cfgCommand k f s) s) (hf : cfgOp (fld w 3 0) (fld w 4 4) = f) :
    ActsAs c k 0xB7 kCfg offCFG_CTRL w f := by
  refine actsAs_of_guard hkey (g := fun s => s.bar0 && k == 0xB7 && !s.sluiced) (controlRegister_fixed _ (by simp)) hexec
    (fun s hbar hk hr => by simp [hbar, hk, hr.2 rfl]) (fun s h => ?_) (fun s hr => ?_)
  · obtain hk | hr := h
    · simp only [beq_eq_false_iff_ne.mpr hk, Bool.and_false, Bool.false_and]
    · have hs : s.sluiced = true := by
        rw [← Bool.not_eq_false]
        exact fun hno => hr ⟨fun h => absurd h (by decide), fun _ => hno⟩
      simp [hs]
  · rw [← hf]
    exact if_neg (ne_true_of_eq_false (hr.2 rfl))

theorem actsAs_seq (hexec : ∀ s, exec c s = viaPort c false (fun s => seqCommand k f s) s) (hf : seqOp (fld w 3 0) = f) :
    ActsAs c k 0x9D kSeq offSEQ_CTRL w f :=
  actsAs_always hkey (controlRegister_fixed _ (by simp)) (by decide) (by decide) hexec (fun _ => by rw [← hf]; rfl)

theorem actsAs_keep (hexec : ∀ s, exec c s = viaPort c false (fun s => keepCommand k f s) s) (hf : keepOp (fld w 3 0) (fld w 27 16) = f) :
    ActsAs c k 0x4B kKeep offKEEP_CTRL w f :=
  actsAs_always hkey (controlRegister_fixed _ (by simp)) (by decide) (by decide) hexec (fun _ => by rw [← hf]; rfl)

theorem actsAs_gauge (hexec : ∀ s, exec c s = viaPort c false (fun s => gaugeCommand k f s) s)
    (hf : gaugeOp (fld w 7 4) (fld w 2 0) = f) : ActsAs c k 0x6B kGauge offGAUGE_CTRL w f :=
  actsAs_always hkey (controlRegister_fixed _ (by simp)) (by decide) (by decide) hexec (fun _ => by rw [← hf]; rfl)

theorem actsAs_chart (hexec : ∀ s, exec c s = viaPort c false (fun s => chartCommand k f s) s) (hf : chartOp (fld w 3 0) = f) :
    ActsAs c k 0x8E kChart offCHART_CTRL w f :=
  actsAs_core hkey (controlRegister_fixed _ (by simp)) (by decide) (by decide) hexec (fun _ => by rw [← hf]; rfl)

end Registers

theorem control_port (p : Fin 256) (w : Word) (s : State) :
    Machine.control (offPORT_CTRL + 0x1000 * p.val) w s = some (0x2D, kPort p.val, portOp p.val (fld w 3 0)) := by
  have hp := p.isLt
  have hport : offPORT_STATUS ≤ offPORT_CTRL + 0x1000 * p.val ∧ offPORT_CTRL + 0x1000 * p.val < offBERTH_SEL ∧
      (offPORT_CTRL + 0x1000 * p.val) % 0x1000 = 8 := by
    simp only [offPORT_STATUS, offPORT_CTRL, offBERTH_SEL]
    omega
  have hindex : (offPORT_CTRL + 0x1000 * p.val - offPORT_STATUS) / 0x1000 = p.val := by
    simp only [offPORT_STATUS, offPORT_CTRL]
    omega
  have hne : ∀ o < offPORT_STATUS, offPORT_CTRL + 0x1000 * p.val ≠ o := fun o ho => by omega
  unfold Machine.control
  rw [if_neg (hne _ (by decide)), if_neg (hne _ (by decide)), if_neg (hne _ (by decide)), if_neg (hne _ (by decide)),
    if_neg (hne _ (by decide)), if_neg (hne _ (by decide)), if_neg (hne _ (by decide)), if_pos hport, hindex]

theorem coreBlock_port : ∀ p : Fin 256, coreBlock (offPORT_CTRL + 0x1000 * p.val) = true := by
  decide +kernel

theorem actsAs_glbReset (k : Byte) : ActsAs (.glbReset k) k 0xE1 kGlb offGLB_CTRL (controlWord 0 0 k 1) doReset := by
  have hop : fld (controlWord 0 0 k 1) 3 0 = 1 := fld_op (by decide) (by decide) (by decide)
  refine actsAs_always (fld_key (by decide) (by decide) (by decide)) (controlRegister_fixed _ (by simp)) (by decide) (by decide)
    (fun _ => rfl) (fun s => ?_)
  have hcontrol : Machine.control offGLB_CTRL (controlWord 0 0 k 1) s = some (0xE1, kGlb, glbOp (fld (controlWord 0 0 k 1) 3 0)) := rfl
  rw [hcontrol, hop]
  rfl

theorem actsAs_lockCycle (k : Byte) (m : BitVec 2) (e : BitVec 16) :
    ActsAs (.lockCycle k m e) k 0x1C kLock offLOCK_CTRL (controlWord e.toNat 0 k m.toNat) (doLockCycle m.toNat e) := by
  have hm : m.toNat < 2 ^ 8 := m.isLt.trans (by decide)
  have hmode : fld (controlWord e.toNat 0 k m.toNat) 1 0 = m.toNat :=
    (fld_mode e.isLt (by decide) hm).trans (Nat.mod_eq_of_lt m.isLt)
  have hepoch : BitVec.ofNat 16 (fld (controlWord e.toNat 0 k m.toNat) 63 48) = e := by
    rw [fld_epoch e.isLt (by decide) hm, BitVec.ofNat_toNat, BitVec.setWidth_eq]
  refine actsAs_core (fld_key e.isLt (by decide) hm) (controlRegister_fixed _ (by simp)) (by decide) (by decide) (fun _ => rfl) (fun s => ?_)
  have hcontrol : Machine.control offLOCK_CTRL (controlWord e.toNat 0 k m.toNat) s = some (0x1C, kLock,
      doLockCycle (fld (controlWord e.toNat 0 k m.toNat) 1 0) (BitVec.ofNat 16 (fld (controlWord e.toNat 0 k m.toNat) 63 48))) := rfl
  rw [hcontrol, hmode, hepoch]
  rfl

theorem actsAs_restore (k : Byte) (src : BitVec 12) :
    ActsAs (.restore k src) k 0x4B kKeep offKEEP_CTRL (controlWord 0 src.toNat k 2) (doRestore src.toNat) :=
  actsAs_keep (fld_key (by decide) src.isLt (by decide)) (fun _ => rfl) (by
    rw [fld_op (by decide) src.isLt (by decide), fld_source (by decide) src.isLt (by decide)]
    rfl)

theorem actsAs_portRetire (k : Byte) (p : Fin 256) :
    ActsAs (.portRetire k p) k 0x2D (kPort p.val) (offPORT_CTRL + 0x1000 * p.val) (controlWord 0 0 k 1) (doPortRetire p.val) := by
  have hop : fld (controlWord 0 0 k 1) 3 0 = 1 := fld_op (by decide) (by decide) (by decide)
  have hcfg : offPORT_CTRL + 0x1000 * p.val ≠ offCFG_CTRL := by simp only [offPORT_CTRL, offCFG_CTRL]; omega
  refine actsAs_core (fld_key (by decide) (by decide) (by decide)) (controlRegister_port p) (coreBlock_port p) hcfg (fun _ => rfl) (fun s => ?_)
  rw [control_port, hop]
  rfl

/-- Each of the commands is what its control word asks for. -/
theorem actsAs_controlWrite {c : Instr} {k right : Byte} {reg off : Nat} {w : Word} (h : controlWrite c = some (k, right, reg, off, w)) :
    ∃ f, ActsAs c k right reg off w f := by
  have hkey : ∀ low < 2 ^ 8, BitVec.ofNat 8 (fld (controlWord 0 0 k low) 15 8) = k := fun _ h => fld_key (by decide) (by decide) h
  have hop : ∀ low < 2 ^ 8, fld (controlWord 0 0 k low) 3 0 = low % 16 := fun _ h => fld_op (by decide) (by decide) h
  have hslot : ∀ low < 2 ^ 8, fld (controlWord 0 0 k low) 4 4 = low / 16 % 2 := fun _ h => fld_slot (by decide) (by decide) h
  have hgauge : ∀ low < 2 ^ 8, fld (controlWord 0 0 k low) 7 4 = low / 16 := fun _ h => fld_gaugeOp (by decide) (by decide) h
  have hstr : ∀ low < 2 ^ 8, fld (controlWord 0 0 k low) 2 0 = low % 8 := fun _ h => fld_gaugeString (by decide) (by decide) h
  have hcfg : ∀ (n : Bool) (op : Nat), op < 16 → cfgOp (fld (controlWord 0 0 k (n.toNat * 16 + op)) 3 0)
      (fld (controlWord 0 0 k (n.toNat * 16 + op)) 4 4) = cfgOp op n.toNat := fun n op ho => by
    have hn := n.toNat_lt
    rw [hop _ (by omega), hslot _ (by omega), show (n.toNat * 16 + op) % 16 = op by omega,
      show (n.toNat * 16 + op) / 16 % 2 = n.toNat by omega]
  have hgop : ∀ op i : Nat, op < 16 → i < 8 → gaugeOp (fld (controlWord 0 0 k (op * 16 + i)) 7 4)
      (fld (controlWord 0 0 k (op * 16 + i)) 2 0) = gaugeOp op i := fun op i ho hi => by
    rw [hgauge _ (by omega), hstr _ (by omega), show (op * 16 + i) / 16 = op by omega, show (op * 16 + i) % 8 = i by omega]
  have hkeep : ∀ op < 16, keepOp (fld (controlWord 0 0 k op) 3 0) (fld (controlWord 0 0 k op) 27 16) = keepOp op 0 := fun op ho => by
    rw [hop _ (by omega), fld_source (by decide) (by decide) (by omega), Nat.mod_eq_of_lt ho]
  unfold controlWrite at h
  split at h
  all_goals cases h
  case h_1 => exact ⟨_, actsAs_glbReset k⟩
  case h_2 => exact ⟨doPush, actsAs_cfg (hkey 1 (by decide)) (fun _ => rfl) (hcfg false 1 (by decide))⟩
  case h_3 n => exact ⟨doLoadSlot n.toNat, actsAs_cfg (hkey _ (by have := n.toNat_lt; omega)) (fun _ => rfl) (hcfg n 2 (by decide))⟩
  case h_4 n => exact ⟨doWriteSlot n.toNat, actsAs_cfg (hkey _ (by have := n.toNat_lt; omega)) (fun _ => rfl) (hcfg n 3 (by decide))⟩
  case h_5 n => exact ⟨doSetTrial n.toNat, actsAs_cfg (hkey _ (by have := n.toNat_lt; omega)) (fun _ => rfl) (hcfg n 4 (by decide))⟩
  case h_6 => exact ⟨doClear, actsAs_seq (hkey 1 (by decide)) (fun _ => rfl) (congrArg seqOp (hop 1 (by decide)))⟩
  case h_7 => exact ⟨doRunService, actsAs_seq (hkey 2 (by decide)) (fun _ => rfl) (congrArg seqOp (hop 2 (by decide)))⟩
  case h_8 => exact ⟨doAckAlive, actsAs_keep (hkey 1 (by decide)) (fun _ => rfl) (hkeep 1 (by decide))⟩
  case h_9 src => exact ⟨_, actsAs_restore k src⟩
  case h_10 => exact ⟨doRestoreAll, actsAs_keep (hkey 3 (by decide)) (fun _ => rfl) (hkeep 3 (by decide))⟩
  case h_11 => exact ⟨doAckWarn, actsAs_keep (hkey 4 (by decide)) (fun _ => rfl) (hkeep 4 (by decide))⟩
  case h_12 => exact ⟨doLearnAbort, actsAs_gauge (hkey 32 (by decide)) (fun _ => rfl) (hgop 2 0 (by decide) (by decide))⟩
  case h_13 i => exact ⟨doAuth i.val, actsAs_gauge (hkey _ (by omega)) (fun _ => rfl) (hgop 3 i.val (by decide) i.isLt)⟩
  case h_14 => exact ⟨doCapTest, actsAs_gauge (hkey 64 (by decide)) (fun _ => rfl) (hgop 4 0 (by decide) (by decide))⟩
  case h_15 i => exact ⟨doForget i.val, actsAs_gauge (hkey _ (by omega)) (fun _ => rfl) (hgop 5 i.val (by decide) i.isLt)⟩
  case h_16 m e => exact ⟨_, actsAs_lockCycle k m e⟩
  case h_17 => exact ⟨doChartEnable, actsAs_chart (hkey 1 (by decide)) (fun _ => rfl) (congrArg chartOp (hop 1 (by decide)))⟩
  case h_18 => exact ⟨doChartDisable, actsAs_chart (hkey 2 (by decide)) (fun _ => rfl) (congrArg chartOp (hop 2 (by decide)))⟩
  case h_19 p => exact ⟨_, actsAs_portRetire k p⟩

/-- An 8-byte write of a control register is its keyed write, where its block is on (R370, R372). -/
theorem exec_controlRegister {off : Nat} (hreg : ControlRegister off) (w : Word) {s : State} (hclear : Clear s) (hbar : s.bar0 = true) :
    exec (.registerWrite (BitVec.ofNat 26 off) 8 w) s = .next (settle (if coreBlock off && !s.core then s else keyWrite off w s)) := by
  obtain ⟨halign, hlow, hwo⟩ := hreg
  obtain ⟨hup, hawake⟩ := (bar0_eq_true_iff s).1 hbar
  have hlow' : off < 0x200000 := hlow
  have hoff : (BitVec.ofNat 26 off).toNat = off := by
    rw [BitVec.toNat_ofNat]
    exact Nat.mod_eq_of_lt (by omega)
  have hround : off / 8 * 8 = off := by omega
  obtain ⟨r, hr, hrwo⟩ : ∃ r, regAt off = some r ∧ r.wo ≠ 0 := by
    rcases hreg : regAt off with _ | r
    · rw [hreg] at hwo
      cases hwo
    · rw [hreg] at hwo
      exact ⟨r, rfl, bne_iff_ne.mp hwo⟩
  have hcharter : charterOff off = false := by
    rw [charterOff, hround]
    simp [not_le.mpr hlow]
  have hwrite : mgmtWrite off 8 w s = if coreBlock off && !s.core then s else keyWrite off w s := by
    unfold mgmtWrite
    rw [if_neg (by simp [hup]), if_neg (by simp [hawake, accessOk, halign])]
    unfold regWrite
    dsimp only
    rw [hround, if_neg (by omega), hr]
    simp only [if_neg (not_le.mpr hlow), if_pos hrwo, if_true]
  show execRegisterWrite (BitVec.ofNat 26 off) 8 w s = _
  unfold execRegisterWrite
  rw [hoff, hcharter, viaPort_clear _ _ hclear, show (8 : BitVec 4).toNat = 8 from rfl, hwrite]

/-- CFG_CTRL takes no write after a sluice trigger (R218). -/
theorem keyWrite_cfg_sluiced (w : Word) {s : State} (h : s.sluiced = true) : keyWrite offCFG_CTRL w s = s := by
  have hcontrol : Machine.control offCFG_CTRL w s = none := if_pos h
  unfold keyWrite
  simp only [hcontrol]
  rfl

/-- A command refused while its register's one runs (R374). -/
theorem cmd_cmdTake_busy {reg : Nat} {s : State} (h : (s.cmd reg).done = false) :
    cmdTake reg s = s.setCmd reg { s.cmd reg with ticket := (s.cmd reg).ticket + 1, refused := true } ∧
      (cmdTake reg s).cmd reg = { s.cmd reg with ticket := (s.cmd reg).ticket + 1, refused := true } := by
  have htake : cmdTake reg s = s.setCmd reg { s.cmd reg with ticket := (s.cmd reg).ticket + 1, refused := true } :=
    if_neg (ne_true_of_eq_false h)
  refine ⟨htake, ?_⟩
  rw [htake]
  refine tget_tset_same _ _ _ _ (fun e => ?_)
  have hd : (s.cmd reg).done = true := congrArg CmdSt.done e
  exact ne_true_of_eq_false h hd

/-- Settles O57. -/
theorem controlRegisters : Obligations.ControlRegisters := by
  intro c k right reg off w s hset hclear hbar hc
  obtain ⟨f, hreg, hkey, haccepted, hignored, hcontrol⟩ := actsAs_controlWrite hc
  rw [exec_controlRegister hreg w hclear hbar]
  refine ⟨?_, fun hk => hignored s hclear (.inl hk), fun hk hbusy hcore hsluice => ⟨?_, (cmd_cmdTake_busy hbusy).2⟩⟩
  · by_cases hr : Reaches off s
    · have hon : ¬ ((coreBlock off && !s.core) = true) := by
        rw [Bool.and_eq_true]
        rintro ⟨hblock, hcore⟩
        simp [hr.1 hblock] at hcore
      have hwrite : keyWrite off w s = if k.toNat = right.toNat then cmdStart reg f s else s := by
        unfold keyWrite
        simp only [hcontrol s hr, hkey]
      rw [if_neg hon, hwrite]
      by_cases hk : k = right
      · rw [if_pos (congrArg BitVec.toNat hk), haccepted s hclear hbar hk hr]
      · rw [if_neg (mt BitVec.eq_of_toNat_eq hk), hignored s hclear (.inl hk), settle_nil hset]
    · rw [hignored s hclear (.inr hr)]
      by_cases hblock : coreBlock off = true ∧ s.core = false
      · rw [if_pos (by simp [hblock.1, hblock.2]), settle_nil hset]
      · obtain ⟨rfl, hsluice⟩ : off = offCFG_CTRL ∧ s.sluiced = true := by
          by_contra hno
          refine hr ⟨fun h => ?_, fun h => ?_⟩
          · rw [← Bool.not_eq_false]
            exact fun hcore => hblock ⟨h, hcore⟩
          · rw [← Bool.not_eq_true]
            exact fun hs => hno ⟨h, hs⟩
        rw [if_neg (by simp [show coreBlock offCFG_CTRL = false by decide]), keyWrite_cfg_sluiced w hsluice, settle_nil hset]
  · rw [haccepted s hclear hbar hk ⟨fun _ => hcore, fun _ => hsluice⟩, cmdStart_busy hbusy, (cmd_cmdTake_busy hbusy).1]
    exact congrArg _ (settle_nil hset)

end Sys2Proof.Proofs.ControlWords

/-! # The key engine's results -/

namespace Sys2Proof.Proofs.KeyEngineResults
open Sys2Proof Sys2Proof.Machine Sys2Proof.Safety

section Done

variable {o : POp} {s : State} (hcur : s.pke.cur = some o)

include hcur

/-- An operation takes its time whatever its operands are (R387). -/
theorem exec_pkeOpDone_early (h : s.now < o.tStart + opTime o.op) : exec .pkeOpDone s = .next s := by
  show execPkeOpDone s = _
  simp only [execPkeOpDone, hcur, if_pos h]

/-- At its time it leaves what its user takes from it, and the next one starts (R388). -/
theorem exec_pkeOpDone (h : o.tStart + opTime o.op ≤ s.now) :
    let u := { s with pke := { s.pke with cur := none } }
    (o.who = .rack → exec .pkeOpDone s = .next (settle (pkeStart (rackOutcome o u)))) ∧
    (o.who = .gauge → exec .pkeOpDone s = .next (settle (pkeStart (gaugeOutcome o u)))) ∧
    (o.who = .loader → exec .pkeOpDone s = .next (settle (pkeStart u))) := by
  have hdue : ¬ s.now < o.tStart + opTime o.op := not_lt.mpr h
  refine ⟨fun hw => ?_, fun hw => ?_, fun hw => ?_⟩
  all_goals
    show execPkeOpDone s = _
    simp only [execPkeOpDone, hcur, if_neg hdue, hw, State.setPke]

end Done

/-- A result taken down: DONE, the ticket of the newest write, the status and the words (R389). -/
theorem pkeResult_pke (status : Nat) (valid : Bool) (rx ry t : Nat) (s : State) :
    (pkeResult status valid rx ry t s).pke = { s.pke with
      rDone := true, rTicket := s.pke.issue, rStatus := status, rValid := valid, rx := rx, ry := ry, rTime := t } := rfl

theorem pkeResult_free (status : Nat) (valid : Bool) (rx ry t : Nat) (s : State) : (pkeResult status valid rx ry t s).free = s.free := rfl

theorem rackOutcome_mul {o : POp} {s : State} (hop : o.op = 1) (hgen : o.gen = false) :
    rackOutcome o s =
      (let st := mulStatus (operand s 0) (operand s 1) (operand s 2)
       let q := if st = 0 then (curveMul (operand s 0) (operand s 1) (operand s 2)).getD (0, 0) else (0, 0)
       pkeResult st false q.1 q.2 0 s) := by
  simp only [rackOutcome, hop, hgen, Bool.false_eq_true, if_false]

/-- A coordinate not below p fails first (R390). -/
theorem mulStatus_outside {k x y : Nat} (h : p256p ≤ x ∨ p256p ≤ y) : mulStatus k x y = 2 := if_pos h

theorem mulStatus_valid {k x y : Nat} (hx : x < p256p) (hy : y < p256p) (hcurve : onCurve x y = true) (hk : 0 < k) (hkn : k < p256n) :
    mulStatus k x y = 0 := by
  unfold mulStatus
  rw [if_neg (not_or.mpr ⟨not_le.mpr hx, not_le.mpr hy⟩), hcurve, if_neg (by decide), if_neg hk.ne', if_neg (not_le.mpr hkn)]

/-- While the entropy test fails, ATTEST and RANDOM end without a draw (R394). -/
theorem rackOutcome_failing {o : POp} {s : State} (hop : o.op = 3 ∨ o.op = 4) (hfail : s.pke.failing = true) :
    ∃ t, rackOutcome o s = pkeResult 7 false 0 0 t s := by
  obtain hop | hop := hop
  · exact ⟨o.tStart, by simp only [rackOutcome, hop, if_pos hfail]⟩
  · exact ⟨0, by simp only [rackOutcome, hop, if_pos hfail]⟩

/-- Settles O59. -/
theorem keyEngineResults : Obligations.KeyEngineResults := by
  refine ⟨?_, ⟨rfl, rfl, rfl, rfl⟩, ?_, ?_, ?_, ?_⟩
  · intro o s hcur u
    exact ⟨exec_pkeOpDone_early hcur, exec_pkeOpDone hcur⟩
  · intro s hcur
    show execPkeOpDone s = _
    simp only [execPkeOpDone, hcur]
  · intro o s hwho hop hgen k x y
    rw [rackOutcome_mul hop hgen]
    dsimp only
    rw [pkeResult_pke]
    refine ⟨rfl, rfl, fun hout => ?_, fun hx hy hcurve hk hkn => ?_⟩
    · have hst : mulStatus k x y = 2 := mulStatus_outside hout
      rw [hst]
      exact ⟨rfl, rfl, rfl⟩
    · have hst : mulStatus k x y = 0 := mulStatus_valid hx hy hcurve hk hkn
      rw [hst]
      refine ⟨rfl, fun a b hab => ?_⟩
      rw [hab]
      exact ⟨rfl, rfl⟩
  · intro o s hop hfail
    obtain ⟨t, ht⟩ := rackOutcome_failing hop hfail
    rw [ht, pkeResult_pke, pkeResult_free]
    exact ⟨rfl, rfl, rfl, rfl, rfl⟩
  · intro s
    refine ⟨fun hcore => if_neg (by simp [hcore]), fun hcore hfail => ?_, fun h => if_pos ?_, fun hcore => if_pos (by simp [hcore])⟩
    · exact ⟨_, if_neg (by simp [hcore, hfail]), rfl, rfl, rfl, rfl⟩
    · obtain h | h := h <;> simp [h]

end Sys2Proof.Proofs.KeyEngineResults

/-! # A failed completion write -/

namespace Sys2Proof.Proofs.CompletionFails
open Sys2Proof Sys2Proof.Machine Sys2Proof.Safety

/-- A FETCH of sequence 1 in berth 5. -/
def waitingDesc : Desc :=
  let d : Desc := ⟨0x0000000900040003, 64, 1, 0x100005, 64, 0, 0, 0⟩
  { d with w7 := BitVec.ofNat 64 (crc32c ((wordBytes d.words).take 60) * 2 ^ 32) }

/-- Its words have come and it waits its turn. -/
def waitingFetch : Flight := ⟨0, 0, 0, 0, 0, 50, true, 3, some waitingDesc, 9, 0, none, false, false, .returned⟩

/-- Berth 3 is open and idle; berth 5 has the FETCH of its one record, which lies in the pound. -/
def fetchBehind : State :=
  { State.reset with
    berths := [
      (3, { Berth.none with st := .opened }),
      (5, { Berth.none with
        st := .opened, gen := 1, log2 := 4, nextSeq := 2, flights := [waitingFetch], firstCpn := 0
        chain := [⟨1, 4, 9, 7, 0, some ⟨[2], 0⟩, none, false⟩] })]
    fmm := { State.reset.fmm with pages := [(0, { Cpt.free with st := 3, firstSeq := 1, count := 1 })] }
    drc := { State.reset.drc with chans := [(2, ⟨2, 0⟩)] } }

/-- The only copy of the control line that the FETCH reads first is spoilt. -/
def spoiltLine : State :=
  { fetchBehind with drc := { fetchBehind.drc with flips := [(copyKey (.pages 0) 2, lineBytes fetchBehind (.pages 0), [])] } }

/-- When berth 3's completion write fails, berth 5's FETCH goes on too, and its read of the spoilt line is reported to the keeper. -/
theorem reports_goOn_spoiltLine : (goOn 3 (fenceBerth 3 3 spoiltLine)).keep.reports ≠ [] := by decide +kernel

/-- Refutes O15: the first clause leaves no room for the keeper to take what the failed write's consequences report. With a FETCH
of another berth waiting its turn, `goOn` carries that out, its read of a spoilt control line is a report, and the step ends only
when the keeper has taken it. -/
theorem not_fenceAndMove : ¬ Obligations.FenceAndMove := by
  intro h
  have hopen : (spoiltLine.berth 3).st = .opened := rfl
  have hclaim : exec (.completionWriteFail 3) spoiltLine = .next (goOn 3 (fenceBerth 3 3 spoiltLine)) :=
    h.1 3 spoiltLine rfl (by rw [show (spoiltLine.berth (3 : BerthId).toNat).st = .opened from hopen]; decide)
      (by rw [show (spoiltLine.berth (3 : BerthId).toNat).st = .opened from hopen]; decide)
  have hexec : exec (.completionWriteFail 3) spoiltLine = .next (settle (goOn 3 (fenceBerth 3 3 spoiltLine))) := rfl
  have hsame : settle (goOn 3 (fenceBerth 3 3 spoiltLine)) = goOn 3 (fenceBerth 3 3 spoiltLine) := by
    injection hexec.symm.trans hclaim
  exact reports_goOn_spoiltLine (hsame ▸ settle_reports _)

end Sys2Proof.Proofs.CompletionFails

/-! # CHARTER, MODIFY, RECHARTER and RELEASE -/

namespace Sys2Proof.Proofs.CharterOps
open Sys2Proof Sys2Proof.Machine Sys2Proof.Safety Sys2Proof.Proofs.CharterFields

/-! Taking the ticket changes nothing that the checks and the effects read -/

theorem withStaged_cmdTake (k : Nat) (s : State) (b : Berth) : withStaged (cmdTake k s) b = withStaged s b := by
  unfold cmdTake
  dsimp only
  split <;> rfl

theorem withPolicy_cmdTake (k : Nat) (s : State) (b : Berth) : withPolicy (cmdTake k s) b = withPolicy s b := by
  unfold cmdTake
  dsimp only
  split <;> rfl

theorem port_cmdTake (k : Nat) (s : State) : (cmdTake k s).BERTH_PORT_PORT = s.BERTH_PORT_PORT := by
  unfold cmdTake
  dsimp only
  split <;> rfl

theorem reg_cmdTake (k : Nat) (s : State) (a : Nat) : (cmdTake k s).reg a = s.reg a := by
  unfold cmdTake
  dsimp only
  split <;> rfl

theorem slotFree_cmdTake (k : Nat) (s : State) (i : Nat) : slotFree (cmdTake k s) i = slotFree s i := by
  unfold cmdTake
  dsimp only
  split <;> rfl

theorem marker_cmdTake (k : Nat) (s : State) : (cmdTake k s).fmm.san.marker = s.fmm.san.marker := by simp

/-- With no held access being applied, a berth command comes too late exactly after a trigger (R81). -/
theorem badState_clear {s : State} (hc : Clear s) (k i : Nat) (from_ : List BSt) :
    badState (cmdTake k s) i from_ = (s.sluiced || !from_.contains (s.berth i).st) := by
  simp [badState, tooLate, hc.2]

/-- A berth command acts at once. -/
theorem viaPort_berthCommand (c : Instr) {op : Nat} {s : State} (hop : op < 16) (hc : Clear s) (hreach : charterReach s = true)
    (hd : (s.cmd kBerth).done = true) : viaPort c true (fun s => berthCommand op s) s = .next (settle (berthCmd op s)) := by
  rw [viaPort_charter _ _ hc hd, berthCommand, hreach]
  exact congrArg (fun u => Host.Outcome.next (settle u)) (stageNow_berthCmd hop s)

theorem settle_cmdEnd {s : State} (r : Nat) (h : Settled s) : settle (cmdEnd kBerth r (cmdTake kBerth s)) = cmdEnd kBerth r (cmdTake kBerth s) :=
  settle_nil (by simp [h])

section Ops

variable {s : State} (hc : Clear s)

include hc

theorem charterResult_bad {i : Nat} (h : s.sluiced = true ∨ (s.berth i).st ≠ .free ∨ s.fmm.san.marker = 1) :
    charterResult (cmdTake kBerth s) i = 2 := by
  refine if_pos ?_
  rw [badState_clear hc, marker_cmdTake]
  obtain h | h | h := h
  · simp [h]
  · exact .inl (by simp [h])
  · exact .inr h

theorem charterResult_good {i : Nat} (hsl : s.sluiced = false) (hst : (s.berth i).st = .free) (hm : s.fmm.san.marker ≠ 1) :
    charterResult (cmdTake kBerth s) i = if !fieldsOk s i then 3 else if !slotFree s i then 4 else 0 := by
  unfold charterResult
  rw [badState_clear hc, marker_cmdTake, fieldsOk_cmdTake, slotFree_cmdTake]
  exact if_neg (by simp [hsl, hst, hm])

theorem modifyResult_bad {i : Nat} (h : s.sluiced = true ∨ (s.berth i).st = .free) : modifyResult (cmdTake kBerth s) i = 2 := by
  refine if_pos ?_
  rw [badState_clear hc]
  obtain h | h := h <;> simp [h]

theorem modifyResult_good {i : Nat} (hsl : s.sluiced = false) (hst : (s.berth i).st ≠ .free) :
    modifyResult (cmdTake kBerth s) i =
      if !fieldsOk s i then 3 else if (s.berth i).st = .chartered ∧ (!slotFree s i) = true then 4 else 0 := by
  unfold modifyResult
  rw [badState_clear hc, modify_states hst, fieldsOk_cmdTake, slotFree_cmdTake, cmdTake_berth]
  exact if_neg (by simp [hsl])

theorem fenced_bad {i : Nat} (h : s.sluiced = true ∨ (s.berth i).st ≠ .fenced) : badState (cmdTake kBerth s) i [.fenced] = true := by
  rw [badState_clear hc]
  obtain h | h := h <;> simp [h]

theorem fenced_good {i : Nat} (hsl : s.sluiced = false) (hst : (s.berth i).st = .fenced) :
    badState (cmdTake kBerth s) i [.fenced] = false := by
  rw [badState_clear hc]
  simp [hsl, hst]

theorem recharterResult_bad {i : Nat} (h : s.sluiced = true ∨ (s.berth i).st ≠ .fenced) : recharterResult (cmdTake kBerth s) i = 2 :=
  if_pos (fenced_bad hc h)

theorem recharterResult_good {i : Nat} (hsl : s.sluiced = false) (hst : (s.berth i).st = .fenced) :
    recharterResult (cmdTake kBerth s) i =
      if !fieldsOk s i then 3 else if !slotFree s i then 4
      else if s.reg offBERTH_OWNER ≠ (s.berth i).owner ∧ (s.berth i).unret ≠ 0 then 6
      else if (s.berth i).nextSeq = 2 ^ 48 ∧ (s.berth i).unret ≠ 0 then 5 else 0 := by
  unfold recharterResult
  rw [fenced_good hc hsl hst, fieldsOk_cmdTake, slotFree_cmdTake, cmdTake_berth, reg_cmdTake]
  rfl

end Ops

theorem charterEffect_cmdTake (i : Nat) (s : State) : charterEffect i (cmdTake kBerth s) =
    (cmdTake kBerth s).setBerth i { withStaged s (s.berth i) with
      st := .chartered, gen := (s.berth i).gen + 1, nextSeq := 1, retirePoint := 0, sqHead := 0, sqTail := 0, cqTail := 0, cqHead := 0
      phase := true, engine := (Config.engineOf i).toNat } := by
  rw [charterEffect, withStaged_cmdTake, cmdTake_berth]

theorem modifyEffect_chartered {i : Nat} {s : State} (hst : (s.berth i).st = .chartered) (hport : (s.berth i).port = s.BERTH_PORT_PORT) :
    modifyEffect i (cmdTake kBerth s) = (cmdTake kBerth s).setBerth i (withStaged s (s.berth i)) := by
  unfold modifyEffect
  rw [cmdTake_berth]
  dsimp only
  rw [withStaged_cmdTake]
  exact (if_pos hst).trans (if_pos (hport.trans (port_cmdTake kBerth s).symm))

theorem modifyEffect_other {i : Nat} {s : State} (hst : (s.berth i).st ≠ .chartered) :
    modifyEffect i (cmdTake kBerth s) = (cmdTake kBerth s).setBerth i (withPolicy s (s.berth i)) := by
  unfold modifyEffect
  rw [cmdTake_berth]
  dsimp only
  rw [withPolicy_cmdTake]
  exact if_neg hst

/-- RECHARTER's berth, where it stays on its port (R73). -/
theorem recharterEffect_berth {i : Nat} {s : State} (hport : (s.berth i).port = s.BERTH_PORT_PORT) :
    (recharterEffect i (cmdTake kBerth s)).berth i = { withStaged s (s.berth i) with
      st := .chartered, gen := (s.berth i).gen + 1, reason := 0, sqHead := 0, sqTail := 0, cqTail := 0, cqHead := 0, phase := true
      nextSeq := if (s.berth i).nextSeq = 2 ^ 48 then 1 else (s.berth i).nextSeq
      retirePoint := if (s.berth i).nextSeq = 2 ^ 48 then 0 else (s.berth i).retirePoint } := by
  unfold recharterEffect
  rw [cmdTake_berth]
  dsimp only
  rw [withStaged_cmdTake]
  refine (congrArg (fun u => State.berth u i) (if_pos (hport.trans (port_cmdTake kBerth s).symm))).trans ?_
  refine berth_setBerth_same _ _ _ (fun e => ?_)
  have hst : BSt.chartered = .free := congrArg Berth.st e
  cases hst

section Charter

variable {s : State} (hset : Settled s) (hc : Clear s) (hreach : charterReach s = true) (hd : (s.cmd kBerth).done = true)

include hset hc hreach hd

/-- CHARTER by its RESULT (R77). -/
theorem exec_charter : let i := s.BERTH_SEL_ID
    let r := charterResult (cmdTake kBerth s) i
    (r ≠ 0 → exec .charter s = .next (cmdEnd kBerth r (cmdTake kBerth s))) ∧
    (r = 0 → exec .charter s = .next (settle (cmdEnd kBerth 0 (weirEval (charterEffect i (cmdTake kBerth s)))))) := by
  intro i r
  have hexec : exec .charter s = .next (settle (cmdEnd kBerth r (if r = 0 then weirEval (charterEffect i (cmdTake kBerth s))
      else cmdTake kBerth s))) := viaPort_berthCommand .charter (op := 1) (by decide) hc hreach hd
  rw [hexec]
  exact ⟨fun h => by rw [if_neg h, settle_cmdEnd r hset], fun h => by rw [if_pos h, h]⟩

/-- MODIFY by its RESULT (R77). -/
theorem exec_modify : let i := s.BERTH_SEL_ID
    let r := modifyResult (cmdTake kBerth s) i
    (r ≠ 0 → exec .modify s = .next (cmdEnd kBerth r (cmdTake kBerth s))) ∧
    (r = 0 → exec .modify s = .next (settle (cmdEnd kBerth 0 (weirEval (modifyEffect i (cmdTake kBerth s)))))) := by
  intro i r
  have hexec : exec .modify s = .next (settle (cmdEnd kBerth r (if r = 0 then weirEval (modifyEffect i (cmdTake kBerth s))
      else cmdTake kBerth s))) := viaPort_berthCommand .modify (op := 2) (by decide) hc hreach hd
  rw [hexec]
  exact ⟨fun h => by rw [if_neg h, settle_cmdEnd r hset], fun h => by rw [if_pos h, h]⟩

/-- RECHARTER by its RESULT, and by what is in flight (R73, R77, R80). -/
theorem exec_recharter : let i := s.BERTH_SEL_ID
    let u := cmdTake kBerth s
    let r := recharterResult u i
    (r ≠ 0 → exec .recharter s = .next (cmdEnd kBerth r u)) ∧
    (r = 0 → (s.berth i).flights ≠ [] → exec .recharter s = .next { u with mgmt := { u.mgmt with fencing := some (4, i) } }) ∧
    (r = 0 → (s.berth i).flights = [] → exec .recharter s = .next (settle (cmdEnd kBerth 0 (weirEval (recharterEffect i u))))) := by
  intro i u r
  have hexec : exec .recharter s = .next (settle (if r = 0 then whenClear 4 i (endRecharter i) u else endRecharter i u)) :=
    viaPort_berthCommand .recharter (op := 4) (by decide) hc hreach hd
  have hend : endRecharter i u = cmdEnd kBerth r (if r = 0 then weirEval (recharterEffect i u) else u) := rfl
  have hset' : u.keep.reports = [] := by simp [u, hset]
  have hfl : (u.berth i).flights = (s.berth i).flights := congrArg Berth.flights (cmdTake_berth kBerth s i)
  rw [hexec, hend]
  refine ⟨fun h => ?_, fun h hne => ?_, fun h hnil => ?_⟩
  · rw [if_neg h, if_neg h, settle_cmdEnd r hset]
  · rw [if_pos h, whenClear, if_neg (by simp [hfl, hne])]
    exact congrArg _ (settle_nil hset')
  · rw [if_pos h, whenClear, if_pos (by simp [hfl, hnil]), hend, if_pos h, h]

/-- RELEASE by the berth's state, and by what is in flight (R77, R80). -/
theorem exec_release : let i := s.BERTH_SEL_ID
    let u := cmdTake kBerth s
    (badState u i [.fenced] = true → exec .release s = .next (cmdEnd kBerth 2 u)) ∧
    (badState u i [.fenced] = false → (s.berth i).flights ≠ [] →
      exec .release s = .next { u with mgmt := { u.mgmt with fencing := some (5, i) } }) ∧
    (badState u i [.fenced] = false → (s.berth i).flights = [] →
      exec .release s = .next (settle (cmdEnd kBerth 0 (weirEval (releaseEffect i u))))) := by
  intro i u
  have hexec : exec .release s = .next (settle (if badState u i [.fenced] then cmdEnd kBerth 2 u else whenClear 5 i (endRelease i) u)) :=
    viaPort_berthCommand .release (op := 5) (by decide) hc hreach hd
  have hset' : u.keep.reports = [] := by simp [u, hset]
  have hfl : (u.berth i).flights = (s.berth i).flights := congrArg Berth.flights (cmdTake_berth kBerth s i)
  rw [hexec]
  refine ⟨fun h => ?_, fun h hne => ?_, fun h hnil => ?_⟩
  · rw [if_pos h, settle_cmdEnd 2 hset]
  · rw [if_neg (ne_true_of_eq_false h), whenClear, if_neg (by simp [hfl, hne])]
    exact congrArg _ (settle_nil hset')
  · rw [if_neg (ne_true_of_eq_false h), whenClear, if_pos (by simp [hfl, hnil]), endRelease, if_neg (ne_true_of_eq_false h)]

end Charter

/-- Settles O17. -/
theorem charterCommands : Obligations.CharterCommands := by
  refine ⟨?_, ?_⟩
  · intro s hset hc hreach hd i b u answer
    obtain ⟨hfail, hgood⟩ := exec_charter hset hc hreach hd
    obtain ⟨mfail, mgood⟩ := exec_modify hset hc hreach hd
    have charterFails : ∀ r, r ≠ 0 → charterResult u i = r → exec .charter s = answer r := fun r h e => e ▸ hfail (e ▸ h)
    have modifyFails : ∀ r, r ≠ 0 → modifyResult u i = r → exec .modify s = answer r := fun r h e => e ▸ mfail (e ▸ h)
    refine ⟨fun h => charterFails 2 (by decide) (charterResult_bad hc h), fun hsl hst hm => ?_,
      fun h => modifyFails 2 (by decide) (modifyResult_bad hc h), fun hsl hst => ?_⟩
    · have hr := charterResult_good hc hsl hst hm
      refine ⟨fun hf => charterFails 3 (by decide) (hr.trans (by simp [hf])), fun hf hslot => charterFails 4 (by decide)
        (hr.trans (by simp [hf, hslot])), fun hf hslot => ?_⟩
      rw [hgood (hr.trans (by simp [hf, hslot])), charterEffect_cmdTake]
    · have hr := modifyResult_good hc hsl hst
      refine ⟨fun hf => modifyFails 3 (by decide) (hr.trans (by simp [hf])), fun hf hch hslot => modifyFails 4 (by decide)
        (hr.trans (by simp [hf, hslot, show (s.berth i).st = .chartered from hch])), fun hf hch hslot hport => ?_, fun hf hch => ?_⟩
      · rw [mgood (hr.trans (by simp [hf, hslot])), modifyEffect_chartered hch hport]
      · rw [mgood (hr.trans (by simp [hf, show (s.berth i).st ≠ .chartered from hch])), modifyEffect_other hch]
        rfl
  · intro s hset hc hreach hd i b u answer
    obtain ⟨rfail, rwait, rgood⟩ := exec_recharter hset hc hreach hd
    obtain ⟨lfail, lwait, lgood⟩ := exec_release hset hc hreach hd
    have recharterFails : ∀ r, r ≠ 0 → recharterResult u i = r → exec .recharter s = answer r := fun r h e => e ▸ rfail (e ▸ h)
    refine ⟨fun h => ⟨recharterFails 2 (by decide) (recharterResult_bad hc h), lfail (fenced_bad hc h)⟩, fun hsl hst => ?_⟩
    have hr := recharterResult_good hc hsl hst
    have hfree := fenced_good hc hsl hst
    refine ⟨lgood hfree, lwait hfree, fun hf => recharterFails 3 (by decide) (hr.trans (by simp [hf])),
      fun hf hslot => recharterFails 4 (by decide) (hr.trans (by simp [hf, hslot])), fun hf hslot => ?_⟩
    have hr' := hr.trans ((if_neg (by simp [hf])).trans (if_neg (by simp [hslot])))
    refine ⟨fun ho hu => recharterFails 6 (by decide) (hr'.trans (if_pos ⟨ho, hu⟩)),
      fun ho hn hu => recharterFails 5 (by decide) (hr'.trans ((if_neg (fun h => h.1 ho)).trans (if_pos ⟨hn, hu⟩))), fun h => ?_⟩
    have h0 : recharterResult u i = 0 := by
      refine hr'.trans ((if_neg ?_).trans (if_neg ?_))
      · rintro ⟨ho, hu⟩
        exact h.elim hu (fun hown => ho hown.1)
      · rintro ⟨hn, hu⟩
        exact h.elim hu (fun hown => hown.2 hn)
    exact ⟨rwait h0, rgood h0, fun _ hport => recharterEffect_berth hport⟩

end Sys2Proof.Proofs.CharterOps

/-! # The charter window: held accesses, BERTH_SEL, FENCE -/

namespace Sys2Proof.Proofs.FenceSelect
open Sys2Proof Sys2Proof.Machine Sys2Proof.Safety Sys2Proof.Proofs.CharterFields Sys2Proof.Proofs.CharterOps

/-- Every access of BAR0 goes through the port. -/
theorem exec_viaPort {c : Instr} {charter : Bool} (h : portAccess c = some charter) : ∃ f, ∀ s, exec c s = viaPort c charter f s := by
  cases c
  all_goals cases h
  all_goals exact ⟨_, fun _ => rfl⟩

/-- An access behind a waiting one, or a charter-window access while a berth command runs, waits (R34, R375). -/
theorem viaPort_waits {c : Instr} {charter : Bool} {f : State → Res} {s : State} (hbar : s.bar0 = true)
    (h : s.mgmt.held ≠ [] ∨ charter = true ∧ s.core = true ∧ (s.cmd kBerth).done = false) :
    viaPort c charter f s = .next { s with mgmt := { s.mgmt with held := s.mgmt.held ++ [(c, !s.sluiced)] } } := by
  refine if_pos ?_
  obtain h | ⟨hch, hcore, hd⟩ := h
  · simp [portHolds, hbar, h]
  · simp [portHolds, hbar, hch, hcore, hd]

theorem exec_berthSel {w : Word} {s : State} (hset : Settled s) (hc : Clear s) (hreach : charterReach s = true)
    (hd : (s.cmd kBerth).done = true) : exec (.berthSel w) s = .next (selectBerth w s) := by
  have hkeep : (selectBerth w s).keep = s.keep :=
    forEach_keep (stageOf _) (fun x s => s.setReg x.1 x.2) (fun _ _ => rfl) (s.setReg offBERTH_SEL (w &&& maskOf 19 0))
  show execBerthSel w s = _
  rw [execBerthSel, viaPort_charter _ _ hc hd, hreach]
  exact congrArg Host.Outcome.next (settle_nil ((congrArg Keep.reports hkeep).trans hset))

theorem exec_fence {s : State} (hc : Clear s) (hreach : charterReach s = true) (hd : (s.cmd kBerth).done = true) :
    exec .fence s = .next (settle (doFence s)) :=
  viaPort_berthCommand .fence (op := 3) (by decide) hc hreach hd

/-! ### Whether a held access was accepted plays no part in an interrupt -/

/-- The state with the mark that a held access is being applied. -/
def honour (h : Bool) (s : State) : State := { s with mgmt := { s.mgmt with honoured := h } }

theorem sendIrq_honour (h : Bool) (n : Nat) (s : State) : sendIrq n (honour h s) = honour h (sendIrq n s) := by
  unfold sendIrq honour
  dsimp only
  split
  · split <;> rfl
  · rfl

theorem raiseIrq_honour (h : Bool) (n : Nat) (s : State) : raiseIrq n (honour h s) = honour h (raiseIrq n s) := by
  have hservice : (honour h s).inService dMgmt = s.inService dMgmt := rfl
  have hreg : ∀ a, (honour h s).reg a = s.reg a := fun _ => rfl
  have hset : ∀ a w, (honour h s).setReg a w = honour h (s.setReg a w) := fun _ _ => rfl
  have hregset : ∀ a w b, (honour h (s.setReg a w)).reg b = (s.setReg a w).reg b := fun _ _ _ => rfl
  unfold raiseIrq
  dsimp only
  rw [hservice, hreg, hset, hregset, sendIrq_honour]
  split
  · rfl
  · split
    · rfl
    · split <;> rfl

theorem cmdEnd_honour (h : Bool) (k r : Nat) (s : State) : cmdEnd k r (honour h s) = honour h (cmdEnd k r s) :=
  raiseIrq_honour h 6
    (s.setCmd k { done := true, ticket := (s.cmd k).ticket, result := if (s.cmd k).refused then busyCode k else r, refused := false })

/-- A FENCE's end with nothing held (R80). -/
theorem fenceEnds_fence {i : Nat} {s : State} (hc : Clear s) :
    fenceEnds 3 i s = cmdEnd kBerth 0 { s with mgmt := { s.mgmt with fencing := none } } := by
  have hfalse : honour false { s with mgmt := { s.mgmt with fencing := none } } = { s with mgmt := { s.mgmt with fencing := none } } := by
    unfold honour
    rw [← hc.2]
  have hend : fenceEnds 3 i s = honour false (cmdEnd kBerth 0 (honour true { s with mgmt := { s.mgmt with fencing := none } })) := rfl
  have htwice : ∀ u : State, honour false (honour true u) = honour false u := fun _ => rfl
  rw [hend, cmdEnd_honour, htwice, ← cmdEnd_honour, hfalse]

theorem exec_fenceDone {op i : Nat} {s : State} (h : s.mgmt.fencing = some (op, i)) :
    exec .fenceDone s = if !(s.berth i).flights.isEmpty then .next s
      else .next (settle (drainHeld s.mgmt.held.length (fenceEnds op i s))) := by
  show execFenceDone s = _
  simp only [execFenceDone, h]

/-- Settles O18. -/
theorem fenceAndSelect : Obligations.FenceAndSelect := by
  refine ⟨?_, ?_, ?_, ?_, ?_, ?_⟩
  · intro c charter s hport hbar h
    obtain ⟨f, hf⟩ := exec_viaPort hport
    rw [hf, viaPort_waits hbar h]
  · exact fun w s hset hc hreach hd => exec_berthSel hset hc hreach hd
  · intro s hset hc hreach hd i u
    have hstates : ∀ st : BSt, (!([BSt.chartered, .opened, .exhausted, .refloating] : List BSt).contains st) = (st == .free || st == .fenced) := by
      intro st
      cases st <;> rfl
    have hbad : badState u i [.chartered, .opened, .exhausted, .refloating] =
        (s.sluiced || ((s.berth i).st == .free || (s.berth i).st == .fenced)) := by
      rw [badState_clear hc, hstates]
    rw [exec_fence hc hreach hd]
    refine ⟨fun h => ?_, fun hsl hfree hfenced => ?_⟩
    · have hdo : doFence s = cmdEnd kBerth 2 u := by
        refine if_pos (hbad.trans ?_)
        obtain h | h | h := h <;> simp [h]
      rw [hdo, settle_cmdEnd 2 hset]
    · have hdo : doFence s = goOn i (fenceBerth 1 i { u with mgmt := { u.mgmt with fencing := some (3, i) } }) :=
        if_neg (ne_true_of_eq_false (hbad.trans (by simp [hsl, hfree, hfenced])))
      rw [hdo]
  · intro op i s h
    rw [exec_fenceDone h]
    refine ⟨fun hne => if_pos (by simp [hne]), fun hnil => if_neg (by simp [hnil]), fun hnil hop hc hset => ?_⟩
    subst hop
    refine (if_neg (by simp [hnil])).trans ?_
    rw [hc.1, fenceEnds_fence hc]
    exact congrArg Host.Outcome.next (settle_nil (by simp [drainHeld, hset]))
  · intro s h
    show execFenceDone s = _
    simp only [execFenceDone, h]
  · intro s hc hreach w c hmem
    have hport : ∀ c f, viaPort c true f s = f s := fun c f => by
      have hhold : portHolds true s = false := by
        rw [portHolds, hc.1]
        rw [charterReach] at hreach
        cases hb : s.bar0 <;> simp_all
      simp [viaPort, hhold]
    have hcommand : ∀ op, berthCommand op s = .next s := fun op => if_pos (by simp [hreach])
    simp only [List.mem_cons, List.not_mem_nil, or_false] at hmem
    obtain rfl | rfl | rfl | rfl | rfl | rfl := hmem
    · show execBerthSel w s = _
      exact (hport _ _).trans (if_pos (by simp [hreach]))
    · exact (hport _ _).trans (hcommand 1)
    · exact (hport _ _).trans (hcommand 2)
    · exact (hport _ _).trans (hcommand 3)
    · exact (hport _ _).trans (hcommand 4)
    · exact (hport _ _).trans (hcommand 5)

end Sys2Proof.Proofs.FenceSelect

/-! # WEIR_CTRL.SHUT, the throttle window and the residence limit -/

namespace Sys2Proof.Proofs.WeirControl
open Sys2Proof Sys2Proof.Machine Sys2Proof.Safety

/-- A write of WEIR_CTRL acts where the charter window is reached. -/
theorem exec_weirShutWrite {shut : Bool} {s : State} (hc : Clear s) : exec (.weirShutWrite shut) s =
    if !charterReach s then .next s
    else if shut then .next (settle (weirShut s))
    else .next (settle (weirEval (s.setReg offWEIR_CTRL (setFld (s.reg offWEIR_CTRL) 0 0 0)))) := by
  show execWeirShutWrite shut s = _
  exact viaPort_clear _ _ hc

/-- Settles O20. -/
theorem weirShutAndThrottle : Obligations.WeirShutAndThrottle := by
  refine ⟨?_, ?_, ?_, ?_⟩
  · intro s hc hreach set
    have hshut : exec (.weirShutWrite true) s = .next (settle (if s.weir.st = .opened ∨ s.weir.st = .over then setWeir .shut (set 1) else set 1)) :=
      (exec_weirShutWrite hc).trans (if_neg (by simp [hreach]))
    rw [hshut]
    refine ⟨fun h => by rw [if_pos h], fun h => ?_, (exec_weirShutWrite hc).trans (if_neg (by simp [hreach]))⟩
    rw [if_neg (by obtain h | h := h <;> simp [h])]
  · intro v s hc hreach
    exact (exec_weirShutWrite hc).trans (if_pos (by simp [hreach]))
  · intro s
    exact ⟨fun h => if_neg (by simp [h]), fun h => if_pos (by simp [h])⟩
  · intro b seq s x
    refine ⟨fun hspill hlim hany => if_pos ?_, fun h => if_neg ?_⟩
    · have hlim' : (residenceOf s x.qos != 0) = true := bne_iff_ne.mpr hlim
      exact Bool.and_eq_true_iff.mpr ⟨Bool.and_eq_true_iff.mpr ⟨hspill, hlim'⟩, hany⟩
    · intro hover
      obtain ⟨hboth, -⟩ := Bool.and_eq_true_iff.mp hover
      obtain ⟨hspill, hlim⟩ := Bool.and_eq_true_iff.mp hboth
      exact h.elim (fun hno => ne_true_of_eq_false hno hspill) (fun hno => bne_iff_ne.mp hlim hno)

end Sys2Proof.Proofs.WeirControl

/-! # The basin: programs, reads, barges, verification, erases, collection -/

namespace Sys2Proof.Proofs.BasinEvents
open Sys2Proof Sys2Proof.Machine Sys2Proof.Safety

/-! ### Chunk programs -/

section Programs

variable {die : Fin 1536} {block : Fin 4096} {k : Nat} {b : Sb} {s : State} (hopen : openOf s die.val block.val = some (k, b))

include hopen

theorem exec_chunkProgramDone {j : Nat} (row : Fin 1024) (hslot : slotOf b die.val block.val = some j) :
    exec (.chunkProgramDone die block row) s =
      if !s.core || !chunkTurn s k j row.val (blkNo s die.val block.val) then .next s
      else if s.fmm.san.st = 1 then .next (settle (sanGo (chunkDone k j row.val s)))
      else .next (settle (collModes (upkeep (segmentDue (spillRun (spillFlags (chunkDone k j row.val s))))))) := by
  show execChunkProgramDone die block row s = _
  simp only [execChunkProgramDone, hopen, hslot]

theorem exec_programFail (hcore : s.core = true) (hrows : b.rows < b.started) (hst : (s.blk (blkNo s die.val block.val)).st = 1)
    (hnext : (s.blk (blkNo s die.val block.val)).nextRow = b.rows) :
    exec (.programFail die block) s =
      if s.fmm.san.st = 1 then .next (settle (sanProgramFailed k (blkNo s die.val block.val) s))
      else .next (settle (collModes (upkeep (programFailed k (blkNo s die.val block.val) b.rows s)))) := by
  show execProgramFail die block s = _
  simp only [execProgramFail, hopen]
  exact if_neg (by simp [hcore, hrows, hst, hnext])

end Programs

theorem exec_program_elsewhere {die : Fin 1536} {block : Fin 4096} {s : State} (row : Fin 1024) (h : openOf s die.val block.val = none) :
    exec (.chunkProgramDone die block row) s = .next s ∧ exec (.programFail die block) s = .next s := by
  constructor
  · show execChunkProgramDone die block row s = _
    simp only [execChunkProgramDone, h]
  · show execProgramFail die block s = _
    simp only [execProgramFail, h]

/-! ### Basin reads -/

/-- Codewords that all decoded at the first step were all read. -/
theorem cwsRead_of_cwsFirst {cws : List CwRead} (h : cwsFirst cws = true) : cwsRead cws = true := by
  refine List.all_eq_true.mpr (fun c hc => bne_iff_ne.mpr ?_)
  rintro rfl
  exact absurd (List.all_eq_true.mp h _ hc) (by decide)

section Fetch

variable {b : BerthId} {f : Flight} {d : Desc} {r : Rec} {q g o : Nat} {s : State}
  (hfl : (s.berth b.toNat).flights = [f]) (hst : f.stage = .basin q) (hd : f.desc = some d)
  (hr : (s.berth b.toNat).chain.find? (fun r => r.seq == q) = some r) (hb : r.basin = some (g, o))

include hfl hst hd hr hb

/-- A FETCH's basin read ends with its record, and in a drain only with what its first read answered (R213, R214). -/
theorem fetchRead_eq (cws : List CwRead) : fetchRead b.toNat cws s =
    (let drain := s.weir.st == .sluice
     let defer := drain && !cwsFirst cws
     goOn b.toNat (endFetch b.toNat f d (if defer then { r with len := min r.len d.length } else r) defer (!defer && !cwsRead cws)
       (if drain then s else reReads cws g o r.len s))) := by
  unfold fetchRead
  simp only [hfl, List.find?, hst, hd, hr, hb]

end Fetch

/-- Settles O21. -/
theorem programsAndReads : Obligations.ProgramsAndReads := by
  refine ⟨?_, ?_, ?_, ?_, ?_⟩
  · intro die block row k j b s hcore hopen hslot
    rw [exec_chunkProgramDone hopen row hslot]
    refine ⟨fun h => ?_, fun h => if_pos (by simp [h])⟩
    have hgo : ¬ (!s.core || !chunkTurn s k j row.val (blkNo s die.val block.val)) = true := by simp [hcore, h]
    exact ⟨fun hsan => (if_neg hgo).trans (if_neg hsan), fun hsan => (if_neg hgo).trans (if_pos hsan)⟩
  · intro die block k b s hcore n hopen hrows hst hnext
    rw [exec_programFail hopen hcore hrows hst hnext]
    exact ⟨fun hsan => if_neg hsan, fun hsan => if_pos hsan⟩
  · exact fun die block row s h => exec_program_elsewhere row h
  · intro b cws f d r q g o s i x hfl hst hd hr hb
    have hexec : exec (.basinReadDone (.fetch b) cws) s = .next (settle (fetchRead i cws s)) := rfl
    rw [hexec, fetchRead_eq hfl hst hd hr hb]
    refine ⟨fun h => ?_, fun h hfirst => ?_, fun h hfirst => ?_⟩
    · simp only [beq_eq_false_iff_ne.mpr h, Bool.false_and, Bool.not_false, Bool.true_and, Bool.false_eq_true, if_false]
      rfl
    · simp only [h, hfirst, cwsRead_of_cwsFirst hfirst, beq_self_eq_true, Bool.not_true, Bool.and_false, Bool.false_eq_true, if_false,
        if_true]
      rfl
    · simp only [h, hfirst, beq_self_eq_true, Bool.not_false, Bool.and_self, if_true, Bool.not_true, Bool.false_and]
      rfl
  · intro q cws s hlive hweir
    have hgo : (s.basinLive && s.weir.st != .sluice) = true := by simp [hlive, hweir]
    refine ⟨fun key hk => (if_pos hgo).trans ?_, fun hk => (if_pos hgo).trans ?_⟩
    · rw [hk]
    · rw [hk]

/-! ### Barges, verification, checkpoints, the chart -/

/-- A codeword fails its read-back when it shows more than VERIFY_BITS or did not decode (R161). -/
theorem not_cwPasses (s : State) (c : CwRead) :
    (!cwPasses s c) = (match c with | .bits n => decide (s.FMM_GEOM1_VERIFY_BITS < n) | _ => true) := by
  cases c with
  | bits n =>
    simp only [cwPasses, ← decide_not, BitVec.not_le]
  | retry k => rfl
  | soft => rfl
  | lost => rfl

/-- Settles O22. -/
theorem bargesAndVerify : Obligations.BargesAndVerify := by
  refine ⟨?_, ?_, ?_, ?_⟩
  · intro stream s a hlive hweir hdir
    refine ⟨fun hdue => if_neg ?_, fun hearly => if_pos ?_⟩
    · simp [hlive, hweir, show (s.asmOf (streamKey stream)).dir ≠ [] from hdir,
        show ¬ s.now < (s.asmOf (streamKey stream)).since + s.FMM_GEOM1_BARGE_WAIT from not_lt.mpr hdue]
    · simp [show s.now < (s.asmOf (streamKey stream)).since + s.FMM_GEOM1_BARGE_WAIT from hearly]
  · intro sb cws s fails rows u hst hcore hweir hrefloat
    have hfails : (fun c => !cwPasses s c) = fails := funext (not_cwPasses s)
    have hexec : exec (.verifyReadbackDone sb cws) s =
        if u.fmm.san.st = 1 then .next (settle (sanVerified (!rows.isEmpty) u))
        else .next (settle (if u.ready then weirEval (collModes (upkeep u)) else u)) := by
      simp only [u, rows, ← hfails]
      refine if_neg ?_
      rintro (h | h | h | ⟨h4, hno⟩)
      · exact h hst
      · simp [hcore] at h
      · exact hweir h
      · exact hrefloat.elim (fun hne => hne h4) (fun ho => by simp [ho] at hno)
    rw [hexec]
    refine ⟨fun h => if_pos h, fun h hready => (if_neg h).trans ?_, fun h hready => (if_neg h).trans ?_⟩
    · rw [if_pos hready]
    · rw [if_neg (ne_true_of_eq_false hready)]
  · intro s hready hlive hweir
    exact ⟨fun hdue => if_pos (by simp [hready, hlive, hweir, hdue]), fun hearly => if_neg (by simp [hearly])⟩
  · intro cpn ok crcOk pb pc ps s p hit
    refine ⟨fun hch hp => if_neg ?_, fun h => if_pos h⟩
    rintro (h | h)
    · exact h hch
    · exact h hp

/-! ### Blank checks, erases, collection and wear -/

/-- Settles O23. -/
theorem eraseAndCollect : Obligations.EraseAndCollect := by
  refine ⟨?_, ?_, ?_⟩
  · intro die block pass s n b
    refine ⟨fun hst hblank hcore => if_neg ?_, fun h => if_pos ?_⟩
    · simp [show (s.blk (blkNo s die.val block.val)).st = 0 from hst, show (s.blk (blkNo s die.val block.val)).blank = true from hblank, hcore]
    · exact h.imp_right (fun h => h.imp (fun hb => by rw [show (s.blk (blkNo s die.val block.val)).blank = false from hb]; rfl)
        (fun hc => by rw [hc]; rfl))
  · intro die block s n ends hcore hst
    have hgo : ¬ (!s.core) = true := by simp [hcore]
    exact ⟨(if_neg hgo).trans (if_pos hst), (if_neg hgo).trans (if_pos hst)⟩
  · intro q s hrun t
    refine ⟨fun h => if_neg ?_, fun hfg hbg => if_pos (by simp [hfg, hbg]), fun hq hfg hp hspread => if_neg ?_, fun h => if_pos ?_⟩
    · obtain h | h := h <;> simp [hrun, h]
    · simp only [hrun, hq, wearPaused, hfg, not_le.mpr hspread, Bool.not_true, Bool.false_or, bne_self_eq_false, beq_eq_false_iff_ne.mpr hp, decide_false]
      decide
    · obtain h | h | h := h
      · rw [wearPaused, bne_iff_ne.mpr h]
        simp
      · simp [wearPaused, h]
      · rw [decide_eq_true h, Bool.or_true]

end Sys2Proof.Proofs.BasinEvents

/-! # Sanitize and the daily life figures -/

namespace Sys2Proof.Proofs.SanitizeLife
open Sys2Proof Sys2Proof.Machine Sys2Proof.Safety

theorem exec_sanitizeStart {key : Byte} {start : Bool} {s : State} (hc : Clear s) : exec (.sanitizeStart key start) s =
    if charterReach s then .next (settle (sanitizeWrite key start s)) else .next s := by
  show execSanitizeStart key start s = _
  exact viaPort_clear _ _ hc

/-- Nothing stands against a start (R198). -/
theorem sanResult_eq_zero {key : Byte} {s : State} (hkey : key = 0x5A) (hweir : s.weir.st = .shut) (hready : s.ready = true)
    (hfree : ∀ p ∈ s.berths, p.2.st = .free) (hsl : s.sluiced = false) (hsan : s.fmm.san.st ≠ 1) : sanResult s key = 0 := by
  have hany : s.berths.any (fun p => p.2.st != .free) = false :=
    List.any_eq_false.mpr (fun p hp => by simp [hfree p hp])
  unfold sanResult
  rw [if_neg (not_not.mpr hkey), if_neg (not_not.mpr hweir), hany, if_neg (by simp [hready]), if_neg (ne_true_of_eq_false hsl), if_neg hsan]

section Steps

variable {s : State} (hst : s.fmm.san.st = 1)

include hst

theorem exec_sanitizeMarkerUpdate : exec .sanitizeMarkerUpdate s = .next (settle (sanGo (if s.fmm.san.mStep = 4 then
    markWrite (s.setSan { s.fmm.san with mProgress := s.fmm.san.turn }) else s))) :=
  if_neg (not_not.mpr hst)

theorem sanGo_step1 (h : s.fmm.san.mStep = 1) : sanGo s = if sanQuiet s then sanWear (sanMark s) else s :=
  (if_neg (not_not.mpr hst)).trans (if_pos h)

theorem sanGo_step3 (h : s.fmm.san.mStep = 3) (hw : s.fmm.san.wearSbs = []) : sanGo s = sanWear s :=
  (if_neg (not_not.mpr hst)).trans ((if_neg (by simp [h])).trans (if_pos (by simp [h, hw])))

theorem sanGo_step4 (h : s.fmm.san.mStep = 4) : sanGo s = s :=
  (if_neg (not_not.mpr hst)).trans ((if_neg (by simp [h])).trans ((if_neg (by simp [h])).trans (if_neg (by simp [h]))))

end Steps

/-- A marker's copy changes neither the step nor whether a sanitize runs. -/
theorem markWrite_san (s : State) : (markWrite s).fmm.san.st = s.fmm.san.st ∧ (markWrite s).fmm.san.mStep = s.fmm.san.mStep := by
  unfold markWrite State.setSan
  dsimp only
  split <;> split <;> exact ⟨rfl, rfl⟩

theorem exec_eraseDone_sanitize {die : Fin 1536} {block : Fin 4096} {pass : Bool} {s : State} (hcore : s.core = true)
    (hblk : (s.blk (blkNo s die.val block.val)).st ≠ 5) (hsan : s.fmm.san.st = 1) :
    (s.fmm.san.mStep = 4 → exec (.eraseDone die block pass) s = .next (settle (sanStep4 die.val block.val pass s))) ∧
    (s.fmm.san.mStep = 6 → exec (.eraseDone die block pass) s = .next (settle (sanStep6 die.val block.val pass s))) := by
  have hgo : ¬ (!s.core) = true := by simp [hcore]
  refine ⟨fun h => ?_, fun h => ?_⟩
  all_goals
    show execEraseDone die block pass s = _
    refine (if_neg hgo).trans ((if_neg hblk).trans ((if_neg (not_not.mpr hsan)).trans ?_))
  · exact if_pos h
  · exact (if_neg (by simp [h])).trans (if_pos h)

/-! ### The daily life figures (R202 to R205) -/

/-- The days that are kept, the newest last. -/
def keptDays (s : State) : List (Nat × Nat × Nat) :=
  ((s.fmm.days ++ [((ecList s).sum, s.fmm.flashBytes, s.fmm.spillBytes)]).reverse.take (s.FMM_LIFE_CFG_WINDOW + 1)).reverse

theorem keptDays_last (s : State) : (keptDays s).getLast? = some ((ecList s).sum, s.fmm.flashBytes, s.fmm.spillBytes) := by
  simp [keptDays]

theorem keptDays_length (s : State) : (keptDays s).length ≤ s.FMM_LIFE_CFG_WINDOW + 1 := by
  simp [keptDays]

theorem ite_draw (s : State) (p : Prop) [Decidable p] :
    (if p then s.draw.1 else s) = { s with free := if p then s.free + 1 else s.free } := by
  split <;> rfl

/-- LIFE_DAILY while the device runs: the figures, each from the window. -/
theorem gives_lifeDaily {s : State} (hrun : running s = true) : Gives .lifeDaily s (fun t =>
    let n := max (blocksIn s) 1
    let ec := (ecList s).sum
    let win := lifeWindow t.fmm.days s.FMM_LIFE_CFG_WINDOW
    let dEc := ec - win.2.1
    let dSpill := s.fmm.spillBytes - win.2.2.2
    let w := if dSpill = 0 then (s.fmm.flashBytes, s.fmm.spillBytes) else (s.fmm.flashBytes - win.2.2.1, dSpill)
    t.fmm.days = keptDays s ∧ t.fmm.runDays = s.fmm.runDays + 1 ∧ t.fmm.ecSum = ec ∧
    t.fmm.rE = sat 32 (dEc * 1000 / (n * win.1)) ∧
    t.fmm.lifeDays = (if dEc = 0 then 0xFFFFFFFF else sat 32 ((s.FMM_WEAR_ERASE_LIMIT * n - ec) * win.1 / dEc)) ∧
    (w.2 ≠ 0 → t.fmm.wRatio = sat 32 (w.1 * 1000 / w.2)) ∧
    t.free = (if w.1 = 0 ∨ w.2 = 0 then s.free + 1 else s.free) ∧
    t = { s with free := t.free, fmm := { s.fmm with
      runDays := t.fmm.runDays, ecSum := t.fmm.ecSum, days := t.fmm.days, lifeDays := t.fmm.lifeDays, safeRate := t.fmm.safeRate
      wRatio := t.fmm.wRatio, rE := t.fmm.rE, lifeShort := t.fmm.lifeShort } }) := by
  unfold Gives
  show ∃ t, execLifeDaily s = .next t ∧ _
  unfold execLifeDaily
  rw [if_neg (by simp [hrun])]
  simp only [ite_draw]
  exact ⟨_, rfl, rfl, rfl, rfl, rfl, rfl, fun hw => congrArg (sat 32) (if_neg hw), rfl, rfl⟩

/-- Settles O24. -/
theorem sanitizeAndLife : Obligations.SanitizeAndLife := by
  refine ⟨⟨?_, ?_, ?_, ?_, ?_⟩, ?_⟩
  · intro key s hc hreach
    have hexec := (exec_sanitizeStart (key := key) (start := true) hc).trans (if_pos hreach)
    refine ⟨fun h => hexec.trans ?_, fun h hset => hexec.trans ?_, sanResult_eq_zero⟩
    · exact congrArg (fun u => Host.Outcome.next (settle u)) (if_pos h)
    · have hwrite : sanitizeWrite key true s = s.setSan { s.fmm.san with result := sanResult s key } := if_neg h
      rw [hwrite]
      exact congrArg Host.Outcome.next (settle_nil hset)
  · intro key start s hset hc h
    rw [exec_sanitizeStart hc]
    by_cases hreach : charterReach s = true
    · have hstart : start = false := h.resolve_left (by simp [hreach])
      subst hstart
      exact (if_pos hreach).trans (congrArg Host.Outcome.next (settle_nil hset))
    · exact if_neg hreach
  · intro s hst
    have hother : s.fmm.san.mStep ≠ 4 → exec .sanitizeMarkerUpdate s = .next (settle (sanGo s)) := fun h => by
      rw [exec_sanitizeMarkerUpdate hst, if_neg h]
    refine ⟨fun h hq => ?_, fun h hq hset => ?_, fun h hw => ?_, fun h hset => ?_⟩
    · rw [hother (by simp [h]), sanGo_step1 hst h, if_pos hq]
    · rw [hother (by simp [h]), sanGo_step1 hst h, if_neg (ne_true_of_eq_false hq), settle_nil hset]
    · rw [hother (by simp [h]), sanGo_step3 hst h hw]
    · obtain ⟨hst', hstep'⟩ := markWrite_san (s.setSan { s.fmm.san with mProgress := s.fmm.san.turn })
      rw [exec_sanitizeMarkerUpdate hst, if_pos h, sanGo_step4 (hst'.trans hst) (hstep'.trans h)]
      exact congrArg Host.Outcome.next (settle_nil hset)
  · exact fun s h => if_pos h
  · exact fun die block pass s hcore hblk hsan => exec_eraseDone_sanitize hcore hblk hsan
  · intro s
    refine ⟨fun hrun => ?_, fun hrun => if_pos (by simp [hrun])⟩
    obtain ⟨t, hexec, hdays, hrunDays, hec, hrate, hlife, hratio, hfree, hframe⟩ := gives_lifeDaily hrun
    refine ⟨t, hexec, hrunDays, hec, ?_, ?_, hrate, hlife, hratio, ?_, fun h1 h2 => hfree.trans (if_neg (not_or.mpr ⟨h1, h2⟩)), hframe⟩
    · rw [hdays, keptDays_last]
    · rw [hdays]
      exact keptDays_length s
    · have hle : ∀ (p : Prop) [Decidable p], (if p then s.free + 1 else s.free) ≤ s.free + 1 := fun p _ => by split <;> omega
      exact hfree.le.trans (hle _)

end Sys2Proof.Proofs.SanitizeLife

/-! # DRAM channels: retirement and upkeep -/

namespace Sys2Proof.Proofs.DramChannels
open Sys2Proof Sys2Proof.Machine Sys2Proof.Safety

theorem retirable_iff (s : State) (c : Nat) : retirable s c = true ↔ (s.chan c).st ≠ 0 ∧ (s.chan c).st ≠ 3 := by
  simp [retirable]

/-- A write of the probe pattern touches no channel's state, and nothing is reported. -/
theorem probeWrite_same (c : Nat) (s : State) : (probeWrite c s).drc.chans = s.drc.chans ∧ (probeWrite c s).keep = s.keep := by
  unfold probeWrite
  exact forEach_keeps (P := fun u => u.drc.chans = s.drc.chans ∧ u.keep = s.keep) (List.range (ranksOf s / 2))
    (fun k s => { s with drc := { s.drc with probeLines := tset [] s.drc.probeLines (8 * c + k) ((List.range 64).map Config.probePattern) } })
    (fun _ _ hu => hu) s ⟨rfl, rfl⟩

theorem probeWrites_same (l : List Nat) (s : State) :
    (forEach l s probeWrite).drc.chans = s.drc.chans ∧ (forEach l s probeWrite).keep = s.keep :=
  forEach_keeps (P := fun u => u.drc.chans = s.drc.chans ∧ u.keep = s.keep) l probeWrite
    (fun c u hu => ⟨(probeWrite_same c u).1.trans hu.1, (probeWrite_same c u).2.trans hu.2⟩) s ⟨rfl, rfl⟩

/-- A probe of one channel's bit names that channel. -/
theorem filter_mask (ch : Fin 12) : (List.range 12).filter (fun c => (BitVec.ofNat 12 (2 ^ ch.val)).getLsbD c) = [ch.val] := by
  revert ch
  decide

theorem exec_drcRetire {key : Byte} {c : BitVec 4} {s : State} (hc : Clear s) : exec (.drcRetire key true c) s =
    if s.bar0 && s.core && retireAsked s key true c then .next (settle (channelRetire 5 c.toNat s)) else .next s := by
  show execDrcRetire key true c s = _
  exact viaPort_clear _ _ hc

/-- Settles O25. -/
theorem channelsRetire : Obligations.ChannelsRetire := by
  intro ch s n due w
  have hch : (BitVec.ofNat 4 ch.val).toNat = ch.val := by
    rw [BitVec.toNat_ofNat]
    exact Nat.mod_eq_of_lt (ch.isLt.trans (by decide))
  have hasked : retireAsked s 0xA5 true (BitVec.ofNat 4 ch.val) = retirable s ch.val := by
    simp [retireAsked, hch, ch.isLt]
  obtain ⟨hchans, hkeep⟩ := probeWrites_same ((List.range 12).filter (inSvc s)) { s with drc := { s.drc with probedAt := s.now } }
  have hsvc : inSvc w ch.val = inSvc s ch.val := congrArg (fun t => (tget ⟨0, 0⟩ t ch.val : Chan).st == 2) hchans
  refine ⟨fun h0 h3 => ?_, fun h => ?_, fun hdue => ?_, fun hno m => ?_, fun hin => ?_, fun hout k => ?_, fun key c hc hkey => ?_⟩
  · have hret : retirable s ch.val = true := (retirable_iff s ch.val).2 ⟨h0, h3⟩
    refine ⟨if_neg (by simp [hret]), fun hc hbar hcore => ?_⟩
    rw [exec_drcRetire hc, hasked, if_pos (by simp [hbar, hcore, hret]), hch]
  · have hret : retirable s ch.val = false := by
      rw [Bool.eq_false_iff, ne_eq, retirable_iff]
      exact fun hboth => h.elim hboth.1 hboth.2
    refine ⟨if_pos (by simp [hret]), fun hc => ?_⟩
    rw [exec_drcRetire hc, hasked, if_neg (by simp [hret])]
  · obtain ⟨hcore, hlate⟩ := hdue
    have hgo : ¬ (!s.core || decide (s.now < s.drc.probedAt + 1000 * s.DRC_PROBE_PERIOD)) = true := by
      simp only [hcore, decide_eq_false (not_lt.mpr hlate)]
      decide
    refine ⟨fun hset => (if_neg hgo).trans (congrArg Host.Outcome.next ?_), fun hin => (if_neg hgo).trans (congrArg Host.Outcome.next ?_)⟩
    · have hnone : (List.range 12).filter (fun c => (0 : BitVec 12).getLsbD c) = [] := by decide
      rw [hnone]
      exact settle_nil ((congrArg Keep.reports hkeep).trans hset)
    · rw [filter_mask]
      exact congrArg settle (if_pos (hsvc.trans hin))
  · refine if_pos ?_
    by_cases hcore : s.core = true
    · have hlt : s.now < s.drc.probedAt + 1000 * s.DRC_PROBE_PERIOD := by
        by_contra hge
        exact hno ⟨hcore, not_lt.mp hge⟩
      rw [decide_eq_true hlt, Bool.or_true]
    · simp [hcore]
  · have hgo : ¬ (!inSvc s ch.val) = true := by simp [hin]
    refine ⟨(if_neg hgo).trans ?_, fun hheard => (if_neg hgo).trans ?_⟩
    · have hquiet : (if heard s n = true ∧ min 0 7 ≠ 0 then s.updSrc n (fun x => { x with merged := sat 16 (x.merged + min 0 7) }) else s) = s :=
        if_neg (by simp)
      exact (if_pos (by decide)).trans (congrArg (fun u => Host.Outcome.next (settle (report n false (detailWord 0 0 ch.val)
        (State.bump u (offDRC_CH_CNT + 8 * ch.val) 63 48 1)))) hquiet)
    · have hquiet : (if heard s n = true ∧ min 8 7 ≠ 0 then s.updSrc n (fun x => { x with merged := sat 16 (x.merged + min 8 7) }) else s) = s :=
        if_neg (by simp [hheard])
      exact (if_neg (by decide)).trans (congrArg (fun u => Host.Outcome.next (settle (report n true (detailWord 0 1 ch.val)
        (channelRetire 1 ch.val u)))) hquiet)
  · exact if_pos (by simp [hout])
  · rw [exec_drcRetire hc, if_neg]
    simp only [retireAsked, beq_eq_false_iff_ne.mpr hkey, Bool.false_and, Bool.and_false, Bool.false_eq_true, not_false_eq_true]

/-! ### Upkeep -/

/-- A request that waits past its step is raised (R126). -/
theorem exec_urgencyStep {ch : Fin 12} {r : DramReq} {s : State} (hreqs : (s.sched ch.val).reqs = [r]) (hu : r.urgency < 3) :
    exec (.urgencyStep ch r.id) s = .next (s.setSched ch.val { s.sched ch.val with
      reqs := [if urgencyStepOf s r.urgency * latencyTarget s r.who ≤ (s.now - r.arrival) * 10000 then { r with urgency := r.urgency + 1 } else r] }) := by
  show execUrgencyStep ch r.id s = _
  unfold execUrgencyStep
  dsimp only
  rw [hreqs]
  simp [hu]

/-- Settles O26. -/
theorem dramUpkeep : Obligations.DramUpkeep := by
  refine ⟨?_, ?_, ?_, ?_⟩
  · intro ch s x
    refine ⟨fun hin => ?_, fun hout => ⟨fun rank bank => if_pos (by simp [hout]), if_pos (by simp [hout])⟩, fun bank => rfl, fun r hreqs hu => ?_⟩
    · have hgo : ¬ (!inSvc s ch.val) = true := by simp [hin]
      refine ⟨?_, ?_, if_neg hgo⟩
      · intro rank y
        exact if_neg hgo
      · intro rank bank y
        exact if_neg hgo
    rw [exec_urgencyStep hreqs hu]
    refine ⟨fun h => by rw [if_pos h], fun h => ?_⟩
    rw [if_neg (not_le.mpr h), ← show x.reqs = [r] from hreqs]
  · intro s
    refine ⟨fun hr hu => if_pos (by simp [hr, hu]), fun h => if_neg ?_⟩
    obtain h | h := h <;> simp [h]
  · intro b seq m s x taken left hfind
    have hm : m.berth = b.toNat ∧ m.seq = seq.toNat := by
      have hp := List.find?_some hfind
      simpa using hp
    have hexec : exec (.compactionSwitch b seq) s = if copiesIn s m then .next (settle (weirEvent (compactAll (switchPlace m s)))) else .next s := by
      show execCompactionSwitch b seq s = _
      simp only [execCompactionSwitch, hfind]
    have hswitch : switchPlace m s =
        (({ s with drc := { s.drc with moving := left } } : State).setBerth b.toNat { x with chain := x.chain.map taken }) := by
      unfold switchPlace
      rw [hm.1, hm.2]
      rfl
    rw [hexec, hswitch]
    exact ⟨fun h => if_pos h, fun h => if_neg (ne_true_of_eq_false h)⟩
  · intro b seq s h
    show execCompactionSwitch b seq s = _
    simp only [execCompactionSwitch, h, List.find?_nil]

end Sys2Proof.Proofs.DramChannels

/-! # The sluice: triggers and phases -/

namespace Sys2Proof.Proofs.SluiceRun
open Sys2Proof Sys2Proof.Machine Sys2Proof.Safety

/-- A sluice of this microsecond whose mask holds code 1 while its first code is 2. -/
def maskedBeforeFirst : State :=
  { State.reset with
    seq := { State.reset.seq with st := 2 }
    weir := { State.reset.weir with st := .sluice }
    sluice := { State.reset.sluice with phase := 1, first := 2, mask := 1, tTrigger := State.reset.now } }

/-- Refutes O27: a trigger whose bit MASK holds already changes nothing, so it does not lower FIRST, which the second clause claims
of every later trigger in the same microsecond. -/
theorem not_sluiceTriggers : ¬ Obligations.SluiceTriggers := by
  intro h
  obtain ⟨-, hlater, -⟩ := h
  obtain ⟨hagain, -⟩ := hlater 1 maskedBeforeFirst (Or.inl rfl) rfl
  obtain ⟨-, hsluice, -⟩ := hagain rfl
  have hfirst : (trigger 1 maskedBeforeFirst).sluice.first = min 2 1 :=
    congrArg Sluice.first (hsluice (Or.inl (by decide)))
  have hkept : (trigger 1 maskedBeforeFirst).sluice.first = 2 := rfl
  rw [hkept] at hfirst
  exact absurd hfirst (by decide)

/-! ### Phases -/

/-- Once every row of the flush is programmed, the step is the one its counter names. -/
theorem flushStep_sealed {s : State} (hun : unspilled s = []) (hasm : s.fmm.asm = []) (hprog : sluiceProgrammed s = true)
    (hflush : s.sluice.flush = 2) : flushStep s = flushSealed s := by
  unfold flushStep
  rw [if_neg (by simp [hun, hasm]), if_neg (by simp [hprog])]
  simp only [hflush]

/-- The seal manifest (R217). -/
def sealManifest (s : State) : Manifest :=
  { sluiceManifest 3 s with ckptSeq := s.fmm.ckptSeq, sbs := sealedSbs s, fails := s.fmm.failed }

/-- Beside the manifest, the seal manifest's step changes at most the counter of the flush. -/
theorem flushSealed_written {s : State} (hrun : ofRun s 2 ≠ none) :
    ∃ f, flushSealed s = { writeManifest .sluice (sealManifest s) s with
      sluice := { (writeManifest .sluice (sealManifest s) s).sluice with flush := f } } := by
  have hsome : (ofRun s 2).isSome = true := Option.isSome_iff_ne_none.2 hrun
  have hseal : flushSealed s = if (writeManifest .sluice (sealManifest s) s).fmm.manifests.length = s.fmm.manifests.length
      then writeManifest .sluice (sealManifest s) s else setFlush 3 (writeManifest .sluice (sealManifest s) s) := by
    unfold flushSealed
    simp only [if_pos hsome]
    rfl
  rw [hseal]
  split
  · exact ⟨_, rfl⟩
  · exact ⟨3, rfl⟩

theorem flushSealed_noRun {s : State} (hrun : ofRun s 2 = none) : flushSealed s = s := by
  unfold flushSealed
  simp only [hrun, Option.isSome_none, Bool.false_eq_true, if_false, if_true]

/-- A start after a sluice waits for the restart hold. -/
theorem held_of_startOk {s : State} (hs : s.sluiced = true) (hok : startOk s = true) : s.sluice.tTrigger + restartHold s ≤ s.now := by
  simp only [startOk, hs, Bool.and_eq_true, Bool.not_true, Bool.false_or, decide_eq_true_eq] at hok
  tauto

/-- Settles O28. -/
theorem sluicePhases : Obligations.SluicePhases := by
  refine ⟨fun s hphase => ⟨fun hdue => if_neg ?_, fun hearly => if_pos (Or.inr hearly), fun hwait => if_pos ?_, ?_⟩,
    fun s hphase => ⟨fun hun => if_neg ?_, fun hun => if_pos ?_⟩, fun s _ _ hun hasm hprog => ?_,
    fun s hphase hflush => ⟨fun hw => if_pos ⟨hphase, hflush, hw⟩, fun hw => if_neg ?_⟩, fun s hno => if_neg ?_,
    fun s => ⟨fun hw h1 h5 => if_pos ⟨hw, h1, h5⟩, fun hno => if_neg ?_⟩,
    fun s => ⟨fun hs hok => if_pos (by simp [hs, hok]), fun hlt hs => if_neg ?_⟩⟩
  · exact not_or.2 ⟨not_not.2 hphase, not_lt.2 hdue⟩
  · exact Or.inr (hwait.imp_right Option.isSome_iff_ne_none.2)
  · intro hin hfence hmark u m
    have hgo : ¬ (s.sluice.phase ≠ 1 ∨ s.berths.any (fun p => !p.2.flights.isEmpty) = true ∨ s.mgmt.fencing.isSome = true) := by
      simp [hphase, hin, hfence]
    exact (if_neg hgo).trans (if_neg hmark)
  · simp [hphase, hun]
  · exact Or.inr (by simpa using hun)
  · intro m
    exact ⟨fun hflush hrun => (flushSealed_written hrun).imp fun f hf => (flushStep_sealed hun hasm hprog hflush).trans hf,
      fun hflush hrun => (flushStep_sealed hun hasm hprog hflush).trans (flushSealed_noRun hrun)⟩
  · simp [hw]
  · rintro ⟨hphase, hflush, -⟩
    exact hno.elim (absurd hphase) (absurd hflush)
  · rintro ⟨hw, -, h5⟩
    exact hno.elim (absurd hw) (not_le.2 h5)
  · intro hgo
    obtain ⟨-, hok⟩ := Bool.and_eq_true_iff.1 hgo
    exact absurd (held_of_startOk hs hok) (not_le.2 hlt)

end Sys2Proof.Proofs.SluiceRun

/-! # Refloat -/

namespace Sys2Proof.Proofs.RefloatSteps
open Sys2Proof Sys2Proof.Machine Sys2Proof.Safety

theorem readyNow_stage (s : State) : (readyNow s).refloat.stage = 5 := by
  unfold readyNow
  simp [State.setRefloat]

theorem readyNow_warn (s : State) : (readyNow s).pins.warn = (s.pins.warn && !s.keep.warnTill) := by
  unfold readyNow
  simp [State.setRefloat]

theorem readyNow_manifests (s : State) : (readyNow s).fmm.manifests =
    (s.fmm.manifests.filter (fun m => m.runId == s.refloat.runId)).map (fun m => { m with tEvent := s.now }) := by
  unfold readyNow
  simp [State.setRefloat]

/-- Settles O29. -/
theorem refloatStages : Obligations.RefloatStages := by
  refine ⟨?_, fun heads dirs marks s hno => if_pos ?_, ?_, fun cws s hno => if_pos ?_,
    fun s => ⟨fun hok => ⟨if_pos hok, readyNow_stage s, ?_, ?_⟩, fun hno => if_neg ?_⟩⟩
  · intro heads dirs marks s hstage hlive hsl scan ok
    have hgo : ¬ (s.refloat.stage ≠ 1 ∨ (!s.basinLive) = true ∨ s.sluiced = true) := by simp [hstage, hlive, hsl]
    refine ⟨fun hnew => ?_, ?_⟩
    · refine (if_neg hgo).trans ?_
      simp only [ok, scan] at hnew
      simp only [hnew]
    · intro m hnew first u seg loaded
      simp only [ok, scan] at hnew
      refine ⟨fun hkind => (if_neg hgo).trans ?_, ?_⟩
      · simp only [hnew]
        exact if_pos hkind
      · intro hkind taken
        refine (if_neg hgo).trans ?_
        simp only [hnew]
        exact if_neg hkind
  · exact hno.imp_right Or.inr
  · intro cws s hstage hopen hlive hwait u v
    exact if_neg (by simp [hstage, hopen, hlive, hwait])
  · obtain hno | hno := hno <;> simp [hno]
  · intro hwarn
    rw [readyNow_warn, hwarn]
    simp
  · intro m hm
    rw [readyNow_manifests] at hm
    obtain ⟨x, hx, rfl⟩ := List.mem_map.1 hm
    exact ⟨by simpa using (List.mem_filter.1 hx).2, rfl⟩
  · obtain hno | hno := hno
    · simp [readyOk, hno]
    · simp [readyOk, hno]

end Sys2Proof.Proofs.RefloatSteps

/-! # Sequencer programs -/

namespace Sys2Proof.Proofs.ProgramSteps
open Sys2Proof Sys2Proof.Machine Sys2Proof.Safety

/-- Settles O30. -/
theorem programSteps : Obligations.ProgramSteps := by
  refine ⟨?_, fun r w s hat => ?_, fun r t s hrun hwait => ?_, fun r w s hat => ?_, fun r w t s hrun hwait => ?_, fun r s hrun hwait => ?_⟩
  · intro r w s on hat
    have hexec : exec .enable s =
        if heldOff s r w = true then .next (setRun (some { r with wait := .seal }) s)
        else if eTimeout w = 0 ∨ itemReached (setItem w (eOn w) s) w = true then .next (settle (setStep on (r.step + 1) .none (setItem w (eOn w) s)))
        else .next (settle (setStep on r.step (.item w ((setItem w (eOn w) s).now + 1000 * eTimeout w)) (setItem w (eOn w) s))) := by
      show execEnable s = _
      simp only [execEnable, hat, on]
    rw [hexec]
    refine ⟨fun hheld => if_pos hheld, fun hheld hgo => ?_, fun hheld htime hreach => ?_⟩
    · rw [if_neg (ne_true_of_eq_false hheld), if_pos hgo]
    · rw [if_neg (ne_true_of_eq_false hheld), if_neg (not_or.2 ⟨htime, ne_true_of_eq_false hreach⟩)]
  · show execWait s = _
    simp only [execWait, hat]
  · have hexec : exec .waitExpiry s = if t ≤ s.now then .next (setStep r (r.step + 1) .none s) else .next s := by
      show execWaitExpiry s = _
      simp only [execWaitExpiry, hrun, hwait]
    rw [hexec]
    exact ⟨fun h => if_pos h, fun h => if_neg (not_le.2 h)⟩
  · have hexec : exec .check s = if condition s w = true ∨ eTimeout w = 0 then .next (setStep { r with c := condition s w } (r.step + 1) .none s)
        else .next (setStep { r with c := false } r.step (.cond w (s.now + 1000 * eTimeout w)) s) := by
      show execCheck s = _
      simp only [execCheck, hat]
    rw [hexec]
    exact ⟨fun h => if_pos h, fun hc ht => if_neg (not_or.2 ⟨ne_true_of_eq_false hc, ht⟩)⟩
  · have hexec : exec .checkTimeout s = if t ≤ s.now then .next (setStep { r with c := condition s w } (r.step + 1) .none s) else .next s := by
      show execCheckTimeout s = _
      simp only [execCheckTimeout, hrun, hwait]
    rw [hexec]
    exact ⟨fun h => if_pos h, fun h => if_neg (not_le.2 h)⟩
  · intro w
    have hexec : exec .jump s = if r.wait ≠ .none ∨ (1 ≤ sOp w ∧ sOp w ≤ 3) then .next s
        else if isEnd w = true then .next (settle (endProgram r.prog s))
        else .next (setStep r (if sOp w = 4 then jumpTo r w else r.step + 1) .none s) := by
      show execJump s = _
      simp only [execJump, hrun, w]
    rw [hexec]
    refine ⟨fun hop hend => ?_, fun hend hop => ?_⟩
    · rw [if_neg (by simp [hwait, hop]), if_neg (ne_true_of_eq_false hend), if_pos hop]
    · have hjump : ¬ (r.wait ≠ .none ∨ (1 ≤ sOp w ∧ sOp w ≤ 3)) := by
        rintro (h | ⟨h1, h3⟩)
        · exact h hwait
        · omega
      rw [if_neg hjump, if_pos hend]

end Sys2Proof.Proofs.ProgramSteps

/-! # Items, rails, starts and resets -/

namespace Sys2Proof.Proofs.ItemsAndResets
open Sys2Proof Sys2Proof.Machine Sys2Proof.Safety

theorem resumeWait_reached {r : Run} {w : BitVec 32} {t : Nat} {s : State} (hrun : s.seq.run = some r) (hwait : r.wait = .item w t)
    (h : itemReached s w = true) : resumeWait s = setStep r (r.step + 1) .none s := by
  simp only [resumeWait, hrun, hwait, h, if_true]

/-- The time limit of the step that waits for an item (R288). -/
theorem exec_enableTimeout_item {r : Run} {w : BitVec 32} {t : Nat} {s : State} (hrun : s.seq.run = some r) (hwait : r.wait = .item w t) :
    exec .enableTimeout s =
      if s.now < t then .next s
      else if itemReached s w = true then .next (setStep r (r.step + 1) .none s)
      else if eOn w = true then .next (settle (latchFail w r s))
      else .next (setStep r (r.step + 1) .none (dischargeLate w s)) := by
  show execEnableTimeout s = _
  simp only [execEnableTimeout, hrun, hwait]
  by_cases hreach : itemReached s w = true
  · simp only [resumeWait_reached hrun hwait hreach]
  · simp only [if_neg hreach]

/-- The time limit of the switching off that is waited for (R289). -/
theorem exec_enableTimeout_down {w : BitVec 32} {t : Nat} {s : State} (hrun : s.seq.run = none) (hwait : s.seq.downWait = some (w, t)) :
    exec .enableTimeout s =
      if s.now < t then .next s
      else if itemReached s w = true then .next (goDown s.seq.downs s)
      else .next (goDown s.seq.downs (dischargeLate w s)) := by
  show execEnableTimeout s = _
  simp only [execEnableTimeout, hrun, hwait]

/-- The end of a rail's slew (R283). -/
theorem exec_railTransEnd {r : Fin 64} {t : Nat} {s : State} (good : Bool) (hslew : (s.rail r.val).slewEnd = some t) :
    exec (.railTransEnd r good) s = if s.now < t then .next s else
      .next (settle (resumeWait (if good then railUp r.val (s.setRail r.val { s.rail r.val with slewEnd := none })
        else railDown r.val (s.setRail r.val { s.rail r.val with slewEnd := none })))) := by
  show execRailTransEnd r good s = _
  simp only [execRailTransEnd, hslew]

theorem exec_timedGraceExpiry {t : Nat} {s : State} (htimed : s.seq.timedEnd = some t) :
    exec .timedGraceExpiry s = if s.now < t then .next s else
      .next (settle (trigger 6 { s with seq := { s.seq with timedEnd := none } })) := by
  show execTimedGraceExpiry s = _
  simp only [execTimedGraceExpiry, htimed]

/-- A fault pin's rail loses its power-good pin; any other source leaves the pins. -/
theorem exec_railFault (r : Fin 64) (s : State) : exec (.railFault r) s = .next (settle (railDown r.val { s with seq := { s.seq with
    pgPins := if railSrc s r.val = 1 then s.seq.pgPins &&& ~~~ BitVec.ofNat 16 (2 ^ railIdx s r.val) else s.seq.pgPins } })) := rfl

/-- Settles O31. -/
theorem railsAndItems : Obligations.RailsAndItems := by
  refine ⟨fun r w t s hrun hwait => ?_, fun s hrun hwait => ?_, fun w t s hrun hwait => ?_, fun w s => rfl,
    fun r s => ?_, fun r good t s hslew => ?_, fun l s _ => ?_, fun t s htimed => ?_⟩
  · rw [exec_enableTimeout_item hrun hwait]
    refine ⟨?_, fun h => if_pos h, fun h hreach => ?_, fun h hreach hon => ?_, fun h hreach hon => ?_⟩
    · show execItemPowerGood s = _
      simp only [execItemPowerGood, hrun, hwait]
    · rw [if_neg (not_lt.2 h), if_pos hreach]
    · rw [if_neg (not_lt.2 h), if_neg (ne_true_of_eq_false hreach), if_pos hon]
    · rw [if_neg (not_lt.2 h), if_neg (ne_true_of_eq_false hreach), if_neg (ne_true_of_eq_false hon)]
  · constructor
    · show execItemPowerGood s = _
      simp only [execItemPowerGood, hrun, hwait]
    · show execEnableTimeout s = _
      simp only [execEnableTimeout, hrun, hwait]
  · rw [exec_enableTimeout_down hrun hwait]
    refine ⟨?_, fun h => if_pos h, fun h hreach => ?_, fun h hreach => ?_⟩
    · show execItemPowerGood s = _
      simp only [execItemPowerGood, hrun, hwait]
    · rw [if_neg (not_lt.2 h), if_pos hreach]
    · rw [if_neg (not_lt.2 h), if_neg (ne_true_of_eq_false hreach)]
  · rw [exec_railFault]
    refine ⟨fun hsrc => ?_, fun hsrc => ?_⟩
    · rw [if_pos hsrc]
    · rw [if_neg hsrc]
  · intro u
    refine ⟨fun h => ⟨?_, ?_⟩, fun h => (exec_railTransEnd good hslew).trans (if_pos h)⟩
    · exact (exec_railTransEnd true hslew).trans (if_neg (not_lt.2 h))
    · exact (exec_railTransEnd false hslew).trans (if_neg (not_lt.2 h))
  · refine ⟨fun hruns => ?_, fun hruns => ?_⟩
    · exact ⟨if_neg (by simp [hruns]), if_neg (by simp [hruns])⟩
    · exact ⟨if_pos (by simp [hruns]), if_pos (by simp [hruns])⟩
  · rw [exec_timedGraceExpiry htimed]
    exact ⟨fun h => if_neg (not_lt.2 h), fun h => if_pos h⟩

/-! ### Starts and resets -/

/-- A RESET_N pulse of 100 ns to 1 us resets or not, as a free value has it. -/
theorem exec_resetN {ns : Nat} {s : State} (haon : s.clk.aon = true) (h100 : 100 ≤ ns) :
    exec (.resetN ns) s = if 1000 ≤ ns then .next (settle (resetRequest 1 s))
      else if (Config.freeValue s.free).getLsbD 0 = true then .next (settle (resetRequest 1 { s with free := s.free + 1 }))
      else .next { s with free := s.free + 1 } :=
  if_neg (by simp [haon, h100])

/-- Settles O32. -/
theorem startsAndResets : Obligations.StartsAndResets := by
  refine ⟨fun s => ⟨fun hok => if_pos hok, fun hok => if_neg (ne_true_of_eq_false hok), fun hno => ?_⟩, fun n s => ?_, fun ns s haon => ?_,
    fun c s haon => ?_, fun i k n s => ⟨rfl, rfl, rfl, rfl⟩⟩
  · rw [Bool.eq_false_iff]
    intro hok
    simp only [startOk, Bool.and_eq_true, beq_iff_eq, Option.isNone_iff_eq_none] at hok
    obtain ⟨⟨⟨⟨⟨⟨⟨⟨⟨-, hroot⟩, -⟩, hst⟩, -⟩, -⟩, hdown⟩, -⟩, -⟩, -⟩ := hok
    obtain h | h | h := hno
    · exact absurd hroot (ne_true_of_eq_false h)
    · exact h hst
    · exact h hdown
  · intro m
    refine ⟨fun hrel hstr => if_pos ⟨hrel, hstr⟩, fun hno => if_neg ?_⟩
    rintro ⟨hrel, hstr⟩
    exact hno.elim (fun h => absurd hrel (ne_true_of_eq_false h)) (fun h => absurd hstr (ne_true_of_eq_false h))
  · refine ⟨fun h => ?_, fun h => if_pos (Or.inr h), fun h100 h => ?_⟩
    · rw [exec_resetN haon (by omega), if_pos h]
    · rw [exec_resetN haon h100, if_neg (not_le.2 h)]
      split
      · exact Or.inl rfl
      · exact Or.inr rfl
  · refine ⟨fun h => if_neg ?_, fun h => if_neg ?_, fun h => if_pos ?_, fun h => if_pos ?_⟩ <;> simp [haon, h]

end Sys2Proof.Proofs.ItemsAndResets

/-! # GAUGE_CTRL -/

namespace Sys2Proof.Proofs.GaugeControl
open Sys2Proof Sys2Proof.Machine Sys2Proof.Safety

section Command

variable {key : Byte} {f : State → State} {s : State}

theorem gaugeCommand_done (hbar : s.bar0 = true) (hd : (s.cmd kGauge).done = true) :
    gaugeCommand 0x6B f s = .next (settle (f (cmdTake kGauge s))) := by
  rw [gaugeCommand, if_pos (by simp [hbar]), cmdStart_done hd]

theorem gaugeCommand_busy (hbar : s.bar0 = true) (hd : (s.cmd kGauge).done = false) :
    gaugeCommand 0x6B f s = .next (settle (cmdTake kGauge s)) := by
  rw [gaugeCommand, if_pos (by simp [hbar]), cmdStart, if_neg (ne_true_of_eq_false hd)]

theorem gaugeCommand_ignored (h : s.bar0 = false ∨ key ≠ 0x6B) : gaugeCommand key f s = .next s := by
  rw [gaugeCommand, if_neg]
  obtain hbar | hkey := h
  · simp [hbar]
  · simp only [beq_eq_false_iff_ne.mpr hkey, Bool.and_false, Bool.false_eq_true, not_false_eq_true]

end Command

section Exec

variable {key : Byte} {i : Fin 8} {s : State} (hc : Clear s)

include hc

theorem exec_learnStart (ack : Bool) : exec (.learnStart key i ack) s = gaugeCommand key (doLearnStart i.val ack) s := by
  show execLearnStart key i ack s = _
  exact viaPort_clear _ _ hc

theorem exec_learnAbort : exec (.learnAbort key) s = gaugeCommand key doLearnAbort s := by
  show execLearnAbort key s = _
  exact viaPort_clear _ _ hc

theorem exec_auth : exec (.auth key i) s = gaugeCommand key (doAuth i.val) s := by
  show execAuth key i s = _
  exact viaPort_clear _ _ hc

theorem exec_capTest : exec (.capTest key) s = gaugeCommand key doCapTest s := by
  show execCapTest key s = _
  exact viaPort_clear _ _ hc

theorem exec_forget : exec (.forget key i) s = gaugeCommand key (doForget i.val) s := by
  show execForget key i s = _
  exact viaPort_clear _ _ hc

end Exec

/-! The RESULT of a string that cannot take its command (R257) -/

section Bad

variable {s : State} {i : Nat} {ok : Bool}

theorem stringBad_undeclared (hd : declared s i = false) : stringBad s i ok = some 2 := by simp [stringBad, hd]

theorem stringBad_condition (hd : declared s i = true) : stringBad s i false = some 4 := by simp [stringBad, hd]

theorem stringBad_absent (hd : declared s i = true) (hp : (s.str i).present = false) : stringBad s i true = some 6 := by simp [stringBad, hd, hp]

theorem stringBad_none (hd : declared s i = true) (hp : (s.str i).present = true) : stringBad s i true = none := by simp [stringBad, hd, hp]

/-- A string that may learn is declared and has its module. -/
theorem learnOk_usable (h : learnOk s i = true) : declared s i = true ∧ (s.str i).present = true := by
  simp only [learnOk, Bool.and_eq_true, List.all_eq_true, List.mem_range, decide_eq_true_eq] at h
  obtain ⟨⟨⟨⟨⟨⟨⟨hloaded, -⟩, hall⟩, hi⟩, -⟩, -⟩, -⟩, -⟩ := h
  exact ⟨by simp [declared, hloaded, hi], (hall i hi).1⟩

/-- Taking a ticket leaves what is asked of the strings alone. -/
theorem learnOk_cmdTake (hd : (s.cmd kGauge).done = true) : learnOk (cmdTake kGauge s) i = learnOk s i := by
  rw [cmdTake_done hd]
  rfl

theorem authAble_cmdTake (hd : (s.cmd kGauge).done = true) : authAble (cmdTake kGauge s) = authAble s := by
  rw [cmdTake_done hd]
  rfl

theorem capTestOk_cmdTake (hd : (s.cmd kGauge).done = true) : capTestOk (cmdTake kGauge s) = capTestOk s := by
  rw [cmdTake_done hd]
  rfl

end Bad

theorem setStr_present {s : State} {i : Nat} {x : GStr} (h : x.present = true) :
    s.setStr i x = { s with gauge := { s.gauge with strings := tins s.gauge.strings i x } } := by
  have hne : x ≠ GStr.absent := fun hx => absurd (congrArg GStr.present hx) (by rw [h]; decide)
  rw [State.setStr, tset, if_neg hne]

/-- Two changes of a string whose module stays present are one. -/
theorem updStr_updStr {s : State} {i : Nat} {f g : GStr → GStr} (hf : (f (s.str i)).present = true) (hg : (g (f (s.str i))).present = true) :
    (s.updStr i f).updStr i g = s.updStr i (fun x => g (f x)) := by
  have hfirst : s.updStr i f = { s with gauge := { s.gauge with strings := tins s.gauge.strings i (f (s.str i)) } } := setStr_present hf
  have hstr : (s.updStr i f).str i = f (s.str i) := by
    rw [hfirst]
    exact tget_tins_same _ _ _ _
  have hboth : s.updStr i (fun x => g (f x)) = { s with gauge := { s.gauge with strings := tins s.gauge.strings i (g (f (s.str i))) } } :=
    setStr_present hg
  rw [hboth, State.updStr, hstr, setStr_present hg, hfirst]
  simp only [tins_tins]

/-- AUTH asks for the string's authentication and stays running. -/
theorem doAuth_asks {i : Nat} {s : State} (hd : declared s i = true) (hable : authAble s = true) (hp : (s.str i).present = true) :
    doAuth i s = authNext (({ s with gauge := { s.gauge with runCmd := some i } } : State).updStr i (fun g => { g with
      auth := if g.auth = 2 then 2 else 1, authAt := if g.authAt = 0 then s.now + 1 else min g.authAt (s.now + 1), attempts := 0
      due := true })) := by
  simp only [doAuth, hable, stringBad_none hd hp]
  exact congrArg authNext (updStr_updStr
    (s := { s with gauge := { s.gauge with runCmd := some i } }) (f := fun g => { g with auth := if g.auth = 2 then 2 else 1 }) hp hp)

/-- FORGET ends the string's learning, takes the module as a swapped one and asks for its authentication. -/
theorem doForget_swaps {i : Nat} {s v : State} (hd : declared s i = true) (hp : (s.str i).present = true)
    (hv : (if s.gauge.learning = some i then stopLearning s else s) = v) :
    doForget i s = cmdEnd kGauge 0 (authNext (authAsk i s.now (v.updStr i (fun g => swapped v (decide (0 < g.nameplate)) g)))) := by
  have hnow : v.now = s.now := by
    rw [← hv]
    split <;> simp
  rw [doForget, stringBad_none hd hp, ← hnow, ← hv]
  rfl

/-- Settles O35. -/
theorem gaugeCommands : Obligations.GaugeCommands := by
  refine ⟨fun i ack s hc hbar hd => ?_, fun s hc hbar hd => ?_, fun k i ack s hc => ⟨fun hno => ?_, fun hbar hd => ?_⟩, fun i s hl => ?_⟩
  · intro u
    have hdecl : declared u i.val = declared s i.val := by simp only [u, cmdTake_done hd]; rfl
    have hpres : (u.str i.val).present = (s.str i.val).present := by simp only [u, cmdTake_done hd]; rfl
    have hnow : u.now = s.now := by simp only [u, cmdTake_done hd]; rfl
    have hlearn : u.gauge.learning = s.gauge.learning := by simp only [u, cmdTake_done hd]; rfl
    refine ⟨fun hno => ⟨?_, ?_, ?_⟩, fun hdec hno => ?_, fun hok => ?_, fun hdec hno => ?_, fun hdec hcore hsealed hharbour => ⟨fun hp => ?_, fun hp => ?_⟩,
      fun hdec hp => ?_, fun hdec hp => ?_⟩
    · rw [exec_learnStart hc, gaugeCommand_done hbar hd, doLearnStart, stringBad_undeclared (hdecl.trans hno)]
    · rw [exec_auth hc, gaugeCommand_done hbar hd, doAuth, stringBad_undeclared (hdecl.trans hno)]
    · rw [exec_forget hc, gaugeCommand_done hbar hd, doForget, stringBad_undeclared (hdecl.trans hno)]
    · rw [exec_learnStart hc, gaugeCommand_done hbar hd, doLearnStart, learnOk_cmdTake hd, hno, stringBad_condition (hdecl.trans hdec)]
    · obtain ⟨hdec, hp⟩ := learnOk_usable hok
      intro b v
      have hdo : ∀ ack, doLearnStart i.val ack u = cmdEnd kGauge (if ack then 0 else 7) (learnBegin i.val ack u) := by
        intro ack
        rw [doLearnStart, learnOk_cmdTake hd, hok, stringBad_none (hdecl.trans hdec) (hpres.trans hp)]
      have hbegin : ∀ ack, learnBegin i.val ack u = if ack then { v with gauge := { v.gauge with counted := countedMask v } } else stopLearning v := by
        intro ack
        simp only [v, b, u, cmdTake_done hd]
        rfl
      constructor
      · rw [exec_learnStart hc, gaugeCommand_done hbar hd, hdo, hbegin]
        rfl
      · rw [exec_learnStart hc, gaugeCommand_done hbar hd, hdo, hbegin]
        rfl
    · have hable : authAble u = false := by
        rw [authAble_cmdTake hd]
        obtain h | h | h := hno <;> simp [authAble, h]
      rw [exec_auth hc, gaugeCommand_done hbar hd, doAuth, hable, stringBad_condition (hdecl.trans hdec)]
    · have hable : authAble u = true := by
        rw [authAble_cmdTake hd]
        simp [authAble, hcore, hsealed, hharbour]
      rw [exec_auth hc, gaugeCommand_done hbar hd, doAuth, hable, stringBad_absent (hdecl.trans hdec) (hpres.trans hp)]
    · have hable : authAble u = true := by
        rw [authAble_cmdTake hd]
        simp [authAble, hcore, hsealed, hharbour]
      rw [exec_auth hc, gaugeCommand_done hbar hd, doAuth_asks (hdecl.trans hdec) hable (hpres.trans hp), hnow]
    · rw [exec_forget hc, gaugeCommand_done hbar hd, doForget, stringBad_absent (hdecl.trans hdec) (hpres.trans hp)]
    · intro v
      have hv : (if u.gauge.learning = some i.val then stopLearning u else u) = v := by rw [hlearn]
      rw [exec_forget hc, gaugeCommand_done hbar hd, doForget_swaps (hdecl.trans hdec) (hpres.trans hp) hv, hnow]
  · intro u
    have hlearn : u.gauge.learning = s.gauge.learning := by simp only [u, cmdTake_done hd]; rfl
    refine ⟨fun hno => ?_, fun hyes => ?_, fun hno => ?_, fun hyes => ?_⟩
    · rw [exec_learnAbort hc, gaugeCommand_done hbar hd, doLearnAbort, if_pos (by rw [hlearn, hno]; rfl)]
    · rw [exec_learnAbort hc, gaugeCommand_done hbar hd, doLearnAbort, if_neg (by simpa [hlearn] using hyes)]
    · rw [exec_capTest hc, gaugeCommand_done hbar hd, doCapTest, capTestOk_cmdTake hd, if_pos (by simp [hno])]
    · rw [exec_capTest hc, gaugeCommand_done hbar hd, doCapTest, capTestOk_cmdTake hd, if_neg (by simp [hyes])]
      simp only [u, cmdTake_done hd]
      rfl
  · rw [exec_learnStart hc, exec_learnAbort hc, exec_auth hc, exec_capTest hc, exec_forget hc]
    exact ⟨gaugeCommand_ignored hno, gaugeCommand_ignored hno, gaugeCommand_ignored hno, gaugeCommand_ignored hno, gaugeCommand_ignored hno⟩
  · rw [exec_learnStart hc, exec_learnAbort hc, exec_auth hc, exec_capTest hc, exec_forget hc]
    exact ⟨gaugeCommand_busy hbar hd, gaugeCommand_busy hbar hd, gaugeCommand_busy hbar hd, gaugeCommand_busy hbar hd, gaugeCommand_busy hbar hd⟩
  · intro v w
    refine ⟨fun hac => ?_, fun hac => ?_⟩
    · simp only [stopLearning, hl]
      exact if_neg (ne_true_of_eq_false hac)
    · simp only [stopLearning, hl]
      exact if_pos hac

end Sys2Proof.Proofs.GaugeControl

/-! # Gauge modules -/

namespace Sys2Proof.Proofs.GaugeModules
open Sys2Proof Sys2Proof.Machine Sys2Proof.Safety Sys2Proof.Proofs.GaugeControl

/-- A string set to a present module reads back as it was set. -/
theorem str_setStr_present {s : State} {i : Nat} {g : GStr} (h : g.present = true) : (s.setStr i g).str i = g := by
  rw [setStr_present h]
  exact tget_tins_same _ _ _ _

/-- The state in which a silent string's silence is counted: the silence of a declared one has been reported. -/
def silenceHeard (i : Nat) (s : State) : State :=
  if declared s i then report (0x1E0 + i) false (detailWord 0 1 i) (s.bump (offGAUGE_S_CNT + 0x40 * i) 15 0 1) else s

theorem silenceHeard_str (i : Nat) (s : State) : (silenceHeard i s).str i = s.str i := by
  have hgauge : (silenceHeard i s).gauge = s.gauge := by
    unfold silenceHeard
    split <;> simp [State.bump, State.setReg]
  rw [State.str, State.str, hgauge]

/-- The third silence in a row takes the module out (R233). -/
theorem pollOne_third {i : Nat} {s : State} (hp : (s.str i).present = true) (h2 : (s.str i).silent = 2) :
    pollOne i none s = moduleGone i ((silenceHeard i s).setStr i { s.str i with silent := 3 }) := by
  have hupd : (silenceHeard i s).updStr i (fun g => { g with silent := min 3 (g.silent + 1) }) =
      (silenceHeard i s).setStr i { s.str i with silent := 3 } := by
    rw [State.updStr, silenceHeard_str, h2]
    rfl
  show (if (((silenceHeard i s).updStr i (fun g => { g with silent := min 3 (g.silent + 1) })).str i).silent = 3
    then moduleGone i ((silenceHeard i s).updStr i (fun g => { g with silent := min 3 (g.silent + 1) }))
    else (silenceHeard i s).updStr i (fun g => { g with silent := min 3 (g.silent + 1) })) = _
  rw [hupd, if_pos]
  rw [str_setStr_present (by exact hp)]

/-- An answer with the serial of the module that is there changes only its silence and temperature. -/
theorem pollOne_same {i : Nat} {serial : BitVec 128} {temp : BitVec 8} {s : State} (hp : (s.str i).present = true)
    (hs : (s.str i).serial = serial) : pollOne i (some (serial, temp)) s = s.setStr i { s.str i with silent := 0, temp := temp } := by
  have hstr : (s.setStr i { s.str i with silent := 0, temp := temp }).str i = { s.str i with silent := 0, temp := temp } :=
    str_setStr_present (g := { s.str i with silent := 0, temp := temp }) hp
  show (if (!((s.setStr i { s.str i with silent := 0, temp := temp }).str i).present) = true
    then moduleHere i serial (s.setStr i { s.str i with silent := 0, temp := temp })
    else if ((s.setStr i { s.str i with silent := 0, temp := temp }).str i).serial ≠ serial
      then moduleHere i serial (moduleGone i (s.setStr i { s.str i with silent := 0, temp := temp }))
      else s.setStr i { s.str i with silent := 0, temp := temp }) = _
  rw [hstr, if_neg (by simp [hp]), if_neg (not_not.2 hs)]

/-- A verdict for a string with a nonce binds its module or fails the attempt. -/
theorem exec_authVerdict {i : Fin 8} {d : Identity} {r t : BitVec 256} {n : Nat} {s : State} (hn : (s.str i.val).nonce = some n) :
    exec (.authVerdict i d r t) s =
      .next (settle (authNext (if identityOk s n d r.toNat t.toNat = true then bindModule i.val d s else authFail i.val s))) := by
  show execAuthVerdict i d r t s = _
  simp only [execAuthVerdict, hn]

/-- Settles O36. -/
theorem gaugeModules : Obligations.GaugeModules := by
  refine ⟨fun l s => ⟨fun hruns hhib => if_neg (by simp [hruns, hhib]), fun hno => if_pos ?_⟩,
    fun i s hp h2 => ⟨_, pollOne_third hp h2, ?_, ?_⟩, fun i serial temp s hp hs => pollOne_same hp hs, fun s known g => ?_,
    fun i s => ⟨fun h => if_pos h, fun h => if_neg (ne_true_of_eq_false h)⟩, fun i d r t s => ⟨fun hn => ?_, fun n hn => ?_⟩, ?_⟩
  · obtain h | h := hno <;> simp [h]
  · rw [str_setStr_present (by exact hp)]
    exact hp
  · rw [str_setStr_present (by exact hp)]
  · intro w
    exact ⟨rfl, rfl, rfl, rfl, rfl, rfl⟩
  · show execAuthVerdict i d r t s = _
    simp only [execAuthVerdict, hn]
  · rw [exec_authVerdict hn]
    refine ⟨fun hok => ?_, fun hok => ?_⟩
    · rw [if_pos hok]
    · rw [if_neg (ne_true_of_eq_false hok)]
  · intro i ack s t
    have hgo : learnTurn s = some i.val → s.gauge.hibernating = false → ¬ (learnTurn s ≠ some i.val ∨ s.gauge.hibernating = true) :=
      fun hturn hhib h => h.elim (absurd hturn) (fun h => absurd h (ne_true_of_eq_false hhib))
    refine ⟨fun hturn hhib => ⟨fun hok => ?_, fun hok => ?_⟩, fun hno => if_pos hno⟩
    · exact (if_neg (hgo hturn hhib)).trans (if_pos hok)
    · exact (if_neg (hgo hturn hhib)).trans (if_neg (ne_true_of_eq_false hok))

end Sys2Proof.Proofs.GaugeModules

/-! # The windlass starts -/

namespace Sys2Proof.Proofs.WindlassStart
open Sys2Proof Sys2Proof.Machine Sys2Proof.Safety Sys2Proof.Proofs.WindlassFaults

@[simp] theorem driven_sync (f : Fly) : f.driven.sync = f.sync := by
  obtain ⟨_, _, _, h⟩ := driven_shape f
  rw [h]

/-- The steps of SYNC in which the legs are switched (R266, R267). -/
def SyncStep.drives : SyncStep → Bool
  | .matched | .encoder _ => true
  | .measure | .align _ => false

theorem syncDrives_eq (s : State) : syncDrives s = SyncStep.drives s.fly.sync := by
  unfold syncDrives
  cases s.fly.sync <;> rfl

/-! How SYNC goes on -/

section Turn

variable {s : State} (hst : s.fly.st = .sync)

include hst

theorem syncTurn_measure (hm : s.fly.sync = .measure) :
    syncTurn s = s.setFly { s.fly with sync := if s.FLY_CFG1_BEMF_MIN ≤ s.fly.bemf then .matched else .align s.now } := by
  unfold syncTurn
  rw [if_neg (not_not.2 hst)]
  simp only [hm]

theorem syncTurn_align {t : Nat} (ha : s.fly.sync = .align t) :
    syncTurn s = if t + 200000 ≤ s.now then s.setFly { s.fly with sync := .encoder (Config.flyAngle s.now), syncAt := s.now } else s := by
  unfold syncTurn
  rw [if_neg (not_not.2 hst)]
  simp only [ha]

theorem syncTurn_drives (hd : SyncStep.drives s.fly.sync = true) : syncTurn s = s := by
  unfold syncTurn
  rw [if_neg (not_not.2 hst)]
  cases hs : s.fly.sync with
  | measure => rw [hs] at hd; exact absurd hd (by decide)
  | align t => rw [hs] at hd; exact absurd hd (by simp [SyncStep.drives])
  | matched => rfl
  | encoder a => rfl

/-- SYNC_LOCK lets SYNC go on and enters RUN where the legs are switched. -/
theorem exec_syncLock : exec .syncLock s = if syncDrives (syncTurn s) = true then
      .next (((syncTurn s).setFly { (syncTurn s).fly with st := .run, measured := true, ocRun0 := 0, ocRun1 := 0, ocHit := 0 }).bump offFLY_CNT 63 48 1)
    else .next (syncTurn s) :=
  if_neg (not_not.2 hst)

end Turn

theorem syncLate_align {s : State} {t : Nat} (ha : s.fly.sync = .align t) : syncLate s = false := by
  simp only [syncLate, ha]

theorem syncLate_of {s : State} (hno : ∀ t, s.fly.sync ≠ .align t) : syncLate s = decide (s.fly.syncAt + 20000 ≤ s.now) := by
  unfold syncLate
  cases hs : s.fly.sync with
  | align t => exact absurd hs (hno t)
  | measure => rfl
  | matched => rfl
  | encoder a => rfl

/-- With the gates cut, or in a state without switching, the legs are off (R259). -/
theorem driven_off {f : Fly} (h : f.gatesCut = true ∨ f.st = .off ∨ f.st = .safe ∨ f.st = .fault) :
    f.driven = { f with gateEn := 0, pwmH := 0, pwmL := 0 } := by
  unfold Fly.driven
  obtain h | h | h | h := h <;> simp [h]

/-- What a failed synchronization leaves in SAFE. -/
theorem flySafe_waits (f : Fly) (s : State) (w : Nat) :
    let t := flySafe (s.setFly f)
    t.setFly { t.fly with waitUntil := some w } = s.setFly { f with
      st := .safe, gatesCut := false, dump := false, motoring := false, generating := false, release := false, measured := false
      waitUntil := some w } := by
  obtain ⟨a, h, l, hf⟩ := driven_shape f
  simp only [flySafe, State.setFly, hf]
  rw [driven_off (by simp), driven_off (by simp), driven_off (by simp)]

/-- Settles O39. -/
theorem windlassStarting : Obligations.WindlassStarting := by
  refine ⟨fun s => ⟨fun hmay => ⟨fun h2 => ?_, fun h2 => ?_⟩, fun hmay => if_neg (ne_true_of_eq_false hmay), fun hno => ?_⟩,
    fun p s hst => ⟨?_, ?_⟩, ?_, ?_, fun t s hw => ?_, fun x s => ⟨fun h => if_pos h, fun h => ⟨if_pos h, if_pos (Or.inl h)⟩⟩, fun f => ?_⟩
  · refine (if_pos hmay).trans ?_
    rw [if_pos h2]
  · refine (if_pos hmay).trans ?_
    rw [if_neg h2]
    rfl
  · rw [Bool.eq_false_iff]
    intro hmay
    simp only [windlassMay, Bool.and_eq_true, Bool.or_eq_true, beq_iff_eq, bne_iff_ne, decide_eq_true_eq, Option.isNone_iff_eq_none] at hmay
    obtain ⟨⟨⟨⟨⟨⟨⟨⟨⟨hst, -⟩, hph⟩, -⟩, hhold⟩, hlink⟩, -⟩, hwait⟩, hcfg⟩, -⟩ := hmay
    obtain h | h | h | h | h | h := hno
    · exact h hst
    · exact h hhold
    · exact absurd hlink (not_le.2 h)
    · exact h hwait
    · exact hph.elim h.1 h.2
    · exact hcfg h
  · exact if_neg (not_not.2 hst)
  · exact if_neg (not_not.2 hst)
  · intro s hst v
    refine ⟨fun hd => (exec_syncLock hst).trans (if_pos hd), fun hd => (exec_syncLock hst).trans (if_neg (ne_true_of_eq_false hd)),
      fun hm hb => ?_, fun hm hb => ?_, fun t ha => ⟨fun hdue => ?_, fun hnot => ?_⟩, fun hd => ?_⟩
    · have hv : v = s.setFly { s.fly with sync := .matched } := by
        simp only [v, syncTurn_measure hst hm, if_pos hb]
      refine ⟨hv, ?_⟩
      rw [syncDrives_eq, hv]
      exact congrArg SyncStep.drives (driven_sync _)
    · have hv : v = s.setFly { s.fly with sync := .align s.now } := by
        simp only [v, syncTurn_measure hst hm, if_neg (not_le.2 hb)]
      refine ⟨hv, ?_⟩
      rw [syncDrives_eq, hv]
      exact congrArg SyncStep.drives (driven_sync _)
    · have hv : v = s.setFly { s.fly with sync := .encoder (Config.flyAngle s.now), syncAt := s.now } := by
        simp only [v, syncTurn_align hst ha, if_pos hdue]
      refine ⟨hv, ?_⟩
      rw [syncDrives_eq, hv]
      exact congrArg SyncStep.drives (driven_sync _)
    · have hv : v = s := by simp only [v, syncTurn_align hst ha, if_neg (not_le.2 hnot)]
      refine ⟨hv, ?_⟩
      rw [syncDrives_eq, hv, ha]
      rfl
    · have hdr : SyncStep.drives s.fly.sync = true := by
        obtain h | ⟨a, h⟩ := hd <;> rw [h] <;> rfl
      have hv : v = s := syncTurn_drives hst hdr
      refine ⟨hv, ?_⟩
      rw [syncDrives_eq, hv, hdr]
  · intro s hst l
    refine ⟨fun hno hlate => ?_, fun h => if_pos (Or.inr ?_)⟩
    · have hexec : exec .syncTimeout s = if 3 ≤ l.length then .next (settle (flyFault 3 0xF (s.setFly { s.fly with syncFails := l })))
          else .next (s.setFly { s.fly with
            st := .safe, gatesCut := false, dump := false, motoring := false, generating := false, release := false, measured := false
            syncFails := l, waitUntil := some (s.now + 1000000) }) := by
        refine (if_neg ?_).trans (congrArg (ite _ _) (congrArg Host.Outcome.next (flySafe_waits _ s _)))
        rw [syncLate_of hno, decide_eq_true hlate]
        simp [hst]
      rw [hexec]
      exact ⟨fun h => if_pos h, fun h => if_neg (not_le.2 h)⟩
    · obtain ⟨t, ha⟩ | hnot := h
      · rw [syncLate_align ha]
        rfl
      · by_cases hal : ∃ t, s.fly.sync = .align t
        · obtain ⟨t, ha⟩ := hal
          rw [syncLate_align ha]
          rfl
        · rw [syncLate_of (fun t ht => hal ⟨t, ht⟩), decide_eq_false (not_le.2 hnot)]
          rfl
  · have hexec : exec .flyRestartWaitEnd s = if t ≤ s.now then .next (s.setFly { s.fly with waitUntil := none }) else .next s := by
      show execFlyRestartWaitEnd s = _
      simp only [execFlyRestartWaitEnd, hw]
    rw [hexec]
    exact ⟨fun h => if_pos h, fun h => if_neg (not_le.2 h)⟩
  · refine ⟨driven_off, fun hcut hst => ?_, fun hcut h => ?_, fun hcut h => ?_⟩
    · simp [Fly.driven, hcut, hst]
    · obtain ⟨hst, hs⟩ | ⟨hst, hs⟩ := h <;> simp [Fly.driven, hcut, hst, hs]
    · obtain ⟨hst, hs⟩ | ⟨hst, hs⟩ | hst := h
      · simp [Fly.driven, hcut, hst, hs]
      · simp [Fly.driven, hcut, hst, hs]
      · simp [Fly.driven, hcut, hst]

end Sys2Proof.Proofs.WindlassStart

/-! # Phase sets -/

namespace Sys2Proof.Proofs.WindlassSets
open Sys2Proof Sys2Proof.Machine Sys2Proof.Safety Sys2Proof.Proofs.WindlassFaults

/-- An overcurrent trip of a set in service, while the drive switches (R270). -/
theorem exec_overcurrentTrip {p : Fin 6} {s : State} (hsw : switching s = true) (hin : setIn s (setOf p) = true) :
    exec (.overcurrentTrip p) s =
      let u := s.bump offFLY_CNT 31 16 1
      let v := setOcRun (setOf p) (ocRun s (setOf p) + 1)
        (u.setFly { s.fly with ocHit := s.fly.ocHit ||| BitVec.ofNat 2 (2 ^ (setOf p).val) })
      if s.fly.ocHit.getLsbD (setOf p).val = true then .next u
      else if 16 ≤ ocRun s (setOf p) + 1 then .next (settle (loseSet (setOf p) p.val v)) else .next v :=
  if_neg (by simp [hsw, hin])

/-- The drive with a set taken out of it. -/
def withoutSet (k : Fin 2) (s : State) : State := s.setFly (if k = 0 then { s.fly with set0 := false } else { s.fly with set1 := false })

theorem withoutSet_remains (k : Fin 2) (s : State) :
    ((withoutSet k s).fly.set0 = true ∨ (withoutSet k s).fly.set1 = true) ↔ setIn s (if k = 0 then 1 else 0) = true := by
  unfold withoutSet State.setFly setIn
  obtain ⟨_, _, _, h⟩ := driven_shape (if k = 0 then { s.fly with set0 := false } else { s.fly with set1 := false })
  dsimp only
  rw [h]
  by_cases hk : k = 0 <;> simp [hk]

theorem withoutSet_st (k : Fin 2) (s : State) : (withoutSet k s).fly.st = s.fly.st := by
  refine (driven_st _).trans ?_
  split <;> rfl

/-- With the other set still in service the drive goes on, out of the budget unless one set covers a sluice. -/
theorem takeSetOut_remaining {k : Fin 2} {phase : Nat} {s : State} (hin : setIn s k = true) (hother : setIn s (if k = 0 then 1 else 0) = true) :
    takeSetOut k phase s = if flyCounts (withoutSet k s) = true then withoutSet k s else flyDrop (withoutSet k s) :=
  (if_neg (by simp [hin])).trans (if_pos ((withoutSet_remains k s).2 hother))

/-- With the last set a drive that starts or runs faults. -/
theorem takeSetOut_last {k : Fin 2} {phase : Nat} {s : State} (hin : setIn s k = true) (hother : setIn s (if k = 0 then 1 else 0) = false) :
    takeSetOut k phase s =
      if s.fly.st = .run ∨ s.fly.st = .sync ∨ s.fly.st = .test then flyFault 8 phase (withoutSet k s) else withoutSet k s := by
  refine (if_neg (by simp [hin])).trans ((if_neg ?_).trans ?_)
  · exact fun h => absurd ((withoutSet_remains k s).1 h) (ne_true_of_eq_false hother)
  · rw [← withoutSet_st k s]
    rfl

theorem loseSet_in {k : Fin 2} {phase : Nat} {s : State} (hin : setIn s k = true) :
    loseSet k phase s = report (0x1E9 + k.val) true (detailWord 0 2 k.val) (takeSetOut k phase s) :=
  if_neg (by simp [hin])

/-- Settles O41. -/
theorem windlassPhases : Obligations.WindlassPhases := by
  refine ⟨?_, fun p s hno => if_pos ?_, fun k s => ⟨fun hst => if_pos hst, fun hst => ?_, fun hrun hsync hbrake => ?_⟩,
    fun p s hst => ⟨if_pos hst, fun hin => if_pos ⟨hst, hin⟩, fun hin => if_neg fun h => ?_⟩,
    fun p s hst => ⟨if_neg hst, if_neg (fun h => hst h.1)⟩, ?_⟩
  · intro p s hsw hin k u v
    rw [exec_overcurrentTrip hsw hin]
    refine ⟨fun hhit => if_pos hhit, fun hhit hlt => ?_, fun hhit hle => ?_⟩
    · exact (if_neg (ne_true_of_eq_false hhit)).trans (if_neg (not_le.2 (Nat.succ_lt_succ hlt)))
    · exact (if_neg (ne_true_of_eq_false hhit)).trans (if_pos (Nat.succ_le_succ hle))
  · exact hno.imp (by simp) (by simp)
  · refine (if_neg ?_).trans (if_pos hst)
    obtain h | h := hst <;> simp [h]
  · exact (if_neg hbrake).trans (if_neg (not_or.2 ⟨hrun, hsync⟩))
  · exact absurd h.2 (ne_true_of_eq_false hin)
  · intro k phase s t told
    refine ⟨fun hout => if_pos (by simp [hout]), fun hin hother => ?_, fun hin hother => ?_⟩
    · rw [loseSet_in hin, takeSetOut_remaining hin hother]
      exact ⟨fun h => congrArg told (if_pos h), fun h => congrArg told (if_neg (ne_true_of_eq_false h))⟩
    · rw [loseSet_in hin, takeSetOut_last hin hother]
      refine ⟨fun h => congrArg told (if_pos h), fun h => congrArg told (if_neg ?_)⟩
      obtain h | h | h | h := h <;> simp [h]

end Sys2Proof.Proofs.WindlassSets

/-! # The windlass: the link, HOLD and CLEAR -/

namespace Sys2Proof.Proofs.WindlassControl
open Sys2Proof Sys2Proof.Machine Sys2Proof.Safety Sys2Proof.Proofs.WindlassFaults Sys2Proof.Proofs.WindlassStart

theorem exec_linkTarget {t : BitVec 16} {s : State} (hc : Clear s) (hbar : s.bar0 = true) :
    exec (.linkTarget t) s = .next (writeLinkTarget t.toNat s) := by
  show execLinkTarget t s = _
  exact (viaPort_clear _ _ hc).trans (if_pos hbar)

theorem exec_flyHold {k : Byte} {hold : Bool} {s : State} (hc : Clear s) :
    exec (.flyHold k hold) s = if s.bar0 && k == 0x3E then .next (settle (writeHold hold s)) else .next s := by
  show execFlyHold k hold s = _
  exact viaPort_clear _ _ hc

theorem exec_flyClear {k : Byte} {s : State} (hc : Clear s) :
    exec (.flyClear k) s = if s.bar0 && k == 0x3E then .next (clearFly s) else .next s := by
  show execFlyClear k s = _
  exact viaPort_clear _ _ hc

/-- Without the key, or out of reach, FLY_CTRL does nothing. -/
theorem flyKey_wrong {k : Byte} {s : State} (h : k ≠ 0x3E ∨ s.bar0 = false) : ¬ (s.bar0 && k == 0x3E) = true := by
  obtain h | h := h
  · simp only [beq_eq_false_iff_ne.mpr h, Bool.and_false, Bool.false_eq_true, not_false_eq_true]
  · simp [h]

/-- The state after a HOLD write, before it takes effect. -/
theorem writeHold_eq (hold : Bool) (s : State) : writeHold hold s =
    if hold = true ∧ s.fly.st = .run then flyDrop (flySafe (s.setReg offFLY_CTRL (if hold then 1 else 0)))
    else s.setReg offFLY_CTRL (if hold then 1 else 0) := by
  have hbit : bitAt hold 0 = if hold then 1 else 0 := by cases hold <;> rfl
  unfold writeHold
  rw [hbit]
  rfl

/-- CLEAR out of FAULT. -/
theorem clearFly_fault {s : State} (h : s.fly.st = .fault) : clearFly s = s.setFly { s.fly with
    st := .safe, gatesCut := false, cause := 0, phase := 0, tFault := 0, encFailed := false
    set0 := decide (0 < s.FLY_CFG0_PHASES), set1 := decide (s.FLY_CFG0_PHASES = 2) } := by
  refine (if_pos h).trans ?_
  obtain ⟨a, b, c, hf⟩ := driven_shape { s.fly with st := .safe, gatesCut := false, cause := 0, phase := 0, tFault := 0, encFailed := false }
  simp only [setsBack, State.setFly, hf]
  rw [driven_off (by simp), driven_off (by simp)]
  rfl

/-- What a PWM period takes from the last one (R270). -/
def periodFly (link : BitVec 16) (f : Fly) : Fly :=
  { f with
    link := link.toNat, ocHit := 0, ocRun0 := if f.ocHit.getLsbD 0 then f.ocRun0 else 0
    ocRun1 := if f.ocHit.getLsbD 1 then f.ocRun1 else 0 }

/-- The gate outputs of a drive whose outputs were set before follow its state alone. -/
theorem driven_driven (f : Fly) (g m : Bool) :
    Fly.driven { f.driven with generating := g, motoring := m } = Fly.driven { f with generating := g, motoring := m } := by
  obtain ⟨_, _, _, hf⟩ := driven_shape f
  rw [hf]
  rfl

section Driven

variable (f : Fly)

theorem driven_release : f.driven.release = f.release := by obtain ⟨_, _, _, h⟩ := driven_shape f; rw [h]
theorem driven_used : f.driven.used = f.used := by obtain ⟨_, _, _, h⟩ := driven_shape f; rw [h]
theorem driven_ramp : f.driven.ramp = f.ramp := by obtain ⟨_, _, _, h⟩ := driven_shape f; rw [h]
theorem driven_rampAt : f.driven.rampAt = f.rampAt := by obtain ⟨_, _, _, h⟩ := driven_shape f; rw [h]

end Driven

/-- A PWM period of a switching drive: the link is judged, then the direction is chosen. -/
theorem exec_pwmPeriod {link : BitVec 16} {s : State} (hsw : switching s = true) :
    exec (.pwmPeriod link) s =
      if faultable s = true ∧ s.FLY_CFG4_LINK_OV < link.toNat then .next (settle (flyFault 6 0xF (s.setFly (periodFly link s.fly))))
      else if s.fly.st ≠ .run ∨ s.fly.release = true then .next (syncTurn (s.setFly (periodFly link s.fly)))
      else .next (s.setFly { periodFly link s.fly with
        generating := decide (link.toNat < genEdge s)
        motoring := decide (genEdge s ≤ link.toNat ∧ s.fly.used < s.FLY_CFG1_SPEED_MAX ∧ s.sluiced = false ∧ s.gauge.acLost = false) }) := by
  have hover : overLink (s.setFly (periodFly link s.fly)) = true ↔ faultable s = true ∧ s.FLY_CFG4_LINK_OV < link.toNat := by
    have hlink : (s.setFly (periodFly link s.fly)).fly.link = link.toNat := driven_link _
    rw [overLink, faultable_congr (s := s) (driven_st _), hlink, Bool.and_eq_true, decide_eq_true_iff]
    rfl
  have hst : (s.setFly (periodFly link s.fly)).fly.st = s.fly.st := driven_st _
  have hrel : (s.setFly (periodFly link s.fly)).fly.release = s.fly.release := driven_release _
  have hused : (s.setFly (periodFly link s.fly)).fly.used = s.fly.used := driven_used _
  have hedge : genEdge (s.setFly (periodFly link s.fly)) = genEdge s := by
    have hramp : (s.setFly (periodFly link s.fly)).fly.ramp = s.fly.ramp := driven_ramp _
    have hat : (s.setFly (periodFly link s.fly)).fly.rampAt = s.fly.rampAt := driven_rampAt _
    simp only [genEdge, rampNow, hramp, hat]
    rfl
  have hmot : (!decide (link.toNat < genEdge s) && decide (s.fly.used < s.FLY_CFG1_SPEED_MAX) && !s.sluiced && !s.gauge.acLost) =
      decide (genEdge s ≤ link.toNat ∧ s.fly.used < s.FLY_CFG1_SPEED_MAX ∧ s.sluiced = false ∧ s.gauge.acLost = false) := by
    rw [Bool.eq_iff_iff]
    simp [and_assoc]
  show execPwmPeriod link s = _
  unfold execPwmPeriod
  rw [if_neg (by simp [hsw])]
  have hcond : ((s.setFly (periodFly link s.fly)).fly.st ≠ .run ∨ (s.setFly (periodFly link s.fly)).fly.release = true) ↔
      (s.fly.st ≠ .run ∨ s.fly.release = true) := by rw [hst, hrel]
  refine if_congr hover rfl (if_congr hcond rfl (congrArg Host.Outcome.next ?_))
  refine (congrArg (fun f => ({ s with fly := f } : State)) (driven_driven (periodFly link s.fly) _ _)).trans ?_
  rw [← hmot, ← hedge]
  conv_rhs => rw [← hused]
  rfl

/-- Settles O42. -/
theorem windlassLink : Obligations.WindlassLink := by
  refine ⟨fun s => ⟨fun hst hgen hrel => if_pos ⟨hst, hgen, by simp [hrel]⟩, fun hno => if_neg ?_, rfl⟩, fun t s hc hbar => ?_,
    fun link s hsw => ?_, fun link s hsw => if_pos (by simp [hsw]), fun hold s hc hbar => ?_, fun s hc hbar => ⟨fun h => ?_, fun h => ?_⟩,
    fun k hold s hc hno => ⟨?_, ?_⟩⟩
  · rintro ⟨hst, hgen, hrel⟩
    obtain h | h | h := hno
    · exact h hst
    · exact absurd hgen (ne_true_of_eq_false h)
    · simp [h] at hrel
  · intro ok
    rw [exec_linkTarget hc hbar]
    exact ⟨fun h => congrArg Host.Outcome.next (if_pos h), fun h => congrArg Host.Outcome.next (if_neg h)⟩
  · intro f high
    rw [exec_pwmPeriod hsw]
    refine ⟨fun h => if_pos h, fun h hrun => (if_neg h).trans (if_pos hrun), fun h hrun hrel => (if_neg h).trans (if_neg ?_)⟩
    exact fun hor => hor.elim (fun hne => hne hrun) (fun ht => absurd ht (ne_true_of_eq_false hrel))
  · intro u
    have hexec : exec (.flyHold 0x3E hold) s = .next (settle (writeHold hold s)) := (exec_flyHold hc).trans (if_pos (by simp [hbar]))
    rw [hexec, writeHold_eq]
    refine ⟨fun hno hset => ?_, fun hhold hst => ?_⟩
    · have hquiet : Settled u := hset
      rw [if_neg, settle_nil hquiet]
      rintro ⟨hhold, hst⟩
      exact hno.elim (fun h => absurd hhold (ne_true_of_eq_false h)) (fun h => h hst)
    · rw [if_pos ⟨hhold, hst⟩]
  · rw [exec_flyClear hc, if_pos (by simp [hbar]), clearFly_fault h]
  · rw [exec_flyClear hc, if_pos (by simp [hbar]), clearFly, if_neg h]
  · rw [exec_flyHold hc, if_neg (flyKey_wrong hno)]
  · rw [exec_flyClear hc, if_neg (flyKey_wrong hno)]

end Sys2Proof.Proofs.WindlassControl

/-! # The loader -/

namespace Sys2Proof.Proofs.Loader
open Sys2Proof Sys2Proof.Machine Sys2Proof.Safety

section Command

variable {key : Byte} {f : State → State} {s : State}

theorem cfgCommand_done (hbar : s.bar0 = true) (hsl : s.sluiced = false) (hd : (s.cmd kCfg).done = true) :
    cfgCommand 0xB7 f s = .next (settle (f (cmdTake kCfg s))) := by
  rw [cfgCommand, if_pos (by simp [hbar, hsl]), cmdStart_done hd]

theorem cfgCommand_ignored (h : key ≠ 0xB7 ∨ s.bar0 = false ∨ s.sluiced = true) : cfgCommand key f s = .next s := by
  rw [cfgCommand, if_neg]
  obtain hkey | h | h := h
  · simp only [beq_eq_false_iff_ne.mpr hkey, Bool.and_false, Bool.false_and, Bool.false_eq_true, not_false_eq_true]
  · simp [h]
  · simp [h]

end Command

section Exec

variable {key : Byte} {b : Bool} {s : State} (hc : Clear s)

include hc

theorem exec_push : exec (.push key) s = cfgCommand key doPush s := by
  show execPush key s = _
  exact viaPort_clear _ _ hc

theorem exec_loadSlot : exec (.loadSlot key b) s = cfgCommand key (doLoadSlot b.toNat) s := by
  show execLoadSlot key b s = _
  exact viaPort_clear _ _ hc

theorem exec_setTrial : exec (.setTrial key b) s = cfgCommand key (doSetTrial b.toNat) s := by
  show execSetTrial key b s = _
  exact viaPort_clear _ _ hc

theorem exec_writeSlot : exec (.writeSlot key b) s = cfgCommand key (doWriteSlot b.toNat) s := by
  show execWriteSlot key b s = _
  exact viaPort_clear _ _ hc

end Exec

/-- A load that begins on a CONFIRMED slot is no trial. -/
theorem loadBegin_confirmed {n : Nat} {s : State} (h : (s.slot n).state = 3) :
    loadBegin (n + 1) true s = imageLog n [] (s.setCfg { s.cfg with st := 2, source := n + 1, trial := false, checking := some (n + 1) }) := by
  unfold loadBegin
  simp only [Nat.add_sub_cancel, h, bne_self_eq_false, Bool.and_false, if_true]

/-- Where WRITE_SLOT writes: beside the confirmed slot. -/
theorem doWriteSlot_eq {n m : Nat} {s : State} (hm : (match confirmedSlot s with | some c => 1 - c | none => n) = m) :
    doWriteSlot n s = if hostReads s = true then s.setCfg { s.cfg with writing := some (m, []) }
      else writeFails 9 (s.setCfg { s.cfg with writing := some (m, []) }) := by
  rw [← hm]
  rfl

/-- Settles O47. -/
theorem loaderCommands : Obligations.LoaderCommands := by
  refine ⟨fun s hc hbar hsl hd => ?_, fun k b s hc hno => ?_⟩
  · intro u
    have hcfg : u.cfg = s.cfg := by simp only [u, cmdTake_done hd]; rfl
    have hreads : hostReads u = hostReads s := by simp only [u, cmdTake_done hd]; rfl
    have hslot : ∀ n, u.slot n = s.slot n := fun n => by simp only [State.slot, hcfg]
    have hconf : confirmedSlot u = confirmedSlot s := by simp only [u, cmdTake_done hd]; rfl
    refine ⟨fun hst => ?_, fun hst hr => ?_, fun hst hr => ?_, ?_⟩
    · rw [exec_push hc, cfgCommand_done hbar hsl hd, doPush, if_pos (by rw [hcfg]; exact hst)]
    · rw [exec_push hc, cfgCommand_done hbar hsl hd, doPush, if_neg (by rw [hcfg]; exact not_not.2 hst),
        if_pos (by rw [show hostReads (cmdTake kCfg s) = false from hreads.trans hr]; rfl)]
    · rw [exec_push hc, cfgCommand_done hbar hsl hd, doPush, if_neg (by rw [hcfg]; exact not_not.2 hst),
        if_neg (by rw [show hostReads (cmdTake kCfg s) = true from hreads.trans hr]; decide)]
      rfl
    · intro b n
      refine ⟨fun hst h3 => ?_, fun hst h1 => ?_, fun hno => ?_, fun hs => ?_, fun h4 h5 => ?_, fun c hcs hr => ?_, fun hcs hr => ?_, fun hr => ?_⟩
      · rw [exec_loadSlot hc, cfgCommand_done hbar hsl hd, doLoadSlot, if_pos ⟨by rw [hcfg]; exact hst, Or.inr (by rw [hslot]; exact h3)⟩, loadSlotNow,
          if_neg (by rw [hslot, show (s.slot b.toNat).state = 3 from h3]; decide), loadBegin_confirmed (by rw [hslot]; exact h3)]
        rfl
      · rw [exec_loadSlot hc, cfgCommand_done hbar hsl hd, doLoadSlot, if_pos ⟨by rw [hcfg]; exact hst, Or.inl (by rw [hslot]; exact h1)⟩, loadSlotNow,
          if_pos (by rw [hslot]; exact h1)]
      · rw [exec_loadSlot hc, cfgCommand_done hbar hsl hd, doLoadSlot, if_neg]
        rw [hcfg, hslot]
        rintro ⟨hst, hs⟩
        obtain h | ⟨h1, h3⟩ := hno
        · exact h hst
        · exact hs.elim h1 h3
      · rw [exec_setTrial hc, cfgCommand_done hbar hsl hd, doSetTrial, if_pos (by rw [hslot]; exact hs)]
        rfl
      · rw [exec_setTrial hc, cfgCommand_done hbar hsl hd, doSetTrial, if_neg (by rw [hslot]; exact not_or.2 ⟨h4, h5⟩)]
      · rw [exec_writeSlot hc, cfgCommand_done hbar hsl hd, doWriteSlot_eq (m := 1 - c) (by rw [hconf, hcs]), if_pos (hreads.trans hr)]
        rfl
      · rw [exec_writeSlot hc, cfgCommand_done hbar hsl hd, doWriteSlot_eq (m := n) (by rw [hconf, hcs]), if_pos (hreads.trans hr)]
        rfl
      · rw [exec_writeSlot hc, cfgCommand_done hbar hsl hd, doWriteSlot_eq rfl, hconf,
          if_neg (by rw [show hostReads (cmdTake kCfg s) = false from hreads.trans hr]; decide)]
        rfl
  · rw [exec_push hc, exec_loadSlot hc, exec_setTrial hc, exec_writeSlot hc]
    exact ⟨cfgCommand_ignored hno, cfgCommand_ignored hno, cfgCommand_ignored hno, cfgCommand_ignored hno⟩

end Sys2Proof.Proofs.Loader

/-! # Image reads and writes -/

namespace Sys2Proof.Proofs.ImageReads
open Sys2Proof Sys2Proof.Machine Sys2Proof.Safety

/-- What the end of an image read does while the management domain serves. -/
theorem exec_imageReadDone_load {ok : Bool} {host : List Byte} {s : State} (hin : s.inService dMgmt = true) (hsl : s.sluiced = false)
    (hst : s.cfg.st = 2) : exec (.imageReadDone ok host) s =
      if s.cfg.source = 3 then
        if (ok && hostReads s) = true then .next (settle (imageRead (host.take s.CFG_HOST_LEN_LEN) s))
        else .next (settle (cmdEnd kCfg 9 { s with cfg := { s.cfg with st := 1, source := 0, checking := none } }))
      else if ok = true then .next (settle (imageRead (s.slot (s.cfg.source - 1)).image s))
      else .next (settle (endLoad s.cfg.checking 10 (safeHarbour (7, 0, 0) s))) :=
  (if_neg (by simp [hin, hsl])).trans (if_pos hst)

theorem exec_imageReadDone_write {ok : Bool} {host : List Byte} {n : Nat} {s : State} (hin : s.inService dMgmt = true) (hsl : s.sluiced = false)
    (hst : s.cfg.st ≠ 2) (hw : s.cfg.writing = some (n, [])) : exec (.imageReadDone ok host) s =
      if (ok && hostReads s) = true then .next (settle (writeRead n (host.take s.CFG_HOST_LEN_LEN) s)) else .next (settle (writeFails 9 s)) := by
  show execImageReadDone ok host s = _
  unfold execImageReadDone
  rw [if_neg (by simp [hin, hsl]), if_neg hst]
  simp only [hw]

theorem exec_imageReadDone_idle {ok : Bool} {host : List Byte} {s : State} (hin : s.inService dMgmt = true) (hsl : s.sluiced = false)
    (hst : s.cfg.st ≠ 2) (hw : s.cfg.writing = none) : exec (.imageReadDone ok host) s = .next s := by
  show execImageReadDone ok host s = _
  unfold execImageReadDone
  rw [if_neg (by simp [hin, hsl]), if_neg hst]
  simp only [hw]

/-- The read of host memory brought the image. -/
theorem readCame {ok : Bool} {s : State} (hok : ok = true) (hr : hostReads s = true) : (ok && hostReads s) = true := by rw [hok, hr]; rfl

theorem readFailed {ok : Bool} {s : State} (h : ok = false ∨ hostReads s = false) : ¬ (ok && hostReads s) = true := by
  obtain h | h := h <;> simp [h]

/-- A slot's image has been written and its record follows. -/
theorem exec_slotWriteDone {ok : Bool} {n : Nat} {b : List Byte} {s : State} (hb : b ≠ []) (hw : s.cfg.writing = some (n, b)) :
    exec (.slotWriteDone ok) s = if (!ok) = true then .next (settle (writeFails 10 s)) else
      .next (settle (cmdEnd kCfg 0 { s with
        cfg := { s.cfg.setSlot n (({ s.slot n with image := b } : Slot).write (recordOf b)) with writing := none } })) := by
  show execSlotWriteDone ok s = _
  simp only [execSlotWriteDone, hw]
  exact if_neg (by simpa using hb)

theorem exec_setTrialDone {ok : Bool} {n : Nat} {s : State} (ht : s.cfg.trialling = some n) :
    exec (.setTrialDone ok) s =
      if (!ok) = true then .next (settle (cmdEnd kCfg 10 { s with cfg := { s.cfg with trialling := none } }))
      else if (checkFive (s.slot n).image s).1 ≠ 0 then
        .next (settle (cmdEnd kCfg (resultOf (checkFive (s.slot n).image s)) { s with cfg := { s.cfg with trialling := none } }))
      else .next (settle (cmdEnd kCfg 0 (recordState n 1 { s with cfg := { s.cfg with trialling := none } }))) := by
  show execSetTrialDone ok s = _
  simp only [execSetTrialDone, ht]
  rfl

/-- Settles O48. -/
theorem imageReadsAndWrites : Obligations.ImageReadsAndWrites := by
  refine ⟨?_, fun b s => ⟨fun h => if_pos h, fun h => ⟨if_neg h, fun n => if_pos h⟩⟩, fun n b s hb hw => ?_, ?_, fun ok s => ⟨fun h => ?_, fun h => ?_⟩⟩
  · intro ok host s b
    refine ⟨fun hno => if_pos (hno.imp_left (fun h => by simp [h])), fun hin hsl =>
      ⟨fun hst hsrc => ?_, fun hst hsrc => ?_, fun n hst hw => ?_, fun hst hw => ?_⟩⟩
    · rw [exec_imageReadDone_load hin hsl hst, if_pos hsrc]
      exact ⟨fun hok hr => if_pos (readCame hok hr), fun hno => if_neg (readFailed hno)⟩
    · rw [exec_imageReadDone_load hin hsl hst, exec_imageReadDone_load hin hsl hst, if_neg hsrc, if_neg hsrc]
      exact ⟨if_pos rfl, if_neg (by decide)⟩
    · rw [exec_imageReadDone_write hin hsl hst hw]
      exact ⟨fun hok hr => if_pos (readCame hok hr), fun hno => if_neg (readFailed hno)⟩
    · exact exec_imageReadDone_idle hin hsl hst hw
  · rw [exec_slotWriteDone hb hw, exec_slotWriteDone hb hw]
    exact ⟨if_pos rfl, if_neg (by decide)⟩
  · intro n s ht t f
    rw [exec_setTrialDone ht, exec_setTrialDone ht]
    refine ⟨if_pos rfl, fun hf => (if_neg (by decide)).trans (if_pos hf), fun hf => (if_neg (by decide)).trans (if_neg (not_not.2 hf))⟩
  · show execSlotWriteDone ok s = _
    simp only [execSlotWriteDone, h]
  · show execSetTrialDone ok s = _
    simp only [execSetTrialDone, h]

end Sys2Proof.Proofs.ImageReads

/-! # Links, tokens and retirement of ports -/

namespace Sys2Proof.Proofs.PortStates
open Sys2Proof Sys2Proof.Machine Sys2Proof.Safety

theorem port_setPort_same {p : Nat} {q : Port} (s : State) (h : q ≠ Port.idle) : (s.setPort p q).port p = q := tget_tset_same _ _ _ _ h

/-! Targets -/

section Target

variable {p : Nat} {s : State}

theorem applied_iff (hin : inCycle s p = true) : applied s p = true ↔ (s.port p).epoch = s.lock.epoch := by
  simp [applied, hin]

/-- A port free to fetch that has not applied the newest target takes it when it may. -/
theorem applyTarget_new (hst : (s.port p).st = .up) (htok : (s.port p).tokenNeeded = false) (hval : s.lock.valid = true)
    (hfro : s.lock.frozen = false) (hin : inCycle s p = true) (hep : (s.port p).epoch ≠ s.lock.epoch) :
    applyTarget p s = if s.lock.mode < 2 ∨ portQuiet s p = true
      then s.setPort p { s.port p with mode := s.lock.mode, epoch := s.lock.epoch, stopping := false }
      else s.setPort p { s.port p with stopping := true } := by
  have happ : applied s p = false := by
    rw [Bool.eq_false_iff, ne_eq, applied_iff hin]
    exact hep
  exact if_neg (by simp [hst, htok, hval, hfro, hin, happ])

theorem applyTarget_none (h : (s.port p).st ≠ .up ∨ (s.port p).tokenNeeded = true ∨ s.lock.valid = false ∨ s.lock.frozen = true ∨
    (s.port p).epoch = s.lock.epoch) : applyTarget p s = s := by
  refine if_pos ?_
  by_cases hin : inCycle s p = true
  · rw [applied_iff hin]
    obtain h | h | h | h | h := h <;> simp [h]
  · simp [hin]

theorem portQuiet_iff : portQuiet s p = true ↔ ∀ x ∈ s.berths, x.2.port = p → x.2.flights = [] := by
  simp only [portQuiet, List.all_eq_true, Bool.or_eq_true, bne_iff_ne, List.isEmpty_iff]
  exact forall_congr' fun x => forall_congr' fun _ => Decidable.imp_iff_not_or.symm

end Target

/-- Going down, a port counts and reports it and waits in RETRY (R355, R358). -/
theorem portDown_up {timer : Bool} {p : Nat} {s : State} (hst : (s.port p).st = .up) : portDown timer p s =
    report p false (detailWord 0 2 p) ((s.setPort p { s.port p with
      st := .retry, stopping := false
      retryEnd := if timer && !s.sluiced then some (s.now + 1000 * s.PORT_CFG_RETRY_MS p) else none }).bump (offPORT_CNT + 0x1000 * p) 63 48 1) := by
  unfold portDown
  rw [if_neg (not_not.2 hst)]

/-- The port that goes down. -/
def downPort (timer : Bool) (p : Nat) (s : State) : Port :=
  { s.port p with
    st := .retry, stopping := false
    retryEnd := if timer && !s.sluiced then some (s.now + 1000 * s.PORT_CFG_RETRY_MS p) else none }

theorem portDown_ports {timer : Bool} {p : Nat} {s : State} (hst : (s.port p).st = .up) :
    (portDown timer p s).ports = tset Port.idle s.ports p (downPort timer p s) := by
  rw [portDown_up hst]
  simp [State.bump, State.setPort, downPort]

theorem portDown_reports {timer : Bool} {p : Nat} {s : State} (hst : (s.port p).st = .up) :
    (portDown timer p s).keep.reports = s.keep.reports ++ [(p, false, detailWord 0 2 p)] := by
  rw [portDown_up hst]
  simp [State.bump, State.setPort, report]

theorem linkLost_up {p : Nat} {s : State} (h : (s.port p).linkUp = true) :
    linkLost p s = timerStart p (portLinkDown p (portDown true p s)) := if_neg (by simp [h])

theorem linkLost_down {p : Nat} {s : State} (h : (s.port p).linkUp = false) : linkLost p s = s := if_pos (by simp [h])

theorem exec_retryTimerExpiry {p : Fin 256} {t : Nat} {s : State} (ht : (s.port p.val).retryEnd = some t) :
    exec (.retryTimerExpiry p) s = if (s.port p.val).st ≠ .retry ∨ s.now < t then .next s else
      .next (settle (report p.val true (detailWord 0 3 p.val) (portRetire 1 p.val s))) := by
  show execRetryTimerExpiry p s = _
  simp only [execRetryTimerExpiry, ht]

/-- Settles O51. -/
theorem portLinks : Obligations.PortLinks := by
  refine ⟨⟨?_, fun p s hup c hc => ?_, fun p s hup => ⟨fun hsl => ?_, ?_⟩,
    fun p s hdown hset c hc => ?_, fun p s => ⟨fun h => ?_, fun h => ?_, fun h => ?_, fun h => ?_⟩,
    fun p t s ht => ?_, fun timer p s hst => ?_⟩, ?_⟩
  · intro p sp w s q
    refine ⟨fun hmay htr => if_neg (by simp [hmay, htr]), fun hno => if_pos ?_⟩
    obtain h | h := hno <;> simp [h]
  · simp only [List.mem_cons, List.not_mem_nil, or_false] at hc
    obtain rfl | rfl := hc <;> exact congrArg (fun u => Host.Outcome.next (settle u)) (linkLost_up hup)
  · exact if_neg (by simp [hup, hsl])
  · exact if_neg (by simp [hup])
  · have hquiet : settle (linkLost p.val s) = s := by rw [linkLost_down hdown, settle_nil hset]
    simp only [List.mem_cons, List.not_mem_nil, or_false] at hc
    obtain rfl | rfl | rfl | rfl := hc
    · exact congrArg Host.Outcome.next hquiet
    · exact congrArg Host.Outcome.next hquiet
    · exact if_pos (by simp [hdown])
    · exact if_pos (by simp [hdown])
  · exact if_neg (by simp [h])
  · exact if_pos (by simp [h])
  · exact if_neg (by simp [h])
  · exact if_pos (by simp [h])
  · rw [exec_retryTimerExpiry ht]
    exact ⟨fun hst hdue => if_neg (not_or.2 ⟨not_not.2 hst, not_lt.2 hdue⟩), fun hno => if_pos hno⟩
  · refine ⟨?_, fun j hj => ?_, portDown_reports hst⟩
    · rw [State.port, portDown_ports hst]
      exact tget_tset_same _ _ _ _ (fun h => PSt.noConfusion (congrArg Port.st h))
    · rw [State.port, portDown_ports hst]
      exact tget_tset_other _ _ _ _ _ hj
  · intro p s q
    refine ⟨fun hst htok hval hfro hin hep => ⟨fun hgo => ?_, fun hmode hbusy => ?_⟩,
      fun hno => congrArg Host.Outcome.next (applyTarget_none hno), fun hslots => ?_⟩
    · refine congrArg Host.Outcome.next ((applyTarget_new hst htok hval hfro hin hep).trans (if_pos ?_))
      rw [portQuiet_iff]
      exact hgo
    · refine congrArg Host.Outcome.next ((applyTarget_new hst htok hval hfro hin hep).trans (if_neg ?_))
      rw [portQuiet_iff]
      rintro (h | h)
      · omega
      · obtain ⟨x, hx, hport, hfl⟩ := hbusy
        exact hfl (h x hx hport)
    · refine congrArg Host.Outcome.next (if_pos ?_)
      have hout : inCycle s p.val = false := by simp [inCycle, hslots]
      simp [hout]

/-! ### Tokens and PORT_RETIRE -/

theorem portRetire_none {cause p : Nat} {s : State} (h : (s.port p).st = .off ∨ (s.port p).st = .retired ∨ (s.port p).st = .member) :
    portRetire cause p s = s := by
  refine if_neg ?_
  obtain h | h | h := h <;> simp [h]

theorem exec_portRetire {p : Fin 256} {s : State} (hc : Clear s) (hreach : coreReach s = true) (hd : (s.cmd (kPort p.val)).done = true) :
    exec (.portRetire 0x2D p) s = .next (settle (doPortRetire p.val (cmdTake (kPort p.val) s))) := by
  show execPortRetire 0x2D p s = _
  refine (viaPort_clear _ _ hc).trans ((if_pos (by simp [hreach])).trans ?_)
  rw [cmdStart_done hd]

/-- The port with the token registered, before its berths are judged. -/
def withToken (p : Nat) (tok : Word) (s : State) : State :=
  s.setPort p { s.port p with presented := true, tokenOk := true, token := tok }

theorem present_eq (p : Nat) (tok : Word) (s : State) : present p tok s = applyTarget p (tryUp p
    (if (s.port p).token = 0 ∨ (s.port p).token = tok then withToken p tok s
      else fencePort 2 p ((withToken p tok s).bump (offPORT_CNT + 0x1000 * p) 15 0 1))) := rfl

theorem withToken_port (p : Nat) (tok : Word) (s : State) :
    (withToken p tok s).port p = { s.port p with presented := true, tokenOk := true, token := tok } :=
  port_setPort_same _ (fun h => Bool.noConfusion (congrArg Port.presented h))

/-- Settles O52. -/
theorem tokensAndRetire : Obligations.TokensAndRetire := by
  refine ⟨?_, ?_, fun cause p s h => portRetire_none h⟩
  · intro p tok be s q u
    refine ⟨fun hup hd3 => if_pos ⟨hup, hd3⟩, fun hno hwhy => ?_, fun hup hd3 hflr hst hbe htok hpres => ?_⟩
    · refine (if_neg ?_).trans (if_pos ?_)
      · rintro ⟨hup, hd3⟩
        exact hno.elim (fun h => absurd hup (ne_true_of_eq_false h)) (fun h => absurd hd3 (ne_true_of_eq_false h))
      · obtain h | h | h | h | h | h | h | h | h := hwhy
        · exact Or.inr (Or.inr (Or.inr (Or.inr (Or.inl h))))
        · exact Or.inr (Or.inr (Or.inr (Or.inr (Or.inr (Or.inl h)))))
        · exact Or.inr (Or.inr (Or.inr (Or.inr (Or.inr (Or.inr h)))))
        · exact Or.inl (by rw [show (s.port p.val).linkUp = false from h]; rfl)
        · exact Or.inr (Or.inr (Or.inl h))
        all_goals
          refine Or.inr (Or.inr (Or.inr (Or.inl ?_)))
          rw [show (s.port p.val).st = _ from h]
          decide
    · have hexec : exec (.tokenPresentation p tok be) s = .next (settle (present p.val tok s)) := by
        refine (if_neg ?_).trans (if_neg ?_)
        · exact fun h => absurd h.2 (ne_true_of_eq_false hd3)
        · have hstate : ¬ ((s.port p.val).st ≠ .up ∧ (s.port p.val).st ≠ .retry) := fun h => hst.elim h.1 h.2
          simp only [show (s.port p.val).linkUp = true from hup, show (s.port p.val).d3 = false from hd3, show (s.port p.val).flr = false from hflr,
            show (s.port p.val).presented = false from hpres, hbe, htok, hstate]
          decide
      rw [hexec, present_eq]
      refine ⟨fun hsame => ?_, fun hzero hother => ?_, ?_⟩
      · rw [if_pos hsame]
        rfl
      · rw [if_neg (not_or.2 ⟨hzero, hother⟩)]
        rfl
      · have hu : u.port p.val = { q with presented := true, tokenOk := true, token := tok } := withToken_port p.val tok s
        rw [hu]
        exact ⟨by simp [Port.tokenNeeded], rfl⟩
  · intro p s hc hreach hd u st
    rw [exec_portRetire hc hreach hd]
    have hst : (u.port p.val).st = st := by simp only [u, cmdTake_done hd]; rfl
    have hport : u.port p.val = s.port p.val := by simp only [u, cmdTake_done hd]; rfl
    have hsl : u.sluiced = s.sluiced := by simp only [u, cmdTake_done hd]; rfl
    refine ⟨fun hsluice hin => ?_, fun hno => ?_⟩
    · have hdo : doPortRetire p.val u = cmdEnd (kPort p.val) 0 (portRetire 4 p.val u) := by
        refine if_neg ?_
        rw [hst, hsl, hsluice]
        obtain h | h | h := hin <;> rw [h] <;> decide
      have hret : portRetire 4 p.val u = fencePort 5 p.val (u.setPort p.val { s.port p.val with
          st := .retired, cause := 4, retryEnd := none, stopping := false }) := by
        rw [← hport]
        exact if_pos (by rw [hst]; exact hin)
      rw [hdo, hret]
    · refine congrArg (fun t => Host.Outcome.next (settle t)) (if_pos ?_)
      rw [hst, hsl]
      obtain h | h | h | h := hno <;> rw [h]
      · exact Or.inl rfl
      all_goals exact Or.inr (by decide)

end Sys2Proof.Proofs.PortStates

/-! # Messages of the ports and of the management function -/

namespace Sys2Proof.Proofs.Messages
open Sys2Proof Sys2Proof.Machine Sys2Proof.Safety Sys2Proof.Proofs.PortStates

/-- A write that a port takes only while its link is up. -/
theorem exec_busMasterEnable {p : Fin 256} {on : Bool} {s : State} (h : (s.port p.val).linkUp = true) :
    exec (.busMasterEnable p on) s = .next (portFlush p.val (s.setPort p.val { s.port p.val with bme := on })) :=
  if_neg (by simp [h])

theorem exec_msixVectorUnmask_down {p : Fin 256} {what : Unmask} {s : State} (h : (s.port p.val).linkUp = false) :
    exec (.msixVectorUnmask p what) s = .next s := if_pos (by simp [h])

/-- A port that does not send, or whose messages are off, flushes nothing. -/
theorem portFlush_quiet {p : Nat} {s : State} (h : s.portSends p = false ∨ (s.port p).msixEn = false ∨ (s.port p).fnMask = true) :
    portFlush p s = s := by
  refine if_pos ?_
  obtain h | h | h := h <;> simp [h]

/-- Without Bus Master Enable a port does not send. -/
theorem portSends_noMaster {p : Nat} {q : Port} {s : State} (hq : q ≠ Port.idle) (hbme : q.bme = false) : (s.setPort p q).portSends p = false := by
  rw [State.portSends, port_setPort_same s hq, hbme]
  simp

/-- Settles O53. -/
theorem portMessages : Obligations.PortMessages := by
  refine ⟨fun p on v s hdown => ⟨if_pos (by simp [hdown]), exec_msixVectorUnmask_down hdown, exec_msixVectorUnmask_down hdown,
    exec_msixVectorUnmask_down hdown⟩, ?_, ?_, ?_⟩
  · intro p v s hup q
    have hgo : ¬ (!(s.port p.val).linkUp) = true := by simp [hup]
    refine ⟨?_, exec_busMasterEnable hup, if_neg hgo, if_neg hgo, if_neg hgo⟩
    have hne : ({ q with bme := false } : Port) ≠ Port.idle := fun h => absurd ((congrArg Port.linkUp h).symm.trans hup) (by decide)
    exact (exec_busMasterEnable hup).trans (congrArg Host.Outcome.next (portFlush_quiet (Or.inl (portSends_noMaster hne rfl))))
  · intro p s q
    exact ⟨portFlush_quiet, fun hsend hen hmask => if_neg (by simp [hsend, show (s.port p).msixEn = true from hen, show (s.port p).fnMask = false from hmask])⟩
  · intro p v s q
    refine ⟨fun hno => if_pos (by simp [hno]), fun hsend hen hmask hun => ?_, fun hsend hoff => ⟨fun hpend => ?_, fun hpend => ?_⟩⟩
    · exact (if_neg (by simp [hsend])).trans (if_pos (by
        rw [show (s.port p).msixEn = true from hen, show (s.port p).fnMask = false from hmask, show (s.port p).unmasked.contains v = true from hun]
        rfl))
    all_goals
      have hquiet : ¬ (q.msixEn && !q.fnMask && q.unmasked.contains v) = true := by
        obtain h | h | h := hoff <;> rw [h] <;> simp
    · exact (if_neg (by simp [hsend])).trans ((if_neg hquiet).trans (if_pos hpend))
    · exact (if_neg (by simp [hsend])).trans ((if_neg hquiet).trans (if_neg (ne_true_of_eq_false hpend)))

end Sys2Proof.Proofs.Messages

/-! # RESET, the chart's commands and the management function -/

namespace Sys2Proof.Proofs.GlobalCommands
open Sys2Proof Sys2Proof.Machine Sys2Proof.Safety Sys2Proof.Proofs.LockCycle

theorem exec_glbReset {s : State} (hc : Clear s) (hbar : s.bar0 = true) (hd : (s.cmd kGlb).done = true) :
    exec (.glbReset 0xE1) s = .next (settle (doReset (cmdTake kGlb s))) := by
  show execGlbReset 0xE1 s = _
  refine (viaPort_clear _ _ hc).trans ((if_pos (by simp [hbar])).trans ?_)
  rw [cmdStart_done hd]

section Chart

variable {s : State} (hc : Clear s) (hreach : coreReach s = true) (hd : (s.cmd kChart).done = true)

include hreach hd

theorem chartCommand_done {f : State → State} : chartCommand 0x8E f s = .next (settle (f (cmdTake kChart s))) := by
  rw [chartCommand, if_pos (by simp [hreach]), cmdStart_done hd]

include hc

theorem exec_chartEnable : exec (.chartEnable 0x8E) s = .next (settle (doChartEnable (cmdTake kChart s))) := by
  show execChartEnable 0x8E s = _
  exact (viaPort_clear _ _ hc).trans (chartCommand_done hreach hd)

theorem exec_chartDisable : exec (.chartDisable 0x8E) s = .next (settle (doChartDisable (cmdTake kChart s))) := by
  show execChartDisable 0x8E s = _
  exact (viaPort_clear _ _ hc).trans (chartCommand_done hreach hd)

end Chart

/-- The function as IRQ_DUE_SEND finds it (log 17). -/
def functionReady (s : State) : State := { s with mgmt := { s.mgmt with link := true, bme := true, msixEn := true, d3 := false } }

theorem exec_irqDueSend {n : Fin 8} {s : State} (hin : s.inService dMgmt = true) :
    exec (.irqDueSend n) s = .next (sendDue n.val (functionReady s)) := if_neg (by simp [hin])

theorem sendDue_none {n : Nat} {s : State} (h : s.mgmt.due.getLsbD n = false ∨ fld (s.reg offGLB_IRQ_STATUS) n n = 0 ∨
    fld (s.reg offGLB_IRQ_ENABLE) n n = 0) : sendDue n s = s := by
  refine if_neg ?_
  obtain h | h | h := h <;> rw [h] <;> simp

theorem sendDue_due {n : Nat} {s : State} (hdue : s.mgmt.due.getLsbD n = true) (hst : fld (s.reg offGLB_IRQ_STATUS) n n = 1)
    (hen : fld (s.reg offGLB_IRQ_ENABLE) n n = 1) :
    sendDue n s = sendIrq n { s with mgmt := { s.mgmt with due := s.mgmt.due &&& ~~~ BitVec.ofNat 8 (2 ^ n) } } :=
  if_pos (by rw [hdue, hst, hen]; rfl)

/-- Settles O54. -/
theorem functionsAndFlags : Obligations.FunctionsAndFlags := by
  refine ⟨fun s hc hbar hd => ?_, fun s hc hreach hd => ?_, fun what s => ⟨fun h => if_pos (by simp [h]), fun h => ?_⟩,
    fun m e s hc hreach hd hset hno => ?_, ?_⟩
  · intro u
    have hready : u.ready = s.ready := cmdTake_ready _ _
    have hsl : u.sluiced = s.sluiced := by simp only [u, cmdTake_done hd]; rfl
    rw [exec_glbReset hc hbar hd, doReset, hready, hsl]
    refine ⟨fun h => ?_, fun hr hs => ?_⟩
    · rw [if_pos h]
    · rw [if_neg (by simp [hr, hs])]
  · intro u answer
    have hready : u.ready = s.ready := cmdTake_ready _ _
    have hsl : u.sluiced = s.sluiced := by simp only [u, cmdTake_done hd]; rfl
    have hst : u.chart.st = s.chart.st := by simp only [u, cmdTake_done hd]; rfl
    have hok : chartFieldsOk u = chartFieldsOk s := by simp only [u, cmdTake_done hd]; rfl
    rw [exec_chartEnable hc hreach hd, exec_chartDisable hc hreach hd, doChartEnable, doChartDisable, hready, hsl, hst, hok]
    refine ⟨fun hno => ?_, fun h0 hr hs => ⟨fun hbad => ?_, fun hgood => ?_⟩, fun hs => ?_, fun hs => ?_⟩
    · rw [if_pos (hno.imp_right (Or.imp_left (fun h => by simp [h])))]
    · rw [if_neg (by simp [h0, hr, hs]), if_pos (by simp [hbad])]
    · rw [if_neg (by simp [h0, hr, hs]), if_neg (by simp [hgood])]
    · rw [if_pos hs]
    · rw [if_neg (ne_true_of_eq_false hs)]
  · refine (if_neg (by simp [h])).trans ?_
    cases what <;> rfl
  · exact exec_lockCycle_refused hc hreach hd hset m (lockResult_badState hno) (by decide)
  · intro n s u
    refine ⟨fun h => if_pos (by simp [h]), fun hin hno => ?_, ?_⟩
    · exact (exec_irqDueSend hin).trans (congrArg Host.Outcome.next (sendDue_none hno))
    · intro hin hdue hst hen v
      have hexec : exec (.irqDueSend n) s = .next (sendIrq n.val v) :=
        (exec_irqDueSend hin).trans (congrArg Host.Outcome.next (sendDue_due (s := functionReady s) hdue hst hen))
      have hready : (v.mgmt.link && v.mgmt.bme && v.mgmt.msixEn && !v.mgmt.d3) = true := rfl
      rw [hexec, sendIrq, if_pos hready]
      exact ⟨fun hm => congrArg Host.Outcome.next (if_pos hm), fun hm => congrArg Host.Outcome.next (if_neg (ne_true_of_eq_false hm))⟩

end Sys2Proof.Proofs.GlobalCommands

/-! # The keeper's table

No reaction of the keeper changes its table of sources. -/

namespace Sys2Proof.Proofs.KeeperTable
open Sys2Proof Sys2Proof.Machine Sys2Proof.Safety

@[simp] theorem romDefaults_ite (c : Prop) [Decidable c] (a b : Keep) : (if c then a else b).romDefaults = if c then a.romDefaults else b.romDefaults := by
  split <;> rfl

@[simp] theorem entries_ite (c : Prop) [Decidable c] (a b : Keep) : (if c then a else b).entries = if c then a.entries else b.entries := by
  split <;> rfl

@[simp] theorem forEach_table {α : Type} (l : List α) (f : α → State → State)
    (h : ∀ a s, (f a s).keep.romDefaults = s.keep.romDefaults ∧ (f a s).keep.entries = s.keep.entries) (s : State) :
    (forEach l s f).keep.romDefaults = s.keep.romDefaults ∧ (forEach l s f).keep.entries = s.keep.entries :=
  forEach_keeps (P := fun u => u.keep.romDefaults = s.keep.romDefaults ∧ u.keep.entries = s.keep.entries) l f
    (fun a u hu => ⟨(h a u).1.trans hu.1, (h a u).2.trans hu.2⟩) s ⟨rfl, rfl⟩

@[simp] theorem report_table (src : Nat) (severe : Bool) (detail : BitVec 48) (s : State) :
    (report src severe detail s).keep.romDefaults = s.keep.romDefaults ∧ (report src severe detail s).keep.entries = s.keep.entries := ⟨rfl, rfl⟩

@[simp] theorem updSrc_table (s : State) (n : Nat) (f : Src → Src) :
    (s.updSrc n f).keep.romDefaults = s.keep.romDefaults ∧ (s.updSrc n f).keep.entries = s.keep.entries := ⟨rfl, rfl⟩

@[simp] theorem lineBad_table (l : Line) (s : State) :
    (lineBad l s).keep.romDefaults = s.keep.romDefaults ∧ (lineBad l s).keep.entries = s.keep.entries := by
  unfold lineBad
  simp

@[simp] theorem repairCopy_table (l : Line) (c : Nat) (s : State) :
    (repairCopy l c s).keep.romDefaults = s.keep.romDefaults ∧ (repairCopy l c s).keep.entries = s.keep.entries := by
  unfold repairCopy
  simp

@[simp] theorem readLine_table (l : Line) (s : State) :
    (readLine l s).keep.romDefaults = s.keep.romDefaults ∧ (readLine l s).keep.entries = s.keep.entries := by
  unfold readLine
  dsimp only
  (repeat' split) <;> simp

@[simp] theorem fetchPage_table (i k : Nat) (r : Rec) (s : State) :
    (fetchPage i k r s).keep.romDefaults = s.keep.romDefaults ∧ (fetchPage i k r s).keep.entries = s.keep.entries := by
  unfold fetchPage
  simp

@[simp] theorem doFetch_table (i : Nat) (f : Flight) (d : Desc) (s : State) :
    (doFetch i f d s).keep.romDefaults = s.keep.romDefaults ∧ (doFetch i f d s).keep.entries = s.keep.entries := by
  unfold doFetch
  dsimp only
  (repeat' split) <;> simp

@[simp] theorem carryOut_table (i : Nat) (f : Flight) (d : Desc) (s : State) :
    (carryOut i f d s).keep.romDefaults = s.keep.romDefaults ∧ (carryOut i f d s).keep.entries = s.keep.entries := by
  unfold carryOut
  dsimp only
  (repeat' split) <;> simp

@[simp] theorem pumpLoop_table (n : Nat) (s : State) :
    (pumpLoop n s).keep.romDefaults = s.keep.romDefaults ∧ (pumpLoop n s).keep.entries = s.keep.entries := by
  induction n generalizing s with
  | zero => exact ⟨rfl, rfl⟩
  | succ n ih =>
    unfold pumpLoop
    split <;> simp [ih]

@[simp] theorem pump_table (s : State) :
    (pump s).keep.romDefaults = s.keep.romDefaults ∧ (pump s).keep.entries = s.keep.entries := by
  unfold pump
  simp

@[simp] theorem goOn_table (i : Nat) (s : State) :
    (goOn i s).keep.romDefaults = s.keep.romDefaults ∧ (goOn i s).keep.entries = s.keep.entries := by
  unfold goOn
  simp

@[simp] theorem weirEvent_table (s : State) :
    (weirEvent s).keep.romDefaults = s.keep.romDefaults ∧ (weirEvent s).keep.entries = s.keep.entries := by
  unfold weirEvent
  simp

@[simp] theorem refuseProgram_table (k : Nat) (s : State) :
    (refuseProgram k s).keep.romDefaults = s.keep.romDefaults ∧ (refuseProgram k s).keep.entries = s.keep.entries := by
  unfold refuseProgram
  simp

@[simp] theorem issueNext_table (k : Nat) (s : State) :
    (issueNext k s).keep.romDefaults = s.keep.romDefaults ∧ (issueNext k s).keep.entries = s.keep.entries := by
  unfold issueNext
  simp

theorem formBarge_table {st : Stream} {qs : List Nat} {kind : Nat} {dir : List DirEnt} {id : Option Nat} {s t : State}
    (h : formBarge st qs kind dir id s = some t) : t.keep.romDefaults = s.keep.romDefaults ∧ t.keep.entries = s.keep.entries := by
  simp only [formBarge, Option.map_eq_some_iff] at h
  obtain ⟨⟨k, u⟩, ha, rfl⟩ := h
  simp [formRow_frame _ _ _ _ _ _ _ _ ha]

@[simp] theorem closeAsm_table (st : Stream) (key : Nat) (s : State) :
    (closeAsm st key s).keep.romDefaults = s.keep.romDefaults ∧ (closeAsm st key s).keep.entries = s.keep.entries := by
  unfold closeAsm
  dsimp only
  split
  · exact ⟨rfl, rfl⟩
  · split
    · exact ⟨rfl, rfl⟩
    · next t h =>
      have hkept := formBarge_table h
      simpa using hkept

@[simp] theorem asmAdd_table (st : Stream) (key : Nat) (e : DirEnt) (s : State) :
    (asmAdd st key e s).keep.romDefaults = s.keep.romDefaults ∧ (asmAdd st key e s).keep.entries = s.keep.entries := by
  unfold asmAdd
  simp

@[simp] theorem giveUp_table (g : Nat) (dir : List DirEnt) (rebuilt again : Bool) (s : State) :
    (giveUp g dir rebuilt again s).keep.romDefaults = s.keep.romDefaults ∧ (giveUp g dir rebuilt again s).keep.entries = s.keep.entries := by
  unfold giveUp
  rw [State.setBarge_keep]
  refine forEach_table _ _ (fun e u => ?_) s
  dsimp only
  (repeat' split) <;> simp

@[simp] theorem dropRow_table (k row : Nat) (rebuilt again : Bool) (s : State) :
    (dropRow k row rebuilt again s).keep.romDefaults = s.keep.romDefaults ∧ (dropRow k row rebuilt again s).keep.entries = s.keep.entries := by
  unfold dropRow
  simp

@[simp] theorem moveRow_table (st : Stream) (qs : List Nat) (r : Row) (s : State) :
    (moveRow st qs r s).keep.romDefaults = s.keep.romDefaults ∧ (moveRow st qs r s).keep.entries = s.keep.entries := by
  unfold moveRow
  dsimp only
  split
  · next k t h => simp [formRow_frame _ _ _ _ _ _ _ _ h]
  · exact ⟨rfl, rfl⟩

@[simp] theorem moveOut_table (k : Nat) (s : State) :
    (moveOut k s).keep.romDefaults = s.keep.romDefaults ∧ (moveOut k s).keep.entries = s.keep.entries := by
  unfold moveOut
  simp

@[simp] theorem rewriteRow_table (k row : Nat) (rebuilt : Bool) (s : State) :
    (rewriteRow k row rebuilt s).keep.romDefaults = s.keep.romDefaults ∧ (rewriteRow k row rebuilt s).keep.entries = s.keep.entries := by
  unfold rewriteRow
  simp

@[simp] theorem sbRewrite_table (gone : BitVec 17) (quad : Bool) (k : Nat) (s : State) :
    (sbRewrite gone quad k s).keep.romDefaults = s.keep.romDefaults ∧ (sbRewrite gone quad k s).keep.entries = s.keep.entries := by
  unfold sbRewrite
  simp

@[simp] theorem sbSluiceLoss_table (gone : BitVec 17) (quad : Bool) (k : Nat) (s : State) :
    (sbSluiceLoss gone quad k s).keep.romDefaults = s.keep.romDefaults ∧ (sbSluiceLoss gone quad k s).keep.entries = s.keep.entries := by
  unfold sbSluiceLoss
  simp

@[simp] theorem sbLoss_table (hit : Nat → Bool) (quad : Bool) (k : Nat) (s : State) :
    (sbLoss hit quad k s).keep.romDefaults = s.keep.romDefaults ∧ (sbLoss hit quad k s).keep.entries = s.keep.entries := by
  unfold sbLoss
  simp

@[simp] theorem spillTake_table (g : Nat) (x : Nat × Rec × Bool × Nat) (s : State) :
    (spillTake g x s).keep.romDefaults = s.keep.romDefaults ∧ (spillTake g x s).keep.entries = s.keep.entries := by
  unfold spillTake
  dsimp only
  (repeat' split) <;> simp

@[simp] theorem spillLoop_table (l : List (Nat × Rec × Bool × Nat)) (n : Nat) (s : State) :
    (spillLoop l n s).keep.romDefaults = s.keep.romDefaults ∧ (spillLoop l n s).keep.entries = s.keep.entries := by
  induction l generalizing n s with
  | nil => exact ⟨rfl, rfl⟩
  | cons a t ih =>
    unfold spillLoop
    dsimp only
    (repeat' split) <;> simp [ih]

@[simp] theorem spillRun_table (s : State) :
    (spillRun s).keep.romDefaults = s.keep.romDefaults ∧ (spillRun s).keep.entries = s.keep.entries := by
  unfold spillRun
  simp

@[simp] theorem weirEval_table (s : State) :
    (weirEval s).keep.romDefaults = s.keep.romDefaults ∧ (weirEval s).keep.entries = s.keep.entries := by
  unfold weirEval
  simp

@[simp] theorem collModes_table (s : State) :
    (collModes s).keep.romDefaults = s.keep.romDefaults ∧ (collModes s).keep.entries = s.keep.entries := by
  unfold collModes
  simp

@[simp] theorem lifeChecks_table (s : State) :
    (lifeChecks s).keep.romDefaults = s.keep.romDefaults ∧ (lifeChecks s).keep.entries = s.keep.entries := by
  unfold lifeChecks
  simp

@[simp] theorem basinLoss_table (hit : Nat → Bool) (quad : Bool) (s : State) :
    (basinLoss hit quad s).keep.romDefaults = s.keep.romDefaults ∧ (basinLoss hit quad s).keep.entries = s.keep.entries := by
  unfold basinLoss
  simp

@[simp] theorem dieLost_table (d : Nat) (s : State) :
    (dieLost d s).keep.romDefaults = s.keep.romDefaults ∧ (dieLost d s).keep.entries = s.keep.entries := by
  unfold dieLost
  simp

@[simp] theorem flashChannelLost_table (c : Nat) (s : State) :
    (flashChannelLost c s).keep.romDefaults = s.keep.romDefaults ∧ (flashChannelLost c s).keep.entries = s.keep.entries := by
  unfold flashChannelLost
  simp

@[simp] theorem quadLost_table (q : Nat) (s : State) :
    (quadLost q s).keep.romDefaults = s.keep.romDefaults ∧ (quadLost q s).keep.entries = s.keep.entries := by
  unfold quadLost
  simp

@[simp] theorem channelRetire_table (cause c : Nat) (s : State) :
    (channelRetire cause c s).keep.romDefaults = s.keep.romDefaults ∧ (channelRetire cause c s).keep.entries = s.keep.entries := by
  unfold channelRetire
  simp

@[simp] theorem halfLost_table (h : Nat) (s : State) :
    (halfLost h s).keep.romDefaults = s.keep.romDefaults ∧ (halfLost h s).keep.entries = s.keep.entries := by
  unfold halfLost
  simp

@[simp] theorem portDown_table (timer : Bool) (p : Nat) (s : State) :
    (portDown timer p s).keep.romDefaults = s.keep.romDefaults ∧ (portDown timer p s).keep.entries = s.keep.entries := by
  unfold portDown
  simp

@[simp] theorem fencePort_table (reason p : Nat) (s : State) :
    (fencePort reason p s).keep.romDefaults = s.keep.romDefaults ∧ (fencePort reason p s).keep.entries = s.keep.entries := by
  unfold fencePort
  simp

@[simp] theorem portRetire_table (cause p : Nat) (s : State) :
    (portRetire cause p s).keep.romDefaults = s.keep.romDefaults ∧ (portRetire cause p s).keep.entries = s.keep.entries := by
  unfold portRetire
  simp

@[simp] theorem clusterOff_table (d : Nat) (s : State) :
    (clusterOff d s).keep.romDefaults = s.keep.romDefaults ∧ (clusterOff d s).keep.entries = s.keep.entries := by
  unfold clusterOff
  simp

@[simp] theorem domainOff_table (d : Nat) (s : State) :
    (domainOff d s).keep.romDefaults = s.keep.romDefaults ∧ (domainOff d s).keep.entries = s.keep.entries := by
  unfold domainOff
  simp

@[simp] theorem allDomainsOff_table (s : State) :
    (allDomainsOff s).keep.romDefaults = s.keep.romDefaults ∧ (allDomainsOff s).keep.entries = s.keep.entries := by
  unfold allDomainsOff
  simp

@[simp] theorem domainLost_table (d : Nat) (s : State) :
    (domainLost d s).keep.romDefaults = s.keep.romDefaults ∧ (domainLost d s).keep.entries = s.keep.entries := by
  unfold domainLost
  simp

@[simp] theorem unitsLost_table (d : Nat) (s : State) :
    (unitsLost d s).keep.romDefaults = s.keep.romDefaults ∧ (unitsLost d s).keep.entries = s.keep.entries := by
  unfold unitsLost
  simp

@[simp] theorem setItem_table (w : BitVec 32) (on : Bool) (s : State) :
    (setItem w on s).keep.romDefaults = s.keep.romDefaults ∧ (setItem w on s).keep.entries = s.keep.entries := by
  unfold setItem
  dsimp only
  (repeat' split) <;> simp

@[simp] theorem goDown_table (l : List (BitVec 32)) (s : State) :
    (goDown l s).keep.romDefaults = s.keep.romDefaults ∧ (goDown l s).keep.entries = s.keep.entries := by
  induction l generalizing s with
  | nil => unfold goDown; dsimp only; split <;> simp
  | cons w t ih => unfold goDown; dsimp only; split <;> simp [ih]

@[simp] theorem domainsDown_table (was : BitVec 24) (s : State) :
    (domainsDown was s).keep.romDefaults = s.keep.romDefaults ∧ (domainsDown was s).keep.entries = s.keep.entries := by
  unfold domainsDown
  simp

@[simp] theorem handledOn_table (s : State) :
    (handledOn s).keep.romDefaults = s.keep.romDefaults ∧ (handledOn s).keep.entries = s.keep.entries := by
  unfold handledOn
  simp

@[simp] theorem restoreStartSources_table (s : State) :
    (restoreStartSources s).keep.romDefaults = s.keep.romDefaults ∧ (restoreStartSources s).keep.entries = s.keep.entries := by
  unfold restoreStartSources
  simp

@[simp] theorem globalReset_table (cause : Nat) (s : State) :
    (globalReset cause s).keep.romDefaults = s.keep.romDefaults ∧ (globalReset cause s).keep.entries = s.keep.entries := by
  unfold globalReset
  simp

@[simp] theorem dropStreams_table (s : State) :
    (dropStreams s).keep.romDefaults = s.keep.romDefaults ∧ (dropStreams s).keep.entries = s.keep.entries := by
  unfold dropStreams
  simp

@[simp] theorem triggerSluice_table (c : Nat) (s : State) :
    (triggerSluice c s).keep.romDefaults = s.keep.romDefaults ∧ (triggerSluice c s).keep.entries = s.keep.entries := by
  unfold triggerSluice
  simp

@[simp] theorem trigger_table (c : Nat) (s : State) :
    (trigger c s).keep.romDefaults = s.keep.romDefaults ∧ (trigger c s).keep.entries = s.keep.entries := by
  unfold trigger
  simp

@[simp] theorem resetRequest_table (cause : Nat) (s : State) :
    (resetRequest cause s).keep.romDefaults = s.keep.romDefaults ∧ (resetRequest cause s).keep.entries = s.keep.entries := by
  unfold resetRequest
  simp

@[simp] theorem railDomains_table (r : Nat) (s : State) :
    (railDomains r s).keep.romDefaults = s.keep.romDefaults ∧ (railDomains r s).keep.entries = s.keep.entries := by
  unfold railDomains
  simp

@[simp] theorem retireSource_table (n : Nat) (s : State) :
    (retireSource n s).keep.romDefaults = s.keep.romDefaults ∧ (retireSource n s).keep.entries = s.keep.entries := by
  unfold retireSource
  simp

@[simp] theorem quarantine_table (i : Nat) (s : State) :
    (quarantine i s).keep.romDefaults = s.keep.romDefaults ∧ (quarantine i s).keep.entries = s.keep.entries := by
  unfold quarantine
  simp

@[simp] theorem stopAlive_table (s : State) :
    (stopAlive s).keep.romDefaults = s.keep.romDefaults ∧ (stopAlive s).keep.entries = s.keep.entries := by
  unfold stopAlive
  simp

@[simp] theorem react_table (mask n : Nat) (detail : BitVec 48) (s : State) :
    (react mask n detail s).keep.romDefaults = s.keep.romDefaults ∧ (react mask n detail s).keep.entries = s.keep.entries := by
  unfold react
  simp

@[simp] theorem classify_table (n : Nat) (detail : BitVec 48) (line : Bool) (s : State) :
    (classify n detail line s).keep.romDefaults = s.keep.romDefaults ∧ (classify n detail line s).keep.entries = s.keep.entries := by
  unfold classify
  simp

@[simp] theorem decideEvent_table (n : Nat) (severe : Bool) (detail : BitVec 48) (line : Bool) (s : State) :
    (decideEvent n severe detail line s).keep.romDefaults = s.keep.romDefaults ∧ (decideEvent n severe detail line s).keep.entries = s.keep.entries := by
  unfold decideEvent
  simp

end Sys2Proof.Proofs.KeeperTable

/-! # FETCH and a control line whose home lies nowhere -/

namespace Sys2Proof.Proofs.FetchReads
open Sys2Proof Sys2Proof.Machine Sys2Proof.Safety Sys2Proof.Proofs.KeeperTable Sys2Proof.Proofs.CompletionFails

/-! ### A keeper without sources hears nothing -/

/-- The table names no source and is in force. -/
def Deaf (s : State) : Prop := s.keep.romDefaults = false ∧ s.keep.entries = []

theorem heard_of_deaf {s : State} (h : Deaf s) (n : Nat) : heard s n = false := by
  obtain ⟨hrom, hentries⟩ := h
  have hentry : keepEntry s n = absentEntry := by
    unfold keepEntry
    rw [hrom, hentries]
    rfl
  have habsent : (eMode absentEntry != 3) = false := by decide
  simp only [heard, hentry, habsent, Bool.false_and]

theorem decideEvent_of_deaf {s : State} (h : Deaf s) (n : Nat) (severe : Bool) (detail : BitVec 48) (line : Bool) :
    decideEvent n severe detail line s = s := if_pos (by simp [heard_of_deaf h])

theorem settleLoop_of_deaf {s : State} (h : Deaf s) (n : Nat) : (settleLoop n s).out = s.out := by
  induction n generalizing s with
  | zero => rfl
  | succ n ih =>
    unfold settleLoop
    split
    · rfl
    · next k sev d t hreports =>
      have hrest : Deaf { s with keep := { s.keep with reports := t } } := h
      rw [decideEvent_of_deaf hrest]
      exact ih hrest

theorem settleLoop_table (n : Nat) (s : State) :
    (settleLoop n s).keep.romDefaults = s.keep.romDefaults ∧ (settleLoop n s).keep.entries = s.keep.entries := by
  induction n generalizing s with
  | zero => exact ⟨rfl, rfl⟩
  | succ n ih =>
    unfold settleLoop
    split
    · exact ⟨rfl, rfl⟩
    · simp [ih]

/-- Where the keeper hears nothing after its decisions, it heard nothing before, and its decisions sent nothing. -/
theorem out_of_settle_deaf {s : State} (h : Deaf (settle s)) : (settle s).out = s.out := by
  obtain ⟨hrom, hentries⟩ := settleLoop_table 8192 s
  exact settleLoop_of_deaf ⟨hrom.symm.trans h.1, hentries.symm.trans h.2⟩ 8192

/-! ### The counterexample -/

/-- A FETCH whose descriptor is awaited. -/
def fetchFlight : Flight := ⟨0, 0, 0, 0, 0, 50, true, 3, none, 9, 0, none, false, false, .fetching⟩

/-- The record's only copy lies in barge 0. -/
def flashRec : Rec := ⟨1, 4, 9, 7, 0, none, some (0, 0), false⟩

def fetchBerth : Berth :=
  { Berth.none with st := .opened, gen := 1, log2 := 4, nextSeq := 2, flights := [fetchFlight], chain := [flashRec], firstCpn := 0 }

/-- A channel number whose correction counter would lie at FMM_PSLC. -/
def strayChan : Nat := (offFMM_PSLC - offDRC_CH_CNT) / 8

/-- Berth 5 is about to FETCH its record; the first home of the chart's control line is the stray channel. -/
def strayHome : State :=
  { State.reset with
    keep := { State.reset.keep with romDefaults := false, entries := [] }
    seq := { State.reset.seq with on := 0xFFFFFF, pg := 0xFFFFFF }
    regs := [(offFMM_GEOM0, 96 * 2 ^ 56), (offFMM_PSLC, 0xFF00000000)]
    ports := [(0, { Port.idle with st := .up, linkUp := true, bme := true })]
    berths := [(5, fetchBerth)]
    fmm := { State.reset.fmm with chans := [(0, 1)], pages := [(0, { Cpt.free with st := 3, firstSeq := 1, count := 1 })] }
    drc := { State.reset.drc with
      chans := [(0, ⟨2, 0⟩), (1, ⟨2, 0⟩), (2, ⟨2, 0⟩), (3, ⟨2, 0⟩), (4, ⟨2, 0⟩), (5, ⟨2, 0⟩), (strayChan, ⟨2, 0⟩)]
      homes := [([(Line.pages 0).no % 6, (Line.pages 0).no % 6 + 6], [[strayChan, (Line.pages 0).no % 6]])] } }

/-- The stray copy is spoilt: its repair is counted in FMM_PSLC. -/
def strayCount : State :=
  { strayHome with drc := { strayHome.drc with flips := [(copyKey (.pages 0) strayChan, lineBytes strayHome (.pages 0), [])] } }

/-- What a step has sent in all. -/
def sentBy : Res → List Out
  | .next t => t.out
  | _ => []

/-- The step leaves a keeper that hears nothing. -/
def leavesDeaf : Res → Bool
  | .next t => !t.keep.romDefaults && t.keep.entries.isEmpty
  | _ => false

/-- The FETCH's flash read carries the feature value 1, which the count of the repair has left in FMM_PSLC. -/
theorem sentBy_fetch : sentBy (exec (.fetch 5 waitingDesc) strayCount) = [.flash (0, 0, 1) (.read none) 0 0 0] := by decide +kernel

theorem leavesDeaf_fetch : leavesDeaf (exec (.fetch 5 waitingDesc) strayCount) = true := by decide +kernel

/-- Refutes O11: the last clause takes the flash reads from the state before the FETCH, but the FETCH reads control lines first, and
where a home of such a line names a stray channel, the repair of its copy is counted in FMM_PSLC, whose feature value the reads carry. -/
theorem not_fetchAnswers : ¬ Obligations.FetchAnswers := by
  intro h
  have hawaits : Awaits (5 : BerthId).toNat fetchFlight strayCount := ⟨rfl, rfl, by decide +kernel⟩
  obtain ⟨-, -, -, -, -, hflash⟩ := h 5 waitingDesc fetchFlight strayCount rfl hawaits (by decide +kernel) (by decide +kernel) (by decide +kernel)
    (by decide +kernel) (by decide +kernel)
  obtain ⟨u, hexec, hout, -⟩ := hflash flashRec 0 0 (by decide +kernel) rfl rfl (by decide +kernel) (by decide +kernel)
  have hdeaf : Deaf (settle u) := by
    have hleft := leavesDeaf_fetch
    rw [hexec] at hleft
    simpa [leavesDeaf, Deaf] using hleft
  have hsent : u.out = [.flash (0, 0, 1) (.read none) 0 0 0] := by
    have hsum := sentBy_fetch
    rw [hexec] at hsum
    exact (out_of_settle_deaf hdeaf).symm.trans hsum
  rw [hout] at hsent
  exact absurd hsent (by decide +kernel)

end Sys2Proof.Proofs.FetchReads
